-- ==== Sys2Proof/Word.lean ====
section
/-! DEFINITION. The words of the SHL-8064: bytes and the register widths the spec uses (00_scope R8, R14, R15),
and the identifiers of the units the device has a fixed number of. -/
namespace Sys2Proof

/-- One byte. -/
abbrev Byte := BitVec 8
/-- A run of bytes, lowest address first. -/
abbrev Bytes := List Byte
/-- A 16-bit code: a mailbox opcode or an event code (R14, R15). -/
abbrev Word16 := BitVec 16
/-- A 32-bit register (R290: registers are 32 bits wide). -/
abbrev Word32 := BitVec 32
/-- A 64-bit field. -/
abbrev Word64 := BitVec 64
/-- An SM3 digest, 32 bytes (R237). -/
abbrev Digest := BitVec 256
/-- An SM2 public key, x then y. -/
abbrev PubKey := BitVec 512
/-- An SM2 signature, r then s. -/
abbrev Signature := BitVec 512

/-- A carrier slot, 0 to 15. -/
abbrev Carrier := Fin 16
/-- A media channel, 0 to 63 (R19). -/
abbrev Channel := Fin 64
/-- A LUN of a channel, 0 to 127 (R46). -/
abbrev Lun := Fin 128
/-- A PCI function: 0 the PF, 1 to 127 the VFs (R286). -/
abbrev Func := Fin 128
/-- A DDR5 channel, 0 to 7. -/
abbrev DramChannel := Fin 8
/-- A cooling motor, 0 to 3. -/
abbrev Motor := Fin 4
/-- A control-engine loop slot, 0 to 15. -/
abbrev LoopSlot := Fin 16
/-- A trace buffer, 0 to 3. -/
abbrev TraceBuf := Fin 4
/-- A boot step, 1 to 16, held as 0 to 15 (R380). -/
abbrev BootStep := Fin 16

end Sys2Proof
end

