-- ==== Sys2Proof/Syntax/Operands.lean ====
section
/-! DEFINITION. The data that commands carry: descriptors, submission entries, cells, and what the environment of the
block (dies, sensors, host memory, ring peers) answers. State uses the same types. -/
namespace Sys2Proof

/-! ### Media (02_carriers_and_media_channels) -/

/-- The outcome of one of the sixteen data codewords of a multi-plane page, as stored (R212): the block's data and
metadata, its tag, and its BLOCK_CRC. -/
structure Codeword where
  data : Bytes := []
  md : Bytes := []
  nsid : Nat := 0
  lba : Nat := 0
  msn : Nat := 0
  blockCrc : Word32 := 0
  /-- The media key the block is encrypted under, none where it is not; `data` and `md` are the plaintext (R222). -/
  enc : Option (BitVec 256) := none
  deriving DecidableEq, Repr

/-- What a multi-plane page holds: data codewords, or bytes written with RAW or by the controller itself. -/
inductive PageContent where
  | codewords (l : List Codeword)
  | raw (b : Bytes)
  deriving DecidableEq, Repr

/-- A media descriptor (R66): its fields and whether every reserved field is zero. -/
structure MediaDesc where
  opcode : Nat := 0
  irq : Bool := false
  fence : Bool := false
  decode : Bool := false
  autoRetry : Bool := false
  shift : Bool := false
  raw : Bool := false
  first : Bool := false
  pslc : Bool := false
  tag : Word16 := 0
  volume : Nat := 0
  lun : Nat := 0
  planeMask : Nat := 0
  retryEntry : Nat := 0
  block : Nat := 0
  page : Nat := 0
  buffer : Nat := 0
  length : Nat := 0
  featureAddr : Nat := 0
  featureData : Bytes := []
  sweepStart : Int := 0
  sweepStep : Nat := 1
  sweepCount : Nat := 1
  sweepLevel : Nat := 0
  reservedZero : Bool := true
  deriving DecidableEq, Repr

/-- A Config Store descriptor (R87): the media descriptor's layout with BLOCK as the byte address, and
whether every field that must be zero is zero. BUFFER, a management SRAM address, is an operand of CS_READ; what it holds is one of
CS_PROGRAM. -/
structure CsDesc where
  addr : Nat := 0
  len : Nat := 0
  tag : Word16 := 0
  zeroFields : Bool := true
  deriving DecidableEq, Repr

/-- What a motor's converter captured in a PWM period (R465): the 12-bit conversions of its three shunts and of its three phase voltages, phase A
first. -/
structure ConverterSample where
  isense : Vector (BitVec 12) 3 := Vector.replicate 3 2048
  vsense : Vector (BitVec 12) 3 := Vector.replicate 3 0
  deriving DecidableEq, Repr

/-- How one try of a read decodes: not at all, by hard decision, or by soft decision (R73). -/
inductive DecodeTry where
  | none | hard | soft
  deriving DecidableEq, Repr

/-- What the die, the codec and the bus answer when a started operation ends (R69, R70, R73, R83, R88). -/
structure DieOutcome where
  /-- The die's own report: program, erase or recharge verify passed. -/
  ok : Bool := true
  /-- The final ONFI status byte. -/
  dieStatus : Nat := 0
  /-- The latest die temperature. -/
  temperature : Int := 0
  /-- For a read: how a try at each read-retry entry decodes, entry 0 first. -/
  tries : List DecodeTry := []
  /-- Largest count of corrected bits in any codeword. -/
  corrected : Nat := 0
  /-- Pulses used, the first included. -/
  pulses : Nat := 0
  /-- Microseconds from start to completion. -/
  elapsed : Nat := 0
  /-- Bytes sensed, fail-bit counts of a sweep (four bytes each) or feature bytes. -/
  bytes : Bytes := []
  /-- An uncorrectable word in the source buffer (R71). -/
  bufferEcc : Bool := false
  deriving DecidableEq, Repr

/-- A die whose operation ends: a LUN of a channel, or the Config Store die (R90). -/
inductive DieTarget where
  | lun (ch : Channel) (l : Lun)
  | configStore
  deriving DecidableEq, Repr

/-! ### NVMe (09_command_queues) -/

/-- A submission queue entry as fetched (R316, R327): opcode, FUSE, command identifier, namespace, metadata pointer
and command dwords 10 to 15. The data pointer is what the Host Port follows; the data it leads to is an operand of the
command that runs the entry. -/
structure Sqe where
  opc : Nat := 0
  fuse : Nat := 0
  cid : Nat := 0
  nsid : Nat := 0
  cdw2 : Nat := 0
  cdw3 : Nat := 0
  mptr : Nat := 0
  /-- The data pointer's PRP entries, the first being the base of a queue that is created, and whether the entries of a PRP list lie on page
  boundaries (R325). -/
  prp1 : Nat := 0
  prp2 : Nat := 0
  prpListOk : Bool := true
  /-- Whether PSDT selects an SGL, and the bytes its descriptors total (R325). -/
  sgl : Bool := false
  sglBytes : Nat := 0
  cdw10 : Nat := 0
  cdw11 : Nat := 0
  cdw12 : Nat := 0
  cdw13 : Nat := 0
  cdw14 : Nat := 0
  cdw15 : Nat := 0
  deriving DecidableEq, Repr

/-- A fetched command, named by its function, submission queue and command identifier. -/
structure CmdRef where
  fn : Func := 0
  sq : Nat := 0
  cid : Nat := 0
  deriving DecidableEq, Repr

/-- The data and formatted metadata of one logical block. -/
structure BlockData where
  data : Bytes := []
  md : Bytes := []
  deriving DecidableEq, Repr

/-- How the environment answers the read of one block: the first step of R26 that yields correct data (1 to 7, 7 for
none), and what a Halo peer sent at step 6. -/
structure BlockRead where
  step : Nat := 1
  /-- The largest count of corrected bits in any of its codewords (R112). -/
  corrected : Nat := 0
  peer : BlockData := {}
  /-- The partner's copies of the other referenced blocks that the stripe has lost (R199). -/
  others : List BlockData := []
  /-- The read stays on this node: step 6 does not serve a repair (R273). -/
  here : Bool := false
  /-- Where the block decodes, passes the block check, and still holds other content than was written: by step, what it holds (R220, R243). -/
  altered : List (Nat × BlockData) := []
  deriving DecidableEq, Repr

/-- One range of a Dataset Management command. -/
structure DsmRange where
  slba : Nat := 0
  len : Nat := 0
  deriving DecidableEq, Repr

/-! ### The Halo ring (07_halo_ring) -/

/-- A Halo port: East or West (R248). -/
inductive Port where
  | east | west
  deriving DecidableEq, Repr

/-- A message header (R264). -/
structure HaloHeader where
  opcode : Nat := 0
  response : Bool := false
  retry : Bool := false
  secure : Bool := false
  status : Nat := 0
  xid : Nat := 0
  session : Nat := 0
  bodyLen : Nat := 0
  seqno : Nat := 0
  nsid : Nat := 0
  kind : Nat := 0
  lbaf : Nat := 0
  count : Nat := 0
  lba : Nat := 0
  serial : Bytes := []
  deriving DecidableEq, Repr

/-- A message: header, body, lane, ends, and whether BODY_CRC matches the body (R264). -/
structure HaloMessage where
  header : HaloHeader := {}
  src : Nat := 0
  dst : Nat := 0
  vl : Fin 4 := 0
  body : Bytes := []
  crcOk : Bool := true
  deriving DecidableEq, Repr

/-- A DATA cell as it arrives or leaves (R252). -/
structure DataCell where
  vl : Fin 4 := 0
  som : Bool := true
  eom : Bool := true
  dst : Nat := 0
  src : Nat := 0
  seq : BitVec 16 := 0
  hops : Nat := 0
  payload : Bytes := []
  /-- Whether the cell's CRC is good. -/
  crcOk : Bool := true
  deriving DecidableEq, Repr

/-- A CTRL cell's payload (R252). -/
structure CtrlCell where
  ackSeq : BitVec 16 := 0
  nak : Bool := false
  sleeping : Bool := false
  credit : Vector (BitVec 16) 4 := Vector.replicate 4 0
  deriving DecidableEq, Repr

/-- An INIT cell's payload (R252). -/
structure InitCell where
  ringId : Nat := 0
  nodeId : Nat := 0
  /-- The sender's port: false East, true West. -/
  port : Bool := false
  protocol : Nat := 1
  serial : Bytes := []
  credits : Vector Nat 4 := #v[256, 1024, 5632, 1024]
  deriving DecidableEq, Repr

/-- A token entry (R261). -/
structure TokenEntry where
  nodeId : Nat := 0
  state : Nat := 1
  ports : Nat := 0
  sessions : Nat := 0
  serial : Bytes := []
  protocol : Nat := 1
  deriving DecidableEq, Repr

/-- A token (R260, R265). -/
structure Token where
  epoch : Nat := 0
  originator : Nat := 0
  turns : Nat := 0
  final : Bool := false
  entries : List TokenEntry := []
  deriving DecidableEq, Repr

/-- A session descriptor (R268). -/
structure SessionDesc where
  session : Nat := 0
  type : Nat := 1
  role : Nat := 0
  mode : Nat := 0
  state : Nat := 0
  localNsid : Nat := 0
  peerNsid : Nat := 0
  nsze : Nat := 0
  appliedSeqno : Nat := 0
  lbaf : Nat := 0
  piType : Nat := 0
  deriving DecidableEq, Repr

/-- A namespace entry of MIGRATE_BEGIN (R276). -/
structure MigrateNs where
  nsid : Nat := 0
  nsze : Nat := 0
  lbaf : Nat := 0
  piType : Nat := 0
  streamPolicy : Nat := 0
  deriving DecidableEq, Repr

/-! ### What other events carry -/

/-- Parameters of a Namespace Management create (R333). -/
structure NsParams where
  nsze : Nat := 0
  ncap : Nat := 0
  flbas : Nat := 0
  dps : Nat := 0
  nmic : Nat := 1
  deriving DecidableEq, Repr

/-- The address spaces a register write reaches (R289, R358, R286). -/
inductive RegSpace where
  | config | bar0 | bar2
  deriving DecidableEq, Repr

/-- What a timed-out read request fetched (R304). -/
inductive FetchWhat where
  | data (sq cid : Nat)
  | entry (sq : Nat)
  | mailbox (m : Fin 16)
  deriving DecidableEq, Repr

/-- What a poisoned TLP carried (R306). -/
inductive PoisonWhat where
  | data (sq cid : Nat)
  | mailbox (m : Fin 16)
  | barWrite
  deriving DecidableEq, Repr

/-- The windows of 64 fail-bit counts swept from one page of a Polestar copy (R105): up to eight, each with the side
it moved to decided by the controller. -/
structure PageSweep where
  copy : Fin 32 := 0
  page : Nat := 0
  windows : List (List Nat) := []
  deriving DecidableEq, Repr

/-- One page of a Recharge pass: its pre-read, 0 where it fails, and the status of its RECHARGE (R117, R118). -/
structure PassPage where
  decodeStep : Nat := 1
  corrected : Nat := 0
  status : Nat := 0
  deriving DecidableEq, Repr

/-- One block of a Recharge pass: its key and what its pages answer, from the first one still to be done (R117, R118). -/
structure PassBlock where
  key : Nat := 0
  pages : List PassPage := []
  deriving DecidableEq, Repr

/-- What resynchronisation finds of one stripe (R189). -/
structure ResyncFinding where
  stripe : Nat := 0
  /-- Slots whose unit does not decode. -/
  bad : List Nat := []
  parityOk : Bool := true
  /-- Reconstruction of the bad units succeeds and passes R190. -/
  recovered : Bool := true
  /-- The units that decode: slot, decode step and corrected bits (R112). -/
  reads : List (Nat × Nat × Nat) := []
  deriving DecidableEq, Repr

/-- A DIMM as SPD gives it, and whether the channel trains (R398, R399). -/
structure Dimm where
  present : Bool := false
  gib : Nat := 0
  /-- Organisation, one number for each. -/
  org : Nat := 0
  /-- Fastest rate: 0 6400, 1 5600, 2 4800, 3 slower. -/
  rated : Nat := 0
  trains : Bool := false
  deriving DecidableEq, Repr

/-- A hold-up measurement: HOLDUP_SENSE averaged at its beginning and as it is reached, in µV within 0 V to 1.8 V, and the time taken in µs
(R444, R532). -/
structure HoldupSample where
  v0 : Nat := 0
  vEnd : Nat := 0
  us : Nat := 0
  reached : Bool := false
  pwrfail : Bool := false
  deriving DecidableEq, Repr

/-- What a replan measures (R442, R443): 64 frequencies in kHz at the level in force, and eye margins in percent. -/
structure ReplanSample where
  freq : List Nat := []
  ddr : List Nat := []
  media : List Nat := []
  pcie : Nat := 0
  haloE : Nat := 0
  haloW : Nat := 0
  /-- Training seeds change. -/
  seeds : Bool := false
  deriving DecidableEq, Repr

/-- What ends a boot step: whether it did all its work, whether it ended degraded, and what the environment gave the step (R381). -/
structure StepResult where
  ok : Bool := true
  degraded : Bool := false
  /-- The end mark's program fails its verify (R388). -/
  markFails : Bool := false
  /-- The begin mark of the step that follows fails its verify (R388). -/
  nextMarkFails : Bool := false
  /-- Step 5: whether the image that each slot holds reads back and passes its checks (R381, R501). -/
  slots : List Bool := [true, true]
  /-- Step 6: the Calibration Set reads and passes its check; the settings do (R396). -/
  calOk : Bool := true
  settingsOk : Bool := true
  /-- Step 7: the DIMMs by channel. -/
  dimms : List Dimm := []
  /-- Step 9: the measurement. -/
  holdup : HoldupSample := {}
  /-- Step 12: the primary checkpoint is readable; the journal records before the first page unreadable in both copies (none: all);
  the emergency slots unreadable and not reconstructed; the open-band summary is readable (R169 to R171, R396). -/
  primaryOk : Bool := true
  journalReadable : Option Nat := none
  lostSlots : List Nat := []
  summaryOk : Bool := true
  /-- Step 12: copies of the last map journal page that do not read, 0 to 2 (R187). -/
  lastPageLost : Nat := 0
  /-- Step 13: namespaces whose key does not verify in the first and in the second copy (R225). -/
  badKeys : List (Nat × Bool × Bool) := []
  /-- Step 14: the loopback tests pass. -/
  loopbackOk : Bool := true
  /-- Step 15: what a replan measures. -/
  replan : ReplanSample := {}
  deriving DecidableEq, Repr

/-- Where a Buffer-class error lies (R413). -/
inductive BufferLoc where
  | readBuffer (addr : Nat)
  | line (nsid lba : Nat) (copy : Fin 2) (both : Bool) (rewriteFails : Bool)
  | relocation (addr : Nat)
  | gathering (addr : Nat)
  deriving DecidableEq, Repr

/-- An uncorrectable or corrected location that a DRAM patrol read meets (R403, R406). -/
structure PatrolHit where
  ch : DramChannel := 0
  addr : Nat := 0
  uncorrectable : Bool := false
  /-- In a free buffer (R406). -/
  freeBuffer : Bool := false
  deriving DecidableEq, Repr

/-- What an uncorrectable management SRAM data byte holds (R422). -/
inductive MsramUse where
  | configCopy
  | stagedRecord (index : Nat)
  | other
  deriving DecidableEq, Repr

/-- The users of an internal DMA (R420). -/
inductive DmaUser where
  | host (fn : Func) (sq cid : Nat)
  | media (ch : Channel) (q : Fin 4)
  | engine (second : Bool)
  | halo (p : Port)
  | fabric (n : Nat)
  deriving DecidableEq, Repr

/-- The sleep states a controller may be told to enter (R431). -/
inductive SleepTarget where
  | dusk | night | eclipse
  deriving DecidableEq, Repr

/-- The wake sources of R434. -/
inductive WakeSource where
  | doorbell | mailbox | perst | pwrfail | overTemp | cdFault | timer | haloE | haloW
  | carrier (c : Carrier) (present : Bool)
  deriving DecidableEq, Repr

/-- A block that fails its restore at a sleep exit (R433). -/
inductive RestoreFail where
  | dram (ch : DramChannel)
  | carrier (c : Carrier)
  deriving DecidableEq, Repr

/-- What a peer's seal transfer carries (R275): record, custody records, whether each chain verifies to the root
certificate, and the public keys the chains certify. -/
structure SealXfer where
  record : Bytes := []
  custody : List Bytes := []
  chainsOk : Bool := true
  keys : List PubKey := []
  deriving DecidableEq, Repr

end Sys2Proof
end

