-- ==== Sys2Proof/Syntax.lean ====
section
/-! DEFINITION. The commands the block takes: one constructor for each row of the opcode table, with the rule its
row names. -/
namespace Sys2Proof

/-- A command from outside the block (a register write, a bus or ring event, a pin, a sensor, a timer, the end of a
media operation), in the order of the opcode table. -/
inductive Instr where
  /-- `SQ_TAIL_DOORBELL` (R319). A host write to a submission queue tail doorbell makes new entries available for fetch. -/
  | sqTailDoorbell (fn : Func) (q value : Nat)
  /-- `CQ_HEAD_DOORBELL` (R319). A host write to a completion queue head doorbell frees completion entries. -/
  | cqHeadDoorbell (fn : Func) (q value : Nat)
  /-- `COMMAND_FETCH` (R343). The Queue Engine, arbitrating round robin, fetches a submission entry from a queue that holds unfetched entries. -/
  | commandFetch (fn : Func) (q : Nat) (sqe : Sqe)
  /-- `WRITE` (R24). An NVMe Write reads host data, checks protection information and offers the write for admission to the mirrored write cache. -/
  | write (c : CmdRef) (blocks : List BlockData)
  /-- `WRITE_ADMISSION` (R332). The write at the head of the admission line enters both cache copies once the dirty limit leaves room, and it takes effect. -/
  | writeAdmission
  /-- `THERMAL_HOLD_LIMIT_EXPIRY` (R332). A write that waited THERMAL_HOLD_LIMIT completes with Thermal Hold if a closed program window holds destaging. -/
  | thermalHoldLimitExpiry (c : CmdRef)
  /-- `READ` (R25). An NVMe Read takes each block from the cache or the media through the recovery escalation and writes it to host memory. -/
  | read (c : CmdRef) (media : List BlockRead)
  /-- `FLUSH` (R321). Flush completes once every earlier command of its queue has completed, forcing no destage. -/
  | flush (c : CmdRef)
  /-- `WRITE_ZEROES` (R160). Write Zeroes sets its blocks to ZERO, or deallocates them with DEAC, and journals the change. -/
  | writeZeroes (c : CmdRef)
  /-- `DATASET_MANAGEMENT` (R160). Dataset Management with Deallocate deallocates its ranges and lowers band VALID counts. -/
  | datasetManagement (c : CmdRef) (ranges : List DsmRange)
  /-- `VERIFY` (R219). Verify reads and checks the range without transferring data. -/
  | verify (c : CmdRef) (media : List BlockRead)
  /-- `SEAL` (R230). Seal reads and hashes a range, signs a Seal Record, journals SEALED and returns the record. -/
  | sealCmd (c : CmdRef) (media : List BlockRead)
  /-- `SECURE_DEALLOCATE` (R162). Secure Deallocate marks bands, deallocates the range, relocates other data and erases every marked band. -/
  | secureDeallocate (c : CmdRef) (unerased : List Nat)
  /-- `AUDIT_RANGE` (R242). Audit Range recomputes span nodes and the root of a sealed range, repairs mismatches and optionally requests Recharge. -/
  | auditRange (c : CmdRef) (media : List BlockRead) (repair : List (Nat × List BlockData))
  /-- `COMPLETION_POST` (R319). A command's completion is posted once every earlier command of its queue has completed. -/
  | completionPost (c : CmdRef)
  /-- `CREATE_IO_SUBMISSION_QUEUE` (R316). Creates an I/O submission queue. -/
  | createIoSubmissionQueue (c : CmdRef)
  /-- `DELETE_IO_SUBMISSION_QUEUE` (R316). Deletes an I/O submission queue. -/
  | deleteIoSubmissionQueue (c : CmdRef)
  /-- `CREATE_IO_COMPLETION_QUEUE` (R316). Creates an I/O completion queue. -/
  | createIoCompletionQueue (c : CmdRef)
  /-- `DELETE_IO_COMPLETION_QUEUE` (R316). Deletes an I/O completion queue. -/
  | deleteIoCompletionQueue (c : CmdRef)
  /-- `GET_LOG_PAGE` (R317). Returns one of the supported log pages. -/
  | getLogPage (c : CmdRef)
  /-- `IDENTIFY_COMMAND` (R318). The NVMe Identify command returns controller, namespace or list data for the supported CNS values. -/
  | identifyCommand (c : CmdRef)
  /-- `ABORT` (R322). Abort stops a target command that has not taken effect, or reports that it was not aborted. -/
  | abort (c : CmdRef)
  /-- `SET_FEATURES_ARBITRATION` (R317). Sets the Arbitration feature, round robin only. -/
  | setFeaturesArbitration (c : CmdRef)
  /-- `SET_FEATURES_POWER_MANAGEMENT` (R337). Selects a power state; a non-operational state is entered once the device is idle. -/
  | setFeaturesPowerManagement (c : CmdRef)
  /-- `SET_FEATURES_TEMPERATURE_THRESHOLD` (R339). Sets over- and under-temperature thresholds for the composite and sensors 1 to 3. -/
  | setFeaturesTemperatureThreshold (c : CmdRef)
  /-- `SET_FEATURES_NUMBER_OF_QUEUES` (R324). Requests queues and is granted up to the function's maximum. -/
  | setFeaturesNumberOfQueues (c : CmdRef)
  /-- `SET_FEATURES_INTERRUPT_COALESCING` (R317). Sets the Interrupt Coalescing feature. -/
  | setFeaturesInterruptCoalescing (c : CmdRef)
  /-- `SET_FEATURES_INTERRUPT_VECTOR_CONFIG` (R317). Sets the Interrupt Vector Configuration feature. -/
  | setFeaturesInterruptVectorConfig (c : CmdRef)
  /-- `SET_FEATURES_ASYNC_EVENT_CONFIG` (R317). Sets the Asynchronous Event Configuration feature. -/
  | setFeaturesAsyncEventConfig (c : CmdRef)
  /-- `SET_FEATURES_APST` (R338). Configures the Autonomous Power State Transition table and enable. -/
  | setFeaturesApst (c : CmdRef) (table : List (Nat × Nat))
  /-- `SET_FEATURES_TIMESTAMP` (R43). Sets the calendar from the NVMe Timestamp feature, writing a Notice record on a change of more than 1 s. -/
  | setFeaturesTimestamp (c : CmdRef) (value : BitVec 48)
  /-- `SET_FEATURES_HCTM` (R339). Sets TMT1 and TMT2 of Host Controlled Thermal Management. -/
  | setFeaturesHctm (c : CmdRef)
  /-- `GET_FEATURES` (R317). Returns the current value of a supported feature. -/
  | getFeatures (c : CmdRef)
  /-- `ASYNCHRONOUS_EVENT_REQUEST` (R316). Posts a request that completes when an asynchronous event occurs. -/
  | asynchronousEventRequest (c : CmdRef)
  /-- `NAMESPACE_CREATE` (R333). Namespace Management create allocates whole map segments and a media key if encryption is on. -/
  | namespaceCreate (c : CmdRef) (p : NsParams)
  /-- `NAMESPACE_DELETE` (R333). Namespace Management delete deallocates the namespace, destroys its key and frees its segments. -/
  | namespaceDelete (c : CmdRef)
  /-- `NAMESPACE_ATTACH` (R333). Namespace Attachment attaches a namespace to a controller and posts Namespace Attribute Changed. -/
  | namespaceAttach (c : CmdRef) (ctrls : List Nat)
  /-- `NAMESPACE_DETACH` (R333). Namespace Attachment detaches a namespace from a controller and posts Namespace Attribute Changed. -/
  | namespaceDetach (c : CmdRef) (ctrls : List Nat)
  /-- `FORMAT_NVM` (R238). Format NVM changes a namespace's LBA format and deallocates every block, unless the namespace is sealed. -/
  | formatNvm (c : CmdRef)
  /-- `FIRMWARE_IMAGE_DOWNLOAD` (R505). Stages a block of a firmware delta package in Buffer-class staging. -/
  | firmwareImageDownload (c : CmdRef) (data : Bytes)
  /-- `FIRMWARE_COMMIT_ACTION_0` (R506). Writes the staged package into the inactive slot. -/
  | firmwareCommitAction0 (c : CmdRef) (storeOk : Bool)
  /-- `FIRMWARE_COMMIT_ACTION_1` (R506). Writes the staged package into the inactive slot and names it for the next start. -/
  | firmwareCommitAction1 (c : CmdRef) (storeOk : Bool)
  /-- `FIRMWARE_COMMIT_ACTION_2` (R506). Names a committed slot for the next start, or cancels a pending change. -/
  | firmwareCommitAction2 (c : CmdRef)
  /-- `FIRMWARE_COMMIT_ACTION_3` (R506). Writes the inactive slot and then activates it by hot handover. -/
  | firmwareCommitAction3 (c : CmdRef) (storeOk : Bool)
  /-- `DEVICE_SELF_TEST_SHORT` (R341). Starts the short self-test of segments 1 to 7. -/
  | deviceSelfTestShort (c : CmdRef)
  /-- `DEVICE_SELF_TEST_EXTENDED` (R341). Starts the extended self-test of segments 1 to 9. -/
  | deviceSelfTestExtended (c : CmdRef)
  /-- `DEVICE_SELF_TEST_ABORT` (R342). Device Self-test with code Fh aborts the running test. -/
  | deviceSelfTestAbort (c : CmdRef)
  /-- `SELF_TEST_RESUME` (R342). A yielding self-test resumes when the device has been idle for 10 ms. -/
  | selfTestResume (segments : List Bool)
  /-- `VIRTUALIZATION_MANAGEMENT_ONLINE` (R349). Secondary Controller Online brings an OFFLINE VF to ONLINE. -/
  | virtualizationManagementOnline (c : CmdRef)
  /-- `VIRTUALIZATION_MANAGEMENT_OFFLINE` (R351). Secondary Controller Offline takes a VF OFFLINE with the quiesced or unquiesced outcome. -/
  | virtualizationManagementOffline (c : CmdRef)
  /-- `SECURITY_SEND` (R312). Carries a security protocol or SPDM request to the responder. -/
  | securitySend (c : CmdRef) (data : Bytes)
  /-- `SECURITY_RECEIVE` (R312). Returns a security protocol or SPDM response. -/
  | securityReceive (c : CmdRef)
  /-- `SANITIZE_BLOCK_ERASE` (R334). Sanitize by block erase, under a grant, erases every in-service block, clears seals and the array record. -/
  | sanitizeBlockErase (c : CmdRef) (unerased : List Nat)
  /-- `SANITIZE_CRYPTO_ERASE` (R334). Sanitize by crypto erase, under a grant, destroys and redraws every media key and clears seals and the array record. -/
  | sanitizeCryptoErase (c : CmdRef)
  /-- `CC_EN_SET` (R385). Setting CC.EN makes CSTS.RDY 1 at the later of the write and the end of boot step 13. -/
  | ccEnSet (fn : Func)
  /-- `CC_EN_CLEAR` (R320). Clearing CC.EN resets the controller and drops the function's provisional lines. -/
  | ccEnClear (fn : Func)
  /-- `SHUTDOWN_NOTIFICATION` (R172). A shutdown notification stops intake, destages the cache, makes the tail buffer durable and records a clean stop. -/
  | shutdownNotification (fn : Func)
  /-- `CLEAN_STOP_DESTAGE_TIMEOUT` (R172). Lines not destaged within 5 s of a shutdown go to the emergency band with CAUSE 3. -/
  | cleanStopDestageTimeout
  /-- `APST_IDLE_TIMER` (R338). An idle period longer than an APST entry's ITPT moves the device to that entry's state. -/
  | apstIdleTimer (idleMs : Nat)
  /-- `REGISTER_WRITE` (R11). A write to a register or configuration field without behaviour of its own updates it by its access type. -/
  | registerWrite (fn : Func) (space : RegSpace) (off : Nat) (value : Word32)
  /-- `FUNCTION_LEVEL_RESET` (R308). Initiate Function Level Reset stops new requests and fetches of the function and begins the reset. -/
  | functionLevelReset (fn : Func)
  /-- `FLR_WAIT_END` (R308). After outstanding requests complete or the wait ends, stragglers are discarded and the function's state is reset. -/
  | flrWaitEnd (fn : Func) (stragglers : Nat)
  /-- `PERST_ASSERT` (R309). PERST# assertion resets the Host Port, queue state and mailboxes of every function, or enters D3cold. -/
  | perstAssert
  /-- `PERST_DEASSERT` (R309). PERST# deassertion starts link training and ends a D3cold sleep. -/
  | perstDeassert
  /-- `BUS_MASTER_ENABLE_CLEAR` (R307). Clearing Bus Master Enable with requests outstanding terminates commands and puts the controller in the fatal state. -/
  | busMasterEnableClear (fn : Func)
  /-- `D3HOT_ENTRY` (R301). A function entering D3hot stops requests; the PF's entry sends the controller to D3HOT_SLEEP. -/
  | d3hotEntry (fn : Func)
  /-- `D3HOT_EXIT` (R301). A return from D3hot to D0 keeps controller state, queues and mailboxes. -/
  | d3hotExit (fn : Func)
  /-- `COMPLETION_TIMEOUT` (R304). A device read request times out and fails the command, retries a fetch or fails the mailbox. -/
  | completionTimeout (fn : Func) (what : FetchWhat)
  /-- `UNEXPECTED_COMPLETION` (R305). A completion for a timed-out request is dropped and reported. -/
  | unexpectedCompletion (fn : Func)
  /-- `POISONED_TLP_RECEIVED` (R306). A poisoned completion fails its command, or a poisoned BAR write is discarded. -/
  | poisonedTlpReceived (fn : Func) (what : PoisonWhat)
  /-- `ECRC_ERROR` (R311). A request with an ECRC error is discarded. -/
  | ecrcError (fn : Func)
  /-- `FATAL_LINK_ERROR` (R311). A fatal protocol error retrains the link and resets functions as on PERST#. -/
  | fatalLinkError
  /-- `LINK_TRAINING_COMPLETE` (R297). The PCIe link completes training at a rate and width, writing a Notice record below 64 GT/s x16. -/
  | linkTrainingComplete (rate width : Nat)
  /-- `ASPM_L1_ENTRY` (R298). After 10 µs of idle link with ASPM L1 enabled, the device requests L1. -/
  | aspmL1Entry
  /-- `LTR_UPDATE` (R298). After 1 ms with no outstanding command or unfetched entry the reported latency tolerance rises to 3 ms. -/
  | ltrUpdate
  /-- `DOE_DISCOVERY` (R312). A DOE Discovery object reports the supported data object types. -/
  | doeDiscovery (index : Nat)
  /-- `DOE_ABORT` (R312). A DOE Abort ends the mailbox exchange within 10 ms. -/
  | doeAbort
  /-- `SPDM_GET_VERSION` (R313). The SPDM responder answers with versions 1.0 to 1.2. -/
  | spdmGetVersion (t : Fin 2)
  /-- `SPDM_GET_CAPABILITIES` (R313). The SPDM responder reports its capability flags. -/
  | spdmGetCapabilities (t : Fin 2)
  /-- `SPDM_NEGOTIATE_ALGORITHMS` (R313). The SPDM responder negotiates SM2 and SM3. -/
  | spdmNegotiateAlgorithms (t : Fin 2) (asym hash : Nat)
  /-- `SPDM_GET_DIGESTS` (R314). The SPDM responder returns the digest of certificate slot 0. -/
  | spdmGetDigests (t : Fin 2)
  /-- `SPDM_GET_CERTIFICATE` (R314). The SPDM responder returns the attestation chain of slot 0. -/
  | spdmGetCertificate (t : Fin 2) (slot off len : Nat)
  /-- `SPDM_CHALLENGE` (R313). The SPDM responder signs a challenge with the attestation key. -/
  | spdmChallenge (t : Fin 2) (slot : Nat) (nonce : Bytes)
  /-- `SPDM_GET_MEASUREMENTS` (R315). The SPDM responder returns the measurement blocks. -/
  | spdmGetMeasurements (t : Fin 2) (index : Nat) (nonce : Bytes)
  /-- `VF_ENABLE` (R349). Setting VF Enable with NumVFs creates VFs in OFFLINE with their stored configuration. -/
  | vfEnable (n : Nat)
  /-- `VF_DISABLE` (R351). Clearing VF Enable or lowering NumVFs removes VFs with the quiesced or unquiesced outcome. -/
  | vfDisable (n : Nat)
  /-- `MBX_GO` (R362). Writing GO issues a mailbox command, or sets OVERRUN while BUSY. -/
  | mbxGo (fn : Func) (m : Fin 16)
  /-- `MBX_HOST_PAYLOAD_ARRIVAL` (R369). The last byte of a host-memory mailbox payload arrives and the command begins. -/
  | mbxHostPayloadArrival (fn : Func) (m : Fin 16) (data : Bytes)
  /-- `IDENTIFY` (R373). Returns the 128-byte device identity. -/
  | identify (fn : Func) (m : Fin 16)
  /-- `CALENDAR_SET` (R43). Sets the calendar time by mailbox. -/
  | calendarSet (fn : Func) (m : Fin 16)
  /-- `CALENDAR_GET` (R371). Returns the calendar time. -/
  | calendarGet (fn : Func) (m : Fin 16)
  /-- `PORT_COUNTERS` (R371). Returns the Host Port error counters. -/
  | portCounters (fn : Func) (m : Fin 16)
  /-- `EXPORT_SETTINGS` (R372). Returns every setting as 40-byte entries. -/
  | exportSettings (fn : Func) (m : Fin 16)
  /-- `DEVICE_GET_SETTING` (R372). Returns a Device family setting with its bounds and default. -/
  | deviceGetSetting (fn : Func) (m : Fin 16)
  /-- `DEVICE_SET_SETTING` (R173). Changes a Translation or memory setting within its range. -/
  | deviceSetSetting (fn : Func) (m : Fin 16)
  /-- `CAL_EXPORT` (R450). Returns one 64 KiB part of the Calibration Set. -/
  | calExport (fn : Func) (m : Fin 16)
  /-- `CAL_DIGEST` (R450). Returns the SM3 digest of the Calibration Set. -/
  | calDigest (fn : Func) (m : Fin 16)
  /-- `CAL_OVERWRITE` (R450). Under Custodian authorisation overwrites a range of the Calibration Set sector by sector. -/
  | calOverwrite (fn : Func) (m : Fin 16) (storeOk : Bool)
  /-- `SUBSYSTEM_SET` (R287). Writes the subsystem identifiers once. -/
  | subsystemSet (fn : Func) (m : Fin 16)
  /-- `CARRIER_STATUS` (R373). Returns the sixteen carrier status entries. -/
  | carrierStatus (fn : Func) (m : Fin 16)
  /-- `CARRIER_DESCRIPTOR` (R371). Returns the Lomril descriptor copy in use for a carrier. -/
  | carrierDescriptor (fn : Func) (m : Fin 16)
  /-- `CARRIER_REMOVE` (R209). Requests removal of a carrier; if accepted, drains, isolates and unpowers it. -/
  | carrierRemove (fn : Func) (m : Fin 16)
  /-- `CARRIER_OUT` (R209). Takes a member out of service, substituting its slot for new bands. -/
  | carrierOut (fn : Func) (m : Fin 16)
  /-- `CARRIER_RETURN` (R59). Returns an out-of-service carrier to READY and offers it to Carrier Redundancy. -/
  | carrierReturn (fn : Func) (m : Fin 16)
  /-- `ARRAY_STATUS` (R210). Returns the Redundancy status header and slot entries. -/
  | arrayStatus (fn : Func) (m : Fin 16)
  /-- `LOST_STRIPES` (R210). Returns entries of the lost-stripe list from a cursor. -/
  | lostStripes (fn : Func) (m : Fin 16)
  /-- `HELD_RECOVER_READ_ONLY` (R202). Under Custodian authorisation builds the lost-stripe list and enters HELD_READ_ONLY. -/
  | heldRecoverReadOnly (fn : Func) (m : Fin 16) (findings : List (Nat × ResyncFinding))
  /-- `HELD_RECOVER_RESUME` (R203). Under Custodian authorisation resumes the array from Held and runs a full resynchronisation. -/
  | heldRecoverResume (fn : Func) (m : Fin 16)
  /-- `RETIRE` (R204). Starts evacuation of a retiring member. -/
  | retire (fn : Func) (m : Fin 16)
  /-- `COPYBACK` (R205). Starts copyback onto a replacement when AUTO_COPYBACK is 0. -/
  | copyback (fn : Func) (m : Fin 16)
  /-- `REDUNDANCY_GET_SETTING` (R372). Returns a Redundancy setting. -/
  | redundancyGetSetting (fn : Func) (m : Fin 16)
  /-- `REDUNDANCY_SET_SETTING` (R211). Changes a Redundancy setting within its range. -/
  | redundancySetSetting (fn : Func) (m : Fin 16)
  /-- `STARLIGHT_REPORT` (R129). Returns the 2,112-byte Starlight report. -/
  | starlightReport (fn : Func) (m : Fin 16)
  /-- `DARK_PREPARE` (R127). Queues bands to reach a dark-storage target, or stops a running preparation. -/
  | darkPrepare (fn : Func) (m : Fin 16)
  /-- `RETENTION_GET_SETTING` (R372). Returns a Retention setting. -/
  | retentionGetSetting (fn : Func) (m : Fin 16)
  /-- `RETENTION_SET_SETTING` (R128). Changes a Retention setting within its range. -/
  | retentionSetSetting (fn : Func) (m : Fin 16)
  /-- `SEAL_LIST` (R235). Returns seal table entries from a cursor. -/
  | sealList (fn : Func) (m : Fin 16)
  /-- `SEAL_RECORD` (R371). Returns a Seal Record and its custody records. -/
  | sealRecord (fn : Func) (m : Fin 16)
  /-- `SEAL_TREE` (R247). Returns stored tree levels of a seal from a cursor. -/
  | sealTree (fn : Func) (m : Fin 16)
  /-- `SEAL_IDENTITY` (R237). Returns the seal certificate chain. -/
  | sealIdentity (fn : Func) (m : Fin 16)
  /-- `UNSEAL` (R240). Under Custodian authorisation clears SEALED on a seal's spans and frees its stored levels. -/
  | unseal (fn : Func) (m : Fin 16)
  /-- `HALO_TOPOLOGY` (R261). Returns the installed token entries. -/
  | haloTopology (fn : Func) (m : Fin 16)
  /-- `SESSION_CREATE` (R268). Configures a mirror session on this node. -/
  | sessionCreate (fn : Func) (m : Fin 16)
  /-- `SESSION_REMOVE` (R270). Removes a session, freeing its bitmaps and promoting a secondary. -/
  | sessionRemove (fn : Func) (m : Fin 16)
  /-- `SESSION_LIST` (R268). Returns the session descriptors. -/
  | sessionList (fn : Func) (m : Fin 16)
  /-- `MIGRATE_START` (R276). Begins a whole-store migration by sending MIGRATE_BEGIN to the successor. -/
  | migrateStart (fn : Func) (m : Fin 16)
  /-- `MIGRATE_CANCEL` (R280). Cancels a migration, with FORCE from COMMITTING. -/
  | migrateCancel (fn : Func) (m : Fin 16)
  /-- `MIGRATE_STATUS` (R371). Returns the migration state and progress. -/
  | migrateStatus (fn : Func) (m : Fin 16)
  /-- `WAKE_NODE` (R283). Sends WAKE to a sleeping peer and completes when it is answered. -/
  | wakeNode (fn : Func) (m : Fin 16)
  /-- `HALO_GET_SETTING` (R372). Returns a Halo setting with its moving bounds. -/
  | haloGetSetting (fn : Func) (m : Fin 16)
  /-- `HALO_SET_SETTING` (R285). Changes a Halo setting; RING_ID or NODE_ID changes retrain ports and move the engagement pins. -/
  | haloSetSetting (fn : Func) (m : Fin 16)
  /-- `ALM_CLEAR` (R498). Under Custodian authorisation clears the Almanac behind a Clear record. -/
  | almClear (fn : Func) (m : Fin 16)
  /-- `ALM_INFO` (R371). Returns Almanac counts, sequence range and drop counters. -/
  | almInfo (fn : Func) (m : Fin 16)
  /-- `ALMANAC_GET_SETTING` (R372). Returns the STAMP setting. -/
  | almanacGetSetting (fn : Func) (m : Fin 16)
  /-- `ALMANAC_SET_SETTING` (R499). Changes STAMP and closes the open record. -/
  | almanacSetSetting (fn : Func) (m : Fin 16)
  /-- `HEALTH_REPORT` (R451). Returns the 256-byte health report. -/
  | healthReport (fn : Func) (m : Fin 16)
  /-- `HOLDUP_MEASURE` (R444). Starts a hold-up energy measurement now. -/
  | holdupMeasure (fn : Func) (m : Fin 16)
  /-- `AGEING_REPLAN` (R441). Runs an ageing measurement and replan now. -/
  | ageingReplan (fn : Func) (m : Fin 16) (sample : ReplanSample)
  /-- `POWER_HEALTH_GET_SETTING` (R372). Returns a Power/Health setting. -/
  | powerHealthGetSetting (fn : Func) (m : Fin 16)
  /-- `POWER_HEALTH_SET_SETTING` (R452). Changes a Power/Health setting within its range. -/
  | powerHealthSetSetting (fn : Func) (m : Fin 16)
  /-- `COOLING_STATUS` (R485). Returns the cooling status header and motor entries. -/
  | coolingStatus (fn : Func) (m : Fin 16)
  /-- `LOOP_SAVE` (R479). Stores the 16 loop slots in the Config Store. -/
  | loopSave (fn : Func) (m : Fin 16)
  /-- `COOLING_GET_SETTING` (R372). Returns a Cooling setting. -/
  | coolingGetSetting (fn : Func) (m : Fin 16)
  /-- `COOLING_SET_SETTING` (R486). Changes a Cooling setting; a program window change recomputes effective windows. -/
  | coolingSetSetting (fn : Func) (m : Fin 16)
  /-- `FW_STATUS` (R371). Returns firmware slot, set, policy and rollback status. -/
  | fwStatus (fn : Func) (m : Fin 16)
  /-- `FW_COUNTERSIGN` (R508). Programs a Custodian countersignature into the inactive slot's record. -/
  | fwCountersign (fn : Func) (m : Fin 16)
  /-- `FW_POLICY` (R371). Irreversibly requires Custodian countersignature for every later image. -/
  | fwPolicy (fn : Func) (m : Fin 16)
  /-- `VF_STATUS` (R347). Returns a VF's state, limits and outstanding commands. -/
  | vfStatus (fn : Func) (m : Fin 16)
  /-- `VF_CONFIGURE` (R348). Stores a VF's read and write limits. -/
  | vfConfigure (fn : Func) (m : Fin 16)
  /-- `VF_QUIESCE` (R350). Stops fetching on a VF and completes when nothing is outstanding. -/
  | vfQuiesce (fn : Func) (m : Fin 16)
  /-- `QUIESCE_WAIT_EXPIRY` (R350). QUIESCE_WAIT elapses and VF_QUIESCE completes with QUIESCE_PENDING. -/
  | quiesceWaitExpiry (vf : Fin 127)
  /-- `VF_SAVE` (R353). Checks a quiesced VF's mirrors, writes the state blob and locks its namespaces. -/
  | vfSave (fn : Func) (m : Fin 16)
  /-- `VF_SAVE_STEP_WAIT_EXPIRY` (R353). STEP_WAIT elapses with a mirror not in step and VF_SAVE completes with NOT_IN_STEP. -/
  | vfSaveStepWaitExpiry (vf : Fin 127)
  /-- `VF_RESTORE` (R356). Validates a blob, promotes the mirrored namespaces and loads the VF in QUIESCED. -/
  | vfRestore (fn : Func) (m : Fin 16)
  /-- `VF_RESUME` (R357). Resumes fetching on a VF, or abandons a save and releases the lock. -/
  | vfResume (fn : Func) (m : Fin 16)
  /-- `SANITIZE_GRANT` (R334). Under Custodian authorisation issues a 60 s grant for one sanitize action. -/
  | sanitizeGrant (fn : Func) (m : Fin 16)
  /-- `SANITIZE_GRANT_EXPIRY` (R334). An unused sanitize grant expires after 60 s. -/
  | sanitizeGrantExpiry
  /-- `MEDIA_ENCRYPT_SET` (R221). Sets MEDIA_ENCRYPT while no namespace exists. -/
  | mediaEncryptSet (fn : Func) (m : Fin 16)
  /-- `CHALLENGE` (R374). Returns a fresh nonce for the mailbox, replacing any earlier one. -/
  | challenge (fn : Func) (m : Fin 16)
  /-- `CHALLENGE_EXPIRY` (R374). A mailbox's nonce expires after 60 s. -/
  | challengeExpiry (fn : Func) (m : Fin 16)
  /-- `AUTH_LOCKOUT_EXPIRY` (R376). The 10-minute challenge lockout after repeated AUTH_FAILED ends. -/
  | authLockoutExpiry
  /-- `CUSTODIAN_ENROL` (R377). Enrols the first Custodian key on the PF with proof of possession. -/
  | custodianEnrol (fn : Func) (m : Fin 16)
  /-- `CUSTODIAN_ROTATE` (R378). Replaces the Custodian key under the current key's signature. -/
  | custodianRotate (fn : Func) (m : Fin 16)
  /-- `CUSTODIAN_KEY` (R371). Returns the enrolled Custodian public key and index. -/
  | custodianKey (fn : Func) (m : Fin 16)
  /-- `MD_ENABLE` (R91). Under Custodian authorisation enables Media Direct and powers its ring memory. -/
  | mdEnable (fn : Func) (m : Fin 16)
  /-- `MD_DISABLE` (R94). Aborts unstarted Media Direct descriptors, waits for started ones and powers down the rings. -/
  | mdDisable (fn : Func) (m : Fin 16)
  /-- `DGN_STATUS` (R412). Returns DRAM and SRAM diagnostic status. -/
  | dgnStatus (fn : Func) (m : Fin 16)
  /-- `DGN_WINDOW` (R410). While frozen, maps 16 MiB of DRAM onto the diagnostic window. -/
  | dgnWindow (fn : Func) (m : Fin 16)
  /-- `DIAGNOSTIC_WINDOW_READ` (R410). A read of the diagnostic window returns corrected DRAM data or counts an uncorrectable unit. -/
  | diagnosticWindowRead (off len : Nat) (stored : Bytes) (ueUnits : Nat)
  /-- `CARRIER_PRESENCE_FALL` (R59). CARR_PRSNT_N falls on an empty slot and the 100 ms debounce starts. -/
  | carrierPresenceFall (c : Carrier)
  /-- `CARRIER_DEBOUNCE_EXPIRY` (R59). Presence stays low for 100 ms and the carrier moves toward power-up. -/
  | carrierDebounceExpiry (c : Carrier)
  /-- `CARRIER_POWER_UP` (R59). CARR_PWR_EN is driven high when fewer than four carriers are powering. -/
  | carrierPowerUp (c : Carrier)
  /-- `CARRIER_POWER_SETTLE_EXPIRY` (R59). 50 ms after power-up both descriptor copies are read over I3C. -/
  | carrierPowerSettleExpiry (c : Carrier)
  /-- `CARRIER_DESCRIPTOR_READ_DONE` (R54). The descriptor read ends; a valid copy releases pads and starts training, otherwise the carrier fails. -/
  | carrierDescriptorReadDone (c : Carrier) (primary secondary : Bytes) (legacyI2c : Bool)
  /-- `CARRIER_TRAINING_DONE` (R62). Channel training ends at a common rate, with fallback, or fails at 800 MT/s. -/
  | carrierTrainingDone (c : Carrier) (rates : List (Option Nat))
  /-- `BLOCK_STATUS_LOAD_DONE` (R59). Block status is loaded or factory marks scanned and the carrier reaches READY. -/
  | blockStatusLoadDone (c : Carrier) (factoryBad : List Nat)
  /-- `CARRIER_PRESENCE_RISE` (R61). CARR_PRSNT_N rises; a powered carrier is isolated within 10 µs and reported failed. -/
  | carrierPresenceRise (c : Carrier)
  /-- `CARRIER_RESUME_DONE` (R59). A carrier resuming from Eclipse is matched by SERIAL and returned, reinserted as new, or failed. -/
  | carrierResumeDone (c : Carrier) (primary secondary : Bytes) (rates : List (Option Nat))
  /-- `ZQ_CALIBRATION_TIMER` (R49). Every 30 s a channel's ZQ calibration is issued. -/
  | zqCalibrationTimer (ch : Channel)
  /-- `MEDIA_READ` (R73). A READ descriptor senses a page, decodes it and retries entries as its flags select, suspending a busy LUN from Q0. -/
  | mediaRead (ch : Channel) (q : Fin 4) (d : MediaDesc) (ranUs : Nat)
  /-- `PROGRAM` (R75). A PROGRAM descriptor programs the page at the block's write pointer if the die is in the program window. -/
  | program (ch : Channel) (q : Fin 4) (d : MediaDesc) (payload : PageContent)
  /-- `ERASE` (R75). An ERASE descriptor erases a multi-plane block and resets its pointer and Recharge count. -/
  | erase (ch : Channel) (q : Fin 4) (d : MediaDesc)
  /-- `RECHARGE` (R83). A RECHARGE descriptor re-reads a page, compares it and pulses the die's Recharge command until verify passes. -/
  | recharge (ch : Channel) (q : Fin 4) (d : MediaDesc) (payload : PageContent)
  /-- `SWEEP` (R67). A SWEEP descriptor reads a page at successive threshold offsets and writes fail-bit counts. -/
  | sweep (ch : Channel) (q : Fin 4) (d : MediaDesc)
  /-- `MEDIA_GET_FEATURES` (R66). GET_FEATURES reads four parameter bytes from a die feature address. -/
  | mediaGetFeatures (ch : Channel) (q : Fin 4) (d : MediaDesc)
  /-- `MEDIA_SET_FEATURES` (R66). SET_FEATURES writes four parameter bytes to a die feature address. -/
  | mediaSetFeatures (ch : Channel) (q : Fin 4) (d : MediaDesc)
  /-- `READ_STATUS` (R66). READ_STATUS reads the LUN's ONFI status. -/
  | readStatus (ch : Channel) (q : Fin 4) (d : MediaDesc)
  /-- `LUN_RESET` (R66). LUN_RESET issues an ONFI Reset to the LUN. -/
  | lunReset (ch : Channel) (q : Fin 4) (d : MediaDesc)
  /-- `ZQ_CAL` (R66). ZQ_CAL runs long ZQ calibration. -/
  | zqCal (ch : Channel) (q : Fin 4) (d : MediaDesc)
  /-- `DIE_OPERATION_DONE` (R69). A die operation finishes and its completion entry is written with its status. -/
  | dieOperationDone (t : DieTarget) (o : DieOutcome)
  /-- `DIE_TIMEOUT` (R70). A LUN not ready within twice its maximum time is reset, and three in succession fail it. -/
  | dieTimeout (ch : Channel) (l : Lun)
  /-- `MEDIA_QUEUE_RESET` (R71). A producer resets a halted queue, aborting every unstarted descriptor. -/
  | mediaQueueReset (ch : Channel) (q : Fin 4)
  /-- `CS_READ` (R87). Reads bytes from the Config Store into management SRAM. -/
  | csRead (d : CsDesc) (buffer : Nat)
  /-- `CS_PROGRAM` (R88). Programs Config Store words in order under the bit-rise and two-program rules, suspending an erase if needed. -/
  | csProgram (d : CsDesc) (data : Bytes) (failAt : Option Nat)
  /-- `CS_ERASE` (R90). Erases a 64 KiB Config Store sector, suspendable up to 16 times. -/
  | csErase (d : CsDesc)
  /-- `MDR_SQ_DOORBELL` (R93). A Media Direct doorbell accepts COUNT descriptors or sets DESC_COUNT or RING_FULL. -/
  | mdrSqDoorbell (n : Fin 4) (count : Nat)
  /-- `MD_RING_COPY` (R93). An accepted ring descriptor is copied into Q3 of its channel when Q3 has room. -/
  | mdRingCopy (n : Fin 4)
  /-- `MDR_RING_RESET` (R93). Writing RESET aborts every unstarted descriptor of the ring and clears its halt. -/
  | mdrRingReset (n : Fin 4)
  /-- `MDR_RING_CTRL_WRITE` (R92). Selects the ring's channel, ignored while descriptors are unfinished. -/
  | mdrRingCtrlWrite (n : Fin 4) (value : Word32)
  /-- `MDR_CQ_HEAD_WRITE` (R94). Advancing the completion ring head lets a ring blocked by a full completion ring start descriptors. -/
  | mdrCqHeadWrite (n : Fin 4) (value : Word32)
  /-- `HOUSEKEEPING_ROUND` (R455). Every HK_ROUND_PERIOD half the channels' dies are read for temperature and monitors are copied. -/
  | housekeepingRound (temps : List (Nat × Option Int))
  /-- `POLESTAR_DAILY_TIMER` (R104). Every 24 operating hours a Polestar sweep falls due on each carrier. -/
  | polestarDailyTimer
  /-- `POLESTAR_SWEEP` (R105). Once the die is in the window, generation copies are swept, valleys located and T_c combined. -/
  | polestarSweep (c : Carrier) (sweeps : List PageSweep)
  /-- `POLESTAR_REPROGRAM` (R103). The oldest generation is erased, patterned, baseline-swept and given a header. -/
  | polestarReprogram (c : Carrier) (gen : Fin 8) (seed : Nat) (temp : Int) (failed : List Nat) (baseline : List PageSweep)
  /-- `RECHARGE_PASS` (R117). Every page of a due band is pre-read and recharged, then stamps and budgets are updated. -/
  | rechargePass (band : Nat) (blocks : List PassBlock)
  /-- `MARGIN_PATROL` (R113). Four pages of a closed band's block are read to update its margin class. -/
  | marginPatrol (key : Nat) (steps corrected : List Nat)
  /-- `DAWN_SCAN` (R122). After a dark interval above threshold every programmed block is read in risk order with the shifted table. -/
  | dawnScan (key : Nat) (decodeStep corrected : Nat)
  /-- `STRIPE_WRITE` (R180). A full stripe of 15 data units gets its parity and all 16 units go to the Codec and media. -/
  | stripeWrite (stream : Fin 3) (band : Nat)
  /-- `GATHER_TIMEOUT` (R180). A stream short of a full stripe for GATHER_TIMEOUT has the stripe padded and written. -/
  | gatherTimeout (stream : Fin 3) (band : Nat)
  /-- `GROUP_DECLARATION` (R184). Groups of an open band are declared and made durable before any unit is programmed. -/
  | groupDeclaration (band : Nat)
  /-- `STRIPE_COMMIT` (R182). When all units of a stripe succeed, its blocks' new locations are committed to the map. -/
  | stripeCommit (band stripe : Nat)
  /-- `JOURNAL_PAGE_WRITE` (R151). A 64 KiB journal page with its stripe journal section is programmed on two carriers. -/
  | journalPageWrite (first second : Bool)
  /-- `CHECKPOINT_CYCLE` (R153). A checkpoint cycle writes every map segment, band record and block entry. -/
  | checkpointCycle
  /-- `BAND_CLOSE` (R32). When all parity, inner XOR and journal conditions hold, a CLOSING band is closed. -/
  | bandClose (band : Nat)
  /-- `BAND_RELEASE` (R142). A band with VALID 0 and durable commits is released to the erase list and erased. -/
  | bandRelease (band : Nat) (unerased : List Nat)
  /-- `GARBAGE_COLLECTION` (R157). A victim band's valid blocks are copied to Nimbus, committed conditionally and the band released. -/
  | garbageCollection (band : Nat) (summaryOk : Bool) (reads : List BlockRead)
  /-- `RELOCATION` (R27). A band is relocated by copy, durable map commit, release and erase. -/
  | relocation (band : Nat) (summaryOk : Bool) (reads : List BlockRead)
  /-- `SPAN_CONSOLIDATION` (R136). At 90 % fine-map pool occupancy FINE spans are rewritten whole until 80 %. -/
  | spanConsolidation (reads : List BlockRead)
  /-- `RESYNCHRONISATION` (R188). After an unclean stop the background phase reads and checks every written group. -/
  | resynchronisation (band group : Nat) (findings : List ResyncFinding) (xorBad : List Nat)
  /-- `REBUILD` (R196). Bands with units on a failed slot are rebuilt by image or relocation. -/
  | rebuild (band : Nat) (reads : List BlockRead) (unreadable : List (Nat × Nat)) (namesLost : Bool)
  /-- `LUN_REBUILD` (R198). A failed LUN's positions are reconstructed from inner XOR onto substitutes within its carrier. -/
  | lunRebuild (lun band : Nat) (lost : List Nat)
  /-- `RESHAPE` (R205). Evacuation or copyback moves a slot's units band by band behind a checkpointed boundary. -/
  | reshape (band : Nat)
  /-- `DATA_PLANE_BURST` (R22). A data-plane burst is checked by CRC, resent once, and a second mismatch halts its DMA channel. -/
  | dataPlaneBurst (dma : Nat) (firstOk secondOk : Bool)
  /-- `PORT_TRAINING_START` (R256). 10 ms after the engagement pins rise a port powers and starts training. -/
  | portTrainingStart (p : Port)
  /-- `PORT_TRAINING_DONE` (R256). Lanes train at a rate and width, cells are delineated and INIT is sent. -/
  | portTrainingDone (p : Port) (rate : Nat) (lanes : BitVec 8)
  /-- `PORT_TRAINING_TIMEOUT` (R256). No rate and width trains within 250 ms. -/
  | portTrainingTimeout (p : Port)
  /-- `PORT_TRAINING_RETRY` (R256). After a 1 s wait the port trains again. -/
  | portTrainingRetry (p : Port)
  /-- `INIT_CELL_TIMER` (R252). INIT is sent every 1 ms in INIT, or every 10 s after a refusal. -/
  | initCellTimer (p : Port)
  /-- `INIT_CELL_RECEIVE` (R256). An acceptable INIT loads credits, brings the port UP and starts a token. -/
  | initCellReceive (p : Port) (cell : InitCell)
  /-- `DATA_CELL_RECEIVE` (R255). A DATA cell is accepted in sequence, forwarded or reassembled, or discarded with NAK. -/
  | dataCellReceive (p : Port) (cell : DataCell)
  /-- `CTRL_CELL_RECEIVE` (R255). A CTRL cell acknowledges cells, returns credits, requests replay or announces sleep. -/
  | ctrlCellReceive (p : Port) (cell : CtrlCell)
  /-- `REPLAY_TIMER_EXPIRY` (R255). ACK_SEQ unchanged for 20 µs with cells outstanding triggers replay. -/
  | replayTimerExpiry (p : Port)
  /-- `LOSS_OF_SIGNAL` (R256). A port loses signal and retrains, or marks a sleeping neighbour ASLEEP. -/
  | lossOfSignal (p : Port)
  /-- `FEC_ERROR_LIMIT` (R256). More than 1,000 uncorrectable codewords in 1 s retrain at a lower rate. -/
  | fecErrorLimit (p : Port) (codewords : Nat)
  /-- `TRAINING_FRAMES_RECEIVED` (R256). Training frames on an ASLEEP or WAKING port stop the wake pattern and start training. -/
  | trainingFramesReceived (p : Port)
  /-- `TOKEN_RECEIVE` (R260). A token is discarded, recorded and passed on, or completed and its topology installed. -/
  | tokenReceive (p : Port) (token : Token)
  /-- `TOKEN_TIMEOUT` (R260). A token not complete within 100 ms is abandoned and restarted. -/
  | tokenTimeout
  /-- `HEARTBEAT_TIMER` (R268). Every 100 ms a HEARTBEAT with session descriptors is sent to each session peer. -/
  | heartbeatTimer
  /-- `HEARTBEAT_RECEIVE` (R270). A peer HEARTBEAT activates, resumes or checks sessions and resumes migrations. -/
  | heartbeatReceive (node : Nat) (serial : Bytes) (descs : List SessionDesc)
  /-- `PEER_TIMEOUT_EXPIRY` (R281). A peer silent for PEER_TIMEOUT suspends mirrors and interrupts migration. -/
  | peerTimeoutExpiry (node : Nat)
  /-- `SPAN_PUSH_RECEIVE` (R272). A SPAN_PUSH is checked and applied in SEQNO order into the cache or map. -/
  | spanPushReceive (msg : HaloMessage)
  /-- `SPAN_PULL_RECEIVE` (R274). A SPAN_PULL sets named spans DIRTY for pushing again. -/
  | spanPullReceive (msg : HaloMessage)
  /-- `REPAIR_REQ_RECEIVE` (R273). A REPAIR_REQ is answered with blocks read through steps 1 to 5, or a status. -/
  | repairReqReceive (msg : HaloMessage) (media : List BlockRead)
  /-- `SEAL_XFER_RECEIVE` (R245). A SEAL_XFER is verified, the root recomputed, and a custody record signed or refused. -/
  | sealXferReceive (msg : HaloMessage) (x : SealXfer) (media : List BlockRead)
  /-- `MIGRATE_BEGIN_RECEIVE` (R276). A MIGRATE_BEGIN with KIND 0 creates the namespaces on the successor. -/
  | migrateBeginReceive (msg : HaloMessage)
  /-- `MIGRATE_BEGIN_CANCEL_RECEIVE` (R276). A MIGRATE_BEGIN with KIND 1 deletes the session's namespaces unless already committed. -/
  | migrateBeginCancelReceive (msg : HaloMessage)
  /-- `MIGRATE_CHECKPOINT_RECEIVE` (R278). The successor writes its migration record and answers OK. -/
  | migrateCheckpointReceive (msg : HaloMessage)
  /-- `MIGRATE_COMMIT_RECEIVE` (R279). The successor commits and makes namespaces ready, or answers INCOMPLETE. -/
  | migrateCommitReceive (msg : HaloMessage) (seals : Nat)
  /-- `WAKE_RECEIVE` (R283). The last awake node on the path sends the wake pattern toward the sleeper. -/
  | wakeReceive (msg : HaloMessage)
  /-- `WAKE_DETECT` (R283). The sleeper's always-on detector sees 50 µs of energy and raises a wake event. -/
  | wakeDetect (p : Port)
  /-- `WAKE_GIVEUP_EXPIRY` (R283). A sleeper that has not begun training within WAKE_GIVEUP is reported with STATE. -/
  | wakeGiveupExpiry (p : Port)
  /-- `UNKNOWN_OPCODE_RECEIVE` (R265). A request with an unknown opcode receives BAD_OPCODE. -/
  | unknownOpcodeReceive (msg : HaloMessage)
  /-- `HALO_RESPONSE_RECEIVE` (R267). A response ends its transaction, or DEST_BUSY schedules a retry. -/
  | haloResponseReceive (msg : HaloMessage)
  /-- `HALO_REQUEST_TIMEOUT` (R267). A request unanswered within its lane timeout is repeated once, then ends with PEER_UNREACHABLE. -/
  | haloRequestTimeout (xid : Nat)
  /-- `DEST_BUSY_RETRY` (R267). A request answered DEST_BUSY is sent again after its backoff. -/
  | destBusyRetry (xid : Nat)
  /-- `MIRROR_PUSH` (R271). The primary pushes a DIRTY span's runs to the secondary. -/
  | mirrorPush (session span : Nat) (media : List BlockRead)
  /-- `MIRROR_TIMEOUT_EXPIRY` (R270). A synchronous push waiting MIRROR_TIMEOUT suspends the mirror. -/
  | mirrorTimeoutExpiry (session : Nat)
  /-- `MIGRATION_PASS` (R277). The source pushes spans, checkpoints, transfers seals and enters the final phase. -/
  | migrationPass (media : List BlockRead)
  /-- `COMMIT_STALL_LIMIT_EXPIRY` (R279). The final phase reaches COMMIT_STALL_LIMIT and intake reopens, or waiting writes fail after commit was sent. -/
  | commitStallLimitExpiry
  /-- `MIGRATE_COMMIT_REPEAT` (R279). An unanswered MIGRATE_COMMIT is repeated every PEER_TIMEOUT. -/
  | migrateCommitRepeat
  /-- `HAL_PORT_CLEAR_COUNTERS` (R284). Writing CLEAR_COUNTERS zeroes the port's error and FEC counters. -/
  | halPortClearCounters (p : Port)
  /-- `SYS_RST_N_FALL` (R383). SYS_RST_N low drives the engagement pins and carrier power low and stops the device. -/
  | sysRstNFall
  /-- `SYS_RST_N_RISE` (R380). SYS_RST_N rising begins a start with step 1 after 1 ms. -/
  | sysRstNRise
  /-- `POWER_GOOD` (R527). Monitors in band and PWRFAIL_N high for 10 ms release the held start. -/
  | powerGood (identityOk ledgerOk eraseOk : Bool)
  /-- `INTERNAL_RESTART` (R380). The controller resets itself as SYS_RST_N low for 10 ms and starts again. -/
  | internalRestart
  /-- `BOOT_STEP_END` (R381). A boot step ends, writes its end mark and the next step begins by its decided mode. -/
  | bootStepEnd (r : StepResult)
  /-- `BOOT_STEP_WATCHDOG` (R382). A step's watchdog expires, causing a restart in steps 1 to 13 or abandonment in 14 to 16. -/
  | bootStepWatchdog
  /-- `SAFE_START_RETRY` (R395). A failing die step 2 to 4 is retried every 10 s. -/
  | safeStartRetry (ok : Bool)
  /-- `CONFIG_STORE_RETRY` (R396). An unreadable identity area is read again every 1 s. -/
  | configStoreRetry (ok : Bool)
  /-- `DRAM_INIT_GRANULE` (R406). A 1 GiB granule finishes zero initialisation and becomes available. -/
  | dramInitGranule
  /-- `DRAM_PATROL_SCRUB` (R406). The patrol scrub reads locations once per DRAM_SCRUB_PERIOD. -/
  | dramPatrolScrub (hits : List PatrolHit)
  /-- `DRAM_ALERT` (R407). ALERT_n assertion stops the channel and replays the retry buffer up to 8 times. -/
  | dramAlert (ch : DramChannel) (attempts : Nat) (ok : Bool)
  /-- `DRAM_FREEZE` (R408). An uncorrectable Table-class error or failed channel stops DRAM traffic and flushes the cache. -/
  | dramFreeze (cause : Nat) (ch : DramChannel) (addr : Nat)
  /-- `BUFFER_CLASS_ERROR` (R413). An uncorrectable Buffer-class read is recovered by refetch, mirror or loss. -/
  | bufferClassError (loc : BufferLoc)
  /-- `MSRAM_SCRUB` (R423). The management SRAM scrubber reads every byte once per MSRAM_SCRUB_PERIOD. -/
  | msramScrub (corrected : Nat) (codePages : List (Nat × Bool × Bool)) (others : List MsramUse) (hardFaults : List (Nat × Nat))
  /-- `SRAM_SCRUB` (R423). The word-ECC SRAM scrubber reads every word once per SRAM_SCRUB_PERIOD. -/
  | sramScrub (corrected uncorrectable : Nat) (hardFaults : List (Nat × Nat))
  /-- `CODE_FETCH_ERROR` (R421). An uncorrectable instruction fetch traps and reloads the code page from the Config Store. -/
  | codeFetchError (addr : Nat) (storeOk frameOk : Bool)
  /-- `MSRAM_DATA_ERROR` (R422). An uncorrectable data read reloads a Config Store copy, drops a record, or freezes. -/
  | msramDataError (use : MsramUse)
  /-- `INTERNAL_DMA_HALT` (R420). An internal DMA reading an uncorrectable SRAM word stops and reports to its producer. -/
  | internalDmaHalt (user : DmaUser)
  /-- `SLEEP_ENTRY` (R433). A requested sleep state, with the device idle, pauses work and begins entry. -/
  | sleepEntry (target : SleepTarget) (commanded : Bool)
  /-- `ECLIPSE_DESTAGE_TIMEOUT` (R432). Destaging not finished 1.8 s into Eclipse entry falls back to Night. -/
  | eclipseDestageTimeout
  /-- `ISOLATION_COMMIT` (R435). Isolation commits, pads are held, domains switched off and wake latches armed. -/
  | isolationCommit
  /-- `WAKE_EVENT` (R434). A wake source aborts entry or starts exit from a sleep state. -/
  | wakeEvent (source : WakeSource) (lostWindow : Bool)
  /-- `WAKE_TIMER_EXPIRY` (R434). The sleep wake timer expires and wakes the device. -/
  | wakeTimerExpiry
  /-- `SLEEP_EXIT_DONE` (R433). Every block is restored or fails its restore and the device returns to Zenith. -/
  | sleepExitDone (fails : List RestoreFail)
  /-- `PERF_LEVEL_CHANGE` (R429). A change of the level in force steps voltage and clocks in order. -/
  | perfLevelChange
  /-- `AVSBUS_TIMEOUT` (R429). An unacknowledged AVSBus request is repeated once, then steps up are refused. -/
  | avsbusTimeout
  /-- `VOLTAGE_MONITOR_EVENT` (R438). A rail leaves its warning or fault band and its effect is applied. -/
  | voltageMonitorEvent (n : Fin 24) (filtered : Bool) (mv : Nat)
  /-- `CORE_FAULT_LIFT` (R438). A core rail in its warning band for 10 s lifts the P3 limit. -/
  | coreFaultLift
  /-- `PERIODIC_720H_TIMER` (R42). Every 720 operating hours a hold-up measurement and an ageing replan fall due. -/
  | periodic720hTimer
  /-- `HOLDUP_MEASUREMENT_DONE` (R444). The 5 % fall or 200 ms ends the measurement, and C and the effective dirty limit are computed. -/
  | holdupMeasurementDone (sample : HoldupSample)
  /-- `PWRFAIL_ASSERT` (R447). PWRFAIL_N low drops pins, stops intake and starts the emergency flush. -/
  | pwrfailAssert
  /-- `FLUSH_COMPLETE` (R447). The flush completes and every switched domain is turned off. -/
  | flushComplete (bad : List (Nat × Nat × Bool))
  /-- `PWRFAIL_DEASSERT` (R448). PWRFAIL_N rising after a flush holds intake closed until SYS_RST_N. -/
  | pwrfailDeassert
  /-- `DIODE_READING` (R453). Every 1 ms the junction diode is read, faults judged and thresholds applied. -/
  | diodeReading (raw : Int)
  /-- `THERMAL_DEMAND_FALLBACK` (R457). 10 s at 5 °C below a threshold lowers the demand. -/
  | thermalDemandFallback
  /-- `RATE_DEMAND_LIFT` (R458). 10 s below half TJ_RATE lifts the rate-of-rise demand. -/
  | rateDemandLift
  /-- `THERMAL_SHUTDOWN` (R459). The 130 °C comparator acts as PWRFAIL_N. -/
  | thermalShutdown
  /-- `LOOP_SLOT_UPDATE` (R478). A loop slot computes its filtered, clamped output at its update count. -/
  | loopSlotUpdate (n : LoopSlot) (meas : Int)
  /-- `CTL_SLOT_COMMIT` (R479). Writing COMMIT loads the shadow coefficients at the slot's next update. -/
  | ctlSlotCommit (n : LoopSlot) (updating : Bool)
  /-- `MOTOR_ENABLE` (R469). Writing ENABLE starts a motor from OFF into DETECT, or stops it with 0. -/
  | motorEnable (m : Motor) (on : Bool)
  /-- `MOTOR_RESTART` (R469). Writing RESTART in FAULT clears the loss count and returns the motor to OFF. -/
  | motorRestart (m : Motor)
  /-- `MOTOR_DETECT_DONE` (R470). After 200 ms of observation the motor is caught, braked or aligned. -/
  | motorDetectDone (m : Motor) (crossings : Nat) (speed : Int) (ke : Nat)
  /-- `BRAKE_END` (R471). Shorted-current frequency below 1 % ends braking. -/
  | brakeEnd (m : Motor)
  /-- `BRAKE_TIMEOUT` (R469). 20 s of braking without slowing below 1 % faults the motor. -/
  | brakeTimeout (m : Motor)
  /-- `ALIGN_DONE` (R472). ALIGN_MS elapses and the open-loop ramp begins. -/
  | alignDone (m : Motor)
  /-- `RAMP_DONE` (R472). RAMP_MS elapses at 10 % and the gates turn off for the Ke check. -/
  | rampDone (m : Motor)
  /-- `KE_CHECK_DONE` (R472). The measured Ke is accepted for catch or faults the motor. -/
  | keCheckDone (m : Motor) (peakUv : Nat) (radPerS : Nat)
  /-- `OBSERVER_LOCK` (R469). The observer locks and the motor enters RUN. -/
  | observerLock (m : Motor) (angle : BitVec 16)
  /-- `ROTOR_LOSS` (R473). An implausible speed estimate for 20 ms turns gates off and coasts the motor. -/
  | rotorLoss (m : Motor)
  /-- `OVERCURRENT` (R466). A current conversion beyond I_LIMIT turns off the motor's gates until the next valley. -/
  | overcurrent (m : Motor) (sample : ConverterSample)
  /-- `CD_FAULT_N_FALL` (R475). A gate driver fault turns off the motor's gates and counts a loss. -/
  | cdFaultNFall (m : Motor)
  /-- `COAST_DONE` (R469). After 100 ms of coasting the motor re-enters DETECT, or faults on a third loss. -/
  | coastDone (m : Motor)
  /-- `MOTOR_FAULT_DEMAND_LIFT` (R474). Every enabled motor in RUN for 60 s lifts the motor-fault P3 demand. -/
  | motorFaultDemandLift
  /-- `TRC_ARM` (R484). Writing ARM clears DONE and TRIGGERED and starts recording. -/
  | trcArm (b : TraceBuf)
  /-- `TRC_TRIGGER` (R484). Writing TRIGGER triggers a buffer with a software trigger source. -/
  | trcTrigger (b : TraceBuf)
  /-- `TRACE_TRIGGER_EVENT` (R484). A trigger condition triggers an armed single-mode buffer. -/
  | traceTriggerEvent (b : TraceBuf)
  /-- `TRACE_SAMPLE` (R483). Every DECIMATION + 1 source updates a sample is written to the buffer. -/
  | traceSample (b : TraceBuf) (value : Int) (time : Word32)
  /-- `ALMANAC_RECORD_ACCEPT` (R492). A record is accepted into staging, repeated into the open record, or replaces a staged record. -/
  | almanacRecordAccept (code : Word16) (severity : Fin 4) (params : Bytes)
  /-- `ALMANAC_RECORD_PROGRAM` (R491). A staged record takes its SEQUENCE and chain and its first write is programmed. -/
  | almanacRecordProgram
  /-- `ALMANAC_COMPACTION` (R494). A full write sector is replaced by the spare and one sector compacted. -/
  | almanacCompaction
  /-- `ALMANAC_INDEX_READ` (R495). A background read completes the severity index and finishes interrupted compactions or clears. -/
  | almanacIndexRead
  /-- `DROP_COUNTER_SAVE` (R492). Once a minute the drop counters are saved. -/
  | dropCounterSave
  /-- `ALM_CURSOR_WRITE` (R497). Writing ALM_CURSOR_LO reloads the Almanac window snapshot. -/
  | almCursorWrite (lo : Word32)
  /-- `STANDBY_SET_LOAD` (R510). The standby Meridian set is powered, loaded and self-checked. -/
  | standbySetLoad (loadOk : Bool)
  /-- `MICROCODE_ROLL` (R511). Each channel core pauses and switches to the new microcode in turn. -/
  | microcodeRoll (ch : Channel)
  /-- `INTAKE_STALL` (R39). Fetching stops and the outgoing set writes its handover state. -/
  | intakeStall
  /-- `HANDOVER_READY` (R510). The incoming set signals READY, roles exchange and intake resumes. -/
  | handoverReady
  /-- `HANDOVER_READY_TIMEOUT` (R512). No READY within 45 ms of the stall reverts the handover. -/
  | handoverReadyTimeout
  /-- `LOSS_OF_DELINEATION` (R252). Eight successive Halo cells that fail their CRC mean a loss of delineation, and the port retrains. -/
  | lossOfDelineation (p : Port)
  /-- `CELL_SLOT_TRANSMIT` (R254). At each Halo cell slot the transmitter chooses a replay, CTRL, control-lane, bulk or IDLE cell by the fill order. -/
  | cellSlotTransmit (p : Port)
  /-- `CORRECTABLE_LINK_ERROR` (R311). A Receiver Error, Bad TLP, Bad DLLP, replay timeout or REPLAY_NUM rollover triggers link-level recovery and is counted. -/
  | correctableLinkError
  /-- `UNSUPPORTED_REQUEST` (R290). A memory request with Memory Space Enable 0, or an access of illegal size or alignment to a register, completes with or is discarded as Unsupported Request and is reported. -/
  | unsupportedRequest (fn : Func) (isRead : Bool)
  /-- `APERTURE_BUFFER_WRITE` (R417). A host write fills bytes of a mailbox payload buffer or of the Media Direct rings or buffer area, merging or being discarded under word ECC. -/
  | apertureBufferWrite (fn : Func) (off : Nat) (data : Bytes)
  /-- `APERTURE_BUFFER_READ` (R418). A host read of a word-ECC buffer that meets an uncorrectable word returns a poisoned completion and writes a Notice record. -/
  | apertureBufferRead (fn : Func) (off len : Nat)
  /-- `JTAG_INSTRUCTION` (R534). An instruction shifted into the JTAG port is executed, such as EXTEST taking the pins while SYS_RST_N is low, or is refused. -/
  | jtagInstruction (ir : Nat)
  /-- `POWER_LOSS` (R528). The supplies are withdrawn and all volatile state of the controller is lost until the next power-up. -/
  | powerLoss
  deriving DecidableEq, Repr

end Sys2Proof
end

