-- ==== Sys2Proof/Config.lean ====
section
/-! DEFINITION. What an implementation fixes and the spec leaves open: opaque constants, without a value.
Nothing in Lean can evaluate one, so a statement that holds of the model holds whatever they are. -/
namespace Sys2Proof.Config

/-- A value the spec leaves open, one byte: applied to the state's counter of free values (log entry 1, DESIGN CHOICE). -/
opaque freeByte : Nat → Byte
/-- A value the spec leaves open, a number (log entry 1, DESIGN CHOICE). -/
opaque freeNat : Nat → Nat
/-- A value the spec leaves open, a bit (log entry 1, DESIGN CHOICE). -/
opaque freeBool : Nat → Bool
/-- The random number generator's draws (nonces, keys, session identifiers): log entry 2, DESIGN CHOICE. -/
opaque random : Nat → BitVec 256

/-- SM3 of a run of bytes (the standard's function, not defined in the spec): log entry 3, DESIGN CHOICE. -/
opaque sm3 : Bytes → Digest
/-- SM2 signature check of a message under a key, with Z formed as in R237: log entry 3, DESIGN CHOICE. -/
opaque sm2Verify : PubKey → Bytes → Signature → Bool
/-- SM2 signature of a message with the private key of this device's certificate of the named use, at a draw
of the random number generator: log entry 3, DESIGN CHOICE. -/
opaque sm2Sign : Nat → Nat → Bytes → Signature
/-- The public key that a device certificate's private key answers to: log entry 3, DESIGN CHOICE. -/
opaque devicePublicKey : Nat → PubKey
/-- SM4-XTS of one block of data under a media key and a tweak: log entry 3, DESIGN CHOICE. -/
opaque sm4Xts : BitVec 256 → Nat → Bytes → Bytes
/-- SM4-XTS decryption of one block of data under a media key and a tweak: log entry 3, DESIGN CHOICE. -/
opaque sm4XtsInverse : BitVec 256 → Nat → Bytes → Bytes
/-- The Caerostux firmware keys held in the boot ROM, by SIGNER_KEY_ID (R501); the spec does not give them: log entry 3, DESIGN CHOICE. -/
opaque firmwareKey : Digest → Option PubKey
/-- The protection-information guard CRC of the NVM command set over one block, for the guard's width
(16 or 64 bits); the NVM specification defines it, the spec does not: log entry 4, DESIGN CHOICE. -/
opaque piGuard : Nat → Bytes → Nat
/-- The pattern of a Polestar page that the channel core generates from a seed (R100), which the spec does not define, half of its cells
programmed: log entry 251, DESIGN CHOICE. -/
opaque polestarPattern : Nat → Nat → Bytes
/-- The hash of (NSID, span) whose low 15 bits name a bit of a band's span filter (R145), which the spec does not define: log entry 253,
DESIGN CHOICE. -/
opaque spanHash : Nat → Nat → Nat
/-- The bytes of a journal page's header besides its stripe journal section (R151, R185), which the spec does not lay out: log entry 254,
DESIGN CHOICE. -/
opaque journalHeader : Nat → Bytes
/-- The bytes of a checkpoint page: how a checkpoint's pieces lie in its pages is not laid out (R153): log entry 254, DESIGN CHOICE. -/
opaque checkpointPage : Nat → Bytes
/-- How the array record and the reshape record lie in their area of the Config Store (R177), which the spec does not lay out, for the array's state,
FAILED_SLOT, roles, SERIALs and reshape record: log entry 257, DESIGN CHOICE. -/
opaque arrayArea : Nat → Nat → List Nat → List Bytes → Bytes → Bytes
/-- How a migration record lies in its area of the Config Store (R278), which the spec does not lay out, for the session, the role, the state,
the pass and its position: log entry 257, DESIGN CHOICE. -/
opaque migrationRecord : Nat → Bool → Nat → Nat → Nat → Nat → Bytes
/-- Requests that a DRAM channel's queue of pending writes holds (R404, R405), which the spec does not give: log entry 265, DESIGN CHOICE. -/
opaque dramWriteQueue : Nat
/-- Bytes of the memory in which a node reassembles Halo messages (R253), which the spec does not give: log entry 262, DESIGN CHOICE. -/
opaque reassemblyBytes : Nat
/-- An entry of the factory sine table (R467, R480), a sine plus one sixth of its third harmonic whose scale and rounding the spec does not give:
log entry 258, DESIGN CHOICE. -/
opaque factorySine : Nat → BitVec 16
/-- The amplitude that d and q voltage demands give the voltage vector, in 1/65,536 V, and its offset from the rotor angle in 1/65,536 turn
(R467), which the spec names without a formula: log entry 258, DESIGN CHOICE. -/
opaque vectorAmplitude : Int → Int → Nat
opaque vectorOffset : Int → Int → Nat
/-- The duty, in 1/65,536, that a phase's voltage demand takes at a motor bus voltage in mV (R467), which the spec names without a formula: log
entry 258, DESIGN CHOICE. -/
opaque phaseDuty : Int → Nat → Nat
/-- A step of the 200 ms filter of the commanded q current: the filtered and the commanded value and the operating ms (R473, log entry 44). -/
opaque iqFilter : Int → Int → Nat → Int
/-- The bytes of the firmware record for the slot it names and the anti-rollback counter (R502, log entry 277). -/
opaque firmwareRecord : Nat → Nat → List (BitVec 8)
/-- A diode reading corrected by the bytes of the Calibration Set's diode section (R449, R453, log entry 271). -/
opaque diodeCorrected : List (BitVec 8) → Int → Int
/-- WRAPPED and GCM_TAG of a key table entry (R224): SM4-GCM of a key under the key-encryption key that the device's fuses give, for the entry's
bytes 0x00 to 0x03 and its IV: log entry 3, DESIGN CHOICE. -/
opaque wrapKey : Bytes → Nat → BitVec 256 → Bytes
/-- The certificate chain, in DER bytes, of the signer with a KEY_ID (R237, R275, R312): log entry 3, DESIGN CHOICE. -/
opaque certChain : Digest → Bytes

end Sys2Proof.Config
end

