-- ==== Sys2Proof/Machine/Bytes.lean ====
section
/-! DEFINITION. Byte-order helpers: little-endian fields (R8), CRC-32C, and reading a field of a layout. -/
namespace Sys2Proof.Machine

/-- The `n` bytes of `v`, least significant first (R8). -/
def leBytes : Nat → Nat → Bytes
  | 0, _ => []
  | n + 1, v => BitVec.ofNat 8 v :: leBytes n (v / 256)

/-- The value of a run of bytes, least significant first (R8). -/
def ofLE : Bytes → Nat
  | [] => 0
  | b :: bs => b.toNat + 256 * ofLE bs

/-- The bytes of a run from offset `off`, `n` of them; bytes past the end read zero. -/
def slice (b : Bytes) (off n : Nat) : Bytes :=
  let t := (b.drop off).take n
  t ++ List.replicate (n - t.length) 0

/-- The little-endian field of `n` bytes at offset `off` (R8). -/
def field (b : Bytes) (off n : Nat) : Nat := ofLE (slice b off n)

/-- A field read as a two's-complement number. -/
def fieldInt (b : Bytes) (off n : Nat) : Int :=
  let v := field b off n
  if v < 2 ^ (8 * n - 1) then (v : Int) else (v : Int) - (2 ^ (8 * n) : Nat)

/-- The bytes of a two's-complement number. -/
def leInt (n : Nat) (v : Int) : Bytes := leBytes n (v % (2 ^ (8 * n) : Nat)).toNat

/-- A run padded with zeroes, or cut, to `n` bytes. -/
def padTo (n : Nat) (b : Bytes) : Bytes := slice b 0 n

/-- `n` bytes of zero. -/
def zeros (n : Nat) : Bytes := List.replicate n 0

/-- Whether every byte of a run is zero. -/
def allZero (b : Bytes) : Bool := b.all (· == 0)

/-- A run with the bytes `v` laid over it from offset `off`; the run is lengthened with zeroes if it ends before. -/
def overlay (b : Bytes) (off : Nat) (v : Bytes) : Bytes :=
  slice b 0 off ++ v ++ b.drop (off + v.length)

/-- The characters of a string as bytes. -/
def ascii (s : String) : Bytes := s.toList.map fun c => BitVec.ofNat 8 c.toNat

/-- One bit of a CRC-32C register, reflected polynomial 0x82F6_3B78. -/
def crc32cBit (c : Word32) : Word32 :=
  if c &&& 1 = 1 then (c >>> 1) ^^^ 0x82F63B78#32 else c >>> 1

/-- One byte into a CRC-32C register. -/
def crc32cByte (c : Word32) (b : Byte) : Word32 :=
  let x := c ^^^ b.setWidth 32
  crc32cBit (crc32cBit (crc32cBit (crc32cBit (crc32cBit (crc32cBit (crc32cBit (crc32cBit x)))))))

/-- CRC-32C (Castagnoli) of a run of bytes, as every CRC of the spec's layouts (R22, R54, R487). -/
def crc32c (b : Bytes) : Word32 := ~~~ (b.foldl crc32cByte 0xFFFFFFFF#32)

/-- A sparse table: pairs of a key and a value in rising key order. Its value at a key. -/
def lookup {α : Type} (m : List (Nat × α)) (k : Nat) : Option α :=
  match m with
  | [] => none
  | (k', v) :: t => if k = k' then some v else lookup t k

/-- A sparse table with the value at a key set. -/
def insert {α : Type} (m : List (Nat × α)) (k : Nat) (v : α) : List (Nat × α) :=
  match m with
  | [] => [(k, v)]
  | (k', v') :: t =>
    if k < k' then (k, v) :: (k', v') :: t
    else if k = k' then (k, v) :: t
    else (k', v') :: insert t k v

/-- A sparse table with every entry of a key taken out. -/
def remove {α : Type} (m : List (Nat × α)) (k : Nat) : List (Nat × α) :=
  match m with
  | [] => []
  | (k', v') :: t => if k = k' then remove t k else (k', v') :: remove t k

/-- The value at a key, an unlisted key reading as `d`. -/
def readAt {α : Type} (d : α) (m : List (Nat × α)) (k : Nat) : α := (lookup m k).getD d

/-- A write that keeps the canonical form: writing what an unlisted key reads as takes the entry out. -/
def writeAt {α : Type} [DecidableEq α] (d : α) (m : List (Nat × α)) (k : Nat) (v : α) : List (Nat × α) :=
  if v = d then remove m k else insert m k v

/-- The canonical form: keys strictly rising, and no entry equal to what an unlisted key reads as. -/
def canonical {α : Type} [DecidableEq α] (d : α) : List (Nat × α) → Bool
  | [] => true
  | (k, v) :: t => decide (v ≠ d) && (match t with
      | [] => true
      | (k', _) :: _ => decide (k < k')) && canonical d t

/-- The whole number nearest to n / d, halves upward. -/
def divRound (n d : Nat) : Nat := (2 * n + d) / (2 * d)

/-- n / d rounded up. -/
def divCeil (n d : Nat) : Nat := (n + d - 1) / d

/-- A signed field of `n` bytes in a run of bytes, two's complement. -/
def signedField (b : Bytes) (off n : Nat) : Int :=
  let v := field b off n
  if v < 2 ^ (8 * n - 1) then v else (v : Int) - (2 ^ (8 * n) : Nat)

/-- A number of flag bits. -/
def bitsOf (l : List Bool) : Nat := l.foldr (fun b acc => (if b then 1 else 0) + 2 * acc) 0

end Sys2Proof.Machine
end

