-- ==== Sys2Proof/Machine/State.lean ====
section
/-! DEFINITION. The state of the block as plain data: every register, buffer, queue, counter, mode and pin the spec
names, each field's default being its value at reset. -/
namespace Sys2Proof.Machine

/-! ## Time, settings and the Almanac (01 R42 to R44, 16 R487 to R500) -/

/-- The timebases of R42 that are counters. -/
structure TimeState where
  /-- Milliseconds of operating time since the device was made: the operating hours of the Config Store
  and the time since on SYSREF (R42, R489). -/
  opMs : Nat := 0
  /-- The calendar in milliseconds since 1970, 48 bits; 0 while no calendar time is known (R10). -/
  calendar : BitVec 48 := 0
  /-- The power-cycle count of the Config Store (R42). -/
  powerCycles : Nat := 0
  deriving DecidableEq, Repr

/-- The severity of a record (R487). -/
inductive Severity where
  | info | notice | fault | critical
  deriving DecidableEq, Repr

/-- The number FLAGS [1:0] gives a severity (R487). -/
def Severity.toNat : Severity → Nat
  | .info => 0
  | .notice => 1
  | .fault => 2
  | .critical => 3

/-- A record in the staging area: it has no SEQUENCE yet (R492). -/
structure AlmStaged where
  code : Word16 := 0
  severity : Severity := .info
  /-- STAMP_KIND: true for a calendar stamp (R489). -/
  calStamp : Bool := false
  /-- SET: true for Meridian Set B (R487). -/
  setB : Bool := false
  /-- BOOT: staged by the boot ROM (R487). -/
  boot : Bool := false
  powerCycle : Nat := 0
  firstStamp : Word64 := 0
  params : Bytes := []
  deriving DecidableEq, Repr

/-- A programmed record (R487) with the slot it lies in (R491). -/
structure AlmRecord where
  body : AlmStaged := {}
  sequence : Nat := 0
  prevChain : Word32 := 0
  chain : Word32 := 0
  /-- LAST_STAMP and REPEAT once the close has programmed them; none while the record is open (all ones). -/
  closed : Option (Word64 × Nat) := none
  /-- FLAGS [7]: held, or removed (R493). -/
  live : Bool := true
  sector : Nat := 0
  slot : Nat := 0
  deriving DecidableEq, Repr

/-- The newest record while it is open: its REPEAT and LAST_STAMP in management SRAM (R490). -/
structure AlmOpen where
  body : AlmStaged := {}
  repeats : Nat := 1
  lastStamp : Word64 := 0
  deriving DecidableEq, Repr

/-- A line of the console (R535): a boot step that begins or ends, or a record that receives its SEQUENCE. -/
inductive UartLine where
  | step (k : Nat) (ended : Bool)
  | rec_ (sequence code severity : Nat)
  deriving DecidableEq, Repr

/-- The Almanac: staging and open record (management SRAM), records and their sectors (Config Store), and
the ALM_ registers (R487 to R499). -/
structure AlmState where
  /-- Staged records, in the order of their acceptance (R492), each with its close if it has been closed. -/
  staged : List (AlmStaged × Option (Word64 × Nat)) := []
  /-- The open record, newest of all (R490). -/
  openRec : Option AlmOpen := none
  /-- Every slot that is not erased, in SEQUENCE order (R491). -/
  records : List AlmRecord := []
  /-- The write sector, the spare and the next free slot of the write sector (R491, R494); 258 sectors. -/
  writeSector : Nat := 0
  spareSector : Nat := 257
  writeSlot : Nat := 0
  /-- The SEQUENCE the next record takes; it is never reused (R487). -/
  nextSequence : Nat := 0
  /-- CHAIN of the newest record ever programmed (R487 PREV_CHAIN). -/
  lastChain : Word32 := 0
  /-- Drop counters for Info, Notice, Fault, Critical (R492) and their saved copies. -/
  drops : Vector Nat 4 := Vector.replicate 4 0
  dropsSaved : Vector Nat 4 := Vector.replicate 4 0
  /-- ALM_CURSOR_HI:LO (R496). -/
  cursor : Word64 := 0
  /-- ALM_STATUS READY, INDEXED and CLEARING (R496). -/
  ready : Bool := false
  indexed : Bool := false
  clearing : Bool := false
  /-- During a clear: sectors still to be erased, whether an erase failed, and the mailbox command that waits for the end (R498). -/
  clearLeft : List Nat := []
  clearFailed : Bool := false
  clearWaiter : Option (Nat × Nat) := none
  /-- ALM_EVENT SEVERITY [3:0], RW1C (R496). -/
  event : BitVec 4 := 0
  /-- The window snapshot: the bytes of each record shown (R497). -/
  window : List Bytes := []
  /-- Whether step 6 has loaded the STAMP setting, before which every stamp is operating time (R489). -/
  stampLoaded : Bool := false
  /-- Lines sent on UART_TXD, oldest first (R535). -/
  uart : List UartLine := []
  deriving DecidableEq, Repr

/-- The settings of the Config Store (R372): family (high byte of the mailbox opcode), index and NSID (0 but for a
per-namespace setting) with the value, for the settings that do not hold their default, in rising key order. -/
abbrev Settings := List ((Nat × Nat × Nat) × Nat)

/-- What a settings table says of one setting: default, bounds in force, and the form of an allowed value: 0 any value
within the bounds, 1 even, 2 a multiple of 256 MiB, 3 zero or within the bounds. -/
structure SettingInfo where
  dflt : Nat
  lo : Nat
  hi : Nat
  form : Nat := 0
  deriving DecidableEq, Repr

/-! ## Firmware slots and handover (16 R501 to R513) -/

/-- STATE of a slot record (R502). -/
inductive SlotState where
  | empty | committed | invalid
  deriving DecidableEq, Repr

/-- A firmware slot: its image bytes and its record (R502). -/
structure FwSlot where
  image : Bytes := []
  state : SlotState := .empty
  fwVersion : Bytes := []
  digest : Digest := 0
  rollback : Nat := 0
  countersignature : Option Signature := none
  keyIndex : Nat := 0
  deriving DecidableEq, Repr

/-- Where a Firmware Commit with action 3 stands (R510). -/
inductive HandoverPhase where
  | none | loading | rolling | stalled
  deriving DecidableEq, Repr

/-- LAST_ACTIVATION of FW_STATUS (R512). -/
structure FwState where
  slots : Vector FwSlot 2 := #v[{ state := .committed }, {}]
  /-- The slot whose image runs, and the slot the firmware record names for the next start (R502). -/
  activeSlot : Fin 2 := 0
  namedSlot : Fin 2 := 0
  /-- The anti-rollback counter, 0 to 1,024 (R502, R503). -/
  antiRollback : Nat := 0
  /-- Staged package blocks: byte offset and bytes, in the order of arrival (R505). -/
  staged : List (Nat × Bytes) := []
  /-- A Commit is running: the command that issued it (function, queue, command identifier) and its action. -/
  commit : Option (Nat × Nat × Nat × Nat) := none
  handover : HandoverPhase := .none
  /-- LAST_ACTIVATION: 0 none, 1 activated, 2 image failed, 3 incompatible (R512). -/
  lastActivation : Nat := 0
  /-- POLICY [0]: Custodian countersignature required (R371, R508). -/
  policy : Bool := false
  /-- Channels that run the new microcode during the roll (R511). -/
  microcodeRolled : Nat := 0
  /-- The Meridian set that is active: false Set A, true Set B (R18). -/
  setB : Bool := false
  /-- Fetching is stalled for the handover (R39). -/
  intakeStalled : Bool := false
  /-- Whether step 13 has already raised the counter for the image that runs (R503). -/
  firstStartDone : Bool := false
  /-- Resets that came during the stall and run after it (R513): function, and 0 CC.EN clear, 1 FLR, 2 Bus Master Enable clear. -/
  deferred : List (Nat × Nat) := []
  deriving DecidableEq, Repr

/-! ## Carriers and media channels (02) -/

/-- The states of a carrier (R59). -/
inductive CarrierSt where
  | empty | debounce | powering | identifying | training | ready | inService | outOfService
  | emptyPending | failed | poweredDown | resuming
  deriving DecidableEq, Repr

/-- The fields of a Lomril descriptor copy that the controller uses (R55, R57). -/
structure Lomril where
  serial : Bytes := []
  maker : Bytes := []
  mfgYear : Nat := 2020
  mfgWeek : Nat := 1
  /-- CELL_TYPE: true for QLC, false for TLC. -/
  qlc : Bool := true
  caps : Nat := 0
  volumes : Nat := 1
  lunsPerVolume : Nat := 1
  planes : Nat := 4
  maxRate : Nat := 4
  pageData : Nat := 16384
  pageSpare : Nat := 2048
  pagesPerBlock : Nat := 256
  blocksPerPlane : Nat := 1024
  peRated : Nat := 1
  peRatedPslc : Nat := 1
  tProgMax : Nat := 1
  tBersMax : Nat := 1
  tReadMax : Nat := 1
  tSuspendMax : Nat := 1
  retryFeature : Nat := 0
  retryEntries : Nat := 1
  tempFeature : Nat := 0
  rechargeCmd : Nat := 0
  rechargePulses : Nat := 0
  progTempMin : Int := 0
  progTempMax : Int := 0
  /-- ENTRY_FLAGS SHIFTED of entries 0 to RETRY_ENTRIES - 1. -/
  shifted : List Bool := []
  eaMev : Nat := 1100
  dacStep : Nat := 1
  c0 : Int := 0
  c1 : Int := 0
  c2 : Int := 0
  c3 : Int := 0
  sweepLevel : Nat := 1
  peDerate : Nat := 0
  /-- The 1,024 bytes of the copy. -/
  bytes : Bytes := []
  deriving DecidableEq, Repr

/-- One carrier slot (R58 to R63). -/
structure CarrierState where
  st : CarrierSt := .empty
  /-- CARR_PRSNT_N is low. -/
  present : Bool := false
  /-- CARR_PRSNT_N is low at the pin itself, which a lost edge leaves different from what the controller has seen (R435). -/
  pin : Bool := false
  /-- CARR_PWR_EN is high. -/
  pwrEn : Bool := false
  /-- The four channels' pads are isolated (R58). -/
  padsIsolated : Bool := true
  /-- Presence has been low for 100 ms and the carrier waits for its turn to power up (R59). -/
  debounced : Bool := false
  /-- The 50 ms after power-up have passed (R59, R60). -/
  settled : Bool := false
  /-- Its channels have trained and block status is being loaded (R59). -/
  trained : Bool := false
  lomril : Option Lomril := none
  /-- SERIAL of the carrier last identified in the slot: what its dies hold is kept with it. -/
  lastSerial : Bytes := []
  /-- Which copy is in use: 0 primary, 1 secondary (R54). -/
  copyUsed : Nat := 0
  /-- Read-only service: the effective window is empty (R56). -/
  readOnly : Bool := false
  /-- The trained rate, and the rate of the last successful training (R62, R63): 0 = 800 to 4 = 2400 MT/s. -/
  rate : Nat := 0
  lastRate : Option Nat := none
  /-- The state left at entry to Eclipse and the SERIAL recorded then (R59). -/
  stateLeft : CarrierSt := .empty
  serialLeft : Bytes := []
  /-- A Media Direct PROGRAM, ERASE or RECHARGE has run on the carrier while out of service (R96). -/
  mdTouched : Bool := false
  /-- Every block outside the reserved ones erased since the array record was last cleared (R174). -/
  erasedSinceClear : Bool := false
  /-- The carrier has been in service before, so block status is in its metadata blocks (R59, R97). -/
  servicedBefore : Bool := false
  /-- A target on the carrier's I3C bus is a legacy I2C device (R47). -/
  legacyI2c : Bool := false
  /-- Volumes appointed on the chip enable of each of its channels at this start, 0 to VOLUMES (R48). -/
  appointed : Nat := 0
  /-- Its queues drain towards a removal (1) or towards out of service (2); 0 while nothing drains (R59). -/
  drain : Nat := 0
  deriving DecidableEq, Repr

/-- Good, grown-bad or factory-bad (R70, R72). -/
inductive BlockHealth where
  | good | grownBad | factoryBad
  deriving DecidableEq, Repr

/-- A block status entry (R72) and its retention entry (R110). -/
structure BlockStatus where
  /-- Write pointer; none while undefined after an interrupted erase (R85). -/
  wp : Option Nat := some 0
  pe : Nat := 0
  rch : Nat := 0
  failFlag : Bool := false
  health : BlockHealth := .good
  stamp : Nat := 0
  /-- B_eff in units of 8 EqH (R110). -/
  budget : Nat := 0
  /-- 0 class A, 1 class B, 2 class C, 3 not yet measured (R110). -/
  margin : Nat := 3
  /-- 0 none, 1 Recharge pass queued or running, 2 relocation queued or running (R110). -/
  queued : Nat := 0
  dawnPending : Bool := false
  patrol : Nat := 0
  deriving DecidableEq, Repr

/-- Whose descriptor it is: what happens to the rest of the machine when it completes. -/
inductive Owner where
  | plain
  | stripeUnit (band stripe slot : Nat)
  | xorUnit (band group slot : Nat)
  | ring (n : Fin 4)
  deriving DecidableEq, Repr

/-- A descriptor in a queue, with what its buffer holds for a program or Recharge. -/
structure QEntry where
  desc : MediaDesc := {}
  payload : PageContent := .raw []
  owner : Owner := .plain
  /-- An exempt program of R78, in a reserved Q1 slot. -/
  exempt : Bool := false
  /-- Order of submission over the whole device (R65). -/
  order : Nat := 0
  deriving DecidableEq, Repr

/-- A completion entry (R69). -/
structure MediaCompletion where
  tag : Word16 := 0
  status : Nat := 0
  decodeStep : Nat := 0
  retryEntry : Nat := 0
  dieStatus : Nat := 0
  temperature : Int := 0
  suspends : Nat := 0
  corrected : Nat := 0
  pulses : Nat := 0
  queue : Nat := 0
  elapsed : Nat := 0
  deriving DecidableEq, Repr

/-- An operation started on a LUN. -/
structure RunningOp where
  entry : QEntry := {}
  queue : Fin 4 := 0
  suspends : Nat := 0
  deriving DecidableEq, Repr

/-- A LUN: its latest temperature reading, failure state, features and what it runs (R33, R70, R74, R80). -/
structure LunState where
  /-- Latest die temperature since the carrier was last powered; none before the first (R33). -/
  temp : Option Int := none
  /-- Inside the program window at the latest housekeeping reading (R77, R460). -/
  inside : Bool := false
  /-- Successive rounds without an answer, and whether the Notice of R456 is written. -/
  missed : Nat := 0
  noticed : Bool := false
  timeouts : Nat := 0
  failed : Bool := false
  running : Option RunningOp := none
  /-- A program or erase suspended by a running Q0 read (R80). -/
  suspended : Option RunningOp := none
  /-- Feature parameters written by SET_FEATURES: address and four bytes. -/
  features : List (Nat × Bytes) := []
  deriving DecidableEq, Repr

/-- A media channel: four submission queues, the completion queue, and its clocking (R64). -/
structure ChannelState where
  q : Vector (List QEntry) 4 := Vector.replicate 4 []
  halted : Vector Bool 4 := Vector.replicate 4 false
  cq : List MediaCompletion := []
  /-- ZQ calibrations issued, and whether one is due (R49). -/
  zqCount : Nat := 0
  /-- Interrupts to the producer of each queue, raised by completions of descriptors with IRQ set (R66). -/
  irqs : Vector Nat 4 := Vector.replicate 4 0
  deriving DecidableEq, Repr

/-- One Media Direct ring (R92, R93). -/
structure MdRing where
  channel : Channel := 0
  tail : Nat := 0
  head : Nat := 0
  pending : Nat := 0
  err : Bool := false
  /-- LAST_ERR: 0 none, 1 DESC_COUNT, 2 RING_FULL, 3 HALTED. -/
  lastErr : Nat := 0
  halted : Bool := false
  /-- Completion ring: entries written by the controller in order, the next slot, and the host's HEAD. -/
  cqTail : Nat := 0
  cqHead : Nat := 0
  /-- Descriptors of this ring copied into Q3 and not completed. -/
  inQ3 : Nat := 0
  deriving DecidableEq, Repr

/-- A word of the Config Store: value and programs since its sector's erase (R88). -/
structure CsWord where
  value : Word64 := BitVec.allOnes 64
  programs : Nat := 0
  /-- The fail flag of a word that failed verify (R70 CS_VERIFY_FAIL). -/
  failed : Bool := false
  deriving DecidableEq, Repr

/-- A word of the Boot Ledger (R387); every field reads all ones until programmed. -/
structure LedgerWord where
  beginMark : Nat := 0xFF
  mode : Nat := 0xFF
  startLo : Nat := 0xFFFF
  endMark : Nat := 0xFF
  result : Nat := 0xFF
  elapsed : Nat := 0xFFFF
  deriving DecidableEq, Repr

/-- The carry record (R389). -/
structure CarryRecord where
  erases : Nat := 0
  firstStart : Nat := 0
  failCount : Vector Nat 16 := Vector.replicate 16 0
  lastStart : Nat := 0
  deriving DecidableEq, Repr

/-- An open-band summary record (R186). -/
structure SummaryRecord where
  /-- 1 OPEN, 2 CLOSED, 3 COMPACT. -/
  type : Nat := 1
  stream : Nat := 0
  group : Nat := 0
  band : Nat := 0
  msn : Nat := 0
  deriving DecidableEq, Repr

/-- Work of the Config Store queue (R87): the descriptor, and for a program what its buffer holds and the word whose verify fails. -/
inductive CsOp where
  | read (d : CsDesc) (buffer : Nat)
  | program (d : CsDesc) (data : Bytes) (failAt : Option Nat)
  | erase (d : CsDesc)
  /-- A Boot Ledger word and what it is programmed to (R388). -/
  | ledger (word : Nat) (w : LedgerWord)
  /-- An open-band summary record to be appended (R186). -/
  | summary (x : SummaryRecord)
  /-- An erase of the Boot Ledger, with the carry record to program after it (R390). -/
  | ledgerErase (carry : CarryRecord)
  /-- An erase of an Almanac sector in a clear (R495, R498). -/
  | almErase (sector : Nat)
  deriving DecidableEq, Repr

/-- The Media Controller and the media behind it. -/
structure MediaState where
  carriers : Vector CarrierState 16 := Vector.replicate 16 {}
  channels : Vector ChannelState 64 := Vector.replicate 64 {}
  /-- LUNs by device-wide index 128 * channel + L (R48). -/
  luns : List (Nat × LunState) := []
  /-- The order the next submitted descriptor takes. -/
  nextOrder : Nat := 0
  /-- Block status by 65536 * device-wide LUN + block. -/
  blocks : List (Nat × BlockStatus) := []
  /-- Programmed pages by 4096 * block key + page. -/
  pages : List (Nat × PageContent) := []
  /-- Pages left partly programmed, with what their program was to write (R75). -/
  partly : List (Nat × PageContent) := []
  /-- On-die buffers that Q0 to Q2 and the Config Store queue deliver to, by on-die address (R20, R66). -/
  onDie : List (Nat × Byte) := []
  /-- Metadata and tags delivered beside the blocks of a decoded read, by its queue and BUFFER, the latest for each (R68). -/
  readMeta : List ((Nat × Nat) × List Bytes) := []
  /-- Config Store words by address / 8, the sectors marked failed, and an erase in progress with its suspends. -/
  cs : List (Nat × CsWord) := []
  csFailedSectors : List Nat := []
  /-- Sectors whose records CS_ERASE has erased in the die while State still holds them as the device has them in use (R86). -/
  csShadow : List Nat := []
  csErase : Option (Nat × Nat) := none
  /-- The erase is the controller's own, of records that State holds: an Almanac sector, the open-band summary or the ledger (R90). -/
  csOwn : Bool := false
  /-- Work that waits behind an erase, in submission order (R90). -/
  csWaiting : List CsOp := []
  /-- The last Config Store completion: status and failing byte offset (R88), and the last bytes read. -/
  csStatus : Nat := 0
  csOffset : Nat := 0
  csTag : Word16 := 0
  csData : Bytes := []
  /-- Media Direct: ENABLED, BUFFERS_READY, a disable in progress, and the four rings (R91 to R94). -/
  mdEnabled : Bool := false
  mdPowered : Bool := false
  mdDisabling : Bool := false
  /-- The Media Direct share in percent (R64, R371 MD_ENABLE). -/
  mdShare : Nat := 10
  rings : Vector MdRing 4 := Vector.replicate 4 {}
  /-- Ring memory and buffer area by BAR2 offset; a byte not listed is uninitialised (R91). -/
  mdMem : List (Nat × Byte) := []
  /-- Buffer words with an uncorrectable error, by BAR2 offset / 8 (R417). -/
  mdBadWords : List Nat := []
  deriving DecidableEq, Repr

/-! ## Translation: map, bands, cache, journal (04) -/

/-- What the map says of one block that is not deallocated (R134). -/
inductive MapEntry where
  | mapped (band offset : Nat)
  | lost
  | zero
  deriving DecidableEq, Repr

/-- The three write streams and the emergency stream (R141, R143). -/
inductive Stream where
  | cirrus | stratus | nimbus | emergency
  deriving DecidableEq, Repr

/-- The states of a band (R142). -/
inductive BandSt where
  | opened | closing | closed | relocating | eraseList
  deriving DecidableEq, Repr

/-- An extent of a band's summary: a run of LBAs written to consecutive offsets (R145). -/
structure Extent where
  nsid : Nat := 0
  lba : Nat := 0
  count : Nat := 0
  offset : Nat := 0
  void : Bool := false
  deriving DecidableEq, Repr

/-- A block read for relocation: its codeword, which travels unchanged (R137), and where it was read (R152). -/
structure GatherBlock where
  cw : Codeword := {}
  src : Option (Nat × Nat) := none
  deriving DecidableEq, Repr

/-- One data block of a stripe being written. -/
structure StripeBlock where
  nsid : Nat := 0
  lba : Nat := 0
  msn : Nat := 0
  /-- For a relocation, where the block was copied from (R152); none for a destaged line or pad. -/
  src : Option (Nat × Nat) := none
  /-- Its span is destaged together into 256 consecutive offsets (R135). -/
  whole : Bool := false
  deriving DecidableEq, Repr

/-- A stripe handed to the Codec and not yet committed (R180, R182): its 240 blocks in offset order and, for each of
the sixteen slots, whether the unit is still being programmed, done, or failed with its slot. -/
structure StripeFlight where
  band : Nat := 0
  stripe : Nat := 0
  blocks : List StripeBlock := []
  /-- Per slot: 0 in flight, 1 completed with SUCCESS, 2 slot failed, 3 program failed. -/
  units : Vector Nat 16 := Vector.replicate 16 0
  /-- Units that wait for their group's inner XOR page on the same block (R181): slot and content. -/
  held : List (Nat × PageContent) := []
  deriving DecidableEq, Repr

/-- A substitute block of a band (R193, R194). -/
structure Subst where
  slot : Nat := 0
  pos : Nat := 0
  /-- 1 allocated, 2 image complete, 3 being copied back. -/
  state : Nat := 1
  host : Nat := 0
  hostPos : Nat := 0
  block : Nat := 0
  deriving DecidableEq, Repr

/-- An exception of a band: stripe or group, kind (1 UNPROTECTED, 2 INNER_GAP, 3 PROGRAM_FAILED) and slot (R194). -/
structure BandException where
  index : Nat := 0
  kind : Nat := 1
  slot : Nat := 0
  deriving DecidableEq, Repr

/-- A band: its record (R141), its blocks, its summary and filter (R145), its stripe journal entry (R185) and its
redundancy band entry (R194). -/
structure Band where
  st : BandSt := .opened
  stream : Stream := .cirrus
  group : Nat := 0
  short : Bool := false
  abandoned : Bool := false
  secure : Bool := false
  summaryLost : Bool := false
  written : Nat := 0
  openMsn : Nat := 0
  closeMsn : Nat := 0
  closeTc : Nat := 0
  summaryStripe : Nat := 0
  summaryBytes : Nat := 0
  /-- Block keys, in the order slot, channel, LUN (R140). -/
  blocks : List Nat := []
  extents : List Extent := []
  /-- The bits of the span filter that are set, of its 32,768 (R145). -/
  filter : List Nat := []
  /-- Next stripe to assign. -/
  nextStripe : Nat := 0
  doneGroup : Nat := 0
  declGroup : Nat := 0
  /-- Groups declared in the journal durably (R184). -/
  declDurable : Nat := 0
  /-- Inner XOR pages programmed, as 16 * group + slot (R181). -/
  xorDone : List Nat := []
  /-- Relocation wanted once CLOSED, and at the head of collection (R26, R159, R189). -/
  scheduled : Bool := false
  headOfCollection : Bool := false
  /-- 0 not queued for retention, 1 Recharge pass, 2 relocation (R114). -/
  retQueued : Nat := 0
  retHead : Bool := false
  passRunning : Bool := false
  /-- A running pass: T_c of each carrier when it began, blocks completed with the class of their pre-reads, pages of the next block done and
  the worst class of those (R117, R119). -/
  passTc : List Nat := []
  passDone : List (Nat × Nat) := []
  passPage : Nat := 0
  passMargin : Nat := 3
  substSlot : Option Nat := none
  substs : List Subst := []
  rebuildDone : Bool := false
  rebuildGroup : Nat := 0
  resyncDone : Bool := false
  resyncGroup : Nat := 0
  reshaped : Bool := false
  lostFlag : Bool := false
  exceptions : List BandException := []
  /-- RELEASE and the relocation commits are durable (R157). -/
  releaseDurable : Bool := false
  deriving DecidableEq, Repr

/-- The types of a journal record (R151). -/
inductive JrnType where
  | map | dealloc | zero | relocate | lost | sealed | unsealed | release | erased | bandOpen | bandClose
  | nsSegment | segmentCheckpoint
  deriving DecidableEq, Repr

/-- A map journal record (R151). -/
structure JrnRecord where
  type : JrnType := .map
  secure : Bool := false
  nsid : Nat := 0
  count : Nat := 1
  lba : Nat := 0
  band : Nat := 0
  offset : Nat := 0
  srcBand : Nat := 0
  srcOffset : Nat := 0
  msn : Nat := 0
  /-- MAP and RELOCATE: the block's span was destaged together (R135). -/
  whole : Bool := false
  /-- For BAND_OPEN the band as R140 forms it, for BAND_CLOSE as it closes: what a replay finds again from the block status entries, the
  band's summary and its pages. -/
  formed : Option Band := none
  deriving DecidableEq, Repr

/-- The part of the map that checkpoints capture and the journal changes. -/
structure MapCore where
  /-- Entries by NSID * 2^48 + LBA; a block not listed is deallocated (R133, R134). -/
  entries : List (Nat × MapEntry) := []
  /-- Sealed spans by NSID * 2^40 + span (R133 SEALED). -/
  sealed : List (Nat × Unit) := []
  bands : List (Nat × Band) := []
  /-- The segment tables: of each NSID the runs of span-map positions, in segments, that its segments have, as first and count (R131). -/
  segs : List (Nat × List (Nat × Nat)) := []
  /-- The FINE_INDEX of every span that has a fine map, by NSID * 2^40 + span (R133). -/
  fine : List (Nat × Nat) := []
  /-- Where a span was destaged together, as band and offset of its first block (R135). -/
  direct : List (Nat × (Nat × Nat)) := []
  deriving DecidableEq, Repr

/-- A piece of a checkpoint (R153): a map segment of a namespace, a band record, or the status and retention entries of a block. -/
inductive Piece where
  | segment (nsid index : Nat)
  | band (n : Nat)
  | block (key : Nat)
  deriving DecidableEq, Repr

/-- A complete checkpoint: the map as captured, and the journal position and MSN it began at (R153). -/
structure Checkpoint where
  core : MapCore := {}
  msn : Nat := 0
  journalFrom : Nat := 0
  /-- The block status and retention entries as captured (R72, R110). -/
  blocks : List (Nat × BlockStatus) := []
  /-- Its pieces, each with the MSN current when it was captured (R153). -/
  pieces : List (Piece × Nat) := []
  /-- The 15 + 1 XOR stripes it takes on the metadata blocks (R153). -/
  stripes : Nat := 0
  /-- DIRTY and IN_FLIGHT of each mirror and of the migration as captured (R269, R277). -/
  mirrorBits : List (Nat × List Nat × List Nat) := []
  migBits : Option (Nat × List (Nat × Nat) × List (Nat × Nat)) := none
  deriving DecidableEq, Repr

/-- The four states of a cache line (R147); FREE lines are not listed. -/
inductive LineSt where
  | dirty | destaging | clean
  deriving DecidableEq, Repr

/-- A write-cache line (R147 to R149). -/
structure CacheLine where
  nsid : Nat := 0
  lba : Nat := 0
  msn : Nat := 0
  data : Bytes := []
  md : Bytes := []
  st : LineSt := .dirty
  /-- A later write or deallocation has been accepted (R148). -/
  superseded : Bool := false
  /-- Not acknowledged: the write whose completion clears the mark and whose abort or reset drops the line (R320). -/
  provisional : Option CmdRef := none
  /-- Bound to Stratus by a seal (R143, R230). -/
  stratus : Bool := false
  /-- Requested by a write shorter than 64 KiB or to a hot span (R143). -/
  cirrus : Bool := false
  /-- The commit's MAP record is written and waits to be durable (R149). -/
  committed : Bool := false
  /-- Its frame in each half of the write cache: frame n lies at 4096 * n (R147, R402). A CLEAN line has left its frame. -/
  frame : Nat := 0
  deriving DecidableEq, Repr

/-- A slot of the emergency band after a flush (R167): the tag, the data, and VALID or LOST. -/
structure EmergencySlot where
  nsid : Nat := 0
  lba : Nat := 0
  msn : Nat := 0
  data : Bytes := []
  md : Bytes := []
  lost : Bool := false
  fromMirror : Bool := false
  /-- The media key the slot is encrypted under; `data` and `md` are the plaintext (R167, R222). -/
  enc : Option (BitVec 256) := none
  /-- LBA format index of the namespace (R167). -/
  lbaf : Nat := 0
  deriving DecidableEq, Repr

/-- An emergency flush on media (R165 to R168). -/
structure EmergencyFlush where
  epoch : Nat := 0
  /-- 1 PWRFAIL_N, 2 DRAM freeze, 3 shutdown, 4 write-path fault. -/
  cause : Nat := 1
  flushMsn : Nat := 0
  calendar : Nat := 0
  journal : List JrnRecord := []
  slots : List EmergencySlot := []
  lastWritten : Bool := false
  applied : Bool := false
  /-- The emergency band the flush was written to. -/
  band : Nat := 0
  /-- Die temperature of each page at program, the XOR pages last of their stripes (R34, R167). -/
  temps : List Int := []
  deriving DecidableEq, Repr

/-- The Translation Engine and the write cache. -/
structure MapState where
  core : MapCore := {}
  /-- The next map sequence number (R138). -/
  msn : Nat := 1
  /-- The number of the next band to form. -/
  nextBand : Nat := 0
  stripes : List StripeFlight := []
  /-- The inner XOR accumulated for groups still being gathered (R24 step 8), by 16 * (2^20 * band + group) + slot. -/
  xorAcc : List (Nat × Bytes) := []
  /-- Blocks read for relocation that wait for a Nimbus stripe (R157). -/
  gather : List GatherBlock := []
  /-- Records in the tail buffer, oldest first (R151), and the durable journal since the secondary checkpoint. -/
  tail : List JrnRecord := []
  journal : List JrnRecord := []
  /-- Journal pages written durably. -/
  pages : Nat := 0
  primary : Checkpoint := {}
  secondary : Checkpoint := {}
  /-- Operating milliseconds when the primary began, and journal records released before the list (R154). -/
  cycleStartMs : Nat := 0
  /-- Changes wait at JOURNAL_LIMIT (R154). -/
  journalFull : Bool := false
  /-- Effective open-band counts for Cirrus, Stratus and Nimbus (R144). -/
  openCounts : Vector Nat 3 := #v[4, 8, 4]
  /-- Consolidation runs (R136). -/
  consolidating : Bool := false
  lines : List CacheLine := []
  /-- A started emergency flush, those on media, and the next EPOCH (R166, R167). -/
  emergency : List EmergencyFlush := []
  nextEpoch : Nat := 1
  emergencyReady : Bool := false
  /-- Number and block keys of the emergency band formed at this start (R165). -/
  emergencyBand : Nat := 0
  emergencyBlocks : List Nat := []
  /-- The same blocks by slot and LUN of the slot, those of a substituted slot on their hosts (R165, R193). -/
  emergencyPlan : List (List Nat) := []
  /-- The band that each stream dealt its last stripe to (R144). -/
  lastDealt : Vector (Option Nat) 3 := Vector.replicate 3 none
  /-- Spans whose destaging as a whole has begun and not ended (R135): key, band and offset of the first block. -/
  wholes : List (Nat × (Nat × Nat)) := []
  /-- Metadata pages programmed on each carrier so far: where the next one goes (R53, R151, R153). -/
  metaNext : Vector Nat 16 := Vector.replicate 16 0
  /-- Spans by NSID * 2^40 + span and the operating ms of their last write (R143 HOT_WINDOW). -/
  spanWritten : List (Nat × Nat) := []
  /-- Clean stop recorded in the Config Store (R172). -/
  cleanStop : Bool := false
  /-- Secure Deallocates that run on without a command, after a restart or a reset (R162, R351): NSID, LBA, count. -/
  secureJobs : List (Nat × Nat × Nat) := []
  /-- What a reset leaves on media for step 12: bands marked SECURE (R162), the last page's stripe journal as band, DONE_GROUP and
  DECL_GROUP (R185), and namespaces whose creation was not durable. -/
  secureBands : List Nat := []
  stripeJournal : List (Nat × Nat × Nat) := []
  undurable : List Nat := []
  deriving DecidableEq, Repr

/-! ## Redundancy across carriers (05) -/

/-- The array states (R204); none before an array is formed. -/
inductive ArraySt where
  | none | normal | degraded | spared | evacuating | copyback | held | heldReadOnly
  deriving DecidableEq, Repr

/-- The role of a slot (R210). -/
inductive SlotRole where
  | empty | member | failed | outOfService | retiring | vacated | replacement | nonMember
  deriving DecidableEq, Repr

/-- The geometry fields of R176. -/
structure Geometry where
  qlc : Bool := true
  volumes : Nat := 1
  lunsPerVolume : Nat := 1
  planes : Nat := 4
  pageData : Nat := 16384
  pageSpare : Nat := 2048
  pagesPerBlock : Nat := 256
  blocksPerPlane : Nat := 1024
  deriving DecidableEq, Repr

/-- The reshape record (R206). -/
structure Reshape where
  /-- 1 evacuation, 2 copyback. -/
  kind : Nat := 1
  slot : Nat := 0
  /-- Lowest band not yet reshaped and checkpointed. -/
  boundary : Nat := 0
  /-- Lowest band not yet copied. -/
  position : Nat := 0
  serial : Bytes := []
  startHours : Nat := 0
  finalSweep : Nat := 0
  deriving DecidableEq, Repr

/-- A lost-stripe list entry (R202). -/
structure LostStripe where
  band : Nat := 0
  stripe : Nat := 0
  lostSlots : BitVec 16 := 0
  flags : Nat := 0
  blocks : Nat := 0
  deriving DecidableEq, Repr

/-- Carrier Redundancy: the array record and the activities (R174, R204, R210). -/
structure RedState where
  st : ArraySt := .none
  geometry : Geometry := {}
  serials : Vector Bytes 16 := Vector.replicate 16 []
  roles : Vector SlotRole 16 := Vector.replicate 16 .empty
  failedSlot : Option Nat := none
  /-- State before HELD, and HELD_CAUSE (0 none, 1 second error, 2 member failure). -/
  before : ArraySt := .none
  heldCause : Nat := 0
  /-- The slots that had failed before the event that caused Held (R203). -/
  failedBeforeHeld : Option Nat := none
  /-- Members that have come back for resumption (R203). -/
  returned : List Nat := []
  resyncRunning : Bool := false
  /-- First phase (groups in flight) still to be read, as (band, group) (R187, R188). -/
  resyncFirst : List (Nat × Nat) := []
  /-- Lowest band and group the background phase has not read. -/
  resyncPos : Nat × Nat := (0, 0)
  /-- Groups that the first phase has read, which the background phase passes over (R188). -/
  resyncRead : List (Nat × Nat) := []
  resyncSaved : Option (Nat × Nat) := none
  rebuildRunning : Bool := false
  rebuildDeferred : Bool := false
  /-- Bands formed from this number on were formed in the member's absence (R204). -/
  absentFrom : Nat := 0
  reshape : Option Reshape := none
  lostStripes : List LostStripe := []
  /-- Carriers that wait READY to be offered again (R208). -/
  waiting : List Nat := []
  /-- Carriers READY and not yet offered, until step 11 (R59). -/
  offeringOpen : Bool := false
  /-- Failed LUNs being rebuilt: device-wide LUN (R198). -/
  lunRebuilds : List Nat := []
  /-- The open-band summary in the Config Store: bands OPEN and not CLOSED (R186). -/
  openSummary : List Nat := []
  /-- Its records in the two sectors of the Config Store, and the active sector (R177, R186). -/
  summarySectors : Vector (List SummaryRecord) 2 := Vector.replicate 2 []
  summaryActive : Nat := 0
  deriving DecidableEq, Repr

/-! ## Retention (03) -/

/-- One copy of a Polestar generation on a channel (R100, R101). -/
structure PolestarCopy where
  /-- The header is present and valid. -/
  valid : Bool := false
  /-- The block is marked grown-bad. -/
  bad : Bool := false
  rotation : Nat := 0
  stampEqh : Nat := 0
  calendar : Nat := 0
  opHours : Nat := 0
  progTemp : Int := 0
  baseShift : Int := 0
  seed : Nat := 0
  peCount : Nat := 0
  serial : Bytes := []
  /-- The previous valley in eighths of a step (R105). -/
  valley : Int := 0
  deriving DecidableEq, Repr

/-- The Starlight clock and retention state of a carrier (R97 to R109, R121). -/
structure StarCarrier where
  /-- T_c in whole EqH, and its fraction in units of 10^-12 EqH (R97, R98). -/
  tc : BitVec 32 := 0
  frac : Nat := 0
  /-- Operating ms of the last housekeeping reading that answered, or of power-up (R98). -/
  lastReadMs : Nat := 0
  lastTemp : Int := 30
  /-- Generations 0 to 7, four copies each: index 4 * generation + channel. -/
  copies : Vector PolestarCopy 32 := Vector.replicate 32 {}
  /-- T_c of the last block status checkpoint (R97, R99). -/
  tcCheckpoint : Nat := 0
  darkAccrual : Nat := 0
  dawnPending : Bool := false
  powerUpSweepDone : Bool := false
  /-- A sweep is due: daily, or power-up (R104). -/
  sweepDue : Bool := false
  sweepDaily : Bool := false
  fallback : Bool := false
  disagreement : Bool := false
  usableGens : Nat := 0
  youngest : Option Nat := none
  uncertainty : Nat := 0
  lastSweepHours : Nat := 0
  coeffOk : Bool := true
  /-- A reprogram is due, and for which generations (R102, R109). -/
  reprogramDue : List Nat := []
  /-- Generations of first service not yet programmed, whose STAMP_EQH will be 0 (R103). -/
  firstDue : List Nat := []
  /-- The generations that are usable (R102, R105). -/
  usable : List Nat := []
  recharged : Nat := 0
  relocated : Nat := 0
  /-- The Dawn scan runs on this carrier, and has completed since power-up (R121, R129). -/
  scanning : Bool := false
  scanDone : Bool := false
  deriving DecidableEq, Repr

/-- The Retention scheduler (R114, R127, R129). -/
structure RetState where
  car : Vector StarCarrier 16 := Vector.replicate 16 {}
  /-- 0 idle, 1 running, 2 complete, 3 complete with shortfall. -/
  prepareState : Nat := 0
  prepareTarget : Nat := 0
  /-- The bands that the preparation queued or found queued, and whether one of them cannot reach the target (R127). -/
  prepareBands : List Nat := []
  prepareShort : Bool := false
  /-- Bands relocated because a fresh stamp would fall short, and the bands their data went to (R127). -/
  prepareStuck : List Nat := []
  prepareInto : List Nat := []
  passesDone : Nat := 0
  relocationsDone : Nat := 0
  /-- Blocks the Dawn scan began with, for DAWN_PERCENT. -/
  dawnTotal : Nat := 0
  deriving DecidableEq, Repr

/-! ## Integrity, keys and seals (06) -/

/-- The states of a seal table entry (R235). -/
inductive SealSt where
  | sealing | issued | unsealed | received
  deriving DecidableEq, Repr

/-- A seal: its table entry (R235), the stored levels (R233), its record and custody records (R236, R246). -/
structure Seal where
  id : Nat := 0
  nsid : Nat := 0
  st : SealSt := .sealing
  auditResult : Nat := 0
  slba : Nat := 0
  spans : Nat := 0
  auditHours : Nat := 0
  badSpan : Nat := 0xFFFFFFFF
  treeLoc : Nat := 0
  recordLoc : Nat := 0
  /-- Level 8 and above, each level's nodes in order, lowest level first (R232, R233). -/
  levels : List (List Digest) := []
  record : Bytes := []
  custody : List Bytes := []
  /-- A Seal, Audit Range or SEAL_XFER on the seal is running (R240). -/
  busy : Bool := false
  deriving DecidableEq, Repr

/-- A key table entry of a live key (R224, R225). -/
structure MediaKey where
  key : BitVec 256 := 0
  gen : Nat := 0
  /-- Its entry in both copies of the table, and the entry's IV (R224). -/
  slot : Nat := 0
  iv : Nat := 0
  /-- The entry verifies in the first and in the second copy. -/
  copy1 : Bool := true
  copy2 : Bool := true
  deriving DecidableEq, Repr

/-- The Seal Engine and the key tables. -/
structure SealState where
  seals : List Seal := []
  /-- The next SEAL_ID (R235). -/
  nextId : Nat := 1
  /-- Next free offset of the seal store. -/
  storeNext : Nat := 2 ^ 30
  /-- Key table by NSID, and the entries already used up in each 64 KiB copy (R224, R225). -/
  keys : List (Nat × MediaKey) := []
  keyEntriesUsed : Nat := 0
  /-- Keys loaded in the on-die key unit (R224). -/
  keyUnit : List (Nat × BitVec 256) := []
  /-- Media and Data Integrity Errors (R216). -/
  integrityErrors : Nat := 0
  deriving DecidableEq, Repr

/-! ## The Halo ring (07) -/

/-- The states of a port (R256). -/
inductive PortSt where
  | down | training | init | up | asleep | waking
  deriving DecidableEq, Repr

/-- A cell on a Halo cable (R252). -/
inductive HaloCell where
  | idle
  | init (c : InitCell)
  | ctrl (c : CtrlCell)
  | data (c : DataCell)
  deriving DecidableEq, Repr

/-- A port: its state machine (R256), its link layer (R252 to R255) and its counters (R284). -/
structure HaloPort where
  st : PortSt := .down
  /-- Lane rate: 0 106.25, 1 53.125, 2 26.5625 Gb/s, and the lanes in use (R249, R284). -/
  rate : Nat := 0
  lanes : BitVec 8 := 0
  neighbour : Nat := 0
  neighbourSerial : Bytes := []
  nbValid : Bool := false
  linkChange : Bool := false
  /-- Training failures in succession, a wait before the next try, and the highest rate to try next. -/
  failures : Nat := 0
  retryWait : Bool := false
  maxRate : Nat := 0
  /-- The domain is powered and its pins rose: training starts 10 ms after. -/
  powered : Bool := false
  /-- CTRL with SLEEPING has been received (R256). -/
  sleepingSeen : Bool := false
  /-- INIT was refused (R256), and INIT cells sent in this INIT. -/
  refused : Bool := false
  initSent : Nat := 0
  /-- The wake pattern is being sent for these transactions (node, xid) (R283). -/
  waking : List (Nat × Nat) := []
  /-- Next sequence number to send, and the replay buffer of unacknowledged cells, oldest first (R255). -/
  txSeq : BitVec 16 := 0
  replay : List DataCell := []
  /-- Replay cells still to resend. -/
  resend : List DataCell := []
  replaysInRow : Nat := 0
  lastAck : BitVec 16 := 0xFFFF
  /-- Next sequence number expected, the NAK to set, and whether the run of discards has been NAKed (R255). -/
  rxSeq : BitVec 16 := 0
  nakPending : Bool := false
  inDiscard : Bool := false
  /-- Credits held per lane, cells sent per lane since UP, and released per lane (R252, R253). -/
  credits : Vector Nat 4 := #v[0, 0, 0, 0]
  returned : Vector (BitVec 16) 4 := Vector.replicate 4 0
  released : Vector (BitVec 16) 4 := Vector.replicate 4 0
  /-- Cells waiting per lane: transit and own (R254). -/
  transit : Vector (List DataCell) 4 := Vector.replicate 4 []
  own : Vector (List DataCell) 4 := Vector.replicate 4 []
  /-- Transit cells sent since an own message began to wait, per lane (R254). -/
  passed : Vector Nat 4 := #v[0, 0, 0, 0]
  /-- Deficit counters of lanes 1 to 3, the lane whose turn it is (R254). -/
  deficit : Vector Nat 4 := #v[0, 0, 0, 0]
  turn : Nat := 1
  /-- Slots sent, control cells in the present window of 100 slots (R254), and slots since the last IDLE (R250). -/
  slot : Nat := 0
  sinceCtrl : Nat := 0
  controlInWindow : Nat := 0
  sinceIdle : Nat := 0
  /-- CRC failures in succession (R252). -/
  crcRun : Nat := 0
  replays : Nat := 0
  crcErrors : Nat := 0
  fecUncorr : Nat := 0
  /-- What the last slot carried: 0 IDLE, 1 replay, 2 CTRL, 3 control lane, 4 lanes 1 to 3, 5 INIT (host-visible on the cable). -/
  lastSlot : Nat := 0
  /-- The cell of the last slot as it left on the cable (R252, R254). -/
  lastCell : HaloCell := .idle
  /-- Credits withheld while the reassembly memory is full, per lane (R253). -/
  withheld : Vector Nat 4 := #v[0, 0, 0, 0]
  deriving DecidableEq, Repr

/-- The states of a mirror (R270). -/
inductive MirrorSt where
  | configured | active | suspended
  deriving DecidableEq, Repr

/-- A mirror session (R268 to R270). -/
structure Mirror where
  session : Nat := 0
  /-- false primary, true secondary. -/
  secondary : Bool := false
  synchronous : Bool := false
  peer : Nat := 0
  peerSerial : Bytes := []
  localNsid : Nat := 0
  peerNsid : Nat := 0
  st : MirrorSt := .configured
  activatedOnce : Bool := false
  appliedSeqno : Nat := 0
  nextSeqno : Nat := 1
  dirty : List Nat := []
  inFlight : List Nat := []
  /-- Held messages out of order, by SEQNO (R272). -/
  held : List (Nat × HaloMessage) := []
  /-- The peer's HEARTBEAT still lists the session (R357). -/
  peerLists : Bool := false
  peerReachable : Bool := false
  /-- Spans whose push has been answered PI_FAIL once, and twice: left until the next pass (R272). -/
  piFailed : List Nat := []
  piSkipped : List Nat := []
  /-- Spans that a Secure Deallocate has changed and whose push carries SECURE (R271). -/
  secureSpans : List Nat := []
  /-- Seals transferred, and seals the partner has refused (R271, R275). -/
  sealsDone : List Nat := []
  sealRefused : List Nat := []
  /-- SEQNOs free again after an answer other than OK, and those of pushes that ended without an answer (log entry 60, DEDUCED). -/
  freeSeq : List Nat := []
  unsureSeq : List Nat := []
  /-- DIRTY spans of a synchronous mirror of which the partner lacks only these blocks; another DIRTY span is pushed whole (R271). -/
  part : List (Nat × List Nat) := []
  /-- A start has lost the sequence in progress: pushing waits for the partner's APPLIED_SEQNO (R278). -/
  resumeDue : Bool := false
  deriving DecidableEq, Repr

/-- The states of a migration (R280). -/
inductive MigSt where
  | passing | interrupted | final | committing | committed
  deriving DecidableEq, Repr

/-- The migration session (R276 to R280). -/
structure Migration where
  session : Nat := 0
  successor : Bool := false
  peer : Nat := 0
  peerSerial : Bytes := []
  st : MigSt := .passing
  pass : Nat := 0
  posNsid : Nat := 0
  posSpan : Nat := 0
  dirty : List (Nat × Nat) := []
  inFlight : List (Nat × Nat) := []
  /-- Spans the running pass still has to push. -/
  todo : List (Nat × Nat) := []
  nextSeqno : Nat := 1
  acked : Nat := 0
  appliedSeqno : Nat := 0
  sealsDone : List Nat := []
  sealRefused : List Nat := []
  piFailed : List (Nat × Nat) := []
  piSkipped : List (Nat × Nat) := []
  secureSpans : List (Nat × Nat) := []
  freeSeq : List Nat := []
  unsureSeq : List Nat := []
  /-- Seals received, on the successor (R279). -/
  sealsReceived : Nat := 0
  held : List (Nat × HaloMessage) := []
  sinceCheckpoint : Nat := 0
  /-- Namespaces created for the session at the successor. -/
  created : List Nat := []
  /-- MIGRATE_BEGIN sent and not answered; the mailbox that waits. -/
  beginWaiter : Option (Nat × Nat) := none
  criticalWritten : Bool := false
  /-- The pass and its position as this node's migration record in the Config Store gives them (R278). -/
  recPass : Nat := 0
  recNsid : Nat := 0
  recSpan : Nat := 0
  /-- A start has lost the pass in progress: pushing waits for the successor's APPLIED_SEQNO (R278). -/
  resumeDue : Bool := false
  deriving DecidableEq, Repr

/-- A transaction the node has originated and that has no response yet (R267). -/
structure HaloTxn where
  xid : Nat := 0
  msg : HaloMessage := {}
  repeated : Bool := false
  /-- Backoff in ms after DEST_BUSY; 0 none. -/
  backoff : Nat := 0
  waiting : Bool := false
  deriving DecidableEq, Repr

/-- A remembered answer (R267): the sender's SERIAL, its XID and the response, and operating ms when answered. -/
structure HaloAnswer where
  serial : Bytes := []
  xid : Nat := 0
  response : HaloMessage := {}
  atMs : Nat := 0
  deriving DecidableEq, Repr

/-- The Halo Ring subsystem. -/
structure HaloState where
  ports : Vector HaloPort 2 := Vector.replicate 2 {}
  /-- HALO_E_ENG and HALO_W_ENG: both pins are always driven alike (R257). -/
  eng : Bool := false
  /-- Bypassed for a NODE_ID conflict until NODE_ID changes (R262). -/
  conflict : Bool := false
  /-- The Halo boot step has run, so NODE_ID is loaded. -/
  stepDone : Bool := false
  loopbackOk : Bool := true
  /-- Highest epoch seen with its originator, and this node's own token under way (R260). -/
  bestEpoch : Nat := 0
  bestOriginator : Nat := 0
  ownToken : Option Nat := none
  /-- The installed topology: 0 none, 1 ring, 2 line, 3 isolated (R284), its epoch and its entries. -/
  topology : Nat := 0
  topoEpoch : Nat := 0
  entries : List TokenEntry := []
  /-- Nodes recorded as asleep beyond the East end and beyond the West end of the line (R282). -/
  sleepEast : List Nat := []
  sleepWest : List Nat := []
  /-- Pushes with SECURE whose erasure is not done: the message and the bands marked (R272). -/
  securePush : List (HaloMessage × List Nat) := []
  /-- Reassembly by lane and source: cells received so far (R264). -/
  reassembly : List ((Nat × Nat) × Bytes) := []
  /-- Messages received whole and addressed to this node, not yet acted on. -/
  inbox : List HaloMessage := []
  /-- Messages discarded at HOPS 32 or for an unknown destination (R263). -/
  undeliverable : Nat := 0
  mirrors : List Mirror := []
  migration : Option Migration := none
  txns : List HaloTxn := []
  answers : List HaloAnswer := []
  nextXid : Nat := 1
  nextSession : Nat := 1
  /-- Responses and requests this node has sent, oldest first (visible on the ring). -/
  sent : List HaloMessage := []
  /-- The sessions whose next spread message goes West (R263). -/
  spread : List Nat := []
  /-- Blocks that a push has set LOST here: the sender has lost them, so they are not pulled (R272, R274). -/
  pushedLost : List Nat := []
  /-- WAKE_NODE: the mailbox that waits, by xid. -/
  wakeWaiter : List (Nat × (Nat × Nat)) := []
  deriving DecidableEq, Repr

/-! ## Host Port (08) -/

/-- The PCI power states of a function (R301). -/
inductive DState where
  | d0 | d3hot | d3cold
  deriving DecidableEq, Repr

/-- A function's configuration registers that the device acts on, its MSI-X state and its outstanding requests. -/
structure PciFunc where
  memSpace : Bool := false
  busMaster : Bool := false
  intDisable : Bool := false
  d : DState := .d0
  pmeEn : Bool := false
  pmeStatus : Bool := false
  msixEnable : Bool := false
  /-- Function Mask of MSI-X. -/
  msixMask : Bool := false
  /-- MSI-X table: dword index 0 to 8,191 and value; unwritten dwords hold their reset value. -/
  msixTable : List (Nat × Word32) := []
  pba : List Nat := []
  /-- Max Payload Size and Max Read Request Size encodings, 10-Bit Tag Requester Enable (R299). -/
  mps : Nat := 0
  mrrs : Nat := 2
  tag10 : Bool := false
  /-- Device Control 2: Completion Timeout Value and Disable (R303). -/
  ctoValue : Nat := 0
  ctoDisable : Bool := false
  aspmL1 : Bool := false
  /-- Other RW configuration registers: offset and value (R11, R286, R292). -/
  cfg : List (Nat × Word32) := []
  /-- AER status: uncorrectable and correctable. -/
  aerUncor : Word32 := 0
  aerCor : Word32 := 0
  /-- An FLR in its wait for outstanding requests, and the longest that it lasts, in µs (R303, R308). -/
  flrWait : Bool := false
  flrWaitUs : Nat := 0
  /-- Interrupt messages sent: vector numbers, oldest first (host-visible). -/
  messages : List Nat := []
  /-- Requests that timed out and whose late completion is not yet seen (R305). -/
  timedOut : Nat := 0
  /-- A submission entry fetch that timed out once (R304): its queue. -/
  fetchRetry : List Nat := []
  deriving DecidableEq, Repr

/-- An SPDM connection over one transport (R312, R313). -/
inductive SpdmSt where
  | start | version | capabilities | negotiated
  deriving DecidableEq, Repr

/-- The DOE mailbox and the SPDM responder (R312 to R315): index 0 DOE, index 1 Security Send and Receive. -/
structure SpdmState where
  conn : Vector SpdmSt 2 := #v[.start, .start]
  /-- The answer to the last request of the transport, ready to be read. -/
  answer : Vector Bytes 2 := #v[[], []]
  /-- Requests since VERSION, hashed into the challenge. -/
  transcript : Vector Bytes 2 := #v[[], []]
  /-- DOE Interrupt Status (R292, R312). -/
  intStatus : Bool := false
  deriving DecidableEq, Repr

/-- How a transfer is cut into requests or completions (R299): `full` of `size` bytes, then one of `rest` bytes unless that is zero, at most
`together` of them outstanding at once. -/
structure TlpSplit where
  size : Nat := 0
  full : Nat := 0
  rest : Nat := 0
  together : Nat := 0
  deriving DecidableEq, Repr

/-- The ten counters of PORT_COUNTERS (R371). -/
structure PortCounters where
  unexpectedCompletion : Nat := 0
  completionTimeout : Nat := 0
  poisonedTlp : Nat := 0
  ecrcError : Nat := 0
  unsupportedRequest : Nat := 0
  discardedAfterReset : Nat := 0
  linkRetrains : Nat := 0
  rateWidthChanges : Nat := 0
  bmeFatal : Nat := 0
  flr : Nat := 0
  deriving DecidableEq, Repr

/-- The Host Port. -/
structure HostState where
  func : Vector PciFunc 128 := Vector.replicate 128 {}
  /-- PERST# is asserted (low). -/
  perst : Bool := true
  linkUp : Bool := false
  /-- Rate: 1 to 6 for 2.5 to 64 GT/s; 0 never trained. -/
  rate : Nat := 0
  width : Nat := 0
  training : Bool := false
  l1 : Bool := false
  /-- Reported latency tolerance in µs (R298). -/
  ltrUs : Nat := 20
  clkreqReleased : Bool := false
  wakeAsserted : Bool := false
  /-- PME messages sent in D3hot (R302). -/
  pmeMessages : Nat := 0
  counters : PortCounters := {}
  /-- Correctable link errors recovered at link level (R311). -/
  linkCorrectable : Nat := 0
  vfEnable : Bool := false
  numVfs : Nat := 0
  ariHierarchy : Bool := false
  pageSize : Nat := 1
  spdm : SpdmState := {}
  /-- Device Serial Number (R294) and lot and date code of the identity area (R4). -/
  serial : Word64 := 0
  lot : Bytes := []
  dateCode : Bytes := []
  /-- The bytes that the last read of an aperture buffer returned, and whether its completion was poisoned (R290, R418): host-visible. -/
  readData : Bytes := []
  readPoisoned : Bool := false
  /-- The requests of the device's last memory writes and memory reads of a transfer, and the completions of the last read of a BAR (R299). -/
  lastWrite : TlpSplit := {}
  lastRead : TlpSplit := {}
  lastCompletion : TlpSplit := {}
  /-- Whether the Host Port answers configuration requests (R368). -/
  configReady : Bool := false
  deriving DecidableEq, Repr

/-! ## NVMe (09) -/

/-- The outcome a completion queue entry carries: status code type and code, DNR, and DW0 and DW1. -/
structure Cpl where
  sct : Nat := 0
  sc : Nat := 0
  /-- DNR where the spec states it. -/
  dnr : Option Bool := none
  dw0 : Nat := 0
  dw1 : Nat := 0
  deriving DecidableEq, Repr

/-- A command fetched and not yet posted (R319). -/
structure Fetched where
  sqe : Sqe := {}
  /-- Its place in the global order of admission (R332). -/
  order : Nat := 0
  /-- It has begun work (a Secure Deallocate's first step, a Seal admitted, a write offered). -/
  begun : Bool := false
  /-- It has taken effect (R319). -/
  effect : Bool := false
  /-- Its outcome, once it has completed. -/
  done : Option Cpl := none
  /-- The outcome of a command that still waits for work it has caused. -/
  outcome : Option Cpl := none
  /-- The bands a Secure Deallocate has marked, or whose Recharge an Audit Range waits for (R120, R162). -/
  bands : List Nat := []
  /-- Data transferred to the host, in block order or as one run for a page. -/
  out : List BlockData := []
  /-- For a write: the lines it will hold, and since when it waits (R332). -/
  writeData : List BlockData := []
  offeredMs : Nat := 0
  holdTested : Bool := false
  /-- SEAL_ID of a Seal or of the seal an audit runs on. -/
  sealId : Nat := 0
  deriving DecidableEq, Repr

/-- A submission queue. -/
structure SubQueue where
  base : Nat := 0
  size : Nat := 0
  cqid : Nat := 0
  head : Nat := 0
  tail : Nat := 0
  /-- Commands fetched and not yet posted, in submission order. -/
  cmds : List Fetched := []
  deriving DecidableEq, Repr

/-- A posted completion queue entry (host-visible). -/
structure PostedCqe where
  sq : Nat := 0
  cid : Nat := 0
  sqHead : Nat := 0
  phase : Bool := true
  cpl : Cpl := {}
  /-- What the command wrote to host memory. -/
  out : List BlockData := []
  deriving DecidableEq, Repr

/-- A completion queue. -/
structure CplQueue where
  base : Nat := 0
  size : Nat := 0
  head : Nat := 0
  tail : Nat := 0
  phase : Bool := true
  iv : Nat := 0
  ien : Bool := false
  /-- Entries written to host memory, oldest first. -/
  posted : List PostedCqe := []
  deriving DecidableEq, Repr

/-- An Error Information log entry: count, queue, command and status. -/
structure ErrorEntry where
  count : Nat := 0
  sq : Nat := 0
  cid : Nat := 0
  status : Nat := 0
  lba : Nat := 0
  nsid : Nat := 0
  deriving DecidableEq, Repr

/-- One NVMe controller: the PF's or a VF's. -/
structure Ctrl where
  cc : Word32 := 0
  rdy : Bool := false
  cfs : Bool := false
  /-- CSTS.SHST: 0 normal, 1 in progress, 2 complete. -/
  shst : Nat := 0
  intMask : Word32 := 0
  aqa : Word32 := 0
  asq : Word64 := 0
  acq : Word64 := 0
  sqs : List (Nat × SubQueue) := []
  cqs : List (Nat × CplQueue) := []
  /-- Queues granted, 0-based; none before Number of Queues is set. -/
  granted : Option (Nat × Nat) := none
  arbitration : Nat := 0
  intCoal : Nat := 0
  /-- Vectors with coalescing disabled. -/
  coalDisabled : List Nat := []
  aec : Nat := 0
  /-- Temperature thresholds by 16 * sensor + type, in kelvin. -/
  tempThresholds : List (Nat × Nat) := []
  /-- Outstanding Asynchronous Event Requests, and events awaiting one (type, information, log page). -/
  aers : List Nat := []
  events : List (Nat × Nat × Nat) := []
  /-- Event types masked until their log page is read. -/
  maskedEvents : List Nat := []
  errorLog : List ErrorEntry := []
  errorCount : Nat := 0
  changedNs : List Nat := []
  /-- Fetching has stopped: FLR, D3hot, Bus Master Enable clear, or quiesce. -/
  fetchStopped : Bool := false
  /-- Doorbells recorded in a handover stall or quiesce: (completion queue?, queue, value). -/
  recorded : List (Bool × Nat × Nat) := []
  deriving DecidableEq, Repr

/-- A namespace (R333). -/
structure Namespace where
  nsze : Nat := 0
  lbaf : Nat := 0
  piType : Nat := 0
  /-- Protection information in the first bytes of the metadata. -/
  piFirst : Bool := false
  /-- Metadata transferred with the block (extended LBA). -/
  extended : Bool := false
  /-- Functions whose controllers it is attached to. -/
  attached : List Nat := []
  /-- The key generation kept with its segment table (R224). -/
  keyGen : Nat := 0
  /-- The media key verifies in neither copy (R226). -/
  keyUnusable : Bool := false
  /-- The lock of VF_SAVE (R354). -/
  locked : Bool := false
  /-- A successor namespace before the commit (R276), and a source after COMMITTED (R280). -/
  notReady : Bool := false
  protectedAfterCommit : Bool := false
  deriving DecidableEq, Repr

/-- A running Device Self-test (R341, R342) and the last results: code, segment, operating hours, NSID. -/
structure SelfTest where
  /-- 0 none, 1 short, 2 extended. -/
  kind : Nat := 0
  segment : Nat := 0
  percent : Nat := 0
  yielding : Bool := false
  fn : Nat := 0
  nsid : Nat := 0
  results : List (Nat × Nat × Nat × Nat) := []
  deriving DecidableEq, Repr

/-- A Sanitize operation and the grants (R334, R335). -/
structure SanitizeState where
  /-- 0 none running, 1 block erase, 2 crypto erase. -/
  running : Nat := 0
  /-- Grants, oldest first, at most one for each action: the action, and the operating ms at which it was given (R334). -/
  grants : List (Nat × Nat) := []
  /-- SSTAT: 0 never, 1 completed, 2 in progress. -/
  sstat : Nat := 0
  progress : Nat := 0xFFFF
  deriving DecidableEq, Repr

/-- The Queue Engine and what is device-wide in NVMe. -/
structure NvmeState where
  ctrl : Vector Ctrl 128 := Vector.replicate 128 {}
  namespaces : List (Nat × Namespace) := []
  /-- Admission order counter (R332). -/
  nextOrder : Nat := 0
  /-- Writes offered and not admitted, oldest first (R332). -/
  line : List CmdRef := []
  /-- A run of Thermal Holds is on, and its SMART count (R332). -/
  holdRun : Bool := false
  holdRuns : Nat := 0
  /-- Selected power state (R337), the operational state to return to, and APST (R338). -/
  powerSelected : Nat := 0
  powerReturn : Nat := 0
  apstEnable : Bool := false
  apst : List (Nat × Nat) := []
  /-- Host Controlled Thermal Management: TMT1, TMT2 in kelvin, 0 disabled (R339). -/
  tmt1 : Nat := 0
  tmt2 : Nat := 0
  hctmCounts : Nat × Nat := (0, 0)
  /-- Host Controlled Thermal Management in force: 0 below TMT1, 1 above TMT1, 2 above TMT2 (R339). -/
  hctmLevel : Nat := 0
  /-- Operating ms since which the device has been idle. -/
  idleSinceMs : Nat := 0
  selfTest : SelfTest := {}
  sanitize : SanitizeState := {}
  /-- SMART: critical warning as last reported, host reads and writes in blocks and commands, unsafe shutdowns. -/
  criticalWarning : Nat := 0
  blocksRead : Nat := 0
  blocksWritten : Nat := 0
  cmdsRead : Nat := 0
  cmdsWritten : Nat := 0
  /-- Power lost without a clean stop, as SMART counts it. -/
  unsafeShutdowns : Nat := 0
  deriving DecidableEq, Repr

/-! ## Virtual functions (10) -/

/-- The states of a VF (R349); none while VF Enable has not created it. -/
inductive VfSt where
  | none | offline | online | quiescing | quiesced | saved
  deriving DecidableEq, Repr

/-- One VF: state, limits and attachments as the Config Store holds them (R348). -/
structure VfState where
  st : VfSt := .none
  readLimit : Nat := 0
  writeLimit : Nat := 0
  configured : Bool := false
  /-- The commands fetched in the last 10 ms: operating time and bytes that each reads and writes (R348). -/
  recent : List (Nat × Nat × Nat) := []
  /-- The mailbox (function, number) whose VF_QUIESCE or VF_SAVE waits. -/
  waiter : Option (Nat × Nat) := none
  /-- Namespaces locked by VF_SAVE (R354). -/
  savedNs : List Nat := []
  deriving DecidableEq, Repr

/-! ## Mailboxes and the Custodian (11) -/

/-- The command a mailbox executes, latched at GO (R362). -/
structure MbxExec where
  /-- The command's own number, by which the work it has begun finds it again. -/
  id : Nat := 0
  opcode : Word16 := 0
  len : Nat := 0
  seq : Word16 := 0
  /-- The request and the result travel through host memory (R362). -/
  hostPayload : Bool := false
  /-- The whole payload is inside the controller (R369). -/
  begun : Bool := false
  /-- The request payload as latched. -/
  request : Bytes := []
  /-- Bus Master Enable was cleared: registers only (R369). -/
  registersOnly : Bool := false
  /-- The command has started work and waits for its end (R367). -/
  waiting : Bool := false
  deriving DecidableEq, Repr

/-- One mailbox: the MBX_ registers (R361) and its payload buffer. -/
structure Mailbox where
  opcode : Word16 := 0
  len : Word32 := 0
  seq : Word16 := 0
  vector : Nat := 0
  hostPayload : Bool := false
  irqEn : Bool := false
  status : Nat := 0
  overrun : Bool := false
  done : Bool := false
  busy : Bool := false
  resultLen : Nat := 0
  detail : Nat := 0
  payloadAddr : Word64 := 0
  cplAddr : Word64 := 0
  exec : Option MbxExec := none
  /-- The on-die payload buffer: bytes that are not zero, by offset (R362). -/
  buffer : List (Nat × Byte) := []
  /-- Words with an uncorrectable error, by offset / 8 (R417). -/
  badWords : List Nat := []
  /-- The result written to host memory, and the completion records written (host-visible, R364). -/
  hostResult : Bytes := []
  records : List Bytes := []
  /-- The live challenge: nonce and operating ms of issue (R374). -/
  challenge : Option (Digest × Nat) := none
  deriving DecidableEq, Repr

/-- The mailboxes (16 on the PF, 2 on each VF), the Custodian key and authorisation (R374 to R379). -/
structure MbxState where
  /-- Mailbox m of function f at 16 * f + m. -/
  boxes : List (Nat × Mailbox) := []
  /-- Commands begun on a mailbox whose function has since been reset; they run to their end unseen (R369). -/
  orphans : List (Nat × MbxExec) := []
  /-- The number the next command takes. -/
  nextExec : Nat := 0
  custodianKey : Option PubKey := none
  keyIndex : Nat := 0
  /-- Key records programmed in the identity area (R379). -/
  keyRecords : List Bytes := []
  /-- Operating ms of the AUTH_FAILED completions of the last 60 minutes, and the lockout (R376). -/
  failures : List Nat := []
  lockout : Bool := false
  /-- MEDIA_ENCRYPT (R221). -/
  mediaEncrypt : Bool := false
  /-- Subsystem Vendor ID and Subsystem ID of the Calibration Set, once written (R287). -/
  subsystem : Option (Nat × Nat) := none
  deriving DecidableEq, Repr

/-! ## Start, Boot Ledger and Safe Start (12) -/

/-- The cause of a start, as MODE of step 1's word gives it (R387). -/
inductive StartCause where
  | powerUp | sysRst | internalRestart
  deriving DecidableEq, Repr

/-- How a step runs (R387 MODE). -/
inductive StepMode where
  | normal | alternative | skipped | notRun
  deriving DecidableEq, Repr

/-- Where the controller stands between reset and operation. -/
inductive BootPhase where
  /-- SYS_RST_N is low, or the supplies are off. -/
  | held
  /-- SYS_RST_N has risen; the start waits for POWER_GOOD (R527). -/
  | waitPower
  /-- A step runs. -/
  | running
  /-- Every step has ended, been skipped or abandoned. -/
  | complete
  /-- Safe Start for the step held in `safeStep` (R393, R394). -/
  | safeStart
  /-- A step has failed, or a retry has succeeded: the internal restart is due (R382, R395, R396). -/
  | restarting
  /-- Stopped at a step among 2 to 4 and retrying it every 10 s (R395). -/
  | stopped
  /-- The Config Store does not answer (R396). -/
  | noStore
  deriving DecidableEq, Repr

/-- The start in progress and the Boot Ledger. -/
structure BootState where
  phase : BootPhase := .held
  /-- The step running, 1 to 16; 0 before step 1 and after the last (R360). -/
  step : Nat := 0
  cause : StartCause := .powerUp
  /-- Power has been present since the last rise of SYS_RST_N. -/
  hadPower : Bool := false
  /-- f[k] for k = 1 to 16 and the mode decided for each step (R391, R392). -/
  f : Vector Nat 16 := Vector.replicate 16 0
  modes : Vector StepMode 16 := Vector.replicate 16 .normal
  safeStep : Nat := 0
  trial : Bool := false
  /-- Operating ms at the rise of SYS_RST_N, from which ELAPSED counts (R387). -/
  riseMs : Nat := 0
  /-- The start count, raised by every start (R387). -/
  startCount : Nat := 0
  /-- The ledger: 32 slots of 16 words, words by 16 * slot + k - 1; a word not listed is erased (R386). -/
  ledger : List (Nat × LedgerWord) := []
  carry : CarryRecord := {}
  /-- The carry record held in management SRAM while the ledger's sector is erased (R390). -/
  carryNext : Option CarryRecord := none
  /-- A reset or a power loss came between the erase and the carry record, which fails its CRC (R390). -/
  carryBad : Bool := false
  /-- The ledger's slot used by this start; none when it proceeds without a ledger (R396). -/
  slot : Option Nat := none
  /-- Intake is open (end of step 13). -/
  intake : Bool := false
  /-- Step 9 was skipped (R451). -/
  step9Skipped : Bool := false
  /-- The Host Port is armed (step 4). -/
  linkArmed : Bool := false
  /-- The background activities have been started (step 16). -/
  bgStarted : Bool := false
  deriving DecidableEq, Repr

/-! ## DRAM and on-die SRAM (13) -/

/-- STATE of a DRAM channel (R412). -/
inductive DramSt where
  | inUse | absent | leftTraining | leftPartner | leftMismatch | failed
  deriving DecidableEq, Repr

/-- A request on a DRAM channel: its first 64-byte unit, how many, and whether it is of the Table class (R401, R404). -/
structure DramReq where
  unit : Nat := 0
  units : Nat := 0
  table : Bool := false
  deriving DecidableEq, Repr

/-- A DDR5 channel: its state, its DIMM as SPD gives it, and its counters (R398, R399, R412). -/
structure DramChan where
  st : DramSt := .absent
  dimmGib : Nat := 0
  /-- The fastest rate the DIMM is rated for: 0 6400, 1 5600, 2 4800, 3 slower. -/
  rated : Nat := 0
  parityEvents : Nat := 0
  ce : Nat := 0
  ue : Nat := 0
  replaysMax : Nat := 0
  /-- Correctable errors in the present 24 operating hours, and when they began (R403). -/
  ceWindow : Nat := 0
  ceWindowMs : Nat := 0
  /-- The reads and the pending writes that wait on the channel, oldest first, and what it served for the last request that reached it: whether a
  write, and which (R404, R405). -/
  reads : List DramReq := []
  writes : List DramReq := []
  served : List (Bool × DramReq) := []
  deriving DecidableEq, Repr

/-- The DRAM Controller and the on-die SRAMs. -/
structure DramState where
  ch : Vector DramChan 8 := Vector.replicate 8 {}
  /-- 0 6400, 1 5600, 2 4800, 0xFF untrained (R412). -/
  rate : Nat := 0xFF
  dimmGib : Nat := 0
  trained : Bool := false
  /-- Granules of 1 GiB written with zeroes since step 7 (R406). -/
  granules : Nat := 0
  /-- DRAM_INTERLEAVE and DIRTY_LIMIT in force since the start (R425). -/
  interleave : Nat := 2
  dirtyLimit : Nat := 4 * 2 ^ 30
  tableSize : Nat := 0
  cacheBase : Nat := 0
  cacheSize : Nat := 0
  frozen : Bool := false
  freezeCause : Nat := 0
  freezeChannel : Nat := 0xF
  freezeAddr : Nat := 0
  freezeHours : Nat := 0
  /-- 0 none, 1 running, 2 complete, 3 complete with lost lines. -/
  flushState : Nat := 0
  lostLines : Nat := 0
  windowBase : Nat := 0
  windowValid : Bool := false
  windowUe : Nat := 0
  /-- Data read last through the diagnostic window (host-visible). -/
  windowData : Bytes := []
  msramCe : Nat := 0
  msramUe : Nat := 0
  sramCe : Nat := 0
  sramUe : Nat := 0
  codeReloads : Nat := 0
  spareFrames : Nat := 16
  /-- The repair list: unit, and row or column (R424). -/
  repairs : List (Nat × Nat) := []
  /-- Passes of the patrol scrub and of the two SRAM scrubbers (R406, R423). -/
  patrolPasses : Nat := 0
  msramPasses : Nat := 0
  sramPasses : Nat := 0
  /-- Frames withdrawn from use until the next start (R413). -/
  framesUnused : Nat := 0
  /-- Those frames of the write cache, by number: a frame in each half (R413). -/
  badFrames : List Nat := []
  /-- DMA channels halted: the user number of R420 or the channel of R22. -/
  dmaHalted : List Nat := []
  /-- Bursts resent after a first CRC mismatch (R22). -/
  burstsResent : Nat := 0
  /-- Work items to retry on another engine (R420). -/
  engineRetries : Nat := 0
  deriving DecidableEq, Repr

/-! ## Power states, monitors and ageing (14) -/

/-- Zenith, Dusk, Night and Eclipse (R431). -/
inductive SleepSt where
  | zenith | dusk | night | eclipse
  deriving DecidableEq, Repr

/-- Entry to and exit from a sleep state (R433). -/
inductive SleepPhase where
  | steady | entering | exiting
  deriving DecidableEq, Repr

/-- STATUS of a voltage monitor (R440). -/
inductive MonSt where
  | inside | warnLow | warnHigh | faultLow | faultHigh
  deriving DecidableEq, Repr

/-- A voltage monitor: the comparator's state, and the register the round copies (R437, R440). -/
structure VoltMon where
  st : MonSt := .inside
  mv : Nat := 0
  regStatus : MonSt := .inside
  regMv : Nat := 0
  deriving DecidableEq, Repr

/-- The hold-up section of the Calibration Set (R449). -/
structure HoldupCal where
  cNom : Nat := 0
  iTest : Nat := 0
  vMin : Nat := 0
  divider : Nat := 0
  efficiency : Nat := 0
  flushPower : Nat := 0
  deriving DecidableEq, Repr

/-- Power and Health. -/
structure PwrState where
  sleep : SleepSt := .zenith
  phase : SleepPhase := .steady
  target : SleepSt := .zenith
  /-- The sleep was commanded by the host, not autonomous (R432). -/
  commanded : Bool := false
  /-- The level in force (R428), and whether AVSBus refuses steps up (R429). -/
  level : Nat := 3
  avsFailed : Bool := false
  /-- The core voltage last requested over AVSBus, in mV; 0 before step 3 (R1, R427). -/
  requestedMv : Nat := 0
  /-- A step is under way: the level it goes to, and an AVSBus request repeated once. -/
  stepTo : Option Nat := none
  avsRepeated : Bool := false
  /-- Limits: ageing, core fault and the motor-fault demand (R428, R438, R442, R474). -/
  ageingLimit : Nat := 0
  coreFault : Bool := false
  /-- The first housekeeping round has been taken, so R428 applies (R428). -/
  levelFree : Bool := false
  /-- PWR_WAKE_STATUS, its value at the last exit, PWR_PAD_HOLD, and events latched during entry (R434, R440). -/
  wakeStatus : BitVec 9 := 0
  wakeLast : BitVec 9 := 0
  padHold : BitVec 6 := 0
  /-- Operating ms at which isolation committed (R99, R433). -/
  sleepSince : Nat := 0
  /-- Switched domains that are off, of the 147 (R426); true once isolation commits. -/
  domainsOff : Bool := false
  mon : Vector VoltMon 24 := Vector.replicate 24 {}
  pmon : Vector Nat 64 := Vector.replicate 64 0
  pmonReg : Vector Nat 64 := Vector.replicate 64 0
  /-- Ageing offsets of P0 to P3 and Dusk, P0 clock, slowdown in 0.01 %, hours of the last replan (R441, R442). -/
  offset : Vector Nat 4 := #v[0, 0, 0, 0]
  p0Freq : Nat := 1600
  slowdown : Nat := 0
  lastReplan : Nat := 0
  /-- Eye margins in percent: DDR channels, carriers, PCIe, Halo East and West; 0xFF not in use (R443, R451). -/
  ddrMargin : Vector Nat 8 := Vector.replicate 8 0xFF
  mediaMargin : Vector Nat 16 := Vector.replicate 16 0
  pcieMargin : Nat := 0
  haloMargin : Nat × Nat := (0, 0)
  /-- Hold-up: last valid C in µF and V0 in mV, the measured and the effective limit in bytes (R444, R445). -/
  lastC : Option Nat := none
  v0 : Nat := 0
  holdupInvalid : Bool := false
  /-- The limit in force is formed from half of C, after an invalid or a skipped measurement (R444). -/
  halved : Bool := false
  /-- Carriers that a replan has set to train again (R443). -/
  retrain : List Nat := []
  measuring : Bool := false
  /-- A mailbox HOLDUP_MEASURE waits for its end. -/
  measureWaiter : Option (Nat × Nat) := none
  eUsable : Nat := 0
  measured : Nat := 0
  effective : Nat := 0
  holdupHours : Nat := 0
  writeThrough : Bool := false
  carriersCounted : Nat := 16
  periodicMs : Nat := 0
  replanDue : Bool := false
  measureDue : Bool := false
  /-- PWRFAIL_N: pin, latch, flush state (0 none, 1 running, 2 done), domains off after it (R447, R448). -/
  pwrfail : Bool := false
  flush : Nat := 0
  allOff : Bool := false
  risenAfterFlush : Bool := false
  /-- Calibration Set bytes that are not all ones, by offset (R449). -/
  cal : List (Nat × Byte) := []
  deriving DecidableEq, Repr

/-- The package's pins that are not another unit's state (17). True is the high level. -/
structure Pins where
  /-- Supplies and monitors in band (R527). -/
  supplies : Bool := false
  sysRstN : Bool := false
  pwrfailN : Bool := false
  holdupTest : Bool := false
  cdEn : BitVec 4 := 0
  cdFaultN : BitVec 4 := 0xF
  /-- JTAG: the instruction in force, IDCODE after reset as IEEE 1149.1 has it (log entry 47, PRESUMED), and EXTEST holding the pins (R534). -/
  jtag : Nat := 1
  extest : Bool := false
  jtagAuthenticated : Bool := false
  deriving DecidableEq, Repr

/-! ## Thermal management and the Cooling Drive (15) -/

/-- The states of a motor (R469). -/
inductive MotorSt where
  | off | detect | brake | align | ramp | keCheck | catching | run | coast | fault
  deriving DecidableEq, Repr

/-- A motor's parameter entry (R468). -/
structure MotorParam where
  enable : Nat := 0
  polePairs : Nat := 1
  reverse : Bool := false
  ratedRpm : Nat := 0
  ke : Nat := 0
  rPhase : Nat := 0
  lPhase : Nat := 0
  iRated : Nat := 0
  iLimit : Nat := 0
  startSpeed : Nat := 0
  minSpeed : Nat := 0
  maxSpeed : Nat := 0
  pwmKhz : Nat := 16
  deadNs : Nat := 20
  shuntUohm : Nat := 0
  isenseGain : Nat := 0
  vsenseDiv : Nat := 0
  vbusMv : Nat := 0
  fanLaw : Nat := 0
  alignMs : Nat := 100
  rampMs : Nat := 200
  brakeLimit : Nat := 0
  /-- The entry is written and its CRC matches. -/
  valid : Bool := false
  /-- The entry is written and its CRC fails (R450, R468). -/
  bad : Bool := false
  deriving DecidableEq, Repr

/-- A motor: the CDR_ registers and the drive's own state (R469 to R481). -/
structure MotorState where
  param : MotorParam := {}
  enable : Bool := false
  st : MotorSt := .off
  /-- Operating ms of the losses of the last 60 s (R474). -/
  losses : List Nat := []
  keFault : Bool := false
  loss : Bool := false
  reversed : Bool := false
  /-- Signed Q16.16: speed in % of rated, q and d current in A, model speed in % (R481). -/
  speed : Int := 0
  iq : Int := 0
  id : Int := 0
  modelSpeed : Int := 0
  /-- The commanded q current filtered with 200 ms, Q16.16 A (R473). -/
  iqFiltered : Int := 0
  /-- Setpoints of the last 100 ms, with the operating ms at which each was taken, newest first (R473). -/
  setpoints : List (Nat × Nat) := []
  /-- Operating ms since which the estimate has stayed within 10 % of the setpoint, and since which it differs from the model by more than
  PLAUS_BAND; whether the plausibility check is armed (R473). -/
  nearSince : Option Nat := none
  apartSince : Option Nat := none
  plausArmed : Bool := false
  angle : BitVec 16 := 0
  keMeas : Nat := 0
  /-- Setpoint in 0.01 % of rated (R461), starts and losses since power-up (R485). -/
  setpoint : Nat := 0
  starts : Nat := 0
  lossesTotal : Nat := 0
  /-- Duties of phases A to C in 1/65,536: in force, and loaded at the next valley (R464, R467). -/
  duty : Vector Nat 3 := Vector.replicate 3 0
  dutyNext : Vector Nat 3 := Vector.replicate 3 0
  /-- Phase currents in mA and phase voltages in mV as the converter last gave them (R465). -/
  currents : Vector Int 3 := Vector.replicate 3 0
  volts : Vector Nat 3 := Vector.replicate 3 0
  /-- Overcurrent periods in succession; gates off until the next valley (R466). -/
  overPeriods : Nat := 0
  gatesOff : Bool := true
  /-- The motor counts as faulted for R474. -/
  counted : Bool := false
  /-- Operating ms at which the present state began. -/
  since : Nat := 0
  deriving DecidableEq, Repr

/-- A slot's seven coefficients, signed Q4.28 (R478). -/
structure Coefs where
  b0 : Int := 0
  b1 : Int := 0
  b2 : Int := 0
  b3 : Int := 0
  a1 : Int := 0
  a2 : Int := 0
  a3 : Int := 0
  deriving DecidableEq, Repr

/-- A loop slot (R477 to R480); values are signed Q16.16. -/
structure LoopState where
  enable : Bool := false
  order : Bool := false
  /-- ROLE: false FLOOR, true CEILING; INPUT, RATE_DIV, SP_OFFSET, SP_SOURCE and MOTOR_MASK (R480). -/
  ceiling : Bool := false
  input : Nat := 0
  rateDiv : Nat := 1
  spOffset : Nat := 0
  spSource : Nat := 0
  motorMask : BitVec 4 := 0
  sp : Int := 0
  shadow : Coefs := {}
  active : Coefs := {}
  outMin : Int := 0
  outMax : Int := 0
  meas : Int := 0
  out : Int := 0
  updates : Nat := 0
  satHigh : Bool := false
  satLow : Bool := false
  commitPending : Bool := false
  /-- COMMIT was written while the slot was updating: the load waits one more update (R479). -/
  commitNext : Bool := false
  /-- e[n-1] to e[n-3] and y[n-1] to y[n-3]. -/
  e1 : Int := 0
  e2 : Int := 0
  e3 : Int := 0
  y1 : Int := 0
  y2 : Int := 0
  y3 : Int := 0
  deriving DecidableEq, Repr

/-- A trace buffer (R483, R484). -/
structure TraceState where
  /-- MODE: false single, true continuous; TRIG_SRC, TRIG_MOTOR, PRE_TRIGGER. -/
  continuous : Bool := false
  trigSrc : Nat := 0
  trigMotor : Nat := 0
  preTrigger : Nat := 0
  decimation : Nat := 0
  index : Nat := 0
  signal : Nat := 0
  level : Word32 := 0
  done : Bool := false
  triggered : Bool := false
  armed : Bool := false
  writeIndex : Nat := 0
  /-- Source in force since ARM (R484): decimation, index, signal. -/
  inForce : Nat × Nat × Nat := (0, 0, 0)
  /-- Source updates since the last sample, samples since the trigger, last value. -/
  skipped : Nat := 0
  sinceTrigger : Nat := 0
  lastValue : Option Int := none
  /-- Samples by index: value and SYSREF time. -/
  samples : List (Nat × (Word32 × Word32)) := []
  deriving DecidableEq, Repr

/-- A junction threshold of R457: reached, and the time since which TJ has been 5 °C below it. -/
structure ThrState where
  reached : Bool := false
  belowSince : Option Nat := none
  deriving DecidableEq, Repr

/-- The thermal manager, the housekeeping round, the motors, the loops and the trace. Temperatures of the diode are in
units of 0.0625 °C (R453). -/
structure CoolState where
  tj : Int := 0
  /-- The previous raw reading; none before the first (R454). -/
  prev : Option Int := none
  fault : Bool := false
  plausibleMs : Nat := 0
  /-- Readings of the last 5 s: operating ms and value, newest first (R458). -/
  history : List (Nat × Int) := []
  /-- Thresholds: TJ_OT, second, warning, critical (R457). -/
  thr : Vector ThrState 4 := Vector.replicate 4 {}
  demand : Nat := 0
  thresholdChange : Bool := false
  /-- Rate of rise in 0.1 °C/s, its demand (the level demanded) and since when it is below half (R458). -/
  rate : Int := 0
  rateDemand : Option Nat := none
  rateBelow : Option Nat := none
  round : BitVec 16 := 0
  /-- Hottest and coolest die: channel, LUN, temperature (R455). -/
  hot : Option (Nat × Nat × Int) := none
  cold : Option (Nat × Nat × Int) := none
  lunsClosed : Nat := 0
  /-- Carriers whose silence has been recorded (R456). -/
  silent : List Nat := []
  motorFault : Bool := false
  holds : Nat := 0
  motor : Vector MotorState 4 := Vector.replicate 4 {}
  slot : Vector LoopState 16 := Vector.replicate 16 {}
  /-- The stored set of LOOP_SAVE (R479). -/
  saved : Option (Vector LoopState 16) := none
  /-- Sine-table entries written since the start, by index; the others hold the factory table (R480). -/
  sine : List (Nat × BitVec 16) := []
  trace : Vector TraceState 4 := Vector.replicate 4 {}
  deriving DecidableEq, Repr

/-! ## The block -/

/-- The state of the SHL-8064: one record for each subsystem, the queue of waiting commands, and the counter of free
values (the model's own field, log entry 1, DESIGN CHOICE). Each field's default is its value at reset. -/
structure State where
  time : TimeState := {}
  alm : AlmState := {}
  settings : Settings := []
  fw : FwState := {}
  media : MediaState := {}
  map : MapState := {}
  red : RedState := {}
  ret : RetState := {}
  sealing : SealState := {}
  halo : HaloState := {}
  host : HostState := {}
  nvme : NvmeState := {}
  vf : Vector VfState 127 := Vector.replicate 127 {}
  mbx : MbxState := {}
  boot : BootState := {}
  dram : DramState := {}
  pwr : PwrState := {}
  cool : CoolState := {}
  pins : Pins := {}
  /-- Commands that wait, first in first out. -/
  pending : List Instr := []
  /-- The model's own counter of free values and random draws (log entries 1 and 2, DESIGN CHOICE). -/
  freeCtr : Nat := 0
  deriving DecidableEq, Repr

/-- Reasons a run stops with a fault. -/
inductive Fault where
  /-- A command without a unit to act on. No meaning raises it: every command of the table answers a next state. Safe: a run that stopped
  here would prove nothing. -/
  | noSuchUnit
  deriving DecidableEq, Repr

/-- Reasons a command is refused. -/
inductive Refusal where
  /-- Raised by exec alone, for a command of the table whose meaning is not modelled yet. Safe: nothing is said of it. -/
  | notModelled (mnemonic : String)
  deriving DecidableEq, Repr

/-- The machine right after reset: SYS_RST_N low, every register at its reset value, no command waiting. The values the
spec does not give are those of the log entries 5 to 9, DESIGN CHOICE. -/
def State.reset : State := {}

end Sys2Proof.Machine
end

