-- ==== Sys2Proof/Machine/Ops.lean ====
section
/-! DEFINITION. The operations every subsystem shares: free values, time stamps, packing of parameters, and the
acceptance of Almanac records (16_almanac_and_firmware_handover R487 to R493). -/
namespace Sys2Proof.Machine

/-- A command's meaning as an outcome: every meaning of this model answers a next state. -/
abbrev Result := Host.Outcome State Fault Refusal

/-! ### Free values and random draws (log entries 1 and 2, DESIGN CHOICE) -/

/-- A free number, and the state with the counter advanced. -/
def drawNat (s : State) : Nat × State := (Config.freeNat s.freeCtr, { s with freeCtr := s.freeCtr + 1 })

/-- A free bit, and the state with the counter advanced. -/
def drawBool (s : State) : Bool × State := (Config.freeBool s.freeCtr, { s with freeCtr := s.freeCtr + 1 })

/-- A 256-bit draw of the random number generator. -/
def drawRandom (s : State) : BitVec 256 × State := (Config.random s.freeCtr, { s with freeCtr := s.freeCtr + 1 })

/-- A run of free bytes, for a field whose value the spec does not state (log entry 1, DESIGN CHOICE). -/
def freeBytes (free n : Nat) : Bytes := (List.range n).map (fun i => Config.freeByte (free + i))

/-! ### The Config Store's die (R89 to R91) -/

/-- Bytes of a sector (R89). -/
def csSector : Nat := 65536

/-- The byte offset in the Config Store of an Almanac sector (R491). -/
def almSectorBase (k : Nat) : Nat := if k < 256 then 0x2000000 + csSector * k else 0x30C0000 + csSector * (k - 256)

/-- The die's turn for an Almanac or Boot Ledger program: at once while no erase runs, else by suspending it, at most sixteen times (R90). -/
def csTurn (s : State) : Option State :=
  match s.media.csErase with
  | none => some s
  | some (sector, n) => if n < 16 then some { s with media := { s.media with csErase := some (sector, n + 1) } } else none

/-- An erase of the controller's own begun on the die (R90). -/
def beginOwnErase (s : State) (addr : Nat) : State := { s with media := { s.media with csErase := some (addr, 0), csOwn := true } }

/-- Work that waits behind an erase (R90). -/
def csWait (s : State) (op : CsOp) : State := { s with media := { s.media with csWaiting := s.media.csWaiting ++ [op] } }

/-! ### Parameters of a record (R500) -/

/-- One byte of a record's parameters. -/
def b1 (v : Nat) : Bytes := leBytes 1 v
/-- Two bytes of a record's parameters. -/
def b2 (v : Nat) : Bytes := leBytes 2 v
/-- Four bytes of a record's parameters. -/
def b4 (v : Nat) : Bytes := leBytes 4 v
/-- Six bytes of a record's parameters (a calendar value). -/
def b6 (v : Nat) : Bytes := leBytes 6 v
/-- Eight bytes of a record's parameters. -/
def b8 (v : Nat) : Bytes := leBytes 8 v

/-! ### Vectors indexed by a number -/

/-- The element of a vector at a number, or a default outside it. -/
def vget {α : Type} {n : Nat} (v : Vector α n) (d : α) (i : Nat) : α := v[i]?.getD d

/-- A vector with the element at a number replaced; unchanged outside it. -/
def vset {α : Type} {n : Nat} (v : Vector α n) (i : Nat) (x : α) : Vector α n := v.setIfInBounds i x

/-! ### Time (R42, R489) -/

/-- Operating hours, whole, as the Config Store holds them (R42). -/
def opHours (s : State) : Nat := s.time.opMs / 3600000

/-- The value of the setting of a family, index and NSID, or a given default (R372). -/
def settingRaw (s : State) (fam idx nsid dflt : Nat) : Nat :=
  match s.settings.find? (fun e => e.1 == (fam, idx, nsid)) with
  | some e => e.2
  | none => dflt

/-- Whether a record written now carries a calendar stamp (R489, R499). -/
def calStamped (s : State) : Bool :=
  s.alm.stampLoaded && settingRaw s 0x08 1 0 0 == 1 && s.time.calendar != 0

/-- The stamp of a record written now (R489). -/
def stampNow (s : State) : Word64 :=
  if calStamped s then s.time.calendar.setWidth 64 else BitVec.ofNat 64 (s.time.opMs % 2 ^ 48)

/-! ### The Almanac's acceptance of a record (R490, R492) -/

/-- Records the staging area holds (R492). -/
def stagingSize : Nat := 4096

/-- Whether the boot ROM writes the record: it runs steps 1 to 5 (R380, R487 BOOT). -/
def bootRomRuns (s : State) : Bool := s.boot.phase == .running && s.boot.step ≥ 1 && s.boot.step ≤ 5

/-- The record that an event makes now (R487, R489, R500). -/
def newRecord (s : State) (code : Nat) (sev : Severity) (params : Bytes) : AlmStaged :=
  { code := BitVec.ofNat 16 code, severity := sev, calStamp := calStamped s, setB := s.fw.setB, boot := bootRomRuns s
    powerCycle := s.time.powerCycles, firstStamp := stampNow s, params := padTo 20 params }

/-- Whether a record repeats the open one (R490). -/
def isRepeat (r o : AlmStaged) : Bool :=
  r.code == o.code && r.severity == o.severity && r.calStamp == o.calStamp && r.params == o.params

/-- A list with its last element changed. -/
def modifyLast {α : Type} (f : α → α) : List α → List α
  | [] => []
  | [x] => [f x]
  | x :: y :: t => x :: modifyLast f (y :: t)

/-- The close of the open record (R490): its REPEAT and LAST_STAMP join it in staging, or are programmed. -/
def closeOpen (a : AlmState) : AlmState :=
  match a.openRec with
  | none => a
  | some o =>
    if a.staged.isEmpty then
      { a with records := modifyLast (fun r => { r with closed := some (o.lastStamp, o.repeats) }) a.records, openRec := none }
    else
      { a with staged := modifyLast (fun p => (p.1, some (o.lastStamp, o.repeats))) a.staged, openRec := none }

/-- The newest record that a start finds still open is closed with REPEAT 1 and LAST_STAMP zero (R490). -/
def closeFound (a : AlmState) : AlmState :=
  { a with records := modifyLast (fun r => { r with closed := r.closed.or (some (0, 1)) }) a.records }

/-- The drop counters saved in the controller records (R492). -/
def saveDrops (a : AlmState) : AlmState := { a with dropsSaved := a.drops }

/-- The drop counter of a severity raised, saturating (R492). -/
def raiseDrop (a : AlmState) (sev : Severity) : AlmState :=
  { a with drops := vset a.drops sev.toNat (min (vget a.drops 0 sev.toNat + 1) 0xFFFFFFFF) }

/-- A list without its first element of a property. -/
def dropFirst {α : Type} (p : α → Bool) : List α → List α
  | [] => []
  | x :: t => if p x then t else x :: dropFirst p t

/-- A new record into the staging area: appended, or in place of the oldest staged record of equal or lower severity, or
dropped, with the counter of whichever record is lost (R492). -/
def stageRecord (a : AlmState) (r : AlmStaged) : AlmState :=
  let opened := some { body := r, repeats := 1, lastStamp := r.firstStamp }
  let bit := a.event ||| BitVec.ofNat 4 (2 ^ r.severity.toNat)
  if a.staged.length < stagingSize then
    { a with staged := a.staged ++ [(r, none)], openRec := opened, event := bit }
  else
    match a.staged.find? (fun p => p.1.severity.toNat ≤ r.severity.toNat) with
    | some lost =>
      { raiseDrop a lost.1.severity with
        staged := dropFirst (fun p => p.1.severity.toNat ≤ r.severity.toNat) a.staged ++ [(r, none)]
        openRec := opened, event := bit }
    | none => raiseDrop a r.severity

/-- What a wake event does in the PF's low power states (R302): with PME_En set it sets PME_Status and asserts WAKE# in D3cold or
sends a PME message in D3hot. -/
def signalPme (s : State) : State :=
  let f := vget s.host.func {} 0
  if !f.pmeEn then s
  else
    match f.d with
    | .d3cold => { s with host := { s.host with func := vset s.host.func 0 { f with pmeStatus := true }, wakeAsserted := true } }
    | .d3hot => { s with host := { s.host with
        func := vset s.host.func 0 { f with pmeStatus := true }, pmeMessages := s.host.pmeMessages + 1 } }
    | .d0 => s

/-- An error reported in a function's Uncorrectable Error Status (R311). -/
def reportUncor (s : State) (fn bit : Nat) : State :=
  let f := vget s.host.func {} fn
  { s with host := { s.host with func := vset s.host.func fn { f with aerUncor := f.aerUncor ||| BitVec.ofNat 32 (2 ^ bit) } } }

/-- An error reported in a function's Correctable Error Status (R311). -/
def reportCor (s : State) (fn bit : Nat) : State :=
  let f := vget s.host.func {} fn
  { s with host := { s.host with func := vset s.host.func fn { f with aerCor := f.aerCor ||| BitVec.ofNat 32 (2 ^ bit) } } }

/-- A record of the Almanac accepted: a repeat of the open record, or a new record after the close of the open one
(R490, R492); ALM_EVENT shows its severity (R496). -/
def acceptRecord (s : State) (code : Nat) (sev : Severity) (params : Bytes) : State :=
  let r := newRecord s code sev params
  match s.alm.openRec with
  | some o =>
    if isRepeat r o.body then
      { s with alm := { s.alm with
          openRec := some { o with repeats := min (o.repeats + 1) 0xFFFFFFFF, lastStamp := r.firstStamp }
          event := s.alm.event ||| BitVec.ofNat 4 (2 ^ sev.toNat) } }
    else { s with alm := stageRecord (closeOpen s.alm) r }
  | none => { s with alm := stageRecord s.alm r }

/-- A record written: a Critical one is a wake event as well (R302). -/
def record (s : State) (code : Nat) (sev : Severity) (params : Bytes) : State :=
  let s := acceptRecord s code sev params
  if sev = .critical then signalPme s else s

/-- A record written when a condition holds. -/
def recordIf (c : Bool) (s : State) (code : Nat) (sev : Severity) (params : Bytes) : State :=
  if c then record s code sev params else s

/-- STATE of a migration as MIGRATE_STATUS and a descriptor give it (R371). -/
def MigSt.code : MigSt → Nat
  | .passing => 1
  | .interrupted => 2
  | .final => 3
  | .committing => 4
  | .committed => 5

end Sys2Proof.Machine
end

