-- ==== Sys2Proof/Machine/Almanac.lean ====
section
/-! DEFINITION. The Almanac's storage and window (16_almanac_and_firmware_handover R487 to R498). -/
namespace Sys2Proof.Machine

/-- Live records the Almanac holds at most, slots of a sector, and sectors (R491). -/
def almCapacity : Nat := 262144
/-- Slots of a sector (R491). -/
def almSlots : Nat := 1024
/-- Sectors: 256 of the range and two in reserve (R491). -/
def almSectors : Nat := 258

/-- The live records, in SEQUENCE order. -/
def liveRecords (a : AlmState) : List AlmRecord := a.records.filter (·.live)

/-- ALM_STATUS FULL (R493, R496). -/
def almFull (a : AlmState) : Bool := (liveRecords a).length ≥ almCapacity

/-- Bytes 0x00 to 0x2F of a record, with FLAGS [7] as given (R487). -/
def recordHead (r : AlmStaged) (sequence : Nat) (prev : Word32) (live : Bool) : Bytes :=
  let flags := r.severity.toNat + (if r.calStamp then 4 else 0) + (if r.setB then 8 else 0)
    + (if r.boot then 16 else 0) + (if live then 128 else 0)
  b2 r.code.toNat ++ b1 (r.code.toNat / 256) ++ b1 flags ++ b4 r.powerCycle ++ b8 sequence ++ b8 r.firstStamp.toNat
    ++ padTo 20 r.params ++ b4 prev.toNat

/-- CHAIN of a record: CRC-32C of bytes 0x00 to 0x2F with FLAGS [7] taken as 1 (R487). -/
def chainOf (r : AlmStaged) (sequence : Nat) (prev : Word32) : Word32 := crc32c (recordHead r sequence prev true)

/-- The 64 bytes of a programmed record; an open one shows its REPEAT and LAST_STAMP as held in SRAM, or all ones
(R487, R497). -/
def recordBytes (r : AlmRecord) (opened : Option AlmOpen) : Bytes :=
  let tail := match r.closed, opened with
    | some (stamp, n), _ => b8 stamp.toNat ++ b4 n
    | none, some o => b8 o.lastStamp.toNat ++ b4 o.repeats
    | none, none => b8 (2 ^ 64 - 1) ++ b4 (2 ^ 32 - 1)
  recordHead r.body r.sequence r.prevChain r.live ++ tail ++ b4 r.chain.toNat

/-- Whether a record verifies alone (R488). -/
def verifiesAlone (r : AlmRecord) : Bool := r.chain == chainOf r.body r.sequence r.prevChain

/-- Whether two records verify as consecutive (R488). -/
def verifiesAfter (earlier later : AlmRecord) : Bool :=
  later.sequence == earlier.sequence + 1 && later.prevChain == earlier.chain

/-- The first live record of severity at most `n` made removed (R493). -/
def removeOldest (n : Nat) : List AlmRecord → Option (List AlmRecord)
  | [] => none
  | r :: t =>
    if r.live && r.body.severity.toNat ≤ n then some ({ r with live := false } :: t)
    else (removeOldest n t).map (r :: ·)

/-- The first write of a record in the next slot of the write sector, with the next SEQUENCE and its chain (R491,
R492); a record already closed in staging gets its close too. -/
def programRecord (a : AlmState) (r : AlmStaged) (closed : Option (Word64 × Nat)) : AlmState :=
  let c := chainOf r a.nextSequence a.lastChain
  { a with
    records := a.records ++ [{ body := r, sequence := a.nextSequence, prevChain := a.lastChain, chain := c
                               closed := closed, live := true, sector := a.writeSector, slot := a.writeSlot }]
    nextSequence := a.nextSequence + 1, lastChain := c, writeSlot := a.writeSlot + 1
    uart := a.uart ++ [.rec_ a.nextSequence r.code.toNat r.severity.toNat] }

/-- The staged record whose turn it is, and the others: the first accepted, or after PWRFAIL_N the first of the greatest severity (R492). -/
def takeStaged (bySeverity : Bool) (l : List (AlmStaged × Option (Word64 × Nat))) :
    Option ((AlmStaged × Option (Word64 × Nat)) × List (AlmStaged × Option (Word64 × Nat))) :=
  if !bySeverity then l.head?.map (fun p => (p, l.drop 1))
  else
    let top := l.foldl (fun m p => max m p.1.severity.toNat) 0
    (l.find? (fun p => p.1.severity.toNat == top)).map (fun p => (p, dropFirst (fun q => q.1.severity.toNat == top) l))

/-- The staged record whose turn it is programmed (R491 to R493, R495): it waits before step 6 has run, during a clear, for the
severity index when the Almanac is full, and for a compaction when the write sector is full. After PWRFAIL_N, which closes the open record, the
order is that of severity (log entry 276, DEDUCED). -/
def programStaged (a : AlmState) (bySeverity : Bool) : AlmState :=
  let a := if bySeverity then closeOpen a else a
  match takeStaged bySeverity a.staged with
  | none => a
  | some ((r, closed), rest) =>
    if !a.stampLoaded || a.clearing then a
    else if almFull a then
      if !a.indexed then a
      else match removeOldest r.severity.toNat a.records with
        | none =>
          let b := raiseDrop { a with staged := rest } r.severity
          if rest.isEmpty && closed.isNone then { b with openRec := none } else b
        | some recs =>
          if a.writeSlot ≥ almSlots then a else programRecord { a with staged := rest, records := recs } r closed
    else if a.writeSlot ≥ almSlots then a
    else programRecord { a with staged := rest } r closed

/-- Removed slots of a sector. -/
def removedIn (a : AlmState) (sector : Nat) : Nat := a.records.countP (fun r => r.sector == sector && !r.live)

/-- The sector to compact: a wholly erased one where there is one (log entry 22, DEDUCED), else the one with the most removed
slots, the oldest first among equals (R494). -/
def compactionVictim (a : AlmState) (write : Nat) : Nat :=
  let others := (List.range almSectors).filter (· != write)
  match others.find? (fun k => a.records.all (fun r => r.sector != k)) with
  | some k => k
  | none =>
    let oldest := fun k => (a.records.find? (fun r => r.sector == k)).elim 0 (·.sequence)
    others.foldl (fun best k =>
      if removedIn a k > removedIn a best then k
      else if removedIn a k == removedIn a best && oldest k < oldest best then k else best) (others.headD 0)

/-- Live records of a sector moved into the slots of another, from a first slot on; its removed slots are erased. -/
def moveSector (victim write : Nat) : Nat → List AlmRecord → List AlmRecord
  | _, [] => []
  | n, r :: t =>
    if r.sector != victim then r :: moveSector victim write n t
    else if r.live then { r with sector := write, slot := n } :: moveSector victim write (n + 1) t
    else moveSector victim write n t

/-- The spare becomes the write sector and one sector is compacted into it (R494). -/
def compact (a : AlmState) : AlmState :=
  if a.writeSlot < almSlots then a
  else
    let write := a.spareSector
    let victim := compactionVictim a write
    let copied := a.records.countP (fun r => r.sector == victim && r.live)
    { a with records := moveSector victim write 0 a.records, writeSector := write, writeSlot := copied, spareSector := victim }

/-- A sector of the Almanac goes to the Config Store queue to be erased (R90, R498). -/
def submitAlmErase (s : State) (sector : Nat) : State :=
  if s.media.csErase.isNone then beginOwnErase s (almSectorBase sector) else csWait s (.almErase sector)

/-- The erases of a clear begin (R498): CLEARING shows until the last has ended. -/
def beginClearErases (s : State) (sectors : List Nat) : State :=
  sectors.foldl submitAlmErase { s with alm := { s.alm with clearing := true, clearLeft := sectors, clearFailed := false } }

/-- An erase of an Almanac sector has ended: in a clear the sector's records are gone. -/
def sectorErased (a : AlmState) (sector : Nat) (ok : Bool) : AlmState :=
  if !a.clearLeft.contains sector then a
  else { a with records := a.records.filter (fun r => r.sector != sector), clearLeft := a.clearLeft.filter (· != sector)
                clearFailed := a.clearFailed || !ok }

/-- The compaction that a full write sector calls for, once the die is free: the chosen sector's live records are programmed into the new write
sector, and the die begins to erase it (R90, R494). -/
def compactNow (s : State) : State :=
  if s.alm.writeSlot < almSlots || s.media.csErase.isSome then s
  else
    let a := compact s.alm
    beginOwnErase { s with alm := a } (almSectorBase a.spareSector)

/-- The background read of step 6 (R495): the index completes, an interrupted compaction's source sector is erased, and
an interrupted clear goes on: every sector that holds records older than the newest Clear record is erased. -/
def indexRead (s : State) : State :=
  let a := s.alm
  let live := liveRecords a
  let twice := fun k => k != a.writeSector && live.any (fun r => r.sector == k) &&
    live.all (fun r => r.sector != k || live.any (fun q => q.sector != k && q.sequence == r.sequence))
  let recs := a.records.filter (fun r => !twice r.sector)
  let s := { s with alm := { a with records := recs, indexed := true } }
  match (recs.filter (fun r => r.live && r.body.code == 0x0A01)).getLast? with
  | none => s
  | some c =>
    let old := (List.range almSectors).filter (fun k => recs.any (fun r => r.sector == k && r.sequence < c.sequence))
    if old.isEmpty then s else beginClearErases s old

/-- The end marker of the window (R497). -/
def endMarker : Bytes := zeros 8 ++ b8 (2 ^ 64 - 1) ++ zeros 48

/-- The live records that the window shows for a cursor, in SEQUENCE order (R497). -/
def windowRecords (a : AlmState) (cursor : Nat) : List AlmRecord :=
  ((liveRecords a).filter (fun r => cursor ≤ r.sequence)).take 960

/-- The open record as the window shows it: the newest, when nothing is staged after it (R497). -/
def openShown (a : AlmState) : Option AlmOpen := if a.staged.isEmpty then a.openRec else none

/-- The window loaded from the cursor (R497). -/
def loadWindow (a : AlmState) : AlmState :=
  { a with window := (windowRecords a a.cursor.toNat).map (recordBytes · (openShown a)), ready := true }

/-- Slot i of the window as a read gives it (R496, R497). -/
def windowSlot (a : AlmState) (i : Nat) : Bytes :=
  if !a.ready then zeros 64 else a.window.getD i endMarker

/-- ALM_STATUS (R496). -/
def almStatus (a : AlmState) : Nat :=
  (if a.ready then 2 ^ 31 else 0) + (if almFull a then 2 ^ 30 else 0) + (if a.indexed then 2 ^ 29 else 0)
    + (if a.clearing then 2 ^ 28 else 0) + a.window.length

/-- An Almanac clear begins (R498): the open record is closed, a Clear record goes into the spare, and every other sector is to be erased. Staged
records stay to be programmed after the Clear record, which is closed at once (log entry 275, DESIGN CHOICE). -/
def clearAlmanac (s : State) (keyIndex : Nat) : State :=
  let a := closeOpen s.alm
  let r : AlmStaged :=
    { newRecord s 0x0A01 .critical
        (b8 (a.nextSequence - 1) ++ b4 a.lastChain.toNat ++ b4 (liveRecords a).length ++ b4 keyIndex) with boot := false }
  let a := programRecord { a with writeSector := a.spareSector, writeSlot := 0 } r (some (r.firstStamp, 1))
  let a := { a with spareSector := if a.writeSector = 0 then 1 else 0, event := a.event ||| 8#4 }
  beginClearErases { (csTurn s).getD s with alm := a } ((List.range almSectors).filter (· != a.writeSector))

/-- The event codes with the severities the catalogue lists (R500). -/
def catalogue : List (Nat × List Nat) :=
  [(0x0101, [1]), (0x0102, [1]), (0x0103, [1]), (0x0104, [1]), (0x0105, [2]), (0x0106, [1]), (0x0201, [1]),
   (0x0202, [0, 2]), (0x0203, [1, 2, 3]), (0x0301, [1]), (0x0302, [1]), (0x0303, [3]), (0x0304, [1, 3]),
   (0x0305, [3]), (0x0306, [3]), (0x0307, [0]), (0x0308, [2]), (0x0309, [1]), (0x030A, [1])]
  ++ [(0x0401, [1]), (0x0402, [1]), (0x0403, [2]), (0x0404, [1]), (0x0405, [2]), (0x0406, [3]), (0x0407, [2, 3]),
   (0x0410, [0, 1]), (0x0411, [1]), (0x0412, [2, 3]), (0x0413, [0]), (0x0414, [2]), (0x0415, [1]),
   (0x0501, [2]), (0x0502, [3]), (0x0503, [1]), (0x0601, [2]), (0x0602, [1]), (0x0603, [3]), (0x0604, [1, 2]),
   (0x0605, [0, 1]), (0x0606, [1]), (0x0701, [1]), (0x0702, [1]), (0x0703, [0, 2, 3]), (0x0704, [1, 2]),
   (0x0705, [1, 2, 3]), (0x0706, [3])]
  ++ [(0x0801, [1]), (0x0802, [1, 2]), (0x0803, [1, 2, 3]), (0x0804, [2, 3]), (0x0901, [3]), (0x0902, [0]),
   (0x0903, [1]), (0x0904, [0, 1]), (0x0905, [2]), (0x0A01, [3]), (0x0A02, [1]), (0x0A03, [1, 2]), (0x0A04, [2, 3]),
   (0x0A05, [1]), (0x0A06, [3]), (0x0A07, [1, 2]), (0x0A08, [1, 2]), (0x0A09, [1, 2]), (0x0A0A, [3]), (0x0A0B, [1])]
  ++ [(0x0B01, [0]), (0x0B02, [1]), (0x0B03, [1, 3]), (0x0B04, [1, 2, 3]), (0x0B05, [0, 1, 3]), (0x0B06, [2]),
   (0x0B07, [1]), (0x0C01, [1, 2, 3]), (0x0C02, [1]), (0x0C03, [2]), (0x0C04, [3]), (0x0C05, [1, 2]), (0x0C06, [3])]

/-- Whether the catalogue lists a code with a severity (R500). -/
def inCatalogue (code severity : Nat) : Bool := catalogue.any (fun e => e.1 == code && e.2.contains severity)

/-- The severity of a number 0 to 3. -/
def severityOf : Fin 4 → Severity
  | 0 => .info
  | 1 => .notice
  | 2 => .fault
  | 3 => .critical

/-- ALMANAC_RECORD_ACCEPT (R490, R492, R500): a record of the catalogue is accepted; nothing else is ever written. -/
def execAlmanacRecordAccept (code : Word16) (severity : Fin 4) (params : Bytes) (s : State) : Result :=
  .next (if inCatalogue code.toNat severity.val then record s code.toNat (severityOf severity) params else s)

/-- ALMANAC_RECORD_PROGRAM (R40, R90, R491 to R493): the program goes through the Config Store queue, where it suspends an erase, or waits
in staging once the erase has been suspended sixteen times. -/
def execAlmanacRecordProgram (s : State) : Result :=
  .next (let a := programStaged s.alm s.pwr.pwrfail
    if a.nextSequence = s.alm.nextSequence then { s with alm := a }
    else match csTurn s with
      | some s => { s with alm := a }
      | none => s)

/-- ALMANAC_COMPACTION (R494). -/
def execAlmanacCompaction (s : State) : Result := .next (compactNow s)

/-- ALMANAC_INDEX_READ (R495): after step 6 only. -/
def execAlmanacIndexRead (s : State) : Result :=
  .next (if s.alm.stampLoaded then indexRead s else s)

/-- DROP_COUNTER_SAVE (R492). -/
def execDropCounterSave (s : State) : Result := .next { s with alm := saveDrops s.alm }

/-- A write of ALM_CURSOR_LO (R496, R497): CURSOR's low half is written and the window is loaded. Without a Config Store that
answers (R396) READY stays 0. -/
def writeCursor (s : State) (lo : Word32) : State :=
  let a := { s.alm with cursor := s.alm.cursor &&& 0xFFFFFFFF00000000#64 ||| lo.setWidth 64, ready := false, window := [] }
  { s with alm := if s.boot.phase = .noStore then a else loadWindow a }

/-- ALM_CURSOR_WRITE (R496, R497). -/
def execAlmCursorWrite (lo : Word32) (s : State) : Result := .next (writeCursor s lo)

end Sys2Proof.Machine
end

