-- ==== Sys2Proof/Machine/Settings.lean ====
section
/-! DEFINITION. The settings of the Config Store: defaults, bounds in force and values (R128, R173, R211, R285, R372,
R425, R452, R486, R499), and the DRAM and capacity figures their bounds rest on (R130 to R132, R139, R144). -/
namespace Sys2Proof.Machine

/-- 2^30 bytes. -/
def gib : Nat := 2 ^ 30
/-- 2^20 bytes. -/
def mib : Nat := 2 ^ 20
/-- One hour in milliseconds. -/
def hourMs : Nat := 3600000

/-! ### Capacity (R130, R131, R140) -/

/-- Bytes of data of a multi-plane erase block. -/
def blockBytes (g : Geometry) : Nat := g.planes * g.pageData * g.pagesPerBlock

/-- Multi-plane erase blocks of sixteen carriers of a geometry: LUNs of 64 channels. -/
def blockCount (g : Geometry) : Nat := 64 * g.volumes * g.lunsPerVolume * g.blocksPerPlane

/-- Raw capacity of the sixteen members (R130). -/
def rawCapacity (g : Geometry) : Nat := blockCount g * blockBytes g

/-- Exportable capacity: three quarters of raw, rounded down to whole 8 GiB (R130). -/
def exportable (g : Geometry) : Nat := rawCapacity g * 3 / 4 / (8 * gib) * (8 * gib)

/-- Map segments of a namespace of a number of blocks (R131). -/
def segmentsOf (nsze : Nat) : Nat := divCeil nsze 2097152

/-- Map segments of the seal store: exportable capacity over 8,192, rounded up (R234). -/
def sealStoreSegments (g : Geometry) : Nat := divCeil (exportable g / 8192) (8 * gib)

/-- Map segments allocated to all namespaces. -/
def segmentsUsed (s : State) : Nat := (s.nvme.namespaces.map (fun p => segmentsOf p.2.nsze)).sum

/-- The most bands the band groups can hold (R139). -/
def bandsMax (g : Geometry) : Nat := g.volumes * (g.blocksPerPlane - 4)

/-- Blocks a carrier contributes to a band: bpc (R178). -/
def bpc (g : Geometry) : Nat := 4 * g.lunsPerVolume

/-- XOR groups of a band: G (R178). -/
def bandGroupsXor (g : Geometry) : Nat := bpc g * g.pagesPerBlock / 32

/-- Stripes of a band: 31 G (R178). -/
def bandStripes (g : Geometry) : Nat := 31 * bandGroupsXor g

/-- Data offsets of a band: 240 in each stripe (R135). -/
def bandData (g : Geometry) : Nat := 240 * bandStripes g

/-! ### Open bands (R144) -/

/-- The bound on the sum of the open-band counts for a number of band groups (R144). -/
def openBound (groups : Nat) : Nat := if groups ≥ 2 then 2 * groups else 3

/-- One lowering of the largest count above one, Nimbus first, then Cirrus, then Stratus among equals (R144). -/
def lowerCount (c st n : Nat) : Nat × Nat × Nat :=
  if n > 1 && n ≥ c && n ≥ st then (c, st, n - 1)
  else if c > 1 && c ≥ st && c ≥ n then (c - 1, st, n)
  else if st > 1 then (c, st - 1, n)
  else (c, st, n)

/-- The effective open-band counts within a bound, in at most `fuel` lowerings (R144). -/
def effectiveOpen (bound : Nat) : Nat → Nat → Nat → Nat → Nat × Nat × Nat
  | 0, c, st, n => (c, st, n)
  | fuel + 1, c, st, n =>
    if c + st + n ≤ bound then (c, st, n)
    else
      let (c', st', n') := lowerCount c st n
      effectiveOpen bound fuel c' st' n'

/-- The band groups of the array, or 16 before one is formed (R173). -/
def bandGroups (s : State) : Nat := if s.red.st = .none then 16 else s.red.geometry.volumes

/-! ### DRAM (R139, R398) -/

/-- GiB of DRAM installed: the DIMMs present. -/
def installedGib (s : State) : Nat := (s.dram.ch.toList.map (fun c => if c.st = .absent then 0 else c.dimmGib)).sum

/-- Channels in use (R399). -/
def channelsInUse (s : State) : Nat := s.dram.ch.toList.countP (fun c => c.st == .inUse)

/-- Bytes of DRAM in use. -/
def dramBytes (s : State) : Nat := channelsInUse s * s.dram.dimmGib * gib

/-- Bytes of DIRTY and IN_FLIGHT: two bits for each span of a namespace that a mirror or a migration sends (R269, R277). -/
def mirrorBytes (s : State) : Nat :=
  let bytes := fun (n : Namespace) => divCeil (2 * divCeil n.nsze 256) 8
  ((s.halo.mirrors.filter (fun m => !m.secondary)).map (fun m => (lookup s.nvme.namespaces m.localNsid).elim 0 bytes)).sum
    + (if s.halo.migration.any (fun g => !g.successor) then (s.nvme.namespaces.map (fun p => bytes p.2)).sum else 0)

/-- The Table-class bytes of R139 and R269 besides the fine-map pool, for a number of map segments and a sum of open bands. -/
def tableBytes (s : State) (segments opened : Nat) : Nat :=
  let g := s.red.geometry
  (segments + sealStoreSegments g) * 8192 * 8 + segments * 4 + blockCount g * 16 + bandsMax g * 64 + bandsMax g * 4096
    + opened * bandData g * 16 + mirrorBytes s

/-- All of R139's allocations for a pool, a dirty limit, a number of segments and a sum of open bands. -/
def dramDemand (s : State) (pool dirty segments opened : Nat) : Nat :=
  tableBytes s segments opened + pool + 2 * dirty + 16 * gib

/-- The DRAM reserved for the redundancy tables (R194): a band entry for every band, substitution entries for bpc + 16 positions of each, and
1,048,576 exception entries. -/
def redReserve (g : Geometry) : Nat := bandsMax g * 32 + 8 * (bpc g + 16) * bandsMax g + 8 * 1048576

/-! ### The settings tables -/

/-- The default of FINE_POOL: installed DRAM / 16 (R173), the DRAM in use counting as installed (R400). -/
def finePoolDefault (s : State) : Nat := dramBytes s / 16

/-- The Device family: Translation settings 1 to 9 (R173) and memory settings 10 to 14 (R425). -/
def deviceSetting (s : State) (idx : Nat) : Option SettingInfo :=
  let bound := openBound (bandGroups s)
  let c := settingRaw s 0x01 5 0 4
  let st := settingRaw s 0x01 6 0 8
  let n := settingRaw s 0x01 7 0 4
  let opened := s.map.openCounts.toList.sum
  let dirty := settingRaw s 0x01 14 0 (4 * gib)
  match idx with
  | 1 => some { dflt := finePoolDefault s, lo := 4 * gib
                hi := min (256 * gib) (dramBytes s - dramDemand s 0 dirty (segmentsUsed s) opened) }
  | 2 => some { dflt := 20, lo := 5, hi := 60 }
  | 3 => some { dflt := 8, lo := 4, hi := 64 }
  | 4 => some { dflt := 24 * hourMs, lo := hourMs, hi := 720 * hourMs }
  | 5 => some { dflt := 4, lo := 1, hi := min 8 (bound - st - n) }
  | 6 => some { dflt := 8, lo := 1, hi := min 8 (bound - c - n) }
  | 7 => some { dflt := 4, lo := 1, hi := min 8 (bound - c - st) }
  | 8 => some { dflt := 8 * gib, lo := 2 * gib, hi := 32 * gib }
  | 9 => some { dflt := 0, lo := 0, hi := 2 }
  | 10 => some { dflt := 2, lo := 0, hi := 4 }
  | 11 => some { dflt := 24 * hourMs, lo := hourMs, hi := 168 * hourMs }
  | 12 => some { dflt := 10000, lo := 1000, hi := 600000 }
  | 13 => some { dflt := 60000, lo := 10000, hi := 3600000 }
  | 14 => some { dflt := 4 * gib, lo := gib, hi := 16 * gib, form := 2 }
  | _ => none

/-- The Redundancy family (R211). -/
def redundancySetting (idx : Nat) : Option SettingInfo :=
  match idx with
  | 1 => some { dflt := 25, lo := 5, hi := 60 }
  | 2 => some { dflt := 40, lo := 10, hi := 60 }
  | 3 => some { dflt := 20, lo := 5, hi := 60 }
  | 4 => some { dflt := 32, lo := 4, hi := 64, form := 1 }
  | 5 => some { dflt := 1000, lo := 10, hi := 60000 }
  | 6 => some { dflt := 4, lo := 1, hi := 16 }
  | 7 => some { dflt := 25, lo := 0, hi := 100 }
  | 8 => some { dflt := 64, lo := 1, hi := 1024 }
  | 9 => some { dflt := 1, lo := 0, hi := 1 }
  | _ => none

/-- The Retention family (R128). -/
def retentionSetting (idx : Nat) : Option SettingInfo :=
  match idx with
  | 1 => some { dflt := 2000, lo := 200, hi := 20000 }
  | 2 => some { dflt := 30, lo := 5, hi := 60 }
  | 3 => some { dflt := 1000, lo := 0, hi := 10000 }
  | 4 => some { dflt := 15, lo := 5, hi := 60 }
  | 5 => some { dflt := 87600, lo := 8760, hi := 262800 }
  | 6 => some { dflt := 43800, lo := 4380, hi := 131400 }
  | 7 => some { dflt := 10, lo := 0, hi := 20 }
  | 8 => some { dflt := 1, lo := 0, hi := 1 }
  | 9 => some { dflt := 20000, lo := 2000, hi := 200000 }
  | _ => none

/-- The Halo family, with the moving bounds of PEER_TIMEOUT and MIRROR_TIMEOUT (R285). -/
def haloSetting (s : State) (idx : Nat) : Option SettingInfo :=
  let mirror := settingRaw s 0x07 7 0 200
  let peer := settingRaw s 0x07 6 0 1000
  match idx with
  | 1 => some { dflt := 0, lo := 0, hi := 0xFFFFFFFF }
  | 2 => some { dflt := 0, lo := 0, hi := 31 }
  | 3 => some { dflt := 0, lo := 0, hi := 2 }
  | 4 => some { dflt := 0, lo := 0, hi := 1 }
  | 5 => some { dflt := 1, lo := 0, hi := 1 }
  | 6 => some { dflt := 1000, lo := max 200 mirror, hi := 60000 }
  | 7 => some { dflt := 200, lo := 10, hi := peer }
  | 8 => some { dflt := 30, lo := 5, hi := 60 }
  | 9 => some { dflt := 1048576, lo := 1024, hi := 16777216 }
  | 10 => some { dflt := 4 * gib, lo := 64 * mib, hi := 64 * gib }
  | 11 => some { dflt := 5000, lo := 100, hi := 60000 }
  | 12 => some { dflt := 60000, lo := 1000, hi := 600000 }
  | 13 => some { dflt := 0, lo := 0, hi := 2 ^ 160 - 1 }
  | _ => none

/-- The Almanac family (R499). -/
def almanacSetting (idx : Nat) : Option SettingInfo :=
  match idx with
  | 1 => some { dflt := 0, lo := 0, hi := 1 }
  | _ => none

/-- The Power/Health family (R452). -/
def powerSetting (idx : Nat) : Option SettingInfo :=
  match idx with
  | 1 => some { dflt := 1, lo := 1, hi := 2 }
  | 2 => some { dflt := 2, lo := 1, hi := 3 }
  | 3 => some { dflt := 0, lo := hourMs, hi := 8760 * hourMs, form := 3 }
  | 4 => some { dflt := 0, lo := 0, hi := 3 }
  | 5 => some { dflt := 20, lo := 10, hi := 50 }
  | 6 => some { dflt := 256 * mib, lo := 64 * mib, hi := gib }
  | _ => none

/-- The Cooling family, with the moving bounds of the program window (R486). -/
def coolingSetting (s : State) (idx : Nat) : Option SettingInfo :=
  match idx with
  | 1 => some { dflt := 30, lo := 0, hi := min 85 (settingRaw s 0x0A 2 0 70 - 5) }
  | 2 => some { dflt := 70, lo := settingRaw s 0x0A 1 0 30 + 5, hi := 85 }
  | 3 => some { dflt := 10000, lo := 1000, hi := 600000 }
  | 4 => some { dflt := 100, lo := 10, hi := 1000 }
  | 5 => some { dflt := 105, lo := 85, hi := 110 }
  | 6 => some { dflt := 20, lo := 5, hi := 100 }
  | 7 => some { dflt := 25, lo := 5, hi := 50 }
  | _ => none

/-- The table entry of a family's setting (R372). -/
def settingInfo (s : State) (fam idx : Nat) : Option SettingInfo :=
  match fam with
  | 0x01 => deviceSetting s idx
  | 0x04 => redundancySetting idx
  | 0x05 => retentionSetting idx
  | 0x07 => haloSetting s idx
  | 0x08 => almanacSetting idx
  | 0x09 => powerSetting idx
  | 0x0A => coolingSetting s idx
  | _ => none

/-- Whether a value is allowed to a setting: within the bounds in force and of the form its table gives. -/
def SettingInfo.allows (i : SettingInfo) (v : Nat) : Bool :=
  match i.form with
  | 1 => i.lo ≤ v && v ≤ i.hi && v % 2 == 0
  | 2 => i.lo ≤ v && v ≤ i.hi && v % (256 * mib) == 0
  | 3 => v == 0 || (i.lo ≤ v && v ≤ i.hi)
  | _ => i.lo ≤ v && v ≤ i.hi

/-- The value in force of a setting (R372). -/
def setting (s : State) (fam idx : Nat) (nsid : Nat := 0) : Nat :=
  settingRaw s fam idx nsid ((settingInfo s fam idx).elim 0 (·.dflt))

/-- The key order of the settings list. -/
def settingBefore (a b : Nat × Nat × Nat) : Bool :=
  a.1 < b.1 || (a.1 == b.1 && (a.2.1 < b.2.1 || (a.2.1 == b.2.1 && a.2.2 < b.2.2)))

/-- A settings list with a value set. -/
def insertSetting (l : Settings) (k : Nat × Nat × Nat) (v : Nat) : Settings :=
  match l with
  | [] => [(k, v)]
  | e :: t =>
    if settingBefore k e.1 then (k, v) :: e :: t
    else if e.1 == k then (k, v) :: t
    else e :: insertSetting t k v

/-- A settings list without a key. -/
def removeSetting (l : Settings) (k : Nat × Nat × Nat) : Settings := l.filter (fun e => e.1 != k)

/-- A setting written: a value equal to the default takes no entry. -/
def setSetting (s : State) (fam idx nsid v : Nat) : State :=
  let dflt := (settingInfo s fam idx).elim 0 (·.dflt)
  let k := (fam, idx, nsid)
  { s with settings := if v = dflt && !(fam = 0x01 && idx = 1) then removeSetting s.settings k
                       else insertSetting s.settings k v }

/-! ### Settings by their names -/

/-- FINE_POOL in bytes (R173). -/
def finePool (s : State) : Nat := setting s 0x01 1
/-- JOURNAL_LIMIT in bytes (R173). -/
def journalLimit (s : State) : Nat := setting s 0x01 8
/-- STREAM_POLICY of a namespace (R143). -/
def streamPolicy (s : State) (nsid : Nat) : Nat := setting s 0x01 9 nsid
/-- GROUPS_AHEAD (R211). -/
def groupsAhead (s : State) : Nat := setting s 0x04 4
/-- RING_ID (R285). -/
def ringId (s : State) : Nat := setting s 0x07 1
/-- NODE_ID (R285). -/
def nodeId (s : State) : Nat := setting s 0x07 2
/-- PERF_CAP (R452). -/
def perfCap (s : State) : Nat := setting s 0x09 4
/-- PROGRAM_WINDOW_LOW (R486). -/
def windowLow (s : State) : Int := setting s 0x0A 1
/-- PROGRAM_WINDOW_HIGH (R486). -/
def windowHigh (s : State) : Int := setting s 0x0A 2

end Sys2Proof.Machine
end

