-- ==== Sys2Proof/Machine/DramQueue.lean ====
section
/-! DEFINITION. The linear DRAM address space, its interleave over the channels, and the queues of each channel (13_memory_protection R401,
R402, R404, R405). -/
namespace Sys2Proof.Machine

/-- A DRAM channel. -/
def dramAt (s : State) (ch : Nat) : DramChan := vget s.dram.ch {} ch
/-- A DRAM channel changed. -/
def modDram (s : State) (ch : Nat) (f : DramChan → DramChan) : State :=
  { s with dram := { s.dram with ch := vset s.dram.ch ch (f (dramAt s ch)) } }

/-! ### Addresses (R401, R402) -/

/-- The interleave grain in bytes (R402, R425). -/
def dramGrain (s : State) : Nat := 256 * 4 ^ s.dram.interleave

/-- The channels in use. -/
def channelsUsed (s : State) : List Nat := (List.range 8).filter (fun c => (dramAt s c).st == .inUse)

/-- The pairs in use: each by its even channel (R399). -/
def pairsUsed (s : State) : List Nat := [0, 2, 4, 6].filter (fun c => (dramAt s c).st == .inUse)

/-- Whether an address lies in the write cache (R402). -/
def inWriteCache (s : State) (addr : Nat) : Bool := s.dram.cacheBase ≤ addr && addr < s.dram.cacheBase + s.dram.cacheSize

/-- Whether a request for an address is of the Table class (R401). -/
def isTableAddr (s : State) (addr : Nat) : Bool := addr < s.dram.tableSize

/-- The channel that holds an address (R402): grains go to consecutive channels in use; in the write cache to consecutive pairs, copy 0 on the
even channel of the pair and copy 1 on the odd one. -/
def dramChannelOf (s : State) (addr : Nat) : Nat :=
  let grain := dramGrain s
  if inWriteCache s addr then
    let half := s.dram.cacheSize / 2
    let off := addr - s.dram.cacheBase
    let pairs := pairsUsed s
    pairs.getD (off % half / grain % pairs.length) 0 + off / half
  else
    let used := channelsUsed s
    used.getD (addr / grain % used.length) 0

/-- A range cut where the grains end. -/
def grainPieces (grain : Nat) : Nat → Nat → Nat → List (Nat × Nat)
  | 0, _, _ => []
  | fuel + 1, addr, len =>
    if len = 0 then []
    else
      let n := min len (grain - addr % grain)
      (addr, n) :: grainPieces grain fuel (addr + n) (len - n)

/-! ### The queues of a channel (R404, R405) -/

/-- Whether two requests share a 64-byte unit (R404). -/
def DramReq.meets (a b : DramReq) : Bool := a.unit < b.unit + b.units && b.unit < a.unit + a.units

/-- Whether some read of a channel waits for a pending write of its address (R404). -/
def readMatches (c : DramChan) : Bool := c.reads.any (fun r => c.writes.any r.meets)

/-- The read that is served first: a Table-class one before a Buffer-class one (R405). -/
def firstRead (c : DramChan) : Option DramReq :=
  match c.reads.find? (·.table) with
  | some r => some r
  | none => c.reads.head?

/-- The request that a channel serves next, and whether it is a write (R404, R405): the writes drain for a read that matches one of them, or
while their queue is three quarters full; else reads go first. Without a read the writes wait. -/
def nextRequest (c : DramChan) : Option (Bool × DramReq) :=
  if readMatches c || 3 * Config.dramWriteQueue ≤ 4 * c.writes.length then
    match c.writes.head? with
    | some w => some (true, w)
    | none => (firstRead c).map (fun r => (false, r))
  else (firstRead c).map (fun r => (false, r))

/-- The requests that a channel serves one after another, at most a number. -/
def serveChannel : Nat → DramChan → DramChan
  | 0, c => c
  | fuel + 1, c =>
    match nextRequest c with
    | none => c
    | some (true, w) => serveChannel fuel { c with writes := c.writes.drop 1, served := c.served ++ [(true, w)] }
    | some (false, r) => serveChannel fuel { c with reads := c.reads.erase r, served := c.served ++ [(false, r)] }

/-- A request that reaches its channel, which then serves what it may. -/
def enterRequest (c : DramChan) (write : Bool) (r : DramReq) : DramChan :=
  let c := if write then { c with writes := c.writes ++ [r], served := [] } else { c with reads := c.reads ++ [r], served := [] }
  serveChannel (c.reads.length + c.writes.length) c

/-- An access of a range of DRAM, on every channel that holds a part of it. -/
def dramPort (s : State) (write : Bool) (addr len : Nat) : State :=
  (grainPieces (dramGrain s) (len / dramGrain s + 2) addr len).foldl (fun s p =>
    modDram s (dramChannelOf s p.1) (fun c =>
      enterRequest c write { unit := p.1 / 64, units := (p.1 + p.2 - 1) / 64 - p.1 / 64 + 1, table := isTableAddr s p.1 })) s

/-- An access of DRAM; while frozen there is none but the diagnostic read port's (R408). -/
def dramAccess (s : State) (write : Bool) (addr len : Nat) : State := if s.dram.frozen then s else dramPort s write addr len

end Sys2Proof.Machine
end

