-- ==== Sys2Proof/Machine/MapOps.lean ====
section
/-! DEFINITION. The map, its journal and the write cache (04_translation R130 to R172): the shared operations of the
Translation Engine. -/
namespace Sys2Proof.Machine

/-! ### Keys -/

/-- Whether the work that DRAM and the media serve runs: the map is loaded, and the device is not frozen, not flushing, and in Zenith or
Dusk, and no Sanitize runs (R334, R381, R408, R431, R447). -/
def workRuns (s : State) : Bool :=
  (s.boot.intake || (s.boot.phase == .running && 13 ≤ s.boot.step)) && !s.dram.frozen && s.pwr.flush == 0 && s.nvme.sanitize.running == 0
    && (s.pwr.sleep == .zenith || s.pwr.sleep == .dusk)
/-- A piece of that work: nothing happens while it does not run. -/
def background (s : State) (f : State → State) : State := if workRuns s then f s else s
/-- An activity that boot step 16 starts (R381). -/
def afterStart (s : State) (f : State → State) : State := if s.boot.bgStarted then background s f else s

/-- The key of a logical block. -/
def entryKey (nsid lba : Nat) : Nat := nsid * 2 ^ 48 + lba
/-- The key of a span. -/
def spanKey (nsid span : Nat) : Nat := nsid * 2 ^ 40 + span
/-- The span of a block: 256 blocks, 1 MiB (R131). -/
def spanOf (lba : Nat) : Nat := lba / 256
/-- The spans that a range of blocks touches. -/
def spansOf (lba count : Nat) : List Nat :=
  if count = 0 then [] else (List.range (spanOf (lba + count - 1) - spanOf lba + 1)).map (· + spanOf lba)

/-! ### Entries (R133 to R135) -/

/-- What the map says of a block: none for deallocated (R134). -/
def mapAt (c : MapCore) (nsid lba : Nat) : Option MapEntry := lookup c.entries (entryKey nsid lba)

/-- The entries of a span (R134): a span of which every block is deallocated has none. -/
def spanEntries (c : MapCore) (k : Nat) : List (Nat × MapEntry) := c.entries.filter (fun e => e.1 / 256 == k)

/-- Whether entries are those of 256 consecutive data offsets of a band from an offset on. -/
def consecutive (es : List (Nat × MapEntry)) (b o : Nat) : Bool := es.zipIdx.all (fun p => p.1.2 == .mapped b (o + p.2))

/-- The type of a span (R133, R135): 0 DEALLOCATED, 1 DIRECT where its 256 blocks lie where they were destaged together, 2 FINE, 3 ZERO. -/
def spanTypeAt (c : MapCore) (k : Nat) : Nat :=
  let es := spanEntries c k
  if es.isEmpty then 0
  else if es.length ≠ 256 then 2
  else if es.all (fun e => e.2 == .zero) then 3
  else match lookup c.direct k with
    | some (b, o) => if consecutive es b o then 1 else 2
    | none => 2

/-- The lowest FINE_INDEX that no fine map has (R133). -/
def freeFine (l : List (Nat × Nat)) : Nat :=
  ((List.range (l.length + 1)).find? (fun i => !l.any (fun p => p.2 == i))).getD 0

/-- A span after a change (R135): one that is FINE has a fine map, one that is uniform again gives its own back. -/
def settleSpan (c : MapCore) (k : Nat) : MapCore :=
  let ty := spanTypeAt c k
  let c := if ty = 0 || ty = 3 then { c with direct := remove c.direct k } else c
  if ty = 2 then (if (lookup c.fine k).isSome then c else { c with fine := insert c.fine k (freeFine c.fine) })
  else { c with fine := remove c.fine k }

/-- The spans of a range after a change of the whole range: its first and last, and those that have a fine map or were destaged together. -/
def settleRange (c : MapCore) (nsid lba count : Nat) : MapCore :=
  let first := spanKey nsid (spanOf lba)
  let last := spanKey nsid (spanOf (lba + count - 1))
  let inside := fun (k : Nat) => first < k && k < last
  let ks := [first, last] ++ (c.fine.map (·.1)).filter inside ++ (c.direct.map (·.1)).filter inside
  if count = 0 then c else ks.foldl settleSpan c

/-- One block's entry changed. -/
def mapSet (c : MapCore) (nsid lba : Nat) (e : Option MapEntry) : MapCore :=
  settleSpan (match e with
    | none => { c with entries := remove c.entries (entryKey nsid lba) }
    | some v => { c with entries := insert c.entries (entryKey nsid lba) v }) (spanKey nsid (spanOf lba))

/-- One block placed at a data offset of a band; `whole`: its span was destaged together (R135). -/
def mapPlace (c : MapCore) (nsid lba band offset : Nat) (whole : Bool) : MapCore :=
  let k := spanKey nsid (spanOf lba)
  mapSet (if whole then { c with direct := insert c.direct k (band, offset - lba % 256) } else c) nsid lba (some (.mapped band offset))

/-- Every block of a range deallocated (R160). -/
def mapDealloc (c : MapCore) (nsid lba count : Nat) : MapCore :=
  settleRange { c with entries := c.entries.filter (fun e => !(entryKey nsid lba ≤ e.1 && e.1 < entryKey nsid lba + count)) } nsid lba count

/-- Every block of a range set to ZERO (R160). -/
def mapZero (c : MapCore) (nsid lba count : Nat) : MapCore :=
  settleRange { c with entries := (List.range count).foldl (fun m i => insert m (entryKey nsid (lba + i)) .zero) c.entries } nsid lba count

/-- VALID of a band: data blocks the map references (R141). -/
def bandValid (c : MapCore) (band : Nat) : Nat :=
  c.entries.countP (fun e => match e.2 with
    | .mapped b _ => b == band
    | _ => false)

/-- The blocks of the map that lie in a band, as (NSID, LBA, offset). -/
def bandBlocks (c : MapCore) (band : Nat) : List (Nat × Nat × Nat) :=
  c.entries.filterMap (fun e => match e.2 with
    | .mapped b o => if b = band then some (e.1 / 2 ^ 48, e.1 % 2 ^ 48, o) else none
    | _ => none)

/-- A band of the core. -/
def bandAt (c : MapCore) (band : Nat) : Option Band := lookup c.bands band

/-- A band of the core changed, where it exists. -/
def bandMod (c : MapCore) (band : Nat) (f : Band → Band) : MapCore :=
  match lookup c.bands band with
  | none => c
  | some b => { c with bands := insert c.bands band (f b) }

/-- Every band changed. -/
def bandsMap (c : MapCore) (f : Nat → Band → Band) : MapCore := { c with bands := c.bands.map (fun p => (p.1, f p.1 p.2)) }

/-- The type of a span of a namespace (R133). -/
def spanType (c : MapCore) (nsid span : Nat) : Nat := spanTypeAt c (spanKey nsid span)

/-- Bit 15 of a span entry: SEALED (R133). -/
def spanSealed (c : MapCore) (nsid span : Nat) : Bool := (lookup c.sealed (spanKey nsid span)).isSome

/-- Whether a range touches a sealed span (R161). -/
def rangeSealed (c : MapCore) (nsid lba count : Nat) : Bool := (spansOf lba count).any (spanSealed c nsid)

/-- SEALED set or cleared on a run of spans. -/
def sealSpans (c : MapCore) (nsid first count : Nat) (on : Bool) : MapCore :=
  { c with sealed := (List.range count).foldl (fun m i =>
      if on then insert m (spanKey nsid (first + i)) () else remove m (spanKey nsid (first + i))) c.sealed }

/-- The 64 bits of a span entry (R133): BAND and OFFSET of a DIRECT span, FINE_INDEX of a FINE one. -/
def spanEntry (c : MapCore) (nsid span : Nat) : Nat :=
  let k := spanKey nsid span
  let ty := spanType c nsid span
  let place := match ty, lookup c.direct k with
    | 1, some (b, o) => b * 2 ^ 41 + o * 2 ^ 16
    | 2, _ => readAt 0 c.fine k * 2 ^ 32
    | _, _ => 0
  ty * 2 ^ 62 + place + (if spanSealed c nsid span then 2 ^ 15 else 0)

/-- The 64 bits of an entry of a fine map (R134). -/
def fineEntry (e : Option MapEntry) : Nat :=
  match e with
  | none => 0
  | some (.mapped b o) => 2 ^ 62 + b * 2 ^ 41 + o * 2 ^ 16
  | some .lost => 2 * 2 ^ 62
  | some .zero => 3 * 2 ^ 62

/-- The spans of the map that have a fine map (R135). -/
def fineSpans (c : MapCore) : List Nat := c.fine.map (·.1)

/-- Bytes of the fine-map pool in use: 2 KiB for each fine map (R134). -/
def finePoolUsed (c : MapCore) : Nat := c.fine.length * 2048

/-- Occupancy of the fine-map pool, per mille (R136). -/
def finePoolMille (s : State) : Nat := finePoolUsed s.map.core * 1000 / (finePool s)

/-- Whether a change of some spans needs more fine maps than the pool has room for (R136). -/
def poolFull (s : State) (spans : List Nat) : Bool :=
  let need := spans.eraseDups.countP (fun k => (lookup s.map.core.fine k).isNone)
  need != 0 && finePool s < finePoolUsed s.map.core + 2048 * need

/-- Whether a change of a range needs a fine map that a full pool cannot give (R136): for a partial span that is not FINE already. -/
def poolHolds (s : State) (nsid lba count : Nat) : Bool :=
  poolFull s (((spansOf lba count).filter (fun sp => !(lba ≤ sp * 256 && sp * 256 + 256 ≤ lba + count))).map (spanKey nsid))

/-! ### Segment tables (R131) -/

/-- A run of segments into a list in order of position. -/
def insertRun (x : Nat × Nat) : List (Nat × Nat) → List (Nat × Nat)
  | [] => [x]
  | y :: t => if x.1 ≤ y.1 then x :: y :: t else y :: insertRun x t

/-- `n` segments from the gaps between the runs in use, lowest positions first, from a position on. -/
def gapRuns : List (Nat × Nat) → Nat → Nat → List (Nat × Nat)
  | [], pos, n => if n = 0 then [] else [(pos, n)]
  | (f, c) :: t, pos, n =>
    if n = 0 then []
    else if pos < f then (pos, min (f - pos) n) :: gapRuns t (f + c) (n - (f - pos))
    else gapRuns t (max pos (f + c)) n

/-- The runs of span-map positions that a new namespace's segments take. -/
def newSegments (c : MapCore) (n : Nat) : List (Nat × Nat) := gapRuns ((c.segs.flatMap (·.2)).foldr insertRun []) 0 n

/-- A run of segments added to a namespace's segment table. -/
def addSegments (c : MapCore) (nsid : Nat) (r : Nat × Nat) : MapCore :=
  { c with segs := insert c.segs nsid (readAt [] c.segs nsid ++ [r]) }

/-- A namespace's segments given up. -/
def dropSegments (c : MapCore) (nsid : Nat) : MapCore := { c with segs := remove c.segs nsid }

/-- The span-map position of a namespace's segment (R131). -/
def segmentAt : List (Nat × Nat) → Nat → Option Nat
  | [], _ => none
  | (f, c) :: t, i => if i < c then some (f + i) else segmentAt t (i - c)

/-! ### The journal (R151, R154) -/

/-- Records of one journal page (R151). -/
def pageRecords : Nat := 1280

/-- Records the 2 MiB tail buffer holds (R151). -/
def tailSize : Nat := 2 * mib / 48

/-- The retained journal in bytes (R153, R154). -/
def retainedBytes (s : State) : Nat := divCeil s.map.journal.length pageRecords * 65536

/-- Whether a change that needs `n` journal records waits (R154): the retained journal has reached JOURNAL_LIMIT, or the
tail buffer has no room. -/
def journalHolds (s : State) (n : Nat) : Bool :=
  journalLimit s ≤ retainedBytes s || tailSize < s.map.tail.length + n

/-- A wait at JOURNAL_LIMIT: its Notice record, once for each wait (R154). -/
def journalWait (s : State) : State :=
  if s.map.journalFull || retainedBytes s < journalLimit s then s
  else record { s with map := { s.map with journalFull := true } } 0x0302 .notice (b4 (retainedBytes s / mib))

/-- Records added to the tail buffer (R151). -/
def addRecords (s : State) (rs : List JrnRecord) : State :=
  { s with map := { s.map with tail := s.map.tail ++ rs, journalFull := false } }

/-- A change of the map's core. -/
def setCore (s : State) (c : MapCore) : State := { s with map := { s.map with core := c } }

/-- The next `n` map sequence numbers taken: the first of them (R138). -/
def takeMsn (s : State) (n : Nat) : Nat × State := (s.map.msn, { s with map := { s.map with msn := s.map.msn + n } })

/-! ### The write cache (R147 to R149, R35) -/

/-- The newest line of a block (R148). -/
def lineOf (ls : List CacheLine) (nsid lba : Nat) : Option CacheLine :=
  ls.foldl (fun best l =>
    if l.nsid == nsid && l.lba == lba && !l.superseded then
      match best with
      | none => some l
      | some b => if b.msn < l.msn then some l else best
    else best) none

/-- The lines that count in the dirty amount: DIRTY and DESTAGING (R147). -/
def dirtyLines (ls : List CacheLine) : List CacheLine := ls.filter (fun l => l.st != .clean)

/-- The dirty amount in bytes (R147). -/
def dirtyBytes (s : State) : Nat := (dirtyLines s.map.lines).length * 4096

/-- What bounds the dirty amount: the effective limit, or WRITE_THROUGH_BELOW in write-through (R35, R446). -/
def admissionLimit (s : State) : Nat := if s.pwr.writeThrough then setting s 0x09 6 else s.pwr.effective

/-- Whether a block's DIRTY line would take a new write in place (R148). -/
def hasDirty (ls : List CacheLine) (nsid lba : Nat) : Bool :=
  ls.any (fun l => l.nsid == nsid && l.lba == lba && l.st == .dirty && l.provisional.isNone)

/-- Whether a write of a number of blocks may be admitted now (R147): its lines are provisional, beside any older line of
a block (R320), so each of its blocks needs a new line. -/
def mayAdmit (s : State) (count : Nat) : Bool := dirtyBytes s + 4096 * count ≤ admissionLimit s

/-- The lowest frame of the write cache that no line has and that is not withdrawn (R413): a CLEAN line is read cache and has left its own (R139,
R147). -/
def freeFrame (bad : List Nat) (ls : List CacheLine) : Nat :=
  let used := (dirtyLines ls).map (·.frame) ++ bad
  ((List.range (used.length + 1)).find? (fun i => !used.contains i)).getD 0

/-- One block into the cache: a provisional line is held beside any other line of its block (R320); otherwise the line
replaces a DIRTY line in place, or is taken new and frees a CLEAN one (R148). -/
def cacheStore (bad : List Nat) (ls : List CacheLine) (l : CacheLine) : List CacheLine :=
  if l.provisional.isSome then ls ++ [{ l with frame := freeFrame bad ls }]
  else if hasDirty ls l.nsid l.lba then
    ls.map (fun o => if o.nsid == l.nsid && o.lba == l.lba && o.st == .dirty && o.provisional.isNone then { l with frame := o.frame } else o)
  else ls.filter (fun o => !(o.nsid == l.nsid && o.lba == l.lba && o.st == .clean)) ++ [{ l with frame := freeFrame bad ls }]

/-- The DRAM address of a copy of a line (R402): copy 0 in the lower half of the write cache, copy 1 at the same offset of the upper. -/
def lineAddr (s : State) (l : CacheLine) (copy : Nat) : Nat := s.dram.cacheBase + copy * (s.dram.cacheSize / 2) + 4096 * l.frame

/-- The address at which a line is read: copy 0, or copy 1 where the channel of copy 0 has failed (R402, R409). -/
def lineReadAddr (s : State) (l : CacheLine) : Nat :=
  lineAddr s l (if (dramAt s (dramChannelOf s (lineAddr s l 0))).st == .failed then 1 else 0)

/-- A line read from the write cache; a CLEAN line has left it (R404). -/
def readLine (s : State) (l : CacheLine) : State := if l.st == .clean then s else dramAccess s false (lineReadAddr s l) 4096

/-- A line written to both channels of its pair (R147, R402). -/
def writeLine (s : State) (l : CacheLine) : State :=
  dramAccess (dramAccess s true (lineAddr s l 0) 4096) true (lineAddr s l 1) 4096

/-- CLEAN lines that the DRAM left over holds as read cache (R139, R194). -/
def readCacheLines (s : State) : Nat :=
  (dramBytes s - dramDemand s (finePool s) s.dram.dirtyLimit (segmentsUsed s) s.map.openCounts.toList.sum - redReserve s.red.geometry) / 4096

/-- The oldest CLEAN lines dropped, so that no more than a number remain. -/
def trimClean : Nat → List CacheLine → List CacheLine
  | _, [] => []
  | n, l :: t => if l.st == .clean && n ≤ t.countP (fun x => x.st == .clean) then trimClean n t else l :: trimClean n t

/-- The mark of one line cleared (R320): a later write of another queue, or a committed one, keeps the block; otherwise the line
replaces the DIRTY and CLEAN lines of a lower MSN. -/
def postLine (ls : List CacheLine) (l : CacheLine) (c : CmdRef) : List CacheLine :=
  let same := fun (o : CacheLine) => o.nsid == l.nsid && o.lba == l.lba
  let later := ls.any (fun o => same o && l.msn < o.msn && !o.superseded &&
    (match o.provisional with
      | none => true
      | some w => w.fn != c.fn || w.sq != c.sq))
  if later && l.st == .dirty then ls.filter (fun o => !(same o && o.msn == l.msn))
  else (ls.filter (fun o => !(same o && o.msn < l.msn && o.st != .destaging && o.provisional.isNone))).map
    (fun o => if same o && o.msn == l.msn then { o with provisional := none } else o)

/-- The lines of a write whose completion is posted (R320). -/
def postLines (ls : List CacheLine) (c : CmdRef) : List CacheLine :=
  (ls.filter (fun l => l.provisional == some c)).foldl (fun acc l => postLine acc l c) ls

/-- Whether a line of a write has been assigned to a stripe (R320). -/
def anyAssigned (ls : List CacheLine) (c : CmdRef) : Bool := ls.any (fun l => l.provisional == some c && l.st == .destaging)

/-- A write's provisional lines dropped by an abort or a reset, unless one of them has been assigned to a stripe: the write
then keeps its whole effect (R320). -/
def dropLines (ls : List CacheLine) (c : CmdRef) : List CacheLine :=
  if anyAssigned ls c then ls.map (fun l => if l.provisional == some c then { l with provisional := none } else l)
  else ls.filter (fun l => l.provisional != some c)

/-- A deallocation in the cache (R148): DIRTY and CLEAN lines are dropped, DESTAGING ones marked superseded. -/
def cacheDrop (ls : List CacheLine) (nsid lba count : Nat) : List CacheLine :=
  let hit := fun (l : CacheLine) => l.nsid == nsid && lba ≤ l.lba && l.lba < lba + count
  (ls.filter (fun l => !(hit l && l.st != .destaging))).map (fun l => if hit l then { l with superseded := true } else l)

/-- The lines of a range that a secure deallocation leaves in the cache, both copies overwritten with zeroes (R162). -/
def cacheErase (ls : List CacheLine) (nsid lba count : Nat) : List CacheLine :=
  ls.map (fun l => if l.nsid == nsid && lba ≤ l.lba && l.lba < lba + count then
    { l with data := zeros l.data.length, md := zeros l.md.length } else l)

/-- Whether a span was written within the last HOT_WINDOW operating hours (R143). -/
def spanHot (s : State) (nsid span : Nat) : Bool :=
  match lookup s.map.spanWritten (spanKey nsid span) with
  | none => false
  | some t => s.time.opMs - t ≤ setting s 0x01 4

/-- Whether a host write of a range goes to Cirrus (R143). -/
def goesCirrus (s : State) (nsid lba count : Nat) : Bool :=
  match streamPolicy s nsid with
  | 1 => false
  | 2 => true
  | _ => count * 4096 < 65536 || (spansOf lba count).any (spanHot s nsid)

/-- The spans of a range marked as written now. -/
def markWritten (s : State) (nsid lba count : Nat) : State :=
  { s with map := { s.map with
      spanWritten := (spansOf lba count).foldl (fun m sp => insert m (spanKey nsid sp) s.time.opMs) s.map.spanWritten } }

/-- Host blocks into the cache, with MSNs in block order (R24 step 4, R138, R148). -/
def cacheWrite (s : State) (nsid lba : Nat) (blocks : List BlockData) (owner : Option CmdRef) (stratus : Bool) : State :=
  let cirrus := !stratus && goesCirrus s nsid lba blocks.length
  let (msn, s) := takeMsn s blocks.length
  let lines := blocks.zipIdx.foldl (fun ls p =>
    cacheStore s.dram.badFrames ls
      { nsid := nsid, lba := lba + p.2, msn := msn + p.2, data := p.1.data, md := p.1.md, st := .dirty
        provisional := owner, stratus := stratus, cirrus := cirrus }) s.map.lines
  let s := (lines.filter (fun l => l.nsid == nsid && msn ≤ l.msn && l.msn < msn + blocks.length)).foldl writeLine
    { s with map := { s.map with lines := lines } }
  markWritten s nsid lba blocks.length

/-! ### Deallocation and zeroing (R160, R161) -/

/-- A journal record of a range. -/
def rangeRecord (t : JrnType) (secure : Bool) (nsid lba count msn : Nat) : JrnRecord :=
  { type := t, secure := secure, nsid := nsid, count := count, lba := lba, msn := msn }

/-- A range deallocated: map, cache and journal (R148, R160). -/
def deallocRange (s : State) (nsid lba count : Nat) (secure : Bool) : State :=
  let (msn, s) := takeMsn s 1
  let s := setCore s (mapDealloc s.map.core nsid lba count)
  addRecords { s with map := { s.map with lines := cacheDrop s.map.lines nsid lba count } }
    [rangeRecord .dealloc secure nsid lba count msn]

/-- A range set to ZERO: map, cache and journal (R160). -/
def zeroRange (s : State) (nsid lba count : Nat) : State :=
  let (msn, s) := takeMsn s 1
  let s := setCore s (mapZero s.map.core nsid lba count)
  addRecords { s with map := { s.map with lines := cacheDrop s.map.lines nsid lba count } }
    [rangeRecord .zero false nsid lba count msn]

/-- A block set LOST, with its LOST and Critical records (R134, R157, R189). -/
def loseBlock (s : State) (nsid lba addr : Nat) : State :=
  let (msn, s) := takeMsn s 1
  let s := setCore s (mapSet s.map.core nsid lba (some .lost))
  record (addRecords s [rangeRecord .lost false nsid lba 1 msn]) 0x0303 .critical (b4 nsid ++ b8 lba ++ b8 addr)

/-- A block set LOST, or a wait at JOURNAL_LIMIT while the journal has no room for the record (R154). -/
def loseOrWait (s : State) (nsid lba addr : Nat) : State := if journalHolds s 1 then journalWait s else loseBlock s nsid lba addr

/-! ### Replay (R151, R152, R169 to R171) -/

/-- The bit of the span filter that a span sets (R145). -/
def filterBit (nsid span : Nat) : Nat := Config.spanHash nsid span % 32768

/-- A bit of a span filter set. -/
def setFilter (l : List Nat) (bit : Nat) : List Nat := if l.contains bit then l else l ++ [bit]

/-- A MAP or RELOCATE of one block noted in its band's written part. -/
def noteWritten (c : MapCore) (nsid lba band offset : Nat) : MapCore :=
  bandMod c band (fun b => { b with
    nextStripe := max b.nextStripe (offset / 240 + 1)
    filter := setFilter b.filter (filterBit nsid (spanOf lba))
    extents := if b.extents.any (fun e => e.offset == offset) then b.extents
               else b.extents ++ [{ nsid := nsid, lba := lba, count := 1, offset := offset }] })

/-- One journal record applied (R152): RELOCATE only where the entry still points to its source. -/
def applyRecord (c : MapCore) (r : JrnRecord) : MapCore :=
  match r.type with
  | .map => (List.range r.count).foldl (fun m i =>
      noteWritten (mapPlace m r.nsid (r.lba + i) r.band (r.offset + i) r.whole) r.nsid (r.lba + i) r.band (r.offset + i)) c
  | .dealloc => mapDealloc c r.nsid r.lba r.count
  | .zero => mapZero c r.nsid r.lba r.count
  | .relocate => (List.range r.count).foldl (fun m i =>
      let m := noteWritten m r.nsid (r.lba + i) r.band (r.offset + i)
      if mapAt m r.nsid (r.lba + i) == some (.mapped r.srcBand (r.srcOffset + i)) then
        mapPlace m r.nsid (r.lba + i) r.band (r.offset + i) r.whole
      else m) c
  | .lost => (List.range r.count).foldl (fun m i => mapSet m r.nsid (r.lba + i) (some .lost)) c
  | .sealed => sealSpans c r.nsid r.lba r.count true
  | .unsealed => sealSpans c r.nsid r.lba r.count false
  | .release => bandMod c r.band (fun b => { b with st := .eraseList, releaseDurable := true })
  | .erased => { c with bands := remove c.bands r.band }
  | .bandOpen => match r.formed with
      | none => c
      | some b => if (lookup c.bands r.band).isSome then c else { c with bands := insert c.bands r.band b }
  | .bandClose => bandMod c r.band (fun b =>
      let x := r.formed.getD b
      { b with st := .closed, closeMsn := r.msn, closeTc := x.closeTc, summaryStripe := x.summaryStripe, summaryBytes := x.summaryBytes
               short := x.short, written := x.written, nextStripe := x.nextStripe, extents := x.extents, filter := x.filter, xorDone := x.xorDone
               exceptions := x.exceptions })
  | .nsSegment => if r.count = 0 then dropSegments c r.nsid else addSegments c r.nsid (r.offset, r.count)
  | .segmentCheckpoint => c

/-- Records applied in journal order (R152). -/
def replay (c : MapCore) (rs : List JrnRecord) : MapCore := rs.foldl applyRecord c

/-- Whether a record changes a block. -/
def touches (r : JrnRecord) (nsid lba : Nat) : Bool :=
  match r.type with
  | .map | .dealloc | .zero | .relocate | .lost => r.nsid == nsid && r.lba ≤ lba && lba < r.lba + r.count
  | _ => false

/-- The highest MSN of the changes that records make to a block. -/
def lastChange (rs : List JrnRecord) (nsid lba : Nat) : Nat :=
  rs.foldl (fun m r => if touches r nsid lba then max m r.msn else m) 0

/-- The slots of an emergency band applied in order (R169 step 4): for each LBA the slot with the highest MSN, where that
is above every change already applied. `msns` holds what the slots applied so far have set. -/
def applySlots (rs : List JrnRecord) (band : Nat) :
    MapCore → List (Nat × Nat) → Nat → List EmergencySlot → MapCore × List JrnRecord
  | c, _, _, [] => (c, [])
  | c, msns, i, e :: t =>
    let k := entryKey e.nsid e.lba
    if max (lastChange rs e.nsid e.lba) (readAt 0 msns k) < e.msn && e.nsid != 0 then
      let c' := mapSet c e.nsid e.lba (some (if e.lost then .lost else .mapped band i))
      let r : JrnRecord := { type := if e.lost then .lost else .map, nsid := e.nsid, lba := e.lba, count := 1
                             band := band, offset := i, msn := e.msn }
      let (cf, out) := applySlots rs band c' (insert msns k e.msn) (i + 1) t
      (cf, r :: out)
    else applySlots rs band c msns (i + 1) t

/-- The core rebuilt from a checkpoint, the readable part of the journal after it and the emergency band of the highest
EPOCH not yet applied, whose unrecoverable slots are taken out (R169 to R171). The records that make step 4 durable come
with it. -/
def rebuildCore (cp : Checkpoint) (journal : List JrnRecord) (flush : Option EmergencyFlush) (lostSlots : List Nat) :
    MapCore × List JrnRecord :=
  let rs := journal.drop cp.journalFrom
  let c := replay cp.core rs
  match flush with
  | none => (c, [])
  | some f =>
    let c := replay c f.journal
    let slots := f.slots.zipIdx.map (fun p => if lostSlots.contains p.2 then { p.1 with nsid := 0 } else p.1)
    let (c, out) := applySlots (rs ++ f.journal) f.band c [] 0 slots
    let b : Band := { st := .closed, stream := .emergency, headOfCollection := true, scheduled := true
                      extents := slots.zipIdx.map (fun p => { nsid := p.1.nsid, lba := p.1.lba, count := 1, offset := p.2 })
                      filter := slots.foldl (fun l e => setFilter l (filterBit e.nsid (spanOf e.lba))) [] }
    ({ c with bands := insert c.bands f.band b }, f.journal ++ out)

/-! ### The flushes and the clean stop (R166, R169, R172) -/

/-- Whether a carrier is in service. -/
def anyInService (s : State) : Bool := s.media.carriers.any (fun c => c.st == .inService)

/-- The media key of a namespace as the on-die key unit holds it (R224). -/
def keyOf (s : State) (nsid : Nat) : Option (BitVec 256) := lookup s.sealing.keyUnit nsid

/-- A clean stop that a shutdown notification began, recorded once no line is dirty and the tail is durable (R172): CSTS.SHST of the
PF becomes 2. The open record of the Almanac is closed and the drop counters are saved (R490, R492). -/
def settleCleanStop (s : State) : State :=
  let c := vget s.nvme.ctrl {} 0
  if c.shst = 1 && (dirtyLines s.map.lines).isEmpty && s.map.tail.isEmpty then
    { s with alm := saveDrops (closeOpen s.alm), map := { s.map with cleanStop := true }, nvme := { s.nvme with ctrl := vset s.nvme.ctrl 0 { c with shst := 2 } } }
  else s

/-- The flush of the highest EPOCH not yet applied, the later of two of one EPOCH (R169 step 3). -/
def pendingFlush (s : State) : Option EmergencyFlush :=
  s.map.emergency.foldl (fun best f =>
    if f.applied then best
    else match best with
      | none => some f
      | some b => if b.epoch ≤ f.epoch then some f else best) none

end Sys2Proof.Machine
end

