-- ==== Sys2Proof/Machine/StripeOps.lean ====
section
/-! DEFINITION. Where stripe units lie, what they hold, and how bands are formed (02 R48, R53; 04 R135, R140, R165;
05 R178, R179, R192, R193; 06 R212 to R214). -/
namespace Sys2Proof.Machine

/-! ### Numbering (R46, R48) -/

/-- The carrier of a channel (R46). -/
def carrierOf (ch : Nat) : Nat := ch / 4
/-- The device-wide LUN index (R48). -/
def lunIndex (ch lun : Nat) : Nat := 128 * ch + lun
/-- The key of a block: device-wide LUN and block. -/
def blockKey (lun block : Nat) : Nat := 65536 * lun + block
/-- The key of a page. -/
def pageKey (key page : Nat) : Nat := 4096 * key + page
/-- The channel of a block key. -/
def channelOfKey (key : Nat) : Nat := key / 65536 / 128
/-- The LUN within its channel of a block key. -/
def lunOfKey (key : Nat) : Nat := key / 65536 % 128
/-- The block within the plane of a block key. -/
def blockOfKey (key : Nat) : Nat := key % 65536

/-- A carrier slot. -/
def carrierAt (s : State) (c : Nat) : CarrierState := vget s.media.carriers {} c
/-- A carrier slot changed. -/
def modCarrier (s : State) (c : Nat) (f : CarrierState → CarrierState) : State :=
  { s with media := { s.media with carriers := vset s.media.carriers c (f (carrierAt s c)) } }
/-- A block's status entry (R72). -/
def blockAt (s : State) (key : Nat) : BlockStatus := readAt {} s.media.blocks key
/-- A block's status entry changed. -/
def modBlock (s : State) (key : Nat) (f : BlockStatus → BlockStatus) : State :=
  { s with media := { s.media with blocks := writeAt {} s.media.blocks key (f (blockAt s key)) } }
/-- A LUN (R48). -/
def lunAt (s : State) (lun : Nat) : LunState := readAt {} s.media.luns lun
/-- A LUN changed. -/
def modLun (s : State) (lun : Nat) (f : LunState → LunState) : State :=
  { s with media := { s.media with luns := writeAt {} s.media.luns lun (f (lunAt s lun)) } }

/-- The geometry of a descriptor (R176). -/
def geometryOf (l : Lomril) : Geometry :=
  { qlc := l.qlc, volumes := l.volumes, lunsPerVolume := l.lunsPerVolume, planes := l.planes, pageData := l.pageData
    pageSpare := l.pageSpare, pagesPerBlock := l.pagesPerBlock, blocksPerPlane := l.blocksPerPlane }

/-- Pages of a block in pSLC mode (R53). -/
def pslcPages (g : Geometry) : Nat := if g.qlc then g.pagesPerBlock / 4 else g.pagesPerBlock / 3

/-- Whether a block is one of the last four of its LUN, for metadata (R53). -/
def isMetadataBlock (g : Geometry) (block : Nat) : Bool := g.blocksPerPlane - 4 ≤ block

/-- Whether a block is one of the eight Polestar blocks of a channel (R53). -/
def isPolestarBlock (g : Geometry) (lun block : Nat) : Bool :=
  lun == 0 && g.blocksPerPlane - 12 ≤ block && block < g.blocksPerPlane - 4

/-- Whether a block is reserved (R53). -/
def isReserved (g : Geometry) (lun block : Nat) : Bool := isMetadataBlock g block || isPolestarBlock g lun block

/-! ### The Dawn scan's blocks (R121, R122) -/

/-- A carrier's retention state. -/
def starAt (s : State) (c : Nat) : StarCarrier := vget s.ret.car {} c
/-- A carrier's retention state changed. -/
def modStar (s : State) (c : Nat) (f : StarCarrier → StarCarrier) : State :=
  { s with ret := { s.ret with car := vset s.ret.car c (f (starAt s c)) } }

/-- Whether a block holds programmed pages. -/
def isProgrammed (b : BlockStatus) : Bool := b.wp != some 0

/-- Programmed blocks of a carrier. -/
def carrierBlocks (s : State) (c : Nat) : List Nat :=
  (s.media.blocks.filter (fun p => carrierOf (channelOfKey p.1) == c && isProgrammed p.2
    && !isReserved s.red.geometry (lunOfKey p.1) (blockOfKey p.1))).map (·.1)

/-- The pending blocks of a carrier (R122). -/
def dawnBlocks (s : State) (c : Nat) : List Nat := (carrierBlocks s c).filter (fun k => (blockAt s k).dawnPending)

/-- A scan with no block left pending ends with its Notice record: its last block was scanned, erased, or covered by resynchronisation
(R122, R189). -/
def settleScan (s : State) (c : Nat) : State :=
  if (starAt s c).scanning && (dawnBlocks s c).isEmpty then
    record (modStar s c (fun x => { x with scanning := false, dawnPending := false, scanDone := true })) 0x0415 .notice
      (b1 c ++ b4 (starAt s c).darkAccrual)
  else s

/-! ### Programmed pages (R75, R110, R111) -/

/-- B_eff of a block in EqH, at most 524,280 (R111). -/
def effectiveBudget (s : State) (l : Lomril) (b : BlockStatus) : Nat :=
  let base := if l.qlc then setting s 0x05 6 else setting s 0x05 5
  let wear := max 64000 (256000 - l.peDerate * b.pe)
  let m := if b.margin = 0 then 4 else 3
  let rch := 100 - setting s 0x05 7 * b.rch
  min 524280 (base * wear * m * rch / (256000 * 4 * 100))

/-- A block's budget computed again, in units of 8 EqH (R110, R111). -/
def rebudget (s : State) (key : Nat) : State :=
  match (carrierAt s (carrierOf (channelOfKey key))).lomril with
  | none => s
  | some l => modBlock s key (fun b => { b with budget := effectiveBudget s l b / 8 })

/-- T_c of a carrier (R97). -/
def tcOf (s : State) (c : Nat) : Nat := (vget s.ret.car {} c).tc.toNat

/-- A block's pages erased. -/
def erasePages (s : State) (key : Nat) : State :=
  { s with media := { s.media with pages := s.media.pages.filter (fun p => p.1 / 4096 != key)
                                   partly := s.media.partly.filter (fun p => p.1 / 4096 != key) } }

/-- A block erased, its cycle counted (R75). -/
def eraseBlock (s : State) (key : Nat) : State :=
  settleScan (modBlock (erasePages s key) key (fun b =>
    { b with wp := some 0, rch := 0, failFlag := false, pe := b.pe + 1, dawnPending := false, queued := 0, margin := 3 }))
    (carrierOf (channelOfKey key))

/-- A page programmed: its content, the write pointer behind it, and with the first page of a block its stamp (R75, R110, R111). -/
def programPage (s : State) (key page : Nat) (content : PageContent) : State :=
  let s := { s with media := { s.media with pages := insert s.media.pages (pageKey key page) content } }
  let s := modBlock s key (fun b => { b with wp := some (page + 1) })
  if page = 0 then
    rebudget (modBlock s key (fun b => { b with stamp := tcOf s (carrierOf (channelOfKey key)), margin := 3, queued := 0 })) key
  else s

/-! ### What a codeword holds (R137, R212) -/

/-- The block tag (R137). -/
def tagBytes (nsid lba msn : Nat) : Bytes := leBytes 2 nsid ++ leBytes 6 lba ++ leBytes 8 msn

/-- The data unit of a block as stored: encrypted under its media key where it has one, with the tag as the tweak
(R222). -/
def storedUnit (c : Codeword) : Bytes :=
  let plain := padTo 4096 c.data ++ c.md
  match c.enc with
  | none => plain
  | some k => Config.sm4Xts k (ofLE (tagBytes c.nsid c.lba c.msn)) plain

/-- Bytes 0x0000 to 0x104F of a codeword (R212). -/
def codewordHead (c : Codeword) : Bytes := padTo 4160 (storedUnit c) ++ tagBytes c.nsid c.lba c.msn

/-- Bytes 0x0000 to 0x1057 of a codeword: what parity is taken over (R212, R213). -/
def codewordBytes (c : Codeword) : Bytes := codewordHead c ++ leBytes 4 c.blockCrc.toNat ++ zeros 4

/-- A codeword with its BLOCK_CRC (R212). -/
def sealCodeword (c : Codeword) : Codeword := { c with blockCrc := crc32c (codewordHead c) }

/-- A pad block's codeword: its tag carries NSID 0 (R137, R180). -/
def padCodeword : Codeword := sealCodeword {}

/-- The bytes that parity takes of a unit (R213). -/
def unitBytes : PageContent → Bytes
  | .codewords l => l.flatMap codewordBytes
  | .raw b => b

/-- Byte-wise XOR, the shorter run padded with zeroes. -/
def xorBytes : Bytes → Bytes → Bytes
  | [], b => b
  | a, [] => a
  | a :: as, b :: bs => (a ^^^ b) :: xorBytes as bs

/-- The XOR of units (R213). -/
def xorUnits (l : List PageContent) : PageContent := .raw (l.foldl (fun acc u => xorBytes acc (unitBytes u)) [])

/-! ### Placement (R178, R179) -/

/-- The place of unit d of stripe s of a band: slot, position b of the slot, and page (R179). -/
def place (bpc band s d : Nat) : Nat × Nat × Nat :=
  let g := s / 31
  let i := s % 31
  let x := g % 32
  let pos := if i < x then i else i + 1
  let q := 32 * g + pos
  let p := (s + band) % 16
  let slot := if d = 15 then p else (p + 1 + d) % 16
  (slot, q % bpc, q / bpc)

/-- The place of the inner XOR of a group on a slot: position b and page (R178). -/
def placeXor (bpc g : Nat) : Nat × Nat := ((32 * g + g % 32) % bpc, (32 * g + g % 32) / bpc)

/-- The unit of a stripe that lies in a slot: 15 for parity (R179). -/
def unitInSlot (band s slot : Nat) : Nat := (slot + 32 - ((s + band) % 16) - 1) % 16

/-- The device-wide LUN at position b = 4j + k of a slot in a band group (R178). -/
def lunAtPos (slot group b : Nat) : Nat := lunIndex (4 * slot + b % 4) (8 * group + b / 4)

/-- The block key of a band at a slot and position: its substitute where it has one that is not copied back (R193, R194,
R205). -/
def bandBlock (g : Geometry) (b : Band) (slot pos : Nat) : Nat :=
  match b.substs.find? (fun x => x.slot == slot && x.pos == pos && x.state != 3) with
  | some x => blockKey (lunAtPos x.host b.group x.hostPos) x.block
  | none => b.blocks.getD (slot * bpc g + pos) 0

/-- The content of unit d of a stripe as it lies on media, where it is programmed. -/
def unitOnMedia (s : State) (band : Nat) (b : Band) (stripe d : Nat) : Option PageContent :=
  let g := s.red.geometry
  let (slot, pos, page) := place (bpc g) band stripe d
  lookup s.media.pages (pageKey (bandBlock g b slot pos) page)

/-- The codeword at a data offset of a band: from the emergency band's slots, or from its data unit (R135, R167). -/
def codewordAt (s : State) (band offset : Nat) : Option Codeword :=
  match bandAt s.map.core band with
  | none => none
  | some b =>
    if b.stream = .emergency then
      match s.map.emergency.find? (fun f => f.band == band) with
      | none => none
      | some f => (f.slots[offset]?).map (fun e =>
          { data := e.data, md := e.md, nsid := e.nsid, lba := e.lba, msn := e.msn, enc := e.enc })
    else
      match unitOnMedia s band b (offset / 240) (offset % 240 / 16) with
      | some (.codewords l) => l[offset % 16]?
      | _ => none

/-! ### A band that takes no more data (R142, R145, R159) -/

/-- The part of an extent from offset `lo` to below `hi`. -/
def extentPart (e : Extent) (lo hi : Nat) (void : Bool) : List Extent :=
  let first := max e.offset lo
  let last := min (e.offset + e.count) hi
  if last ≤ first then []
  else [{ e with lba := if e.nsid = 0 then e.lba else e.lba + (first - e.offset), count := last - first, offset := first, void := void }]

/-- Extents with the part from offset `lo` to below `hi` marked VOID, cut where they reach beyond it (R145, R159). -/
def voidExtents (l : List Extent) (lo hi : Nat) : List Extent :=
  l.flatMap (fun e => extentPart e 0 lo e.void ++ extentPart e lo hi true ++ extentPart e hi (e.offset + e.count) e.void)

/-- A band that takes no more data: CLOSING, its summary to be written from its next stripe on (R142, R145). -/
def beginClosing (c : MapCore) (band : Nat) (short : Bool) : MapCore :=
  bandMod c band (fun b => if b.st = .opened then
    { b with st := .closing, short := b.short || short, summaryStripe := b.nextStripe, summaryBytes := 64 + 16 * b.extents.length } else b)

/-- An exception of a band listed (R194). -/
def addException (c : MapCore) (band : Nat) (e : BandException) : MapCore :=
  bandMod c band (fun b => { b with exceptions := if b.exceptions.contains e then b.exceptions else b.exceptions ++ [e] })

/-- A stripe with a failed program (R142, R159): its extents are VOID, its band is SHORT, closes, and goes to the head of collection. -/
def failStripe (c : MapCore) (band stripe : Nat) : MapCore :=
  beginClosing (bandMod c band (fun b => { b with
    extents := voidExtents b.extents (240 * stripe) (240 * stripe + 240), short := true, headOfCollection := true, scheduled := true })) band true

/-! ### Free blocks and band formation (R140, R144, R155, R165, R192, R193) -/

/-- Blocks that some band holds, the emergency band's among them. -/
def heldBlocks (s : State) : List Nat :=
  s.map.core.bands.flatMap (fun p => p.2.blocks ++ p.2.substs.map (fun x => blockKey (lunAtPos x.host p.2.group x.hostPos) x.block))
    ++ s.map.emergencyBlocks

/-- Whether a block is free: good, erased, not reserved and held by no band (R140). -/
def isFree (s : State) (held : List Nat) (lun block : Nat) : Bool :=
  let st := blockAt s (blockKey lun block)
  !isReserved s.red.geometry (lun % 128) block && st.health == .good && st.wp == some 0
    && !held.contains (blockKey lun block)

/-- The free blocks of a LUN, lowest index first. -/
def freeBlocks (s : State) (held : List Nat) (lun : Nat) : List Nat :=
  (List.range s.red.geometry.blocksPerPlane).filter (isFree s held lun)

/-- The block to take on a LUN: lowest program/erase count, then lowest index (R140). -/
def takeBlock (s : State) (held : List Nat) (lun : Nat) : Option Nat :=
  (freeBlocks s held lun).foldl (fun best b =>
    match best with
    | none => some b
    | some o => if (blockAt s (blockKey lun b)).pe < (blockAt s (blockKey lun o)).pe then some b else best) none

/-- The spare reserve of a LUN: one sixteenth of its blocks outside the reserved ones, rounded up (R192). -/
def spareReserve (g : Geometry) (lun : Nat) : Nat :=
  divCeil (g.blocksPerPlane - (if lun % 128 = 0 then 12 else 4)) 16

/-- The LUNs of a band group, in slot, channel, LUN order: position by position of each slot (R140, R178). -/
def groupLuns (g : Geometry) (group : Nat) : List Nat :=
  (List.range 16).flatMap (fun slot => (List.range (bpc g)).map (fun b => lunAtPos slot group b))

/-- Free bands of a group: the least number of free blocks on any of its LUNs, after the reserve (R155, R192). -/
def freeBands (s : State) (group : Nat) : Nat :=
  let held := heldBlocks s
  let counts := (groupLuns s.red.geometry group).map (fun l =>
    (freeBlocks s held l).length - spareReserve s.red.geometry l)
  counts.foldl min (counts.headD 0)

/-- The slot substituted for new bands: the failed slot, a slot out of service or a retiring one (R193, R204, R205). -/
def substitutedSlot (s : State) : Option Nat :=
  match s.red.st with
  | .degraded | .spared => s.red.failedSlot
  | .evacuating => (List.range 16).find? (fun i => vget s.red.roles .empty i == .retiring)
  | _ => none

/-- The substitute of position b of a slot in a band: the ((n + b) mod 15)-th surviving member in slot order, at the same
channel and LUN of the slot, with its free block of the lowest program/erase count (R193). -/
def substitute (s : State) (held : List Nat) (band group slot pos : Nat) : Subst :=
  let survivors := (List.range 16).filter (· != slot)
  let host := survivors.getD ((band + pos) % 15) 0
  { slot := slot, pos := pos, state := 1, host := host, hostPos := pos
    block := (takeBlock s held (lunAtPos host group pos)).getD 0 }

/-- The substitutes of a whole slot in a band, each taking a block the earlier ones left. -/
def substitutes (s : State) (held : List Nat) (band group slot : Nat) : List Subst :=
  ((List.range (bpc s.red.geometry)).foldl (fun (acc : List Subst × List Nat) pos =>
    let x := substitute s acc.2 band group slot pos
    (acc.1 ++ [x], acc.2 ++ [blockKey (lunAtPos x.host group x.hostPos) x.block])) ([], held)).1

/-- The substitute of a failed LUN's position on its own carrier: another LUN of the volume, of the same channel first
(R198). -/
def lunSubstitute (s : State) (held : List Nat) (group slot pos : Nat) : Option Subst :=
  let good := (List.range (bpc s.red.geometry)).filter (fun b => b != pos && !(lunAt s (lunAtPos slot group b)).failed)
  match (good.filter (fun b => b % 4 == pos % 4) ++ good).head? with
  | none => none
  | some b => some { slot := slot, pos := pos, state := 1, host := slot, hostPos := b
                     block := (takeBlock s held (lunAtPos slot group b)).getD 0 }

/-- The substitutes of every failed LUN of a group on the slots not substituted whole (R198). -/
def lunSubstitutes (s : State) (held : List Nat) (group : Nat) (whole : Option Nat) : List Subst :=
  let failed := ((List.range 16).filter (fun slot => some slot != whole)).flatMap (fun slot =>
    ((List.range (bpc s.red.geometry)).filter (fun b => (lunAt s (lunAtPos slot group b)).failed)).map (fun b => (slot, b)))
  (failed.foldl (fun (acc : List Subst × List Nat) p =>
    match lunSubstitute s acc.2 group p.1 p.2 with
    | none => acc
    | some x => (acc.1 ++ [x], acc.2 ++ [blockKey (lunAtPos x.host group x.hostPos) x.block])) ([], held)).1

/-- A band as R140 forms it in a group, with the substitutes that the array's state calls for (R193). -/
def formBand (s : State) (n group : Nat) (stream : Stream) : Band :=
  let held := heldBlocks s
  let blocks := (groupLuns s.red.geometry group).map (fun l => blockKey l ((takeBlock s held l).getD 0))
  let sub := substitutedSlot s
  { st := .opened, stream := stream, group := group, openMsn := s.map.msn, blocks := blocks
    substSlot := sub
    substs := sub.elim [] (substitutes s (held ++ blocks) n group) ++ lunSubstitutes s (held ++ blocks) group sub }

/-- Open bands of a group, the emergency band not counted (R144). -/
def openInGroup (c : MapCore) (group : Nat) : Nat :=
  c.bands.countP (fun p => p.2.group == group && p.2.st == .opened && p.2.stream != .emergency)

/-- The group in which a stream may open a band: fewest open bands, under the per-group limit, with free bands as R144 and
R155 require: three for host streams (one is held back for Nimbus below 2), one for Nimbus. -/
def groupFor (s : State) (stream : Stream) : Option Nat :=
  let limit := if bandGroups s ≥ 2 then 2 else 3
  let need := if stream = .nimbus then 1 else 2
  let ok := (List.range (bandGroups s)).filter (fun v => openInGroup s.map.core v < limit && need ≤ freeBands s v)
  ok.foldl (fun best v =>
    match best with
    | none => some v
    | some o => if openInGroup s.map.core v < openInGroup s.map.core o then some v else best) none

/-- Open bands of a stream. -/
def openOfStream (c : MapCore) (st : Stream) : Nat := c.bands.countP (fun p => p.2.stream == st && p.2.st == .opened)

/-- LUNs of one slot. -/
def slotLuns (g : Geometry) : Nat := 4 * g.volumes * g.lunsPerVolume

/-- The device-wide LUN of a number among a slot's LUNs: channel by channel of each LUN number. -/
def lunOfSlot (g : Geometry) (slot i : Nat) : Nat :=
  let j := i / 4
  lunIndex (4 * slot + i % 4) (8 * (j / g.lunsPerVolume) + j % g.lunsPerVolume)

/-- The slots that the emergency band has pages on: those in service, and a substituted one on its hosts (R165, R193). -/
def emergencySlots (s : State) : List Nat :=
  (List.range 16).filter (fun c => (carrierAt s c).st == .inService || substitutedSlot s == some c)

/-- The blocks per LUN of the emergency band: the least k whose data capacity is at least the configured dirty limit and
2 MiB (R165). Capacity is raw capacity × 15/16 × 15/16, as its pages and stripes hold data (R167, R168). -/
def emergencyK (s : State) : Nat :=
  let g := s.red.geometry
  let luns := (emergencySlots s).length * slotLuns g
  let perK := luns * pslcPages g * 65536 * 225 / 256
  if perK = 0 then 1 else divCeil (s.dram.dirtyLimit + 2 * mib) perK

/-- The first `k` free blocks of a LUN, by program/erase count and index. -/
def takeBlocks (s : State) (lun : Nat) : Nat → List Nat → List Nat
  | 0, _ => []
  | k + 1, held =>
    match takeBlock s held lun with
    | none => []
    | some b => blockKey lun b :: takeBlocks s lun k (held ++ [blockKey lun b])

/-- The LUN that holds the emergency blocks of a LUN of a slot: its own, or where the slot is substituted that of the host which R193 gives
position b = 4j + k of a band: the ((n + b) mod 15)-th surviving member, at the same k and j in the same volume. -/
def emergencyLun (s : State) (slot i : Nat) : Nat :=
  let g := s.red.geometry
  if substitutedSlot s = some slot then
    let survivors := (List.range 16).filter (· != slot)
    lunOfSlot g (survivors.getD ((s.map.nextBand + i % (4 * g.lunsPerVolume)) % 15) 0) i
  else lunOfSlot g slot i

/-- The emergency band formed from free blocks: k for every LUN of every slot that has pages (R165, R193). -/
def formEmergency (s : State) : State :=
  let k := emergencyK s
  let places := (List.range 16).flatMap (fun slot => (List.range (slotLuns s.red.geometry)).map (fun i => (slot, i)))
  let slots := emergencySlots s
  let (plan, _) := places.foldl (fun (acc : List (List Nat) × List Nat) p =>
    let l := if slots.contains p.1 then takeBlocks s (emergencyLun s p.1 p.2) k acc.2 else []
    (acc.1 ++ [l], acc.2 ++ l)) ([], heldBlocks s)
  { s with map := { s.map with emergencyReady := true, emergencyPlan := plan, emergencyBlocks := plan.flatten
                               emergencyBand := s.map.nextBand, nextBand := s.map.nextBand + 1 } }

end Sys2Proof.Machine
end

