-- ==== Sys2Proof/Machine/FlushOps.lean ====
section
/-! DEFINITION. The emergency flush: what it writes, its pages and where they lie (01 R34; 04 R166 to R168, R171). -/
namespace Sys2Proof.Machine

/-! ### Slots and lines (R166, R167) -/

/-- The slot of a line (R166, R167). -/
def slotOfLine (s : State) (l : CacheLine) : EmergencySlot :=
  { nsid := l.nsid, lba := l.lba, msn := l.msn, data := l.data, md := l.md, enc := keyOf s l.nsid
    lbaf := (lookup s.nvme.namespaces l.nsid).elim 0 (·.lbaf) }

/-- A line into a list in ascending DRAM address. -/
def insertByFrame (x : CacheLine) : List CacheLine → List CacheLine
  | [] => [x]
  | y :: t => if x.frame ≤ y.frame then x :: y :: t else y :: insertByFrame x t

/-- The lines that a flush writes, in ascending DRAM address: DIRTY and DESTAGING, superseded ones left out (R166). -/
def flushLines (s : State) : List CacheLine := ((dirtyLines s.map.lines).filter (fun l => !l.superseded)).foldr insertByFrame []

/-- The lines that a flush writes as LOST (R166, R414): counted, each with its Critical record, which carries the line's DRAM address. -/
def noteLostSlots (s : State) (l : List EmergencySlot) : State :=
  l.foldl (fun s x => if x.lost then
    let line := (s.map.lines.find? (fun y => y.nsid == x.nsid && y.lba == x.lba && y.msn == x.msn)).getD {}
    record { s with dram := { s.dram with lostLines := s.dram.lostLines + 1 } } 0x0303 .critical
      (b4 x.nsid ++ b8 x.lba ++ b8 (lineAddr s line 0))
    else s) s

/-! ### The pages of a flush (R34, R167, R168) -/

/-- The TYPE of a journal record (R151). -/
def JrnType.code : JrnType → Nat
  | .map => 1
  | .dealloc => 2
  | .zero => 3
  | .relocate => 4
  | .lost => 5
  | .sealed => 6
  | .unsealed => 7
  | .release => 8
  | .erased => 9
  | .bandOpen => 10
  | .bandClose => 11
  | .nsSegment => 12
  | .segmentCheckpoint => 13

/-- The 48 bytes of a journal record (R151). -/
def journalRecordBytes (r : JrnRecord) : Bytes :=
  b1 r.type.code ++ b1 (if r.secure then 1 else 0) ++ b2 r.nsid ++ b4 r.count ++ b8 r.lba ++ b4 r.band ++ b4 r.offset ++ b4 r.srcBand
    ++ b4 r.srcOffset ++ b8 r.msn ++ zeros 8

/-- A slot's data and metadata as an emergency page holds them: encrypted where the namespace has a key (R167, R222). -/
def slotStored (e : EmergencySlot) : Bytes :=
  if e.lost then []
  else
    let plain := padTo 4096 e.data ++ e.md
    match e.enc with
    | none => plain
    | some k => Config.sm4Xts k (ofLE (tagBytes e.nsid e.lba e.msn)) plain

/-- A slot entry (R167). -/
def emergencyEntry (e : EmergencySlot) : Bytes :=
  tagBytes e.nsid e.lba e.msn ++ leBytes 4 (crc32c (padTo 4096 (slotStored e))).toNat
    ++ b2 ((if e.lost then 4 else 1) + (if e.fromMirror then 2 else 0)) ++ b1 e.lbaf ++ zeros 9

/-- The header of an emergency page (R167). -/
def emergencyHeader (f : EmergencyFlush) (kind seq : Nat) (last : Bool) (temp : Int) (slots : List EmergencySlot) : Bytes :=
  let body := [0x45, 0x4D, 0x52, 0x47] ++ b2 1 ++ b1 kind ++ b1 (if last then 1 else 0) ++ b4 f.epoch ++ b4 seq ++ b8 f.flushMsn ++ b1 f.cause
    ++ leInt 1 temp ++ b1 slots.length ++ zeros 5 ++ leBytes 8 (f.calendar % 2 ^ 48) ++ zeros 24
    ++ padTo 480 (slots.flatMap emergencyEntry) ++ padTo 960 (slots.flatMap (fun e => padTo 64 ((slotStored e).drop 4096))) ++ zeros 2588
  body ++ leBytes 4 (crc32c body).toNat

/-- What one page of a flush carries besides its header: records, or slots. -/
structure FlushPage where
  records : List JrnRecord := []
  slots : List EmergencySlot := []
  last : Bool := false
  deriving DecidableEq, Repr

/-- Journal pages of a flush (R166, R167). -/
def flushJournalPages (f : EmergencyFlush) : Nat := divCeil f.journal.length pageRecords

/-- The PAGE_SEQ of a data slot: behind the journal pages, fifteen slots to a page (R167). -/
def slotPage (f : EmergencyFlush) (i : Nat) : Nat := flushJournalPages f + i / 15

/-- The pages of a flush in PAGE_SEQ order: the tail as journal pages, the lines fifteen to a page, and the final page with LAST set (R166). -/
def flushPages (f : EmergencyFlush) : List FlushPage :=
  (List.range (flushJournalPages f)).map (fun i => { records := (f.journal.drop (pageRecords * i)).take pageRecords })
    ++ (List.range (divCeil f.slots.length 15)).map (fun i => { slots := (f.slots.drop (15 * i)).take 15 })
    ++ (if f.lastWritten then [{ last := true }] else [])

/-- The 60 KiB behind the header of a flush page. -/
def flushBody (p : FlushPage) : Bytes :=
  padTo 61440 (if p.slots.isEmpty then p.records.flatMap journalRecordBytes else p.slots.flatMap (fun e => padTo 4096 (slotStored e)))

/-- The block and page of page x of a stripe of the emergency band, on slot x (R168). How stripes follow one another over a slot's LUNs is the
model's (log entry 255, DESIGN CHOICE). -/
def flushPlace (s : State) (stripe slot : Nat) : Option (Nat × Nat) :=
  let n := slotLuns s.red.geometry
  let pages := pslcPages s.red.geometry
  if n = 0 || pages = 0 then none
  else ((s.map.emergencyPlan.getD (slot * n + stripe % n) [])[stripe / n / pages]?).map (fun key => (key, stripe / n % pages))

/-- The die temperature at program of page x of a stripe: the latest reading of its LUN, free before the first (R34, R167). -/
def flushTemp (s : State) (x : Nat) (p : Option (Nat × Nat)) : Int :=
  match p.bind (fun p => (lunAt s (p.1 / 65536)).temp) with
  | some t => t
  | none => (Config.freeNat x % 256 : Nat) - 128

/-- One page of a flush on the media. -/
def putFlushPage (s : State) (place : Option (Nat × Nat)) (bytes : Bytes) : State :=
  place.elim s (fun p => programPage s p.1 p.2 (.raw bytes))

/-- A stripe of a flush programmed: up to fifteen pages, and their XOR (R168). The XOR page's header carries the PAGE_SEQ of the stripe's first
page (log entry 255, DESIGN CHOICE). -/
def putFlushStripe (s : State) (f : EmergencyFlush) (stripe : Nat) (pages : List FlushPage) : State :=
  let temp := fun (slot : Nat) => f.temps.getD (16 * stripe + slot) 0
  let s := pages.zipIdx.foldl (fun s p =>
    let kind := if p.1.records.isEmpty then 1 else 2
    putFlushPage s (flushPlace s stripe p.2)
      (emergencyHeader f kind (15 * stripe + p.2) p.1.last (temp p.2) p.1.slots ++ flushBody p.1)) s
  let xor := (pages.map flushBody).foldl xorBytes []
  putFlushPage s (flushPlace s stripe 15) (emergencyHeader f 3 (15 * stripe) false (temp 15) [] ++ xor)

/-- The stripes of a flush. -/
def flushStripes (f : EmergencyFlush) : Nat := divCeil (flushPages f).length 15

/-- A flush written to the blocks of the emergency band (R166 to R168). -/
def putFlush (s : State) (f : EmergencyFlush) : State :=
  (List.range (flushStripes f)).foldl (fun s j => putFlushStripe s f j (((flushPages f).drop (15 * j)).take 15)) s

/-- The die temperatures that the pages of a flush record (R34). -/
def flushTemps (s : State) (x : Nat) (f : EmergencyFlush) : List Int :=
  (List.range (16 * flushStripes f)).map (fun i => flushTemp s (x + i) (flushPlace s (i / 16) (i % 16)))

/-! ### The flush (R166) -/

/-- A slot whose line failed its check bits when the flush read it (R166): read from its mirror, or LOST where both copies failed. -/
def spoilSlot (bad : List (Nat × Nat × Bool)) (x : EmergencySlot) : EmergencySlot :=
  match bad.find? (fun b => b.1 == x.nsid && b.2.1 == x.lba) with
  | none => x
  | some (_, _, both) => if both then { nsid := x.nsid, lba := x.lba, msn := x.msn, lost := true } else { x with fromMirror := true }

/-- The lines that failed while the newest flush read them, in its slots (R166). -/
def spoilFlush (s : State) (bad : List (Nat × Nat × Bool)) : State :=
  match s.map.emergency.getLast? with
  | none => s
  | some f =>
    let slots := f.slots.map (spoilSlot bad)
    let g := { f with slots := slots }
    noteLostSlots (putFlush { s with map := { s.map with emergency := s.map.emergency.dropLast ++ [g] } } g) slots

/-- A flush of the tail buffer and the dirty lines to the emergency band begins and its pages are written (R166). With no
carrier in service the lines and the tail are lost, and a Critical record carries their count. -/
def emergencyFlush (s : State) (cause : Nat) : State :=
  let s := (flushLines s).foldl (fun s l => dramPort s false (lineReadAddr s l) 4096) { s with alm := saveDrops s.alm }
  let sev : Severity := if cause = 3 then .notice else .critical
  let s' := record s 0x0304 sev (b2 cause ++ b8 (dirtyBytes s))
  if anyInService s then
    let f : EmergencyFlush :=
      { epoch := s.map.nextEpoch, cause := cause, flushMsn := s.map.msn, calendar := s.time.calendar.toNat
        journal := s.map.tail, slots := (flushLines s).map (slotOfLine s), lastWritten := true, band := s.map.emergencyBand }
    let (x, s') := drawNat s'
    let f := { f with temps := flushTemps s' x f }
    let s' := if s.map.emergencyReady then putFlush s' f else s'
    { s' with map := { s'.map with emergency := s'.map.emergency ++ [f], emergencyReady := false } }
  else
    let lost := (dirtyLines s.map.lines).length
    let s' := record s' 0x0304 .critical (b2 cause ++ b4 lost)
    { s' with map := { s'.map with lines := s'.map.lines.filter (fun l => l.st == .clean), tail := [] } }

end Sys2Proof.Machine
end

