-- ==== Sys2Proof/Machine/RedOps.lean ====
section
/-! DEFINITION. The array: failures, Held, offers and formation (05_carrier_redundancy R174 to R177, R191 to R204,
R208). -/
namespace Sys2Proof.Machine

/-- The role of a slot (R210). -/
def roleOf (s : State) (slot : Nat) : SlotRole := vget s.red.roles .empty slot
/-- A slot's role changed. -/
def setRole (r : RedState) (slot : Nat) (x : SlotRole) : RedState := { r with roles := vset r.roles slot x }
/-- The SERIAL that the array record holds for a slot. -/
def serialOf (s : State) (slot : Nat) : Bytes := vget s.red.serials [] slot

/-- Whether the array is Held, read-only or not (R200, R202). -/
def isHeld (s : State) : Bool := s.red.st == .held || s.red.st == .heldReadOnly

/-- The array enters Held: activities stop, the cache is flushed with CAUSE 4, a Critical record is written (R200). -/
def enterHeld (s : State) (cause : Nat) (slots : List Nat) : State :=
  let s := emergencyFlush s 4
  let s := record s 0x0603 .critical (b2 cause ++ slots.flatMap b1)
  { s with red := { s.red with
      before := s.red.st, st := .held, heldCause := cause, failedBeforeHeld := s.red.failedSlot.filter (fun c => roleOf s c == .failed), returned := []
      rebuildRunning := false, resyncRunning := false }
           map := { s.map with consolidating := false }
           ret := { s.ret with car := s.ret.car.map (fun c => { c with scanning := false }) } }

/-- Open bands that have units on a slot take no further stripes and close short; those formed with substitutes for the whole slot go on (R195). -/
def closeOpenShort (c : MapCore) (slot : Nat) : MapCore :=
  bandsMap c (fun _ b => if b.st == .opened && b.stream != .emergency && b.substSlot != some slot then
    { b with st := .closing, short := true, summaryStripe := b.nextStripe, summaryBytes := 64 + 16 * b.extents.length } else b)

/-- Rebuild of a slot begins (R191, R195, R196). -/
def startRebuild (s : State) (slot : Nat) : State :=
  let s := setCore s (closeOpenShort s.map.core slot)
  let s := record s 0x0602 .notice (b1 1 ++ b1 slot)
  { s with red := { setRole s.red slot .failed with
      st := .degraded, failedSlot := some slot, rebuildRunning := true, rebuildDeferred := false }
           map := { s.map with core := bandsMap s.map.core (fun _ b => { b with rebuildDone := false, rebuildGroup := 0 }) } }

/-- A member fails: its Fault record and the next state of the array (R191, R200, R204). -/
def memberFail (s : State) (slot cause : Nat) : State :=
  match s.red.st with
  | .none => s
  | .held | .heldReadOnly =>
    let s := record s 0x0601 .fault (b1 slot ++ b2 cause)
    { s with red := { s.red with returned := s.red.returned.filter (· != slot) } }
  | .normal => startRebuild (record s 0x0601 .fault (b1 slot ++ b2 cause)) slot
  | .degraded =>
    if s.red.failedSlot == some slot then
      if roleOf s slot == .outOfService then startRebuild (record s 0x0601 .fault (b1 slot ++ b2 cause)) slot else s
    else enterHeld (record s 0x0601 .fault (b1 slot ++ b2 cause)) 2 [slot, s.red.failedSlot.getD 0xFF]
  | .evacuating =>
    let s := record s 0x0601 .fault (b1 slot ++ b2 cause)
    if roleOf s slot == .retiring then
      startRebuild { s with red := { s.red with reshape := none } } slot
    else
      let core := bandsMap s.map.core (fun _ b => { b with
        substs := b.substs.filter (fun x => roleOf s x.slot != .retiring), substSlot := none, reshaped := false })
      let red := { s.red with roles := s.red.roles.map (fun r => if r == .retiring then .member else r), reshape := none }
      startRebuild { s with red := red, map := { s.map with core := core } } slot
  | .spared =>
    let s := record s 0x0601 .fault (b1 slot ++ b2 cause)
    if roleOf s slot == .member then enterHeld s 2 [slot, s.red.failedSlot.getD 0xFF]
    else { s with red := setRole s.red slot .failed }
  | .copyback =>
    let s := record s 0x0601 .fault (b1 slot ++ b2 cause)
    if roleOf s slot == .replacement then startRebuild { s with red := { s.red with reshape := none } } slot
    else enterHeld s 2 [slot, s.red.failedSlot.getD 0xFF]

/-- Failed LUNs of a carrier (R198, R210). -/
def failedLuns (s : State) (slot : Nat) : Nat :=
  s.media.luns.countP (fun p => carrierOf (p.1 / 128) == slot && p.2.failed)

/-- A LUN has failed: the member fails when more than LUN_FAIL_LIMIT have, otherwise its LUN rebuild begins (R70, R191,
R198). -/
def lunFail (s : State) (lun : Nat) : State :=
  let slot := carrierOf (lun / 128)
  let s := record (modLun s lun (fun l => { l with failed := true })) 0x0403 .fault (b1 (lun / 128) ++ b1 (lun % 128))
  if s.red.st = .none then s
  else if setting s 0x04 6 < failedLuns s slot then memberFail s slot 2
  else { s with red := { s.red with lunRebuilds := s.red.lunRebuilds ++ [lun] } }

/-! ### The open-band summary (R177, R186) -/

/-- STREAM of a band record (R141). -/
def Stream.code : Stream → Nat
  | .cirrus => 0
  | .stratus => 1
  | .nimbus => 2
  | .emergency => 3

/-- A record of the open-band summary for a band. -/
def summaryFor (s : State) (type band msn : Nat) : SummaryRecord :=
  match bandAt s.map.core band with
  | none => { type := type, band := band, msn := msn }
  | some b => { type := type, stream := b.stream.code, group := b.group, band := band, msn := msn }

/-- The 32 bytes of an open-band summary record. -/
def summaryRecordBytes (x : SummaryRecord) : Bytes :=
  let b := b1 x.type ++ b1 x.stream ++ b1 x.group ++ zeros 1 ++ b4 x.band ++ b8 x.msn ++ zeros 12
  b ++ b4 (crc32c b).toNat

/-- The address of a sector of the open-band summary. -/
def summaryBase (k : Nat) : Nat := 0x3060000 + csSector * k

/-- A record appended to the active sector; where that is full, the other takes a COMPACT record, an OPEN record for each band still open, and the
record, and the full sector is erased (R186). -/
def putSummary (s : State) (x : SummaryRecord) : State :=
  let k := s.red.summaryActive
  let l := vget s.red.summarySectors [] k
  if l.length < csSector / 32 then { s with red := { s.red with summarySectors := vset s.red.summarySectors k (l ++ [x]) } }
  else
    let opened := s.red.openSummary.map (fun n => summaryFor s 1 n ((bandAt s.map.core n).elim 0 (·.openMsn)))
    let compacted := ({ type := 3, msn := s.map.msn } : SummaryRecord) :: opened.filter (fun o => o.band != x.band) ++ [x]
    beginOwnErase { s with red := { s.red with
      summarySectors := vset (vset s.red.summarySectors (1 - k) compacted) k [], summaryActive := 1 - k } } (summaryBase k)

/-- A record of the open-band summary programmed, or waiting behind an erase (R90, R186). -/
def appendSummary (s : State) (x : SummaryRecord) : State :=
  match s.media.csErase with
  | none => putSummary s x
  | some _ => csWait s (.summary x)

/-- Whether a band's OPEN record is programmed, as its first declaration needs (R186). -/
def summaryOpened (s : State) (band : Nat) : Bool :=
  s.media.csWaiting.all (fun o => match o with
    | .summary x => !(x.type == 1 && x.band == band)
    | _ => true)

/-! ### The array's areas of the Config Store (R177, R206) -/

/-- The 64 bytes of the reshape record (R206). -/
def reshapeBytes (r : Option Reshape) : Bytes :=
  let b := match r with
    | none => zeros 60
    | some r => b1 r.kind ++ b1 r.slot ++ zeros 2 ++ b4 r.boundary ++ padTo 16 r.serial ++ b4 r.startHours ++ b4 r.finalSweep ++ zeros 28
  b ++ b4 (crc32c b).toNat

/-- STATE of ARRAY_STATUS (R210). -/
def ArraySt.code : ArraySt → Nat
  | .none => 0
  | .normal => 1
  | .degraded => 2
  | .spared => 3
  | .evacuating => 4
  | .copyback => 5
  | .held => 6
  | .heldReadOnly => 7

/-- ROLE of a slot entry (R210). -/
def SlotRole.code : SlotRole → Nat
  | .empty => 0
  | .member => 1
  | .failed => 2
  | .outOfService => 3
  | .retiring => 4
  | .vacated => 5
  | .replacement => 6
  | .nonMember => 7

/-- The bytes of the array record's area: successive copies of the array record and the reshape record. How the copies lie is not laid out
(R177; log entry 257, DESIGN CHOICE). -/
def arrayArea (r : RedState) : Bytes :=
  Config.arrayArea r.st.code (r.failedSlot.getD 0xFF) (r.roles.toList.map SlotRole.code) r.serials.toList (reshapeBytes r.reshape)

/-! ### The redundancy tables in DRAM (R194) -/

/-- The bands below a band. -/
def bandsBelow (c : MapCore) (band : Nat) : List (Nat × Band) := c.bands.filter (fun p => p.1 < band)

/-- The 32 bytes of a redundancy band entry: the tables hold the entries of the bands one after another, in ascending number (R194). -/
def bandEntryBytes (c : MapCore) (band : Nat) (b : Band) : Bytes :=
  let has := fun (k : Nat) => b.exceptions.any (fun e => e.kind == k)
  let flags := bitsOf [!b.substs.isEmpty, b.rebuildDone, b.resyncDone, has 1, has 2, b.lostFlag, b.reshaped]
  let substs := ((bandsBelow c band).map (fun p => p.2.substs.length)).sum
  let excs := ((bandsBelow c band).map (fun p => p.2.exceptions.length)).sum
  b4 band ++ b2 flags ++ b1 (b.substSlot.getD 0xFF) ++ zeros 1 ++ b2 b.rebuildGroup ++ b2 b.resyncGroup ++ b4 substs
    ++ b4 (if b.exceptions.isEmpty then 0xFFFFFFFF else excs) ++ zeros 12

/-- The 64 bits of a substitution entry (R194). -/
def substEntry (x : Subst) : Nat :=
  x.slot * 2 ^ 60 + x.pos * 2 ^ 55 + x.state * 2 ^ 53 + x.host * 2 ^ 44 + x.hostPos * 2 ^ 39 + x.block

/-- The 64 bits of an exception entry (R194). -/
def exceptionEntry (e : BandException) : Nat := e.index * 2 ^ 32 + e.kind * 2 ^ 28 + e.slot * 2 ^ 24

/-! ### Carriers entering service (R59, R174, R208) -/

/-- Every block of a carrier outside the reserved ones erased: pages gone, pointers 0, one more cycle where the block held
pages (R75, R174, R208). -/
def eraseCarrier (s : State) (slot : Nat) : State :=
  let g := s.red.geometry
  let here := fun key => carrierOf (channelOfKey key) == slot && !isReserved g (lunOfKey key) (blockOfKey key)
  { s with media := { s.media with
      pages := s.media.pages.filter (fun p => !here (p.1 / 4096))
      blocks := s.media.blocks.map (fun p =>
        if here p.1 then (p.1, { p.2 with wp := some 0, rch := 0, failFlag := false, pe := p.2.pe + 1, queued := 0, dawnPending := false, margin := 3 })
        else p) } }

/-- A carrier enters service (R59, R97, R103, R104): a carrier that was in service before has a power-up sweep due; on
first service T_c is 0 and all eight generations are to be programmed. A Notice record is written. -/
def enterService (s : State) (slot : Nat) : State :=
  let rc := vget s.ret.car {} slot
  let first := !(carrierAt s slot).servicedBefore
  let rc' : StarCarrier := if first then
      { reprogramDue := List.range 8, firstDue := List.range 8, powerUpSweepDone := true, lastReadMs := rc.lastReadMs, lastTemp := rc.lastTemp }
    else { rc with sweepDue := true, sweepDaily := false, powerUpSweepDone := false, dawnPending := true }
  let s := modCarrier s slot (fun c => { c with st := .inService, servicedBefore := true, mdTouched := false })
  let s := { s with ret := { s.ret with car := vset s.ret.car slot rc' } }
  let s := recordIf first s 0x0410 .notice (b1 slot ++ b4 0)
  record s 0x0404 .notice (b1 slot ++ b1 6 ++ b1 (carrierAt s slot).rate)

/-- The geometry of a carrier, where it has been identified. -/
def carrierGeometry (s : State) (slot : Nat) : Option Geometry := (carrierAt s slot).lomril.map geometryOf

/-- The number of the first geometry field that differs (R176), 1 to 8; 0 when none does. -/
def geometryDiff (a b : Geometry) : Nat :=
  if a.qlc != b.qlc then 1 else if a.volumes != b.volumes then 2 else if a.lunsPerVolume != b.lunsPerVolume then 3
  else if a.planes != b.planes then 4 else if a.pageData != b.pageData then 5 else if a.pageSpare != b.pageSpare then 6
  else if a.pagesPerBlock != b.pagesPerBlock then 7 else if a.blocksPerPlane != b.blocksPerPlane then 8 else 0

/-- Three counts as a vector. -/
def countVector (e : Nat × Nat × Nat) : Vector Nat 3 := #v[e.1, e.2.1, e.2.2]

/-- The effective open-band counts in force for the configured ones (R144). -/
def effectiveCounts (s : State) : Nat × Nat × Nat :=
  effectiveOpen (openBound (bandGroups s)) 32 (setting s 0x01 5) (setting s 0x01 6) (setting s 0x01 7)

/-- The effective open-band counts fixed for the array, with a Notice record where they differ (R144). -/
def fixOpenCounts (s : State) : State :=
  let e := effectiveCounts s
  let differ := e != (setting s 0x01 5, setting s 0x01 6, setting s 0x01 7)
  recordIf differ { s with map := { s.map with openCounts := countVector e } } 0x030A .notice (b4 e.1 ++ b4 e.2.1 ++ b4 e.2.2)

/-- Whether all sixteen slots hold READY carriers of one geometry (R174). -/
def mayForm (s : State) : Bool :=
  s.red.st == .none &&
    (List.range 16).all (fun i => (carrierAt s i).st == .ready && (carrierAt s i).lomril.isSome
      && carrierGeometry s i == carrierGeometry s 0)

/-- The array formed (R174): carriers not yet erased are erased, the array record is written, the carriers enter service,
open-band counts are fixed and an emergency band is formed. -/
def formArray (s : State) : State :=
  if mayForm s then
    let g := (carrierGeometry s 0).getD {}
    let s := { s with red := { s.red with
      st := .normal, geometry := g, roles := Vector.replicate 16 .member
      serials := Vector.ofFn (fun i : Fin 16 => ((carrierAt s i).lomril.elim [] (·.serial)))
      failedSlot := none, heldCause := 0, reshape := none, waiting := [] } }
    let s := (List.range 16).foldl (fun s i =>
      if (carrierAt s i).erasedSinceClear then s else eraseCarrier s i) s
    let s := record s 0x0606 .notice (b1 0xFF ++ b1 0)
    let s := (List.range 16).foldl enterService s
    formEmergency (fixOpenCounts s)
  else s

/-- Copyback onto a slot begins (R204, R205). -/
def startCopyback (s : State) (slot : Nat) (absenceOnly : Bool) : State :=
  let serial := (carrierAt s slot).lomril.elim [] (·.serial)
  let s := record s 0x0602 .notice (b1 3 ++ b1 slot)
  { s with red := { s.red with
      st := .copyback
      reshape := some { kind := 2, slot := slot, serial := serial, startHours := opHours s
                        boundary := if absenceOnly then s.red.absentFrom else 0
                        position := if absenceOnly then s.red.absentFrom else 0 } }
           map := { s.map with core := bandsMap s.map.core (fun _ b => { b with reshaped := false }) } }

/-- The outcome of an offer written in its Notice record (R208): 1 accepted, 2 copyback, 3 refused, 4 held READY,
5 failed, 6 accepted for resumption. -/
def offerRecord (s : State) (slot treatment : Nat) : State := record s 0x0606 .notice (b1 slot ++ b1 treatment)

/-- A non-member taken into a vacated or failed slot: its blocks are erased, its SERIAL enters the array record, and
copyback starts where AUTO_COPYBACK is 1 (R208, R211). -/
def takeReplacement (s : State) (slot : Nat) : State :=
  let serial := (carrierAt s slot).lomril.elim [] (·.serial)
  let s := eraseCarrier s slot
  let s := { s with red := { setRole s.red slot .replacement with serials := vset s.red.serials slot serial
                                                                  waiting := s.red.waiting.filter (· != slot) } }
  let s := offerRecord (enterService s slot) slot 2
  if setting s 0x04 9 = 1 then startCopyback s slot false else s

/-- A READY carrier offered to Carrier Redundancy (R59, R176, R177, R208). -/
def offerCarrier (s : State) (slot : Nat) : State :=
  if !s.red.offeringOpen || (carrierAt s slot).st != .ready then s
  else match (carrierAt s slot).lomril with
  | none => s
  | some l =>
    if s.red.st = .none then formArray s
    else if geometryDiff (geometryOf l) s.red.geometry != 0 then
      offerRecord (record s 0x0601 .fault (b1 slot ++ b2 (0x100 + geometryDiff (geometryOf l) s.red.geometry))) slot 3
    else if (List.range 16).any (fun i => i != slot && serialOf s i == l.serial) then
      offerRecord (record s 0x0601 .fault (b1 slot ++ b2 0x200)) slot 3
    else if isHeld s then
      if serialOf s slot == l.serial && s.red.failedBeforeHeld != some slot && (carrierAt s slot).mdTouched then
        offerRecord (memberFail s slot 4) slot 5
      else if serialOf s slot == l.serial && s.red.failedBeforeHeld != some slot then
        offerRecord { s with red := { s.red with returned := (s.red.returned.filter (· != slot)) ++ [slot] } } slot 6
      else offerRecord { s with red := { s.red with waiting := (s.red.waiting.filter (· != slot)) ++ [slot] } } slot 4
    else if serialOf s slot == l.serial && (roleOf s slot == .member || roleOf s slot == .retiring || roleOf s slot == .replacement) then
      if (carrierAt s slot).mdTouched then offerRecord (memberFail s slot 4) slot 5
      else offerRecord (enterService s slot) slot 1
    else if serialOf s slot == l.serial && roleOf s slot == .outOfService then
      if (carrierAt s slot).mdTouched then offerRecord (memberFail s slot 4) slot 5
      else
        let s := enterService { s with red := { setRole s.red slot .member with rebuildDeferred := false } } slot
        if s.map.core.bands.any (fun p => s.red.absentFrom ≤ p.1 && p.2.substs.any (fun x => x.slot == slot)) then
          startCopyback (offerRecord { s with red := setRole s.red slot .replacement } slot 2) slot true
        else offerRecord { s with red := { s.red with st := .normal, failedSlot := none } } slot 1
    else if roleOf s slot == .vacated || roleOf s slot == .failed then
      if s.red.st = .spared then takeReplacement s slot
      else offerRecord { s with red := { s.red with waiting := (s.red.waiting.filter (· != slot)) ++ [slot] } } slot 4
    else offerRecord { s with red := { s.red with waiting := (s.red.waiting.filter (· != slot)) ++ [slot] } } slot 4

/-- The carriers that wait READY offered again (R208). -/
def offerWaiting (s : State) : State :=
  s.red.waiting.foldl offerCarrier { s with red := { s.red with waiting := [] } }

/-! ### Placement in the Config Store (R177) -/

/-- The array record's slot entry for a carrier: whether it matches (R191, step 11 of R381). -/
def slotMatches (s : State) (slot : Nat) : Bool :=
  (carrierAt s slot).st == .ready && ((carrierAt s slot).lomril.elim false (fun l => l.serial == serialOf s slot))

end Sys2Proof.Machine
end

