-- ==== Sys2Proof/Machine/MediaOps.lean ====
section
/-! DEFINITION. The Media Controller's queues (02 R56, R64 to R85, R93 to R95): checks of a descriptor, which one starts
next, and what its end does. -/
namespace Sys2Proof.Machine

/-! ### Units of the media -/

/-- A channel. -/
def channelAt (s : State) (ch : Nat) : ChannelState := vget s.media.channels {} ch
/-- A channel changed. -/
def modChannel (s : State) (ch : Nat) (f : ChannelState → ChannelState) : State :=
  { s with media := { s.media with channels := vset s.media.channels ch (f (channelAt s ch)) } }
/-- A Media Direct ring changed. -/
def modRing (s : State) (n : Fin 4) (f : MdRing → MdRing) : State :=
  { s with media := { s.media with rings := s.media.rings.set n (f s.media.rings[n]) } }

/-- The effective program window of a carrier: the configured window within the maker's limits; none while it is empty
(R56). -/
def effectiveWindow (s : State) (c : Nat) : Option (Int × Int) :=
  match (carrierAt s c).lomril with
  | none => none
  | some l =>
    let lo := max (windowLow s) l.progTempMin
    let hi := min (windowHigh s) l.progTempMax
    if lo ≤ hi then some (lo, hi) else none

/-- Whether a reading lies inside a carrier's effective window (R33, R56, R456). -/
def readingInside (s : State) (c : Nat) (t : Option Int) : Bool :=
  match effectiveWindow s c, t with
  | some (lo, hi), some t => decide (lo ≤ t) && decide (t ≤ hi)
  | _, _ => false

/-- Whether a die counts as inside its effective program window: the latest housekeeping reading found it inside, and the
effective window is not empty (R33, R56, R77, R460). -/
def insideWindow (s : State) (lun : Nat) : Bool :=
  (effectiveWindow s (carrierOf (lun / 128))).isSome && (lunAt s lun).inside

/-- Whether a carrier's dies answer descriptors: it is trained and powered (R59). -/
def carrierLive (s : State) (c : Nat) : Bool :=
  (carrierAt s c).lomril.isSome && ((carrierAt s c).st == .training || (carrierAt s c).st == .ready
    || (carrierAt s c).st == .inService || (carrierAt s c).st == .outOfService || (carrierAt s c).st == .resuming)

/-! ### Status codes (R70) -/

/-- The descriptor opcodes (R66). -/
def opRead : Nat := 1
/-- PROGRAM (R66). -/
def opProgram : Nat := 2
/-- ERASE (R66). -/
def opErase : Nat := 3
/-- RECHARGE (R66). -/
def opRecharge : Nat := 4
/-- SWEEP (R66). -/
def opSweep : Nat := 5

/-! ### Checks of a descriptor about to start (R50, R67, R75, R82 to R84, R91, R95, R419) -/

/-- Planes that a mask names. -/
def planesIn (mask : Nat) : Nat := mask % 2 + mask / 2 % 2 + mask / 4 % 2 + mask / 8 % 2

/-- The LENGTH a descriptor must have (R66, R67). -/
def requiredLength (l : Lomril) (d : MediaDesc) : Nat :=
  match d.opcode with
  | 1 => (l.pageData + if d.raw then l.pageSpare else 0) * planesIn d.planeMask
  | 2 | 4 => if d.raw then (l.pageData + l.pageSpare) * l.planes else 65536
  | 5 => 4 * d.sweepCount
  | 6 => 4
  | _ => 0

/-- Pages of a block in the mode a descriptor addresses (R53). -/
def pagesInMode (l : Lomril) (pslc : Bool) : Nat := if pslc then pslcPages (geometryOf l) else l.pagesPerBlock

/-- Whether a descriptor's addresses lie within the carrier's geometry (R67). A SWEEP_STEP or SWEEP_COUNT outside its range, a
PLANE_MASK that names no plane of a READ, one that names a plane the die has not, and one that leaves out a plane of a PROGRAM, ERASE or
RECHARGE count as addresses beyond it (log entry 235, DEDUCED). -/
def addressOk (l : Lomril) (d : MediaDesc) : Bool :=
  d.volume < l.volumes && d.lun < l.lunsPerVolume && (5 < d.opcode || decide (d.planeMask < 2 ^ l.planes)) &&
  (match d.opcode with
    | 1 => d.block < l.blocksPerPlane && d.page < pagesInMode l d.pslc && d.planeMask != 0 && (d.autoRetry || d.retryEntry < l.retryEntries)
    | 2 => d.block < l.blocksPerPlane && d.page < pagesInMode l d.pslc && d.planeMask == 2 ^ l.planes - 1
    | 3 => d.block < l.blocksPerPlane && d.planeMask == 2 ^ l.planes - 1
    | 4 => d.block < l.blocksPerPlane && d.page < pagesInMode l false && d.planeMask == 2 ^ l.planes - 1 && !d.pslc
        && !isReserved (geometryOf l) (8 * d.volume + d.lun) d.block
    | 5 => d.block < l.blocksPerPlane && d.page < pagesInMode l d.pslc && 1 ≤ d.sweepStep && d.sweepStep ≤ 16
        && 1 ≤ d.sweepCount && d.sweepCount ≤ 64 && decide (-1024 ≤ d.sweepStart) && decide (d.sweepStart ≤ 1023)
        && decide (d.sweepStart + d.sweepStep * (d.sweepCount - 1 : Nat) ≤ 1023)
    | _ => true)

/-- The LUN of a descriptor within its channel (R48). -/
def descLun (d : MediaDesc) : Nat := 8 * d.volume + d.lun

/-- The block key of a descriptor. -/
def descKey (ch : Nat) (d : MediaDesc) : Nat := blockKey (lunIndex ch (descLun d)) d.block

/-- Whether a descriptor addresses an erase block. -/
def addressesBlock (d : MediaDesc) : Bool := 1 ≤ d.opcode && d.opcode ≤ 5

/-- The BAR2 offset of Media Direct's buffer area (R92). -/
def mdBuffer : Nat := 0x500000

/-- The bytes of Media Direct's buffer area (R92). -/
def mdBufferSize : Nat := 4194304

/-- Whether the word of a Media Direct byte passes its check bits: every byte written, no error (R91, R417). -/
def mdWordOk (m : MediaState) (off : Nat) : Bool :=
  !m.mdBadWords.contains (off / 8) && (List.range 8).all (fun i => (lookup m.mdMem (off / 8 * 8 + i)).isSome)

/-- Bytes of the Media Direct memory. -/
def mdBytes (m : MediaState) (off n : Nat) : Bytes := (List.range n).map (fun i => readAt 0 m.mdMem (off + i))

/-- Whether a run of Media Direct memory reads without an uncorrectable word. -/
def mdRunOk (m : MediaState) (off n : Nat) : Bool := (List.range n).all (fun i => mdWordOk m (off + i))

/-- Whether a Media Direct descriptor's buffer reads without an uncorrectable word (R91, R417); one that runs past the buffer area does
not (R66, log entry 236, DEDUCED). -/
def mdBufferOk (m : MediaState) (off n : Nat) : Bool := decide (off + n ≤ mdBufferSize) && mdRunOk m (mdBuffer + off) n

/-- Bytes written to the Media Direct memory. -/
def mdWrite (m : MediaState) (off : Nat) (b : Bytes) : MediaState :=
  { m with mdMem := b.zipIdx.foldl (fun mem p => insert mem (off + p.2) p.1) m.mdMem
           mdBadWords := m.mdBadWords.filter (fun w => !(off ≤ w * 8 && w * 8 + 8 ≤ off + b.length)) }

/-- Whether the LUN has a suspended erase of the block (R82). -/
def eraseSuspended (s : State) (lun block : Nat) : Bool :=
  match (lunAt s lun).suspended with
  | some r => r.entry.desc.opcode == opErase && r.entry.desc.block == block
  | none => false

/-- Whether a descriptor addresses a block operated in pSLC mode: a reserved one or one of an emergency band (R53, R84). -/
def pslcBlock (s : State) (l : Lomril) (ch : Nat) (d : MediaDesc) : Bool :=
  isReserved (geometryOf l) (descLun d) d.block || s.map.emergencyBlocks.contains (descKey ch d)
    || s.map.core.bands.any (fun p => p.2.stream == .emergency && p.2.blocks.contains (descKey ch d))

/-- The status with which a descriptor ends before anything runs, and none where it starts (R50, R67, R70, R75, R82 to R84, R95). A
PROGRAM of a block with an undefined write pointer ends with NOT_ERASED, and a RECHARGE of a page at or above the write pointer, or of a
block with an undefined one, with RECHARGE_MISMATCH (log entry 237, DEDUCED). -/
def refusalOf (s : State) (ch : Nat) (q : Fin 4) (e : QEntry) : Option Nat :=
  let d := e.desc
  let c := carrierAt s (carrierOf ch)
  let md := q == 3
  match c.lomril with
  | none => some (if md then 0x11 else 0x12)
  | some l =>
    let lun := lunIndex ch (descLun d)
    let b := blockAt s (descKey ch d)
    if md && c.st != .inService && c.st != .outOfService then some 0x11
    else if !carrierLive s (carrierOf ch) then some 0x12
    else if d.opcode = 0 || 10 < d.opcode || !d.reservedZero then some 0x0F
    else if md && c.st == .inService && !(d.opcode == 1 || d.opcode == 5 || d.opcode == 6 || d.opcode == 8) then some 0x0E
    else if d.length != requiredLength l d || d.length = 0xFFFFFFFF then some 0x14
    else if !addressOk l d then some 0x0C
    else if d.opcode == 4 && pslcBlock s l ch d then some 0x0C
    else if md && (d.opcode == 2 || d.opcode == 3) && isReserved (geometryOf l) (descLun d) d.block then some 0x0D
    else if d.opcode == 4 && l.caps % 2 == 0 then some 0x0A
    else if addressesBlock d && b.health != .good then some 0x15
    else if d.opcode == 1 && 2 ≤ q.val && eraseSuspended s lun d.block then some 0x06
    else if md && (d.opcode == 2 || d.opcode == 4) && !insideWindow s lun then some 0x0B
    else if d.opcode == 4 && b.failFlag then some 0x08
    else if d.opcode == 4 && d.first && 4 ≤ b.rch then some 0x09
    else if d.opcode == 2 then
      match b.wp with
      | none => some 0x04
      | some w =>
        if d.page < w then some 0x04 else if w < d.page then some 0x05
        else if md && !mdBufferOk s.media d.buffer d.length then some 0x13 else none
    else if d.opcode == 4 && (b.wp.elim true (fun w => w ≤ d.page)) then some 0x07
    else if d.opcode == 4 && md && !mdBufferOk s.media d.buffer d.length then some 0x13
    else none

/-! ### Which descriptor starts (R65, R71, R77, R78, R80, R81, R94) -/

/-- Whether the media rail of a channel's die quadrant is low (R437, R438, R517): monitor 12 senses the West quadrant's, 13 the East's. -/
def mediaRailLow (s : State) (ch : Nat) : Bool := (vget s.pwr.mon {} (if ch < 32 then 12 else 13)).st == .faultLow

/-- Whether a program or Recharge of the controller's own is held by the window, or by a low media rail (R33, R56, R77, R78, R438). -/
def windowHeld (s : State) (ch : Nat) (q : Fin 4) (e : QEntry) : Bool :=
  (e.desc.opcode == 2 || e.desc.opcode == 4) && q != 3 && !e.exempt
    && (!insideWindow s (lunIndex ch (descLun e.desc)) || mediaRailLow s ch)

/-- Descriptors of a queue that are running or suspended on the channel's LUNs. -/
def runningOfQueue (s : State) (ch : Nat) (q : Fin 4) : Nat :=
  s.media.luns.countP (fun p => p.1 / 128 == ch &&
    ((p.2.running.elim false (·.queue == q)) || (p.2.suspended.elim false (·.queue == q))))

/-- Started descriptors of a ring on its channel. -/
def runningOfRing (s : State) (ch : Nat) (n : Fin 4) : Nat :=
  s.media.luns.countP (fun p => p.1 / 128 == ch && (p.2.running.elim false (fun r => r.entry.owner == .ring n)))

/-- Whether a ring's completion ring has no room for one more completion (R94): it counts as full with 4,095 entries unconsumed, the
completions that its started descriptors will write among them (log entry 238, DEDUCED). -/
def ringFull (s : State) (ch : Nat) (n : Fin 4) : Bool :=
  let r := s.media.rings[n]
  4095 ≤ (r.cqTail + 4096 - r.cqHead) % 4096 + runningOfRing s ch n

/-- Whether a Q0 read may suspend what its LUN runs: another block, within the limit, and once resumed not before it has run 300 µs
(R80). -/
def maySuspend (l : LunState) (e : QEntry) (q : Fin 4) (ranUs : Nat) : Bool :=
  match l.running with
  | none => false
  | some r => q == 0 && e.desc.opcode == opRead && l.suspended.isNone && r.entry.desc.block != e.desc.block
      && (r.suspends == 0 || 300 ≤ ranUs) && ((r.entry.desc.opcode == opProgram && r.suspends < 4) || (r.entry.desc.opcode == opErase && r.suspends < 8))

/-- Whether an earlier waiting descriptor of the same queue and LUN keeps this one back: every one does, but for a held
program that a read of another block or an exempt program of another block passes (R65, R77, R78). -/
def keptBack (s : State) (ch : Nat) (q : Fin 4) (earlier : List QEntry) (e : QEntry) : Bool :=
  earlier.any (fun o => descLun o.desc == descLun e.desc &&
    !(windowHeld s ch q o && o.desc.block != e.desc.block && (e.desc.opcode == opRead || e.exempt)))

/-- Whether an earlier descriptor of any queue addresses the same erase block and is not complete (R65). -/
def blockBusy (s : State) (ch : Nat) (e : QEntry) : Bool :=
  let l := lunAt s (lunIndex ch (descLun e.desc))
  let same := fun (o : QEntry) => addressesBlock o.desc && addressesBlock e.desc && descKey ch o.desc == descKey ch e.desc
  (l.running.elim false (fun r => same r.entry)) || (l.suspended.elim false (fun r => same r.entry && !(e.desc.opcode == opRead)))
    || (channelAt s ch).q.toList.any (fun w => w.any (fun o => same o && o.order < e.order))

/-- Whether Held keeps a descriptor from the media (R200): a PROGRAM, ERASE or RECHARGE that is not exempt as recovery state. -/
def heldBack (s : State) (e : QEntry) : Bool := isHeld s && !e.exempt && 2 ≤ e.desc.opcode && e.desc.opcode ≤ 4

/-- Whether a waiting descriptor may start now; none does on a carrier that trains again in a replan (R443), and no background one after
PWRFAIL_N (R447). -/
def mayStart (s : State) (ch : Nat) (q : Fin 4) (earlier : List QEntry) (e : QEntry) (ranUs : Nat) : Bool :=
  let l := lunAt s (lunIndex ch (descLun e.desc))
  !(s.pwr.pwrfail && q == 2) && s.pwr.retrain.head? != some (carrierOf ch) && !(channelAt s ch).halted[q] && !keptBack s ch q earlier e && !blockBusy s ch e && !windowHeld s ch q e && !heldBack s e
    && (!e.desc.fence || (earlier.isEmpty && runningOfQueue s ch q == 0))
    && (l.running.isNone && l.suspended.isNone || maySuspend l e q ranUs || (refusalOf s ch q e).isSome)
    && (match e.owner with
        | .ring n => !s.media.rings[n].halted && !ringFull s ch n
        | _ => true)

/-- Microseconds for which the operations of a channel have run since their latest resume, where no row says it: free (R80, log entry 239,
DESIGN CHOICE). -/
def ranNow (s : State) : Nat := Config.freeNat s.freeCtr

/-- The first descriptor of a queue that may start, with those before it. -/
def pickIn (s : State) (ch : Nat) (q : Fin 4) (ranUs : Nat) : List QEntry → List QEntry → Option QEntry
  | _, [] => none
  | earlier, e :: t => if mayStart s ch q earlier e ranUs then some e else pickIn s ch q ranUs (earlier ++ [e]) t

/-- The descriptor the channel starts next: host reads, then destaging, then background work, then Media Direct (R31,
R64). -/
def pick (s : State) (ch : Nat) (ranUs : Nat) : Option (Fin 4 × QEntry) :=
  ([0, 1, 2, 3] : List (Fin 4)).findSome? (fun q => (pickIn s ch q ranUs [] (channelAt s ch).q[q]).map (fun e => (q, e)))

/-! ### Completions (R69, R70) -/

/-- Entries the completion queue of a channel holds (R64). -/
def cqDepth : Nat := 1088

/-- The 16 bytes of a completion entry (R69). -/
def completionBytes (c : MediaCompletion) : Bytes :=
  leBytes 2 c.tag.toNat ++ b1 c.status ++ b1 c.decodeStep ++ b1 c.retryEntry ++ b1 c.dieStatus ++ leInt 1 c.temperature
    ++ b1 c.suspends ++ b2 c.corrected ++ b1 c.pulses ++ b1 c.queue ++ b4 c.elapsed

/-- A completion written: to the channel's CQ, or to the ring's completion ring in completion order (R65, R69, R94). -/
def postCompletion (s : State) (ch : Nat) (o : Owner) (c : MediaCompletion) : State :=
  match o with
  | .ring n =>
    let r := s.media.rings[n]
    let m := mdWrite s.media (0x400000 + n.val * 0x10000 + 16 * r.cqTail) (completionBytes c)
    modRing { s with media := m } n (fun r => { r with cqTail := (r.cqTail + 1) % 4096, inQ3 := r.inQ3 - 1 })
  | _ => modChannel s ch (fun c' => { c' with cq := (c'.cq ++ [c]).drop (c'.cq.length + 1 - cqDepth) })

/-- The band that holds a block. -/
def bandOfBlock (c : MapCore) (key : Nat) : Option Nat :=
  (c.bands.find? (fun p => p.2.blocks.contains key || p.2.substs.any (fun x =>
    blockKey (lunAtPos x.host p.2.group x.hostPos) x.block == key))).map (·.1)

/-- A band scheduled for relocation into Nimbus (R26). -/
def scheduleBand (s : State) (band : Nat) : State := setCore s (bandMod s.map.core band (fun b => { b with scheduled := true }))

/-- The band of a block scheduled for relocation. -/
def scheduleBlock (s : State) (key : Nat) : State :=
  match bandOfBlock s.map.core key with
  | none => s
  | some b => scheduleBand s b

/-- Parameters of a record that names a block: channel, LUN, block and a code (R500). -/
def blockParams (key code : Nat) : Bytes := b1 (channelOfKey key) ++ b1 (lunOfKey key) ++ b4 (blockOfKey key) ++ b2 code

/-- A block marked grown-bad, with its Notice record (R70). -/
def markGrownBad (s : State) (key status : Nat) : State :=
  record (modBlock s key (fun b => { b with health := .grownBad })) 0x0402 .notice (blockParams key status)

/-- The class of a read without read-retry: A at most 128 corrected bits by hard decode, B at most 224, else C (R112,
R215). -/
def marginOf (decodeStep corrected : Nat) : Nat :=
  if decodeStep = 1 && corrected ≤ 128 then 0 else if decodeStep = 1 && corrected ≤ 224 then 1 else 2

/-- The worse of two margin classes, 3 being not yet measured (R110, R112). -/
def worseMargin (old new : Nat) : Nat := if old = 3 then new else max old new

/-- A counted read noted on its block: its margin class, or the schedule of its band when read-retry was needed (R112). -/
def noteRead (s : State) (key decodeStep corrected : Nat) : State :=
  if decodeStep = 3 then scheduleBlock s key
  else if decodeStep = 0 then s
  else
    let m := worseMargin (blockAt s key).margin (marginOf decodeStep corrected)
    if m = (blockAt s key).margin then s else rebudget (modBlock s key (fun b => { b with margin := m })) key

/-- What a unit's completion tells its stripe or group: 1 completed, 2 its slot failed, 3 its program failed, which closes the band short at
once (R142, R159, R181, R182). -/
def noteUnit (s : State) (o : Owner) (result : Nat) : State :=
  match o with
  | .stripeUnit band stripe slot =>
    let s := { s with map := { s.map with stripes := s.map.stripes.map (fun f =>
        if f.band = band && f.stripe = stripe then { f with units := vset f.units slot result } else f) } }
    if result = 3 then setCore s (failStripe (addException s.map.core band { index := stripe, kind := 3, slot := slot }) band stripe) else s
  | .xorUnit band group slot =>
    if result = 1 then setCore s (bandMod s.map.core band (fun b => { b with xorDone := b.xorDone ++ [16 * group + slot] }))
    else if result = 3 then setCore s (beginClosing (addException s.map.core band { index := group, kind := 2, slot := slot }) band true)
    else s
  | _ => s

/-- What a program's end with a status tells its stripe (R182). -/
def unitResult (status : Nat) : Nat := if status = 0 then 1 else if status = 0x11 || status = 0x12 then 2 else 3

/-- A descriptor ends: its completion, the interrupt of its producer, its records and what its owner learns (R66, R69, R70, R71, R76). A block
whose Recharge fails or is not allowed any more is relocated (R70). -/
def finish (s : State) (ch : Nat) (q : Fin 4) (e : QEntry) (c : MediaCompletion) : State :=
  let key := descKey ch e.desc
  let s := postCompletion s ch e.owner { c with tag := e.desc.tag, queue := q.val }
  let s := if e.desc.irq then modChannel s ch (fun x => { x with irqs := x.irqs.set q (x.irqs[q] + 1) }) else s
  let s := noteUnit s e.owner (unitResult c.status)
  let internal := q != 3
  let s := if c.status == 0x08 || c.status == 0x09 then scheduleBlock s key else s
  let s := recordIf (c.status == 0x08) s 0x0402 .notice (blockParams key 0x08)
  let s := recordIf (internal && (c.status == 0x04 || c.status == 0x05)) s 0x0406 .critical (blockParams key c.status)
  let s := recordIf (c.status == 0x07 || c.status == 0x0A) s 0x0414 .fault (b4 ((bandOfBlock s.map.core key).getD 0xFFFFFFFF) ++ b2 c.status)
  if c.status == 0x13 then
    let s := match e.owner with
      | .ring n => modRing s n (fun r => { r with halted := true, err := true, lastErr := 3 })
      | _ => modChannel s ch (fun x => { x with halted := vset x.halted q.val true })
    record s 0x0A08 .fault (b1 4 ++ b4 ch)
  else s

/-! ### Starting (R65, R79, R80) -/

/-- A waiting descriptor taken out of its queue. -/
def takeEntry (s : State) (ch : Nat) (q : Fin 4) (e : QEntry) : State :=
  modChannel s ch (fun c => { c with q := c.q.set q (dropFirst (fun o => o.order == e.order) c.q[q]) })

/-- The completion of a descriptor that has not run to an end of its own: DIE_STATUS, and TEMPERATURE of a LUN without a reading, are free
(R69, log entry 240, DESIGN CHOICE). -/
def unrun (s : State) (lun status : Nat) : MediaCompletion × State :=
  let (d, s) := drawNat s
  let (t, s) := drawNat s
  ({ status := status, dieStatus := d % 256, temperature := (lunAt s lun).temp.getD ((t % 256 : Nat) - 128) }, s)

/-- The LUN's thresholds set through RETRY_FEATURE to those of a read-retry entry; entry 0 is the die's default (R57, R74). That P1 holds the
entry's number is DEDUCED (log entry 241). -/
def setRetryEntry (l : Lomril) (n : Nat) (x : LunState) : LunState :=
  { x with features := x.features.filter (fun f => f.1 != l.retryFeature) ++ (if n = 0 then [] else [(l.retryFeature, leBytes 4 n)]) }

/-- The read-retry entries a READ tries, in order (R73). -/
def retryOrder (l : Lomril) (d : MediaDesc) : List Nat :=
  if !d.autoRetry then [d.retryEntry]
  else
    let all := List.range l.retryEntries
    if !d.shift then all
    else
      let sh := all.filter (fun i => i != 0 && l.shifted.getD i false)
      sh ++ all.filter (fun i => i != 0 && !l.shifted.getD i false) ++ [0]

/-- The thresholds in force when an operation starts: a READ's first entry; a program, Recharge or erase never runs with shifted ones
(R74). -/
def thresholdsFor (l : Option Lomril) (d : MediaDesc) (x : LunState) : LunState :=
  match l with
  | none => x
  | some l =>
    if d.opcode = 1 then setRetryEntry l ((retryOrder l d).headD 0) x
    else if d.opcode = 2 || d.opcode = 3 || d.opcode = 4 then setRetryEntry l 0 x
    else x

/-- A descriptor starts on its LUN, suspending what ran there (R80), or ends at once. What a Media Direct program writes
is what its buffer holds now. -/
def start (s : State) (ch : Nat) (q : Fin 4) (e : QEntry) : State :=
  let s := takeEntry s ch q e
  match refusalOf s ch q e with
  | some st => let (c, s) := unrun s (lunIndex ch (descLun e.desc)) st; finish s ch q e c
  | none =>
    let e := if q == 3 && (e.desc.opcode == 2 || e.desc.opcode == 4) then
        { e with payload := .raw (mdBytes s.media (mdBuffer + e.desc.buffer) e.desc.length) } else e
    let s := if q == 3 && (e.desc.opcode == 2 || e.desc.opcode == 3 || e.desc.opcode == 4) then
        modCarrier s (carrierOf ch) (fun c => { c with mdTouched := true }) else s
    modLun s (lunIndex ch (descLun e.desc)) (fun l => thresholdsFor (carrierAt s (carrierOf ch)).lomril e.desc { l with
      running := some { entry := e, queue := q }
      suspended := match l.running with
        | some r => some { r with suspends := r.suspends + 1 }
        | none => l.suspended })

/-- Descriptors of a channel started in order of service until none may start, at most `fuel` of them. -/
def dispatch (ch ranUs : Nat) : Nat → State → State
  | 0, s => s
  | fuel + 1, s =>
    match pick s ch ranUs with
    | none => s
    | some (q, e) => dispatch ch ranUs fuel (start s ch q e)

/-- Every descriptor of a channel that may start does. -/
def dispatchAll (s : State) (ch ranUs : Nat) : State :=
  dispatch ch ranUs ((channelAt s ch).q.toList.map List.length).sum s

/-- The depth of a queue (R64). -/
def queueDepth (q : Fin 4) : Nat := if q = 0 then 512 else if q = 3 then 64 else 256

/-- Entries of a queue that count against its depth: the 16 reserved slots of Q1 are the exempt programs' (R64, R78). -/
def queueRoom (s : State) (ch : Nat) (q : Fin 4) (exempt : Bool) : Bool :=
  let l := (channelAt s ch).q[q]
  if q = 1 then
    if exempt then l.countP (·.exempt) < 16 else l.countP (fun e => !e.exempt) < 240
  else l.length < queueDepth q

/-- Whether a descriptor programs a block of the emergency band (R34, R78). -/
def toEmergency (s : State) (ch : Nat) (d : MediaDesc) : Bool := s.map.emergencyBlocks.contains (descKey ch d)

/-- Whether a program is exempt from the window: pSLC, from Q1, to a metadata block or the emergency band (R34, R78). -/
def isExempt (s : State) (ch : Nat) (q : Fin 4) (d : MediaDesc) : Bool :=
  q == 1 && d.opcode == opProgram && d.pslc &&
    (((carrierAt s (carrierOf ch)).lomril.elim false (fun l => isMetadataBlock (geometryOf l) d.block)) || toEmergency s ch d)

/-- Where a descriptor stands in its queue: at the end, but an emergency program before the metadata programs that wait (R65, R78). -/
def placeEntry (s : State) (ch : Nat) (e : QEntry) (l : List QEntry) : List QEntry :=
  if e.exempt && toEmergency s ch e.desc then
    l.takeWhile (fun o => !(o.exempt && !toEmergency s ch o.desc)) ++ e :: l.dropWhile (fun o => !(o.exempt && !toEmergency s ch o.desc))
  else l ++ [e]

/-- Whether a carrier takes descriptors of the controller's own: not while it drains or is out of service (R59). -/
def acceptsOwn (s : State) (c : Nat) : Bool := (carrierAt s c).st != .outOfService && (carrierAt s c).drain == 0

/-- A descriptor submitted to a queue, where it has room (R64, R65); a unit for a carrier that takes none is told so (R59, R182). -/
def submit (s : State) (ch : Nat) (q : Fin 4) (d : MediaDesc) (payload : PageContent) (o : Owner) : State :=
  let ex := isExempt s ch q d
  if q != 3 && !acceptsOwn s (carrierOf ch) then noteUnit s o 2
  else if queueRoom s ch q ex then
    let e : QEntry := { desc := d, payload := payload, owner := o, exempt := ex, order := s.media.nextOrder }
    let s := { s with media := { s.media with nextOrder := s.media.nextOrder + 1 } }
    modChannel s ch (fun c => { c with q := c.q.set q (placeEntry s ch e c.q[q]) })
  else s

/-! ### The end of an operation (R69, R73, R75, R83, R84) -/

/-- The first entry of a list that decodes: DECODE_STEP and RETRY_ENTRY, or none with the last entry tried (R69, R73). -/
def decodeAt (tries : List DecodeTry) : List Nat → Nat → Option Nat × Nat
  | [], last => (none, last)
  | i :: t, _ =>
    match tries.getD i .none with
    | .hard => (some (if i = 0 then 1 else 3), i)
    | .soft => (some (if i = 0 then 2 else 3), i)
    | .none => decodeAt tries t i

/-- The data a page delivers: decoded blocks in order, or the bytes written with RAW. -/
def pageData (p : PageContent) : Bytes :=
  match p with
  | .codewords l => l.flatMap (fun c => (storedUnit c).take 4096)
  | .raw b => b

/-- The parts of a page that lie on the planes a mask names, in plane order (R66): with P planes, plane p holds the p-th of P equal parts. -/
def maskedParts {α : Type} (planes mask size : Nat) (l : List α) : List α :=
  (List.range planes).flatMap (fun p => if mask / 2 ^ p % 2 = 1 then (l.drop (p * (size / planes))).take (size / planes) else [])

/-- What a decoded read delivers of a page (R66, R68): the blocks of the planes named. -/
def pageBlocks (l : Lomril) (d : MediaDesc) (p : PageContent) : Bytes := maskedParts l.planes d.planeMask 65536 (padTo 65536 (pageData p))

/-- The metadata, to 64 bytes, and the tag delivered with each of these blocks (R68, R212). -/
def pageMeta (l : Lomril) (d : MediaDesc) (p : PageContent) : List Bytes :=
  match p with
  | .codewords cs => maskedParts l.planes d.planeMask 16 (cs.map (fun c => padTo 64 ((storedUnit c).drop 4096) ++ tagBytes c.nsid c.lba c.msn))
  | .raw _ => []

/-- The regions of the on-die memory (R20): management SRAM, channel-core local SRAM, Codec and integrity-engine buffers, Host Port and Halo
buffers. -/
def sramRegions : List Nat := [32 * mib, 64 * mib, 96 * mib, 64 * mib]
/-- The on-die memory (R20). -/
def onDieSize : Nat := sramRegions.sum

/-- Bytes delivered to an on-die buffer, as far as it lies in the on-die memory (R20, R66, log entry 236, DEDUCED). -/
def deliverOnDie (m : MediaState) (off : Nat) (b : Bytes) : MediaState :=
  { m with onDie := (b.take (onDieSize - off)).zipIdx.foldl (fun mem p => insert mem (off + p.2) p.1) m.onDie }

/-- Data of a descriptor written to its buffer: of a Media Direct one to the buffer area as far as it lies there, of any other on the die
(R66, R92). -/
def mdDeliver (s : State) (q : Fin 4) (d : MediaDesc) (b : Bytes) : State :=
  if q == 3 then { s with media := mdWrite s.media (mdBuffer + d.buffer) ((padTo d.length b).take (mdBufferSize - d.buffer)) }
  else { s with media := deliverOnDie s.media d.buffer (padTo d.length b) }

/-- The metadata and tags of a decoded read, held beside its buffer (R68, log entry 242, DESIGN CHOICE). -/
def deliverMeta (s : State) (q : Fin 4) (d : MediaDesc) (l : List Bytes) : State :=
  { s with media := { s.media with readMeta := s.media.readMeta.filter (fun p => p.1 != (q.val, d.buffer)) ++ [((q.val, d.buffer), l)] } }

/-- The LUN resumes what a read had suspended, or becomes free. -/
def releaseLun (s : State) (lun : Nat) : State :=
  modLun s lun (fun l => { l with running := l.suspended, suspended := none })

/-- The page of a program that ended without success: partly programmed (R75). -/
def leavePartly (s : State) (key page : Nat) (p : PageContent) : State :=
  { s with media := { s.media with partly := insert s.media.partly (pageKey key page) p } }

/-- The end of a READ (R68, R70, R73, R75). A partly programmed page decodes as its content allows, which the die's answer says; where nothing
decodes the buffer's contents are undefined, hence free. -/
def endRead (s : State) (ch : Nat) (l : Lomril) (r : RunningOp) (o : DieOutcome) (c : MediaCompletion) : State :=
  let d := r.entry.desc
  let key := descKey ch d
  let page := (lookup s.media.pages (pageKey key d.page)).orElse (fun _ => lookup s.media.partly (pageKey key d.page))
  if !d.decode || d.raw then finish (mdDeliver s r.queue d o.bytes) ch r.queue r.entry { c with retryEntry := d.retryEntry }
  else
    match (if page.isSome then decodeAt o.tries (retryOrder l d) 0 else (none, (retryOrder l d).getLastD 0)) with
    | (some step, entry) =>
      let s := deliverMeta (mdDeliver s r.queue d (page.elim [] (pageBlocks l d))) r.queue d (page.elim [] (pageMeta l d))
      let s := if r.queue == 0 then noteRead s key step o.corrected else if step = 3 then scheduleBlock s key else s
      let s := recordIf (step == 3) s 0x0401 .notice (b1 ch ++ b1 (descLun d) ++ b4 d.block ++ b1 step)
      finish s ch r.queue r.entry { c with decodeStep := step, retryEntry := entry }
    | (none, entry) =>
      let (free, s) := drawNat s
      finish (mdDeliver s r.queue d (freeBytes free d.length)) ch r.queue r.entry { c with status := 0x01, retryEntry := entry }

/-- The end of a PROGRAM (R70, R75, R110). -/
def endProgram (s : State) (ch : Nat) (r : RunningOp) (o : DieOutcome) (c : MediaCompletion) : State :=
  let d := r.entry.desc
  let key := descKey ch d
  if o.bufferEcc then finish s ch r.queue r.entry { c with status := 0x13 }
  else if o.ok then
    finish (programPage s key d.page r.entry.payload) ch r.queue r.entry c
  else finish (markGrownBad (leavePartly s key d.page r.entry.payload) key 0x02) ch r.queue r.entry { c with status := 0x02 }

/-- The end of an ERASE (R70, R75). -/
def endErase (s : State) (ch : Nat) (r : RunningOp) (o : DieOutcome) (c : MediaCompletion) : State :=
  let key := descKey ch r.entry.desc
  if o.ok then
    let s := modBlock (erasePages s key) key (fun b =>
      { b with wp := some 0, rch := 0, failFlag := false, pe := b.pe + 1, dawnPending := false, queued := 0, margin := 3 })
    finish (settleScan s (carrierOf ch)) ch r.queue r.entry c
  else finish (markGrownBad s key 0x03) ch r.queue r.entry { c with status := 0x03 }

/-- The end of a RECHARGE (R70, R83, R84): the page is read with AUTO_RETRY and compared with the buffer, then pulses are
applied, one and up to four more within RECHARGE_PULSES. -/
def endRecharge (s : State) (ch : Nat) (l : Lomril) (r : RunningOp) (o : DieOutcome) (c : MediaCompletion) : State :=
  let d := r.entry.desc
  let key := descKey ch d
  if o.bufferEcc then finish s ch r.queue r.entry { c with status := 0x13 }
  else
    match lookup s.media.pages (pageKey key d.page), decodeAt o.tries (List.range l.retryEntries) 0 with
    | some page, (some step, entry) =>
      let c := { c with decodeStep := step, retryEntry := entry }
      if pageData page != padTo (pageData page).length (pageData r.entry.payload) then
        finish s ch r.queue r.entry { c with status := 0x07 }
      else
        let s := modBlock s key (fun b => { b with rch := if d.first then b.rch + 1 else b.rch })
        let s := if d.first then rebudget s key else s
        let pulses := min (max o.pulses 1) (min 5 l.rechargePulses)
        if o.ok && o.pulses ≤ min 5 l.rechargePulses then finish s ch r.queue r.entry { c with pulses := pulses }
        else
          finish (modBlock s key (fun b => { b with failFlag := true })) ch r.queue r.entry { c with status := 0x08, pulses := pulses }
    | _, (_, entry) => finish s ch r.queue r.entry { c with status := 0x01, retryEntry := entry }

/-- The end of a descriptor that addresses no page data: SWEEP, features, status, reset, ZQ calibration (R66). -/
def endOther (s : State) (ch : Nat) (r : RunningOp) (o : DieOutcome) (c : MediaCompletion) : State :=
  let d := r.entry.desc
  let lun := lunIndex ch (descLun d)
  let s := match d.opcode with
    | 5 => mdDeliver s r.queue d o.bytes
    | 6 => mdDeliver s r.queue d (((lunAt s lun).features.find? (fun f => f.1 == d.featureAddr)).elim o.bytes (·.2))
    | 7 => modLun s lun (fun l => { l with features :=
        (l.features.filter (fun f => f.1 != d.featureAddr)) ++ [(d.featureAddr, padTo 4 d.featureData)] })
    | 9 => modLun s lun (fun l => { l with features := [] })
    | 10 => modChannel s ch (fun x => { x with zqCount := x.zqCount + 1 })
    | _ => s
  finish s ch r.queue r.entry c

/-- A READ, a SWEEP or the read of a RECHARGE leaves entry 0 in force (R74). -/
def restoreThresholds (l : Lomril) (d : MediaDesc) (x : LunState) : LunState :=
  if d.opcode = 1 || d.opcode = 4 || d.opcode = 5 then setRetryEntry l 0 x else x

/-- The operation that a LUN runs ends with an outcome; the LUN resumes or becomes free, and the channel is served. -/
def endOperation (s : State) (ch lun : Nat) (o : DieOutcome) : State :=
  let li := lunIndex ch lun
  match (lunAt s li).running, (carrierAt s (carrierOf ch)).lomril with
  | some r, some l =>
    let s := releaseLun (modLun s li (fun x => restoreThresholds l r.entry.desc { x with timeouts := 0 })) li
    let c : MediaCompletion := { dieStatus := o.dieStatus, temperature := o.temperature, suspends := r.suspends
                                 corrected := o.corrected, pulses := o.pulses, elapsed := o.elapsed }
    let s := match r.entry.desc.opcode with
      | 1 => endRead s ch l r o c
      | 2 => endProgram s ch r o c
      | 3 => endErase s ch r o c
      | 4 => endRecharge s ch l r o c
      | _ => endOther s ch r o c
    dispatchAll s ch (ranNow s)
  | _, _ => s

/-- A program that runs or is suspended leaves its page partly programmed (R75). -/
def leaveProgram (s : State) (ch : Nat) (r : RunningOp) : State :=
  if r.entry.desc.opcode == opProgram then leavePartly s (descKey ch r.entry.desc) r.entry.desc.page r.entry.payload else s

/-- A LUN not ready in time (R70): its operation ends with DIE_TIMEOUT and the LUN is reset; the third in succession fails it. The operation
that a read had suspended ends with DIE_TIMEOUT too, and a block keeps its write pointer (log entry 243, DEDUCED). -/
def dieTimeout (s : State) (ch lun : Nat) : State :=
  let li := lunIndex ch lun
  match (lunAt s li).running with
  | none => s
  | some r =>
    let n := (lunAt s li).timeouts + 1
    let s := modLun s li (fun x => { x with timeouts := n, running := none, features := [] })
    let (c, s) := unrun (leaveProgram s ch r) li 0x10
    let s := finish s ch r.queue r.entry { c with suspends := r.suspends }
    let s := match (lunAt s li).suspended with
      | none => s
      | some w =>
        let (c, s) := unrun (leaveProgram s ch w) li 0x10
        finish (modLun s li (fun x => { x with suspended := none })) ch w.queue w.entry { c with suspends := w.suspends }
    let s := if n = 3 then lunFail s li else s
    dispatchAll s ch (ranNow s)

/-! ### Draining and removal (R61, R71) -/

/-- Every unstarted descriptor of a queue that a property holds of completes with ABORTED. -/
def abortWaiting (s : State) (ch : Nat) (q : Fin 4) (p : QEntry → Bool) : State :=
  let l := (channelAt s ch).q[q]
  let s := modChannel s ch (fun c => { c with q := c.q.set q (l.filter (fun e => !p e)) })
  (l.filter p).foldl (fun s e => let (c, s) := unrun s (lunIndex ch (descLun e.desc)) 0x12; finish s ch q e c) s

/-- Every started descriptor of a channel completes with CARRIER_ABSENT: an erase or program leaves its block with an
undefined write pointer (R61, R70, R85). -/
def absentRunning (s : State) (ch : Nat) : State :=
  (List.range 128).foldl (fun s l =>
    let li := lunIndex ch l
    let drop := fun (s : State) (r : RunningOp) =>
      let key := descKey ch r.entry.desc
      let s := if r.entry.desc.opcode == 2 || r.entry.desc.opcode == 3 then modBlock s key (fun b => { b with wp := none }) else s
      let (c, s) := unrun (leaveProgram s ch r) li 0x11
      finish s ch r.queue r.entry { c with suspends := r.suspends }
    let x := lunAt s li
    if x.running.isNone && x.suspended.isNone then s
    else
      let s := modLun s li (fun y => { y with running := none, suspended := none })
      let s := x.running.elim s (drop s)
      x.suspended.elim s (drop s)) s

/-- The four channels of a carrier. -/
def channelsOf (c : Nat) : List Nat := [4 * c, 4 * c + 1, 4 * c + 2, 4 * c + 3]

/-- A carrier's channels emptied at a removal: unstarted descriptors ABORTED, started ones CARRIER_ABSENT (R61). -/
def removeDescriptors (s : State) (c : Nat) : State :=
  (channelsOf c).foldl (fun s ch =>
    absentRunning (([0, 1, 2, 3] : List (Fin 4)).foldl (fun s q => abortWaiting s ch q (fun _ => true)) s) ch) s

/-- The queues of a carrier hold nothing and its LUNs run nothing. -/
def carrierIdle (s : State) (c : Nat) : Bool :=
  (channelsOf c).all (fun ch => (channelAt s ch).q.toList.all List.isEmpty &&
    s.media.luns.all (fun p => p.1 / 128 != ch || (p.2.running.isNone && p.2.suspended.isNone)))

/-- The LUN records of a carrier that loses power: readings, features and appointments are gone (R33, R48). -/
def forgetLuns (s : State) (c : Nat) : State :=
  { s with media := { s.media with luns := (s.media.luns.map (fun p =>
      if carrierOf (p.1 / 128) == c then (p.1, ({ failed := p.2.failed } : LunState)) else p)).filter (fun p => p.2 != {}) } }

end Sys2Proof.Machine
end

