-- ==== Sys2Proof/Machine/RecoverOps.lean ====
section
/-! DEFINITION. The recovery of a block or a unit that does not decode where it lies (01 R26; 05 R189, R190, R197 to R199, R202). -/
namespace Sys2Proof.Machine

/-! ### Units where they lie -/

/-- Whether a block's carrier and LUN give what it holds. -/
def blockReadable (s : State) (key : Nat) : Bool :=
  (carrierAt s (carrierOf (channelOfKey key))).st == .inService && !(lunAt s (key / 65536)).failed

/-- A page of a block that its carrier and LUN give. -/
def readablePage (s : State) (key page : Nat) : Option PageContent :=
  if blockReadable s key then lookup s.media.pages (pageKey key page) else none

/-- The block and page of the unit of a stripe in a slot. -/
def unitPlace (s : State) (band : Nat) (b : Band) (stripe slot : Nat) : Nat × Nat :=
  let g := s.red.geometry
  let (_, pos, page) := place (bpc g) band stripe (unitInSlot band stripe slot)
  (bandBlock g b slot pos, page)

/-- The unit of a stripe in a slot, where it can be read. -/
def readableUnit (s : State) (band : Nat) (b : Band) (stripe slot : Nat) : Option PageContent :=
  let p := unitPlace s band b stripe slot
  readablePage s p.1 p.2

/-- The inner XOR page of a group on a slot, where it can be read. -/
def readableXor (s : State) (b : Band) (group slot : Nat) : Option PageContent :=
  let g := s.red.geometry
  let (pos, page) := placeXor (bpc g) group
  readablePage s (bandBlock g b slot pos) page

/-- The bytes of a run of units, none where one of them is missing. -/
def allBytes : List (Option PageContent) → Option (List Bytes)
  | [] => some []
  | none :: _ => none
  | some u :: t => (allBytes t).map (unitBytes u :: ·)

/-! ### Reconstruction (R26 steps 4 and 5, R183, R197) -/

/-- What a unit of a group counts as in its inner XOR: nothing where it was never programmed (R183). -/
def xorTerm (s : State) (band : Nat) (b : Band) (slot stripe : Nat) : Option PageContent :=
  match readableUnit s band b stripe slot with
  | some u => some u
  | none =>
    if b.nextStripe ≤ stripe || b.exceptions.any (fun e => e.kind == 3 && e.index == stripe && e.slot == slot) then some (.raw []) else none

/-- The unit of a stripe in a slot as the carrier's inner XOR gives it: its group's XOR page and the group's other units (R26 step 4). -/
def innerUnit (s : State) (band : Nat) (b : Band) (stripe slot : Nat) : Option Bytes :=
  let group := stripe / 31
  let others := ((List.range 31).map (fun i => 31 * group + i)).filter (· != stripe)
  (allBytes (readableXor s b group slot :: others.map (xorTerm s band b slot))).map (fun l => l.foldl xorBytes [])

/-- The unit of a stripe in a slot as the other fifteen units give it (R26 step 5, R197). -/
def outerUnit (s : State) (band : Nat) (b : Band) (stripe slot : Nat) : Option Bytes :=
  (allBytes (((List.range 16).filter (· != slot)).map (readableUnit s band b stripe))).map (fun l => l.foldl xorBytes [])

/-- Bytes of host metadata of a block of a namespace as formatted (R217). -/
def metadataBytes (s : State) (nsid : Nat) : Nat :=
  (lookup s.nvme.namespaces nsid).elim 0 (fun n => if n.lbaf = 1 then 16 else if n.lbaf = 2 then 64 else 0)

/-- The codeword whose 4,184 bytes reconstruction gives (R212), decrypted where its namespace has a key; none where its block check fails. -/
def parseCodeword (s : State) (bytes : Bytes) : Option Codeword :=
  let nsid := field bytes 0x1040 2
  let lba := field bytes 0x1042 6
  let msn := field bytes 0x1048 8
  let crc := BitVec.ofNat 32 (field bytes 0x1050 4)
  let enc := keyOf s nsid
  let unit := slice bytes 0 (4096 + metadataBytes s nsid)
  let plain := enc.elim unit (fun k => Config.sm4XtsInverse k (ofLE (tagBytes nsid lba msn)) unit)
  if crc32c (slice bytes 0 0x1050) = crc then
    some { data := plain.take 4096, md := plain.drop 4096, nsid := nsid, lba := lba, msn := msn, blockCrc := crc, enc := enc }
  else none

/-- The codeword at a place of a reconstructed unit, where it passes R190: its tag names the block, and it passes the block check. -/
def checkedCodeword (s : State) (bytes : Bytes) (i nsid lba : Nat) : Option Codeword :=
  (parseCodeword s (slice bytes (4184 * i) 4184)).filter (fun c => c.nsid == nsid && c.lba == lba)

/-- A reconstructed unit as its page holds it: codewords for a data unit, bytes for parity. -/
def rebuiltContent (s : State) (band stripe slot : Nat) (bytes : Bytes) : PageContent :=
  let l := (List.range 16).filterMap (fun i => parseCodeword s (slice bytes (4184 * i) 4184))
  if unitInSlot band stripe slot < 15 && l.length = 16 then .codewords l else .raw bytes

/-! ### Peer repair (R26 step 6, R199, R269) -/

/-- Whether a Halo mirror partner holds a block: a mirror of its namespace that is ACTIVE, with neither bit of the span set (R269). -/
def partnerHolds (s : State) (nsid lba : Nat) : Bool :=
  s.halo.mirrors.any (fun m => m.localNsid == nsid && m.st == .active && !m.dirty.contains (spanOf lba) && !m.inFlight.contains (spanOf lba))

/-- The committed blocks of a stripe's unit in a slot: (NSID, LBA, offset). -/
def unitBlocks (c : MapCore) (band stripe slot : Nat) : List (Nat × Nat × Nat) :=
  let d := unitInSlot band stripe slot
  (bandBlocks c band).filter (fun p => 240 * stripe + 16 * d ≤ p.2.2 && p.2.2 < 240 * stripe + 16 * d + 16 && d < 15)

/-- The slots whose units a stripe has lost when its unit in a slot is not recovered (R199): that one, the failed slot, and a surviving one that
cannot be read. -/
def lostSlots (s : State) (band : Nat) (b : Band) (stripe slot : Nat) : List Nat :=
  (List.range 16).filter (fun c => c == slot || (readableUnit s band b stripe c).isNone)

/-- The referenced blocks in the units that a stripe has lost (R199). -/
def lostBlocks (s : State) (band : Nat) (b : Band) (stripe slot : Nat) : List (Nat × Nat × Nat) :=
  (lostSlots s band b stripe slot).flatMap (unitBlocks s.map.core band stripe)

/-- Whether peer repair may supply a block (R199): a partner holds it and, while the array is DEGRADED, every referenced block of the stripe's
lost units. -/
def peerMay (s : State) (band : Nat) (b : Band) (stripe slot nsid lba : Nat) : Bool :=
  partnerHolds s nsid lba
    && (s.red.st != .degraded || (lostBlocks s band b stripe slot).all (fun p => partnerHolds s p.1 p.2.1))

/-! ### The escalation (R26, R122, R202) -/

/-- The block that a data offset of a band lies in. -/
def offsetPlace (s : State) (band : Nat) (b : Band) (off : Nat) : Nat × Nat := unitPlace s band b (off / 240) ((place (bpc s.red.geometry) band (off / 240) (off % 240 / 16)).1)

/-- The step that a read of a block begins with: the shifted read-retry table where its block is Dawn-pending or its carrier's power-up sweep is
unfinished (R26, R122). -/
def firstStep (s : State) (key : Nat) : Nat :=
  let x := starAt s (carrierOf (channelOfKey key))
  if (blockAt s key).dawnPending || !x.powerUpSweepDone then 3 else 1

/-- Whether a stripe is in the lost-stripe list, of which reads try peer repair alone (R202). -/
def stripeListed (s : State) (band stripe : Nat) : Bool :=
  s.red.st == .heldReadOnly && s.red.lostStripes.any (fun l => l.band == band && l.stripe == stripe)

/-- The codeword that a Halo partner's copy of a block makes: new data, encrypted under this device's key (R29, R199). -/
def peerCodeword (s : State) (nsid lba msn : Nat) (d : BlockData) : Codeword :=
  sealCodeword { data := d.data, md := d.md, nsid := nsid, lba := lba, msn := msn, enc := keyOf s nsid }

/-- Whether a codeword passes the block check where its map entry points to it: its tag names the block, and BLOCK_CRC matches (R214). -/
def passesCheck (c : Codeword) (nsid lba : Nat) : Bool := c.nsid == nsid && c.lba == lba && c.blockCrc == (sealCodeword c).blockCrc

/-- What a step yields where the block holds other content there than was written. -/
def yielded (r : BlockRead) (step : Nat) (c : Codeword) : Codeword :=
  ((r.altered.find? (fun p => p.1 == step)).map (fun p => { c with data := p.2.data, md := p.2.md })).getD c

/-- One block read (R26): the first step that yields it acceptably, and the codeword. `r` says which steps the environment lets succeed; a step
that has nothing to read, whose block fails the block check (R190, R214) or is not accepted (R220) passes on to the next. Step 7: none yields it. -/
def recoverBlockIf (accept : Codeword → Bool) (s : State) (nsid lba band off : Nat) (r : BlockRead) : Nat × Option Codeword :=
  match bandAt s.map.core band with
  | none => (7, none)
  | some b =>
    let stripe := off / 240
    let slot := (place (bpc s.red.geometry) band stripe (off % 240 / 16)).1
    let listed := stripeListed s band stripe
    let take := fun (step : Nat) (c : Option Codeword) => (c.map (yielded r step)).filter accept
    let peer := fun (_ : Unit) =>
      if r.step ≤ 6 && !r.here && b.stream != .emergency && peerMay s band b stripe slot nsid lba then
        match take 6 (some (peerCodeword s nsid lba 0 r.peer)) with
        | some c => (6, some c)
        | none => (7, none)
      else (7, none)
    if b.stream == .emergency then
      match take r.step (codewordAt s band off) with
      | some c => if r.step ≤ 5 then (r.step, some c) else (7, none)
      | none => (7, none)
    else if listed then peer ()
    else
      let key := (unitPlace s band b stripe slot).1
      let first := max r.step (firstStep s key)
      let own := if r.step ≤ 3 && blockReadable s key then take first ((codewordAt s band off).filter (fun c => passesCheck c nsid lba)) else none
      let inner := fun (_ : Unit) =>
        if r.step ≤ 4 then take 4 ((innerUnit s band b stripe slot).bind (fun u => checkedCodeword s u (off % 16) nsid lba)) else none
      let outer := fun (_ : Unit) =>
        if r.step ≤ 5 then take 5 ((outerUnit s band b stripe slot).bind (fun u => checkedCodeword s u (off % 16) nsid lba)) else none
      match own with
      | some c => (first, some c)
      | none => match inner () with
        | some c => (4, some c)
        | none => match outer () with
          | some c => (5, some c)
          | none => peer ()

/-- One block read with the block check alone, as relocation, rebuild and resynchronisation read it (R26, R214, R219). -/
def recoverBlock (s : State) (nsid lba band off : Nat) (r : BlockRead) : Nat × Option Codeword :=
  recoverBlockIf (fun _ => true) s nsid lba band off r

end Sys2Proof.Machine
end

