-- ==== Sys2Proof/Machine/RetOps.lean ====
section
/-! DEFINITION. The Starlight clock, budgets and what falls due (03_retention_starlight_and_recharge R97 to R127). -/
namespace Sys2Proof.Machine

/-! ### Fixed-point arithmetic: numbers times 10^24 (log entry 23, DESIGN CHOICE) -/

/-- The scale of fixed-point numbers. -/
def fixOne : Int := 10 ^ 24

/-- The sum of the first terms of exp's series at `y`, from term `i` whose value is `t`. -/
def expSeries (y : Int) : Nat → Int → Int → Int
  | 0, _, _ => 0
  | n + 1, i, t => t + expSeries y n (i + 1) (t * y / fixOne / (i + 1))

/-- A number squared `n` times. -/
def squareTimes : Nat → Int → Int
  | 0, v => v
  | n + 1, v => squareTimes n (v * v / fixOne)

/-- exp of a fixed-point number between -32 and 32: the series at x / 256, squared eight times. -/
def fixExp (x : Int) : Int := squareTimes 8 (expSeries (x / 256) 20 0 fixOne)

/-- The terms of 2 atanh(z): z^(2i+1) / (2i+1). -/
def atanhSeries (z2 : Int) : Nat → Int → Int → Int
  | 0, _, _ => 0
  | n + 1, k, p => p / k + atanhSeries z2 n (k + 2) (p * z2 / fixOne)

/-- ln of a ratio n / d between 1 and 2, fixed-point. -/
def lnRatio (n d : Nat) : Int :=
  let z : Int := fixOne * ((n : Int) - d) / (n + d)
  2 * atanhSeries (z * z / fixOne) 27 1 z

/-- ln of a whole number at least 1, fixed-point. -/
def lnNat (n : Nat) : Int :=
  let k := Nat.log2 n
  lnRatio n (2 ^ k) + k * lnRatio 2 1

/-! ### Acceleration and accrual (R98, R99) -/

/-- The acceleration factor at a die temperature for an activation energy in meV, fixed-point (R98):
ea / 1000 / 8.617333e-5 × (1/303.15 - 1/(θ + 273.15)) as one fraction, then exp. -/
def accelFactor (eaMev : Nat) (theta : Int) : Int :=
  fixExp (fixOne * (eaMev * 10 ^ 12) * (theta - 30) / (8617333 * 30315 * (100 * theta + 27315)))

/-- T_c raised by a time in ms at a temperature: fractions of 10^-12 EqH are carried; the count never decreases and stays
at its largest value once there (R97, R98). -/
def accrue (eaMev : Nat) (x : StarCarrier) (ms : Nat) (theta : Int) : StarCarrier :=
  let add := ((ms : Int) * accelFactor eaMev theta * 10 ^ 12 / (3600000 * fixOne)).toNat
  let total := x.frac + add
  { x with tc := BitVec.ofNat 32 (min (x.tc.toNat + total / 10 ^ 12) 0xFFFFFFFF), frac := total % 10 ^ 12 }

/-- EA_MEV of a carrier. -/
def eaOf (s : State) (c : Nat) : Nat := (carrierAt s c).lomril.elim 1100 (·.eaMev)

/-- A reading of a carrier's dies advances T_c by the time since the last reading that answered (R98). -/
def accrueReading (s : State) (c : Nat) (hottest : Int) : State :=
  modStar s c (fun x =>
    { accrue (eaOf s c) x (s.time.opMs - x.lastReadMs) hottest with lastReadMs := s.time.opMs, lastTemp := hottest })

/-- The provisional advance on leaving Night or Eclipse of a carrier that is present: the sleep time at the last temperature plus 10 °C; what
lay between the last reading and the sleep is left to the next reading (R98, R99). -/
def accrueSleep (s : State) (c ms : Nat) : State :=
  if (carrierAt s c).present then
    modStar s c (fun x => { accrue (eaOf s c) x ms (x.lastTemp + 10) with lastReadMs := x.lastReadMs + ms })
  else s

/-! ### Risk (R36, R114, R126) -/

/-- A hundred times sched(a): the upper bound of R36. -/
def sched100 (a : Nat) : Nat := 100 * a + max (15 * a) 20000

/-- The age of a block (R97). -/
def ageOf (s : State) (key : Nat) : Nat := tcOf s (carrierOf (channelOfKey key)) - (blockAt s key).stamp

/-- B_eff of a block in EqH (R110). -/
def budgetOf (s : State) (key : Nat) : Nat := 8 * (blockAt s key).budget

/-- The risk of a block in thousandths (R114). -/
def blockRisk (s : State) (key : Nat) : Nat := sched100 (ageOf s key) * 10 / max 1 (budgetOf s key)

/-- The programmed blocks of a band, substitutes in place of what they stand for. -/
def bandKeys (s : State) (b : Band) : List Nat :=
  ((List.range 16).flatMap (fun slot => (List.range (bpc s.red.geometry)).map (fun p => bandBlock s.red.geometry b slot p))).filter
    (fun k => isProgrammed (blockAt s k))

/-- The risk of a band in thousandths: the largest of its blocks (R114). -/
def bandRisk (s : State) (b : Band) : Nat := ((bandKeys s b).map (blockRisk s)).foldl max 0

/-- Whether a band still has a unit on a failed slot that rebuild has not covered (R156, R193). -/
def needsRebuild (s : State) (b : Band) : Bool :=
  match s.red.failedSlot with
  | none => false
  | some slot => roleOf s slot == .failed && b.stream != .emergency
      && !(b.substs.any (fun x => x.slot == slot && x.host != slot && x.state != 3))

/-- Whether a reshape still has to move a band's units (R205). -/
def needsReshape (r : Reshape) (b : Band) : Bool :=
  !b.reshaped && b.stream != .emergency && b.st != .eraseList && b.st != .relocating &&
    (if r.kind = 1 then b.substSlot != some r.slot
     else b.substs.any (fun x => x.slot == r.slot && x.state != 3))

/-- The positions of a band that lie on a LUN and have no substitute: (slot, position) (R198). -/
def lunPositions (s : State) (b : Band) (lun : Nat) : List (Nat × Nat) :=
  let slot := carrierOf (lun / 128)
  ((List.range (bpc s.red.geometry)).filter (fun pos => lunAtPos slot b.group pos == lun
    && b.blocks.getD (slot * bpc s.red.geometry + pos) 0 / 65536 == lun
    && !(b.substs.any (fun x => x.slot == slot && x.pos == pos)))).map (fun pos => (slot, pos))

/-- Whether a rebuild, a LUN rebuild or a reshape covers a band (R115, R196, R198, R205). -/
def coveredByRed (s : State) (b : Band) : Bool :=
  (s.red.rebuildRunning && needsRebuild s b) || s.red.lunRebuilds.any (fun l => !(lunPositions s b l).isEmpty)
    || s.red.reshape.elim false (fun r => needsReshape r b)

/-- Whether a block qualifies for Recharge (R115); the band's own conditions are checked with it. -/
def blockQualifies (s : State) (key : Nat) : Bool :=
  let c := carrierAt s (carrierOf (channelOfKey key))
  let b := blockAt s key
  (c.lomril.elim false (fun l => l.caps % 2 == 1)) && c.st == .inService && b.rch < 4 && !b.failFlag && b.margin != 2

/-- Whether a band qualifies for a Recharge pass (R115). -/
def bandQualifies (s : State) (b : Band) : Bool :=
  setting s 0x05 8 == 1 && b.st == .closed && b.stream != .emergency && !coveredByRed s b && (bandKeys s b).all (blockQualifies s)

/-- The blocks of a band marked as queued for what its retention entry names (R110). -/
def markQueued (s : State) (n choice : Nat) : State :=
  ((bandAt s.map.core n).elim [] (bandKeys s)).foldl (fun s k => modBlock s k (fun b => { b with queued := choice })) s

/-- A band at the head of the retention queue with its budget exhausted: one Fault record (R116, R123, R201). -/
def exhaustBand (s : State) (n : Nat) : State :=
  if (bandAt s.map.core n).elim true (·.retHead) then s
  else record (setCore s (bandMod s.map.core n (fun b => { b with retHead := true }))) 0x0414 .fault (b4 n ++ b2 0)

/-- A band queued for retention with its Info record (R114, R116): 1 Recharge pass, 2 relocation, a pass begun for it left where it stands;
a band whose budget is exhausted goes to the head with a Fault record. -/
def queueBand (s : State) (n : Nat) (choice risk : Nat) : State :=
  let s := markQueued s n choice
  let s := setCore s (bandMod s.map.core n (fun b => { b with retQueued := choice, passRunning := false }))
  let s := record s 0x0413 .info (b4 n ++ b4 risk ++ b1 choice)
  if 1000 ≤ risk then exhaustBand s n else s

/-- A band queued for relocation by retention where it is not yet (R112, R117, R118, R123). -/
def queueRelocation (s : State) (n : Nat) : State :=
  match bandAt s.map.core n with
  | none => s
  | some b => if b.retQueued = 2 || b.st = .relocating || b.st = .eraseList then s else queueBand s n 2 (bandRisk s b)

/-- Whether retention evaluates a band: one that holds data and is not already on its way out (R114). -/
def isEvaluated (b : Band) : Bool := b.stream != .emergency && b.st != .relocating && b.st != .eraseList

/-- A band evaluated (R114, R116): queued where a block is class C or its risk reaches 70 %; one already queued whose risk reaches 100 % goes
to the head. While the array is Held only the Fault record of an exhausted budget is written (R201). -/
def evaluateBand (s : State) (n : Nat) : State :=
  match bandAt s.map.core n with
  | none => s
  | some b =>
    if !isEvaluated b then s
    else
      let risk := bandRisk s b
      if b.retQueued != 0 || isHeld s then if 1000 ≤ risk then exhaustBand s n else s
      else if (bandKeys s b).any (fun k => (blockAt s k).margin == 2) then queueBand s n 2 risk
      else if 700 ≤ risk then queueBand s n (if bandQualifies s b then 1 else 2) risk
      else s

/-- The risk by which a queued band is served: that of R114, or 0.70 for one that a preparation queued (R114, R127). -/
def queueRisk (s : State) (n : Nat) (b : Band) : Nat := if s.ret.prepareBands.contains n then 700 else bandRisk s b

/-- Whether a queued band goes before another: the head of the queue first, then descending risk (R114, R116). -/
def servedBefore (s : State) (x y : Nat × Band) : Bool :=
  if x.2.retHead != y.2.retHead then x.2.retHead else queueRisk s y.1 y.2 < queueRisk s x.1 x.2

/-- Whether a queued band may be begun: no closed one that waits goes before it (R114, R116). -/
def servedNext (s : State) (n : Nat) (b : Band) : Bool :=
  s.map.core.bands.all (fun p => p.1 == n || p.2.retQueued == 0 || p.2.passRunning || p.2.st != .closed || !servedBefore s p (n, b))

/-- The bands holding a block on a carrier evaluated, as R114 does whenever its T_c advances. -/
def evaluateCarrier (s : State) (c : Nat) : State :=
  (s.map.core.bands.filter (fun p => p.2.blocks.any (fun k => carrierOf (channelOfKey k) == c))).foldl
    (fun s p => evaluateBand s p.1) s

/-- The dark remainder of a block: the largest r with sched(a + r) at most B_eff (R126). -/
def darkRemainder (s : State) (key : Nat) : Nat :=
  min (100 * budgetOf s key / 115) ((100 * budgetOf s key - 20000) / 100) - ageOf s key

/-- DARK_REMAINING of a carrier (R126); a carrier without programmed blocks has none to bound it. -/
def darkRemaining (s : State) (c : Nat) : Nat :=
  match (carrierBlocks s c).map (darkRemainder s) with
  | [] => 0xFFFFFFFF
  | x :: t => t.foldl min x - setting s 0x05 3

/-- The least of some numbers, none of none. -/
def leastOf : List Nat → Option Nat
  | [] => none
  | x :: t => some (t.foldl min x)

/-- Whether a band's least dark remainder, less DAWN_ALLOWANCE, is below a target (R127). -/
def darkShort (s : State) (target : Nat) (b : Band) : Bool :=
  (leastOf ((bandKeys s b).map (darkRemainder s))).elim false (fun r => r - setting s 0x05 3 < target)

/-- Whether a fresh stamp leaves a budget short of a target (R127). -/
def freshShort (s : State) (target budget : Nat) : Bool := 100 * budget / 115 < target + setting s 0x05 3

/-- A band that a preparation relocated because a fresh stamp would fall short is gone: where its data still falls short, a Notice record
says so (R127). -/
def prepareShortfall (s : State) (n : Nat) : State :=
  if s.ret.prepareState = 1 && s.ret.prepareStuck.contains n then
    let short := s.ret.prepareInto.any (fun m => (bandAt s.map.core m).elim false (darkShort s s.ret.prepareTarget))
    recordIf short { s with ret := { s.ret with prepareShort := s.ret.prepareShort || short } } 0x0415 .notice (b1 0xFF ++ b4 s.ret.prepareTarget)
  else s

/-! ### The Polestar sweep (R105 to R109) -/

/-- The differences between adjacent counts, as magnitudes (log entry 24, DEDUCED). -/
def adjacent : List Nat → List Nat
  | a :: b :: t => (max a b - min a b) :: adjacent (b :: t)
  | _ => []

/-- The index of the least element, the first among equals. -/
def leastIndex (l : List Nat) : Nat :=
  (l.zipIdx.foldl (fun best p => if p.1 < best.1 then p else best) (l.headD 0, 0)).2

/-- Division to the nearest whole number, halves away from zero. -/
def roundDiv (n d : Int) : Int := if n * d ≥ 0 then (2 * n + d).tdiv (2 * d) else (2 * n - d).tdiv (2 * d)

/-- The vertex of the parabola through three neighbouring differences, in eighths of a step from the middle one (R105). -/
def parabola (a b c : Int) : Int := if a - 2 * b + c = 0 then 0 else roundDiv (4 * (a - c)) (a - 2 * b + c)

/-- The valley of a page in eighths of a DAC step: windows are searched in turn, each moved 48 steps to the side of the
edge that the least difference touched; none after eight windows at an edge (R105). -/
def findValley (start : Int) : Nat → List (List Nat) → Option Int
  | 0, _ => none
  | _, [] => none
  | n + 1, w :: t =>
    let d := adjacent w
    let i := leastIndex d
    if i ≤ 1 then findValley (start - 48) n t
    else if 61 ≤ i then findValley (start + 48) n t
    else some (8 * (start + i) + parabola (d.getD (i - 1) 0) (d.getD i 0) (d.getD (i + 1) 0))

/-- Numbers in rising order. -/
def insertSorted (x : Int) : List Int → List Int
  | [] => [x]
  | y :: t => if x ≤ y then x :: y :: t else y :: insertSorted x t

/-- The median: the middle number, or the floor of the mean of the two middle ones (log entry 24, DEDUCED). -/
def median (l : List Int) : Int :=
  let s := l.foldr insertSorted []
  if s.length % 2 = 1 then s.getD (s.length / 2) 0
  else (s.getD (s.length / 2 - 1) 0 + s.getD (s.length / 2) 0) / 2

/-- c0 + c1 x + c2 x² + c3 x³ at x = ln(1 + a), in mV times 2^24 times the scale (R106). -/
def chargeLoss (l : Lomril) (a : Nat) : Int :=
  let x := lnNat (1 + a)
  l.c0 * fixOne + l.c1 * x + l.c2 * (x * x / fixOne) + l.c3 * (x * x / fixOne * x / fixOne)

/-- Whether the polynomial increases strictly over A from 0 to 200,000: its derivative in x is not negative over the
range and not zero throughout (R106). -/
def coefficientsOk (l : Lomril) : Bool :=
  let top := lnNat 200001
  let atTop := l.c1 * fixOne + 2 * l.c2 * top + 3 * l.c3 * (top * top / fixOne)
  !(l.c1 == 0 && l.c2 == 0 && l.c3 == 0) && decide (0 ≤ l.c1) && decide (0 ≤ atTop) &&
    !(decide (0 < l.c3) && decide (l.c2 < 0) && decide (-l.c2 * fixOne < 3 * l.c3 * top)
      && decide (3 * l.c1 * l.c3 < l.c2 * l.c2))

/-- Bisection for the least a with chargeLoss at least a bound, between two ages (R106). -/
def bisect (l : Lomril) (bound : Int) : Nat → Nat → Nat → Nat
  | 0, _, hi => hi
  | n + 1, lo, hi =>
    if hi ≤ lo then hi
    else
      let mid := (lo + hi) / 2
      if bound ≤ chargeLoss l mid then bisect l bound n lo mid else bisect l bound n (mid + 1) hi

/-- The age of a generation from its shift in eighths of a step; none when it exceeds 200,000 EqH (R106). A loss below C0, which no age
gives, counts as age 0 (log entry 249, DESIGN CHOICE). -/
def ageFromShift (l : Lomril) (shift : Int) : Option Nat :=
  let bound := -shift * l.dacStep * 2 ^ 24 * fixOne / 80
  if chargeLoss l 200000 < bound then none else some (bisect l bound 20 0 200000)

/-! ### The Polestar blocks (R100, R101) -/

/-- The key of the block that holds a generation on a channel of a carrier (R100). -/
def polestarKey (l : Lomril) (c gen ch : Nat) : Nat := blockKey (lunIndex (4 * c + ch) 0) (l.blocksPerPlane - 12 + gen)

/-- The first bytes of a page. -/
def pageHead (p : PageContent) (n : Nat) : Bytes :=
  match p with
  | .codewords l => ((l.head?.map (fun c => padTo 4096 c.data)).getD []).take n
  | .raw b => b.take n

/-- Whether 256 bytes are a generation header: MAGIC, VERSION and CRC match (R101). -/
def headerOk (b : Bytes) : Bool :=
  slice b 0 4 == ascii "PLST" && field b 4 2 == 1 && field b 0xFC 4 == (crc32c (slice b 0 0xFC)).toNat

/-- A copy as its header page gives it; without a valid header none of it is usable (R101). -/
def readCopy (s : State) (l : Lomril) (c : Nat) (i : Fin 32) (p : PolestarCopy) : PolestarCopy :=
  match lookup s.media.pages (pageKey (polestarKey l c (i.val / 4) (i.val % 4)) 16) with
  | none => { p with valid := false }
  | some page =>
    let b := pageHead page 256
    if !headerOk b then { p with valid := false }
    else { p with valid := true, serial := slice b 8 16, rotation := field b 0x18 4, stampEqh := field b 0x1C 4, calendar := field b 0x20 6
                  opHours := field b 0x28 4, progTemp := signedField b 0x2C 1, baseShift := signedField b 0x2E 2, seed := field b 0x30 4
                  peCount := field b 0x34 4 }

/-- Every copy of a carrier as its header pages give it. -/
def readCopies (s : State) (l : Lomril) (c : Nat) : Vector PolestarCopy 32 :=
  Vector.ofFn (fun i : Fin 32 => readCopy s l c i (starAt s c).copies[i])

/-- The pattern pages that are swept (R105). -/
def sweptPages : List Nat := [0, 5, 10, 15]

/-- Where the sweep of a copy starts: its previous valley rounded toward zero, minus 48 (R105). The previous valley of a copy is the median
of those of its pages (log entry 247, DEDUCED). -/
def sweepStart (p : PolestarCopy) : Int := p.valley.tdiv 8 - 48

/-- The windows that a sweep gives for a page of a copy. -/
def windowsOf (sweeps : List PageSweep) (i page : Nat) : List (List Nat) :=
  ((sweeps.find? (fun p => p.copy.val == i && p.page == page)).map (·.windows)).getD []

/-- The valleys that a sweep finds on the pages of one copy. -/
def copyValleys (sweeps : List PageSweep) (i : Nat) (start : Int) : List Int :=
  sweptPages.filterMap (fun page => findValley start 8 (windowsOf sweeps i page))

/-- The SWEEP descriptor of one window of a pattern page (R105). -/
def sweepDesc (l : Lomril) (gen page : Nat) (start : Int) : MediaDesc :=
  { opcode := opSweep, raw := true, pslc := true, block := l.blocksPerPlane - 12 + gen, page := page, length := 256
    sweepStart := start, sweepStep := 1, sweepCount := 64, sweepLevel := l.sweepLevel }

/-- The starts of the windows that a page's search goes through: each 48 steps to the side of the edge touched (R105). -/
def windowStarts (start : Int) : Nat → List (List Nat) → List Int
  | 0, _ => []
  | _, [] => []
  | n + 1, w :: t =>
    let i := leastIndex (adjacent w)
    start :: (if i ≤ 1 then windowStarts (start - 48) n t else if 61 ≤ i then windowStarts (start + 48) n t else [])

/-- The SWEEP descriptors of a page issued on Q2, each with its completion (R105). -/
def issuePage (l : Lomril) (c : Nat) (sweeps : List PageSweep) (i page : Nat) (start : Int) (s : State) : State :=
  let ch := 4 * c + i % 4
  (windowStarts start 8 (windowsOf sweeps i page)).foldl (fun s x =>
    let (done, s) := unrun s (lunIndex ch 0) 0
    finish s ch 2 { desc := sweepDesc l (i / 4) page x } done) s

/-- The SWEEP descriptors of a copy issued. -/
def issueSweeps (l : Lomril) (c : Nat) (sweeps : List PageSweep) (i : Nat) (start : Int) (s : State) : State :=
  sweptPages.foldl (fun s page => issuePage l c sweeps i page start s) s

/-- Whether a copy's header is valid for the carrier (R101). -/
def copyValid (l : Lomril) (p : PolestarCopy) : Bool := p.valid && !p.bad && p.serial == l.serial

/-- The copies of a generation that are valid, by index. -/
def genCopies (l : Lomril) (copies : Vector PolestarCopy 32) (g : Nat) : List Nat :=
  ([0, 1, 2, 3].map (4 * g + ·)).filter (fun i => copyValid l (vget copies {} i))

/-- The valleys of a generation's pages, each less the BASE_SHIFT of its copy (R105). -/
def genShifts (l : Lomril) (copies : Vector PolestarCopy 32) (sweeps : List PageSweep) (g : Nat) : List Int :=
  (genCopies l copies g).flatMap (fun i => (copyValleys sweeps i (sweepStart (vget copies {} i))).map (· - (vget copies {} i).baseShift))

/-- One generation as a sweep reads it: its stamp and age, where it is usable: valid copies, at least four valleys, an age within 200,000 EqH
(R105, R106). -/
def generationAge (l : Lomril) (copies : Vector PolestarCopy 32) (sweeps : List PageSweep) (g : Nat) : Option (Nat × Nat) :=
  let shifts := genShifts l copies sweeps g
  if shifts.length < 4 then none
  else match genCopies l copies g with
    | [] => none
    | i :: _ => (ageFromShift l (median shifts)).map (fun a => ((vget copies {} i).stampEqh, a))

/-- u of a generation of age a (R107). -/
def uncertaintyOf (a : Nat) : Nat := max (15 * a / 100) 200

/-- The estimate from the usable generations, as (generation, stamp, age): that of the youngest, or the largest where one disagrees; with
whether they disagree (R107). Among equal stamps the lowest-numbered generation is the youngest (log entry 248, DESIGN CHOICE). -/
def combine (gens : List (Nat × Nat × Nat)) : Option ((Nat × Nat × Nat) × Nat × Bool) :=
  match gens with
  | [] => none
  | g :: t =>
    let y := t.foldl (fun best x => if best.2.1 < x.2.1 then x else best) g
    let e := fun (x : Nat × Nat × Nat) => x.2.1 + x.2.2
    let far := gens.any (fun h => uncertaintyOf h.2.2 + uncertaintyOf y.2.2 < max (e h) (e y) - min (e h) (e y))
    some (y, (if far then (gens.map e).foldl max 0 else e y), far)

/-! ### Rotation (R102, R103) -/

/-- Whether a generation is lost for good: no good block on any channel (R103). -/
def genLost (x : StarCarrier) (g : Nat) : Bool := [0, 1, 2, 3].all (fun ch => (vget x.copies {} (4 * g + ch)).bad)

/-- STAMP_EQH of a generation: that of its copies with a header. -/
def genStamp (x : StarCarrier) (g : Nat) : Nat :=
  ([0, 1, 2, 3].filterMap (fun ch => let p := vget x.copies {} (4 * g + ch); if p.valid && !p.bad then some p.stampEqh else none)).foldl max 0

/-- The generation with the smallest STAMP_EQH of those not lost, the lowest-numbered among equals (R102, log entry 248, DESIGN CHOICE). -/
def oldestGeneration (x : StarCarrier) : Option Nat :=
  ((List.range 8).filter (fun g => !genLost x g)).foldl (fun best g => match best with
    | none => some g
    | some o => if genStamp x g < genStamp x o then some g else some o) none

/-- STAMP_EQH of the youngest usable generation (R102). -/
def youngestStamp (x : StarCarrier) : Option Nat :=
  x.usable.foldl (fun m g => some (m.elim (genStamp x g) (max (genStamp x g)))) none

/-- The rotation falls due (R102): T_c has reached the youngest stamp plus 2,000 EqH. -/
def rotationDue (s : State) (c : Nat) : State :=
  let x := starAt s c
  match youngestStamp x with
  | none => s
  | some y =>
    if y + 2000 ≤ x.tc.toNat && x.reprogramDue.isEmpty && x.powerUpSweepDone then
      modStar s c (fun x => { x with reprogramDue := (oldestGeneration x).toList })
    else s

/-- The generations that hold a good block without a valid header: a reprogram of theirs was cut (R103). -/
def cutGenerations (x : StarCarrier) : List Nat :=
  (List.range 8).filter (fun g => [0, 1, 2, 3].any (fun ch => let p := vget x.copies {} (4 * g + ch); !p.valid && !p.bad))

/-! ### Power-up sweeps (R99, R103, R121, R124) -/

/-- The Dawn scan begins on a carrier: every programmed block is pending, a Notice record is written (R121). The blocks counted for
DAWN_PERCENT are those of the scans that run (R129). -/
def startDawn (s : State) (c : Nat) : State :=
  let keys := carrierBlocks s c
  let s := keys.foldl (fun s k => modBlock s k (fun b => { b with dawnPending := true })) s
  let before := if s.ret.car.any (·.scanning) then s.ret.dawnTotal else 0
  let s := modStar { s with ret := { s.ret with dawnTotal := before + keys.length } } c
    (fun x => { x with dawnPending := true, scanning := true })
  settleScan (record s 0x0415 .notice (b1 c ++ b4 (starAt s c).darkAccrual)) c

/-- A scan that a reset cut goes on from the pending bits that the checkpoint holds (R124). -/
def resumeDawn (s : State) (c : Nat) : State :=
  let keys := dawnBlocks s c
  let before := if s.ret.car.any (·.scanning) then s.ret.dawnTotal else 0
  let s := if keys.isEmpty then s else { s with ret := { s.ret with dawnTotal := before + keys.length } }
  modStar s c (fun x => { x with dawnPending := !keys.isEmpty, scanning := !keys.isEmpty })

/-- A power-up sweep ends: the dark accrual is known and decides the Dawn scan (R99, R121, R124); the copies that a cut reprogram left are
due (R103). -/
def endPowerUpSweep (s : State) (c : Nat) : State :=
  let x := starAt s c
  let dark := x.tc.toNat - x.tcCheckpoint
  let s := modStar s c (fun x => { x with
    darkAccrual := dark, powerUpSweepDone := true
    reprogramDue := x.reprogramDue ++ (cutGenerations x).filter (fun g => !x.reprogramDue.contains g) })
  if setting s 0x05 1 ≤ dark || x.fallback then startDawn s c else resumeDawn s c

/-! ### Sweeps (R104 to R109) -/

/-- The Notice records of a sweep (R108, R109): 1 a copy without a valid header, 2 a generation with fewer than four valleys, 4 an age beyond
100,000 EqH, each with its generation. -/
def sweepNotices (s : State) (c : Nat) (l : Lomril) (copies : Vector PolestarCopy 32) (sweeps : List PageSweep)
    (gens : List (Nat × Nat × Nat)) : State :=
  let s := (List.range 32).foldl (fun s i => recordIf (!copyValid l (vget copies {} i)) s 0x0411 .notice (b1 c ++ b1 (i / 4) ++ b1 1)) s
  let s := (List.range 8).foldl (fun s g => recordIf ((genShifts l copies sweeps g).length < 4) s 0x0411 .notice (b1 c ++ b1 g ++ b1 2)) s
  gens.foldl (fun s g => recordIf (100000 < g.2.2) s 0x0411 .notice (b1 c ++ b1 g.1 ++ b1 4)) s

/-- The fallback of R109: T_c is its checkpointed value plus DARK_FALLBACK, the carrier is Dawn-pending, every generation is reprogrammed. -/
def sweepFallback (s : State) (c : Nat) : State :=
  let t := min ((starAt s c).tcCheckpoint + setting s 0x05 9) 0xFFFFFFFF
  let s := modStar s c (fun x => { x with
    tc := BitVec.ofNat 32 (max x.tc.toNat t), youngest := none, fallback := true, disagreement := false
    dawnPending := true, reprogramDue := (List.range 8).filter (fun g => !genLost x g) })
  record s 0x0412 .critical (b1 c ++ b4 t)

/-- The estimate of the usable generations taken into T_c (R107). -/
def sweepEstimate (s : State) (c : Nat) (gens : List (Nat × Nat × Nat)) : State :=
  match combine gens with
  | some (y, est, far) =>
    let s := recordIf far s 0x0411 .notice (b1 c ++ b1 y.1 ++ b1 3)
    modStar s c (fun x => { x with
      tc := BitVec.ofNat 32 (min (max x.tc.toNat est) 0xFFFFFFFF), youngest := some y.1
      uncertainty := uncertaintyOf y.2.2, fallback := false, disagreement := far })
  | none => sweepFallback s c

/-- A sweep of every valid copy (R104, R105), combined into T_c with the records of R104, R108 and R109. -/
def applySweep (s : State) (c : Nat) (sweeps : List PageSweep) : State :=
  match (carrierAt s c).lomril with
  | none => s
  | some l =>
    let daily := (starAt s c).sweepDaily
    let copies := readCopies s l c
    let foreign := copies.any (fun p => p.valid && !p.bad && p.serial != l.serial)
    let ok := coefficientsOk l
    let valid := if foreign then [] else (List.range 32).filter (fun i => copyValid l (vget copies {} i))
    let s := valid.foldl (fun s i => issueSweeps l c sweeps i (sweepStart (vget copies {} i)) s) s
    let gens := if foreign || !ok then [] else
      (List.range 8).filterMap (fun g => (generationAge l copies sweeps g).map (fun p => (g, p.1, p.2)))
    let s := if foreign then record s 0x0412 .fault (b1 c ++ b4 (tcOf s c)) else sweepNotices s c l copies sweeps gens
    let moved := Vector.ofFn (fun i : Fin 32 =>
      let p := copies[i]
      match if valid.contains i.val then copyValleys sweeps i.val (sweepStart p) else [] with
      | [] => p
      | v => { p with valley := median v })
    let s := modStar s c (fun x => { x with sweepDue := false, sweepDaily := false, coeffOk := ok, copies := moved
                                            usable := gens.map (·.1), usableGens := gens.length, lastSweepHours := opHours s })
    let s := sweepEstimate s c gens
    let s := record s 0x0410 (if daily then .info else .notice) (b1 c ++ b4 (tcOf s c))
    let s := if daily && (starAt s c).powerUpSweepDone && !(starAt s c).fallback then s else endPowerUpSweep s c
    rotationDue (evaluateCarrier s c) c

/-- The LUNs of a carrier that hold Polestar pages: LUN 0 of volume 0 on each channel (R53). -/
def polestarLuns (c : Nat) : List Nat := (channelsOf c).map (fun ch => lunIndex ch 0)

/-- The dies of a carrier's channels that answer: every LUN that has not failed (R104). -/
def carrierLuns (s : State) (c : Nat) : List Nat :=
  match (carrierAt s c).lomril with
  | none => []
  | some l => ((channelsOf c).flatMap (fun ch => (List.range l.volumes).flatMap (fun v =>
      (List.range l.lunsPerVolume).map (fun k => lunIndex ch (8 * v + k))))).filter (fun x => !(lunAt s x).failed)

end Sys2Proof.Machine
end

