-- ==== Sys2Proof/Machine/DestageOps.lean ====
section
/-! DEFINITION. Stripes on their way to media and bands on their way out: gathering, programming, committing, collecting and
erasing (01 R24, R26 to R28, R32; 04 R142, R145, R149, R155 to R159; 05 R180 to R186). -/
namespace Sys2Proof.Machine

/-! ### Programs of a stripe (R24, R179 to R181) -/

/-- One program handed to the Media Controller. -/
structure Submission where
  key : Nat := 0
  page : Nat := 0
  payload : PageContent := .raw []
  owner : Owner := .plain
  deriving DecidableEq, Repr

/-- The PROGRAM descriptor of a page (R66). -/
def programDesc (g : Geometry) (key page : Nat) (pslc : Bool) : MediaDesc :=
  { opcode := opProgram, volume := lunOfKey key / 8, lun := lunOfKey key % 8, planeMask := 2 ^ g.planes - 1
    block := blockOfKey key, page := page, length := 65536, pslc := pslc }

/-- The queue a stream's programs go to: destaging on Q1, relocation on Q2 (R64). -/
def queueOf (st : Stream) : Fin 4 := if st = .nimbus then 2 else 1

/-- Whether every channel's queue has room for its part of a run of programs (R64). -/
def allFit (s : State) (q : Fin 4) (subs : List Submission) : Bool :=
  let chs := subs.map (fun x => channelOfKey x.key)
  chs.all (fun ch => ((channelAt s ch).q[q]).countP (fun e => !e.exempt) + chs.count ch ≤ (if q = 1 then 240 else queueDepth q))

/-- A run of programs submitted in order, and their channels served. -/
def submitAll (s : State) (q : Fin 4) (subs : List Submission) : State :=
  let s := subs.foldl (fun s x =>
    submit s (channelOfKey x.key) q (programDesc s.red.geometry x.key x.page false) x.payload x.owner) s
  (subs.map (fun x => channelOfKey x.key)).eraseDups.foldl (fun s ch => dispatchAll s ch (ranNow s)) s

/-- The sixteen units of a stripe: fifteen data units of sixteen codewords and their parity (R24, R213). -/
def stripeUnits (cws : List Codeword) : List PageContent :=
  let data := (List.range 15).map (fun d => PageContent.codewords ((cws.drop (16 * d)).take 16))
  data ++ [xorUnits data]

/-- The key of the inner XOR that is accumulated for a slot of a group. -/
def accKey (band group slot : Nat) : Nat := (2 ^ 20 * band + group) * 16 + slot

/-- The inner XOR page of a group on a slot. -/
def xorSubmission (g : Geometry) (band : Nat) (b : Band) (group slot : Nat) (bytes : Bytes) : Submission :=
  let (pos, page) := placeXor (bpc g) group
  { key := bandBlock g b slot pos, page := page, payload := .raw bytes, owner := .xorUnit band group slot }

/-- Whether a unit's page follows its group's inner XOR page on the same block, so that it waits for it (R181). -/
def followsXor (g : Geometry) (group pos page : Nat) : Bool :=
  pos == (placeXor (bpc g) group).1 && (placeXor (bpc g) group).2 < page

/-- The units of a stripe as programs, by slot. -/
def unitSubmissions (g : Geometry) (band : Nat) (b : Band) (stripe : Nat) (units : List PageContent) : List (Nat × Submission) :=
  units.zipIdx.map (fun p =>
    let (slot, pos, page) := place (bpc g) band stripe p.2
    (slot, { key := bandBlock g b slot pos, page := page, payload := p.1, owner := .stripeUnit band stripe slot }))

/-- Whether a unit waits for its group's inner XOR page: it follows it on its block. -/
def unitWaits (g : Geometry) (b : Band) (stripe : Nat) (p : Nat × Submission) : Bool :=
  (List.range (bpc g)).any (fun pos => p.2.key == bandBlock g b p.1 pos && followsXor g (stripe / 31) pos p.2.page)

/-- The programs that a stripe's gathering releases, in program order, with those held for the group's XOR: when the group's
31st stripe has been gathered, the sixteen XOR pages and then the units that waited for them (R181). -/
def stripePrograms (s : State) (band : Nat) (b : Band) (stripe : Nat) (units : List PageContent) (acc : List (Nat × Bytes)) :
    List Submission × List (Nat × PageContent) :=
  let g := s.red.geometry
  let all := unitSubmissions g band b stripe units
  let free := (all.filter (fun p => !unitWaits g b stripe p)).map (·.2)
  let late := all.filter (unitWaits g b stripe)
  if stripe % 31 = 30 then
    let xors := (List.range 16).map (fun slot => xorSubmission g band b (stripe / 31) slot (readAt [] acc (accKey band (stripe / 31) slot)))
    let waiting := s.map.stripes.flatMap (fun f =>
      if f.band = band && f.stripe / 31 = stripe / 31 then
        f.held.map (fun h => (((unitSubmissions g band b f.stripe (List.replicate 16 h.2)).find? (fun p => p.1 == h.1)).map (·.2)).getD {})
      else [])
    (free ++ xors ++ waiting ++ late.map (·.2), [])
  else (free, late.map (fun p => (p.1, p.2.payload)))

/-- The inner XOR accumulated with a stripe's units (R24 step 8). -/
def accumulate (g : Geometry) (acc : List (Nat × Bytes)) (band stripe : Nat) (units : List PageContent) : List (Nat × Bytes) :=
  units.zipIdx.foldl (fun acc p =>
    let slot := (place (bpc g) band stripe p.2).1
    let k := accKey band (stripe / 31) slot
    insert acc k (xorBytes (readAt [] acc k) (unitBytes p.1))) acc

/-- Whether an extent runs on with a block at an offset (R145): the next LBA of its namespace, or one more pad block. -/
def extentRunsOn (e : Extent) (b : StripeBlock) (off : Nat) : Bool :=
  e.nsid == b.nsid && (b.nsid == 0 || e.lba + e.count == b.lba) && e.offset + e.count == off && !e.void && e.count < 65535

/-- One block of a written stripe listed in its band's extents and, but for pad, in its span filter (R145). -/
def noteBlock (b : Band) (x : StripeBlock) (off : Nat) : Band :=
  let b := if x.nsid = 0 then b else { b with filter := setFilter b.filter (filterBit x.nsid (spanOf x.lba)) }
  match b.extents.getLast? with
  | some e =>
    if extentRunsOn e x off then { b with extents := modifyLast (fun e => { e with count := e.count + 1 }) b.extents }
    else { b with extents := b.extents ++ [{ nsid := x.nsid, lba := x.lba, count := 1, offset := off }] }
  | none => { b with extents := [{ nsid := x.nsid, lba := x.lba, count := 1, offset := off }] }

/-- The spans and extents that a written stripe adds to its band's summary and filter, pad runs included; the stripes of the summary itself are
not listed (R145). -/
def noteStripe (b : Band) (stripe : Nat) (blocks : List StripeBlock) : Band :=
  if blocks.all (fun x => x.nsid == 0) then b
  else blocks.zipIdx.foldl (fun b p => noteBlock b p.1 (240 * stripe + p.2)) b

/-- Stripes that a band's summary takes: a 64-byte header and 16 bytes for each extent (R145). -/
def summaryStripes (extents : Nat) : Nat := divCeil (64 + 16 * extents) 983040

/-- The bytes of a band summary (R145). -/
def summaryBytesOf (band : Nat) (b : Band) : Bytes :=
  let ext := b.extents.flatMap (fun e => b2 e.nsid ++ leBytes 6 e.lba ++ b2 e.count ++ b4 e.offset ++ b2 (if e.void then 1 else 0))
  let head := b4 band ++ b4 b.extents.length ++ zeros 52
  head ++ leBytes 4 (crc32c (head ++ ext)).toNat ++ ext

/-- The codewords of one summary stripe: pad blocks that hold the summary's bytes. -/
def summaryCodewords (band : Nat) (b : Band) (k : Nat) : List Codeword :=
  let bytes := summaryBytesOf band b
  (List.range 240).map (fun i => sealCodeword { data := slice bytes ((240 * k + i) * 4096) 4096 })

/-- A stripe written: its units gathered, accumulated and handed to the media, its blocks in flight (R180, R181). -/
def writeStripe (s : State) (band : Nat) (b : Band) (cws : List Codeword) (blocks : List StripeBlock) : State :=
  let g := s.red.geometry
  let stripe := b.nextStripe
  let units := stripeUnits cws
  let acc := accumulate g s.map.xorAcc band stripe units
  let (subs, held) := stripePrograms s band b stripe units acc
  let done := stripe % 31 = 30
  let s := { s with map := { s.map with
    xorAcc := if done then acc.filter (fun p => p.1 / 16 != 2 ^ 20 * band + stripe / 31) else acc
    stripes := (s.map.stripes.map (fun f => if done && f.band = band && f.stripe / 31 = stripe / 31 then { f with held := [] } else f))
      ++ [{ band := band, stripe := stripe, blocks := blocks, held := held }] } }
  let s := setCore s (bandMod s.map.core band (fun b =>
    { noteStripe b stripe blocks with nextStripe := stripe + 1, written := 240 * (stripe + 1) }))
  submitAll s (queueOf b.stream) subs

/-- The programs that the next stripe of a band would hand over, for the check of queue room. -/
def nextPrograms (s : State) (band : Nat) (b : Band) (cws : List Codeword) : List Submission :=
  (stripePrograms s band b b.nextStripe (stripeUnits cws) s.map.xorAcc).1

/-! ### What a stream has gathered (R143, R148, R149, R159, R320, R446) -/

/-- Whether a DESTAGING line is in a stripe that is being written. -/
def lineFlying (s : State) (l : CacheLine) : Bool :=
  s.map.stripes.any (fun f => f.blocks.any (fun b => b.nsid == l.nsid && b.lba == l.lba && b.msn == l.msn && b.src.isNone))

/-- Whether a line may be assigned to a stripe: DIRTY, not provisional but in write-through, with no older line of its block
still being destaged; or DESTAGING and left by a voided stripe (R148, R159, R320). -/
def mayDestage (s : State) (l : CacheLine) : Bool :=
  !l.superseded && (
    (l.st == .dirty && (l.provisional.isNone || s.pwr.writeThrough)
      && !(s.map.lines.any (fun o => o.nsid == l.nsid && o.lba == l.lba && o.st == .destaging)))
    || (l.st == .destaging && !l.committed && !lineFlying s l))

/-- The lines that a host stream has to destage: lines bound to Stratus by a seal and large, cold writes go to Stratus, the
rest to Cirrus (R143). -/
def streamLines (s : State) (st : Stream) : List CacheLine :=
  s.map.lines.filter (fun l => mayDestage s l && (l.cirrus && !l.stratus) == (st == .cirrus))

/-- The codeword of a cache line (R137, R212, R222). -/
def lineCodeword (s : State) (l : CacheLine) : Codeword :=
  sealCodeword { data := l.data, md := l.md, nsid := l.nsid, lba := l.lba, msn := l.msn, enc := keyOf s l.nsid }

/-- What a stream has gathered: codewords and blocks in order. -/
def gathered (s : State) (st : Stream) : List (Codeword × StripeBlock) :=
  match st with
  | .nimbus => s.map.gather.map (fun x => (x.cw, { nsid := x.cw.nsid, lba := x.cw.lba, msn := x.cw.msn, src := x.src }))
  | .emergency => []
  | _ => (streamLines s st).map (fun l => (lineCodeword s l, { nsid := l.nsid, lba := l.lba, msn := l.msn }))

/-- Where a block's span is being destaged as a whole (R135): the open band and the offset of the span's first block. -/
def wholeOf (s : State) (b : StripeBlock) : Option (Nat × Nat) :=
  (lookup s.map.wholes (spanKey b.nsid (spanOf b.lba))).filter (fun x => (bandAt s.map.core x.1).elim false (fun y => y.st == .opened))

/-- What a stream deals to one of its open bands (R135, R144): first the rest of a span that is being destaged there as a whole, then what belongs
to no such span. -/
def dealt (s : State) (st : Stream) (band : Nat) : List (Codeword × StripeBlock) :=
  let l := gathered s st
  l.filter (fun x => (wholeOf s x.2).elim false (fun w => w.1 == band)) ++ l.filter (fun x => (wholeOf s x.2).isNone)

/-- Whether a list begins with the 256 blocks of one span, in order. -/
def startsWhole (l : List (Codeword × StripeBlock)) : Bool :=
  256 ≤ l.length && match l.head? with
    | none => false
    | some h => h.2.nsid != 0 && h.2.lba % 256 == 0
      && ((l.take 256).zipIdx).all (fun p => p.1.2.nsid == h.2.nsid && p.1.2.lba == h.2.lba + p.2)

/-- The spans whose destaging as a whole a stripe begins: all their blocks have been gathered together (R135). -/
def wholesBegun (l : List (Codeword × StripeBlock)) (band stripe : Nat) : List (Nat × (Nat × Nat)) :=
  (List.range (min 240 l.length)).filterMap (fun i =>
    if startsWhole (l.drop i) then
      (l[i]?).map (fun x => (spanKey x.2.nsid (spanOf x.2.lba), band, 240 * stripe + i))
    else none)

/-- A block of a stripe at an offset, marked where it goes on with a span destaged as a whole. -/
def markWhole (wholes : List (Nat × (Nat × Nat))) (band off : Nat) (b : StripeBlock) : StripeBlock :=
  match lookup wholes (spanKey b.nsid (spanOf b.lba)) with
  | none => b
  | some w => { b with whole := b.nsid != 0 && w.1 == band && off == w.2 + b.lba % 256 }

/-- The spans still being destaged as wholes behind a stripe: those whose last block it holds have ended, and so have those it breaks. -/
def wholesLeft (wholes : List (Nat × (Nat × Nat))) (blocks : List StripeBlock) : List (Nat × (Nat × Nat)) :=
  wholes.filter (fun w => !(blocks.any (fun b => b.nsid != 0 && spanKey b.nsid (spanOf b.lba) == w.1 && (b.lba % 256 == 255 || !b.whole))))

/-- The blocks of a stripe taken from what its stream has gathered. -/
def takeGathered (s : State) (st : Stream) (blocks : List StripeBlock) : State :=
  if st = .nimbus then { s with map := { s.map with gather := s.map.gather.filter (fun x =>
    !(blocks.any (fun b => b.nsid == x.cw.nsid && b.lba == x.cw.lba && b.msn == x.cw.msn && b.src == x.src))) } }
  else
    let taken := fun (l : CacheLine) => blocks.any (fun b => b.nsid == l.nsid && b.lba == l.lba && b.msn == l.msn)
    let s := (s.map.lines.filter taken).foldl readLine s
    { s with map := { s.map with lines := s.map.lines.map (fun l => if taken l then { l with st := .destaging } else l) } }

/-- Whether data may be destaged and relocated at all: an array that is not Held (R174, R200). -/
def mayWriteMedia (s : State) : Bool := s.red.st != .none && !isHeld s && anyInService s

/-- The open bands a stream may have (R144). -/
def streamCount (s : State) (st : Stream) : Nat :=
  match st with
  | .cirrus => s.map.openCounts[0]
  | .stratus => s.map.openCounts[1]
  | _ => s.map.openCounts[2]

/-- The place of a stream among the three. -/
def streamIndex : Stream → Nat
  | .cirrus => 0
  | .stratus => 1
  | _ => 2

/-- A band formed for a stream where one may be opened now: with its BAND_OPEN record and its entry in the open-band summary
(R140, R142, R144, R155, R186). It waits while the journal has no room (R154). -/
def openBand (s : State) (st : Stream) : State :=
  match groupFor s st with
  | none => s
  | some v =>
    let n := s.map.nextBand
    if streamCount s st ≤ openOfStream s.map.core st then s
    else if journalHolds s 1 then journalWait s
    else
      let b := formBand s n v st
      let (msn, s) := takeMsn s 1
      let s := setCore s { s.map.core with bands := insert s.map.core.bands n b }
      let s := { s with map := { s.map with nextBand := n + 1 }, red := { s.red with openSummary := s.red.openSummary ++ [n] } }
      let s := appendSummary s (summaryFor s 1 n b.openMsn)
      addRecords s [{ type := .bandOpen, band := n, msn := msn, formed := some b }]

/-- Whether the group of a band's next stripe is declared durably (R184). -/
def nextDeclared (b : Band) : Bool := b.nextStripe / 31 < b.declDurable

/-- Whether an open band has a stripe left for data beyond those its summary needs (R142). -/
def hasDataStripe (g : Geometry) (b : Band) : Bool := b.nextStripe + summaryStripes (b.extents.length + 240) < bandStripes g

/-- The summary stripes of a closing band still to be written. -/
def summaryLeft (b : Band) : Nat := b.summaryStripe + divCeil b.summaryBytes 983040 - b.nextStripe

/-- The open bands of a stream. -/
def openBandsOf (s : State) (st : Stream) : List (Nat × Band) := s.map.core.bands.filter (fun p => p.2.stream == st && p.2.st == .opened)

/-- The open band that the next stripe of a stream is dealt to (R144): in rotation among those whose next group is declared (R184). -/
def nextInRotation (s : State) (st : Stream) : Option Nat :=
  let l := ((openBandsOf s st).filter (fun p => nextDeclared p.2)).map (·.1)
  match vget s.map.lastDealt none (streamIndex st) with
  | none => l.head?
  | some n => match l.find? (fun k => n < k) with
    | some k => some k
    | none => l.head?

/-- Whether destaging of a host stream stops: every group of its open bands has fewer than two free bands (R155). -/
def destagingStops (s : State) (st : Stream) : Bool :=
  st != .nimbus && (openBandsOf s st).all (fun p => freeBands s p.2.group < 2)

/-- The next summary stripe of a closing band (R145). -/
def summaryWrite (s : State) (band : Nat) (b : Band) : State :=
  if summaryLeft b = 0 || bandStripes s.red.geometry ≤ b.nextStripe then s
  else
    let cws := summaryCodewords band b (b.nextStripe - b.summaryStripe)
    if allFit s (queueOf b.stream) (nextPrograms s band b cws) then writeStripe s band b cws (List.replicate 240 {}) else s

/-- What a data stripe leaves: the spans it begins and ends as wholes (R135), its place in the rotation (R144), and a band without a further
stripe for data closing (R142). -/
def afterStripe (s : State) (st : Stream) (band : Nat) (wholes : List (Nat × (Nat × Nat))) (blocks : List StripeBlock) : State :=
  let s := { s with map := { s.map with wholes := wholesLeft wholes blocks, lastDealt := vset s.map.lastDealt (streamIndex st) (some band) } }
  match bandAt s.map.core band with
  | some b => if hasDataStripe s.red.geometry b then s else setCore s (beginClosing s.map.core band false)
  | none => s

/-- A stripe of data written to an open band, pad blocks behind the data where it is short. -/
def dataWrite (s : State) (st : Stream) (band : Nat) (b : Band) (pad : Bool) : State :=
  let all := dealt s st band
  let data := all.take 240
  if data.isEmpty || (data.length < 240 && !pad) then s
  else
    let wholes := (wholesBegun all band b.nextStripe).foldl (fun m w => insert m w.1 w.2) s.map.wholes
    let marked := data.zipIdx.map (fun p => markWhole wholes band (240 * b.nextStripe + p.2) p.1.2)
    let cws := data.map (·.1) ++ List.replicate (240 - data.length) padCodeword
    let blocks := marked ++ List.replicate (240 - data.length) ({} : StripeBlock)
    if allFit s (queueOf st) (nextPrograms s band b cws) then
      afterStripe (writeStripe (takeGathered s st (data.map (·.2))) band b cws blocks) st band wholes blocks
    else s

/-- A stripe of data written to the open band whose turn it is, or the next summary stripe of a closing one, where the conditions hold: the
group declared, the data gathered, the queues with room (R144, R155, R180, R184). `pad` completes a short stripe with pad blocks. -/
def stripeWrite (s : State) (st : Stream) (band : Nat) (pad : Bool) : State :=
  match bandAt s.map.core band with
  | none => if band = s.map.nextBand && mayWriteMedia s && !(gathered s st).isEmpty then openBand s st else s
  | some b =>
    if b.stream != st || !nextDeclared b || !mayWriteMedia s then s
    else match b.st with
      | .closing => summaryWrite s band b
      | .opened => if nextInRotation s st = some band && !destagingStops s st then dataWrite s st band b pad else s
      | _ => s

/-! ### Completion of groups and stripes (R182, R184) -/

/-- Whether a group of a band is complete: every stripe written and out of flight, every slot's XOR page programmed or
excepted (R184). -/
def groupComplete (s : State) (band : Nat) (b : Band) (group : Nat) : Bool :=
  31 * (group + 1) ≤ b.nextStripe && !(s.map.stripes.any (fun f => f.band == band && f.stripe / 31 == group))
    && (List.range 16).all (fun slot => b.xorDone.contains (16 * group + slot)
      || b.exceptions.any (fun e => e.index == group && e.slot == slot && e.kind == 2) || (s.red.failedSlot == some slot && b.rebuildDone))

/-- The lowest group of a band not yet complete, looking from a group on, at most `fuel` groups. -/
def lowestOpen (s : State) (band : Nat) (b : Band) : Nat → Nat → Nat
  | 0, g => g
  | fuel + 1, g => if groupComplete s band b g then lowestOpen s band b fuel (g + 1) else g

/-- DONE_GROUP as it stands now (R185). -/
def doneGroupOf (s : State) (band : Nat) (b : Band) : Nat := lowestOpen s band b (b.declGroup - b.doneGroup) b.doneGroup

/-- GROUPS_AHEAD / 2 further groups declared, within GROUPS_AHEAD not complete (R184). -/
def declareGroups (s : State) (band : Nat) : State :=
  match bandAt s.map.core band with
  | none => s
  | some b =>
    if (b.st != .opened && b.st != .closing) || !summaryOpened s band then s
    else
      let half := groupsAhead s / 2
      let last := bandGroupsXor s.red.geometry
      if b.declGroup - doneGroupOf s band b + half ≤ groupsAhead s && b.declGroup < last then
        setCore s (bandMod s.map.core band (fun b => { b with declGroup := min last (b.declGroup + half) }))
      else s

/-- Whether a change of a block that counts against an older destage has been accepted: a later line that is posted or being
destaged, or a later deallocation (R149); a provisional line does not count, since a reset may drop it (R320). -/
def overtaken (s : State) (b : StripeBlock) : Bool :=
  s.map.lines.any (fun l => l.nsid == b.nsid && l.lba == b.lba &&
    ((b.msn < l.msn && (l.provisional.isNone || l.st == .destaging)) || (l.msn == b.msn && l.superseded)))

/-- One block of a completed stripe committed (R28, R149, R157, R182): a destaged block unless it is stale at birth, a relocated
block where its entry still points to its source. -/
def commitBlock (s : State) (band offset : Nat) (b : StripeBlock) : State :=
  if b.nsid = 0 then s
  else
    match b.src with
    | some (sb, so) =>
      let r : JrnRecord := { type := .relocate, nsid := b.nsid, lba := b.lba, band := band, offset := offset, srcBand := sb
                             srcOffset := so, msn := b.msn, whole := b.whole }
      let c := if mapAt s.map.core b.nsid b.lba == some (.mapped sb so) then
          mapPlace s.map.core b.nsid b.lba band offset b.whole else s.map.core
      let s := if s.ret.prepareStuck.contains sb && !s.ret.prepareInto.contains band then
          { s with ret := { s.ret with prepareInto := s.ret.prepareInto ++ [band] } } else s
      addRecords (setCore s c) [r]
    | none =>
      let mine := fun (l : CacheLine) => l.nsid == b.nsid && l.lba == b.lba && l.msn == b.msn && l.st == .destaging
      if overtaken s b || !(s.map.lines.any mine) then { s with map := { s.map with lines := s.map.lines.filter (fun l => !mine l) } }
      else
        let s := { s with map := { s.map with lines := s.map.lines.map (fun l => if mine l then { l with committed := true } else l) } }
        addRecords (setCore s (mapPlace s.map.core b.nsid b.lba band offset b.whole))
          [{ type := .map, nsid := b.nsid, lba := b.lba, band := band, offset := offset, msn := b.msn, whole := b.whole }]

/-- A stripe voided (R159): none of its units is committed, its extents are VOID, its relocated blocks are gathered again, its lines stay
DESTAGING, and its band closes short and goes to the head of collection. -/
def voidStripe (s : State) (f : StripeFlight) : State :=
  let again := f.blocks.filterMap (fun b => match b.src with
    | some (sb, so) => (codewordAt s sb so).map (fun cw => ({ cw := cw, src := some (sb, so) } : GatherBlock))
    | none => none)
  record { s with map := { s.map with core := failStripe s.map.core f.band f.stripe, gather := s.map.gather ++ again } } 0x0307 .info
    (b4 f.band ++ b4 f.stripe)

/-- The spans of a stripe's blocks. -/
def flightSpans (s : State) (band stripe : Nat) : List Nat :=
  match s.map.stripes.find? (fun f => f.band == band && f.stripe == stripe) with
  | none => []
  | some f => (f.blocks.filter (fun b => b.nsid != 0)).map (fun b => spanKey b.nsid (spanOf b.lba))

/-- A stripe whose sixteen units have all ended: committed when every unit succeeded, or when only units of a slot that failed in
flight are missing; voided when a program failed (R159, R182). -/
def stripeCommit (s : State) (band stripe : Nat) : State :=
  match s.map.stripes.find? (fun f => f.band == band && f.stripe == stripe) with
  | none => s
  | some f =>
    if f.units.toList.any (· == 0) then s
    else
      let s := { s with map := { s.map with stripes := s.map.stripes.filter (fun x => !(x.band == band && x.stripe == stripe)) } }
      let summary := f.blocks.all (fun b => b.nsid == 0)
      if f.units.toList.any (· == 3) && !summary then voidStripe s f
      else if 1 < f.units.toList.count 2 && !summary then voidStripe s f
      else f.blocks.zipIdx.foldl (fun s p => commitBlock s band (240 * stripe + p.2) p.1) s

/-! ### The journal's pages (R151, R184 to R186) -/

/-- Whether a MAP record of a line waits in the tail. -/
def mapWaits (tail : List JrnRecord) (l : CacheLine) : Bool :=
  tail.any (fun r => r.type == .map && r.nsid == l.nsid && r.lba == l.lba && r.msn == l.msn)

/-- The block and page of a slot that the n-th of its metadata pages is programmed on: the LUNs of the slot one block after another, the four
reserved blocks of a LUN in turn (R53; log entry 256, DESIGN CHOICE). -/
def metaPlace (g : Geometry) (slot n : Nat) : Nat × Nat :=
  let i := n / pslcPages g % (4 * slotLuns g)
  (blockKey (lunOfSlot g slot (i % slotLuns g)) (g.blocksPerPlane - 4 + i / slotLuns g), n % pslcPages g)

/-- A metadata page programmed on a slot, its block erased before its first page (R53, R151, R153). -/
def programMeta (s : State) (slot : Nat) (content : Bytes) : State :=
  let g := s.red.geometry
  let n := vget s.map.metaNext 0 slot
  if slotLuns g = 0 || pslcPages g = 0 || (carrierAt s slot).st != .inService then s
  else
    let (key, page) := metaPlace g slot n
    let s := if page = 0 && (blockAt s key).wp != some 0 then eraseBlock s key else s
    programPage { s with map := { s.map with metaNext := vset s.map.metaNext slot (n + 1) } } key page (.raw content)

/-- The slot c whose pair with (c + 8) mod 16 takes the next journal page (R151): in rotation among the pairs of which both are in service (log
entry 256, DESIGN CHOICE). -/
def journalSlot (s : State) : Option Nat :=
  ((List.range 16).map (fun i => (s.map.pages + i) % 16)).find? (fun c =>
    (carrierAt s c).st == .inService && (carrierAt s ((c + 8) % 16)).st == .inService)

/-- The open bands as the stripe journal lists them: band, DONE_GROUP and DECL_GROUP (R185). -/
def stripeJournalOf (s : State) : List (Nat × Nat × Nat) :=
  (s.map.core.bands.filter (fun p => (p.2.st == .opened || p.2.st == .closing) && p.2.stream != .emergency)).map
    (fun p => (p.1, doneGroupOf s p.1 p.2, p.2.declGroup))

/-- The stripe journal section of a journal page (R185). -/
def stripeSection (s : State) : Bytes :=
  let entry := fun (e : Nat × Nat × Nat) =>
    b4 e.1 ++ b2 e.2.1 ++ b2 e.2.2 ++ b1 ((bandAt s.map.core e.1).elim 0 (fun b => if b.substs.isEmpty then 0 else 1)) ++ zeros 7
  let l := (stripeJournalOf s).take 63
  let body := padTo 1016 (zeros 8 ++ l.flatMap entry)
  b2 1 ++ b2 l.length ++ leBytes 4 (crc32c body).toNat ++ body

/-- A map journal page (R151, R185): a 4 KiB header with the stripe journal at 0x800, and 1,280 records. -/
def journalPage (s : State) : Bytes :=
  overlay (padTo 4096 (Config.journalHeader s.map.pages)) 0x800 (stripeSection s) ++ padTo 61440 ((s.map.tail.take pageRecords).flatMap journalRecordBytes)

/-- The two copies of the next journal page programmed, as far as each succeeds (R151). -/
def programJournal (s : State) (c : Nat) (first second : Bool) : State :=
  let page := journalPage s
  let s := if first then programMeta s c page else s
  if second then programMeta s ((c + 8) % 16) page else s

/-- A journal page durable in both copies: up to 1,280 records leave the tail; committed lines become CLEAN, as far as the read cache holds them;
declarations bind; RELEASE takes effect; a closed band leaves the open-band summary (R139, R142, R149, R151, R184 to R186). -/
def pageDurable (s : State) : State :=
  let page := s.map.tail.take pageRecords
  let tail := s.map.tail.drop pageRecords
  let snapshot := stripeJournalOf s
  let c := bandsMap s.map.core (fun n b =>
    let b := { b with declDurable := b.declGroup, doneGroup := doneGroupOf s n b }
    if page.any (fun r => r.type == .release && r.band == n) then { b with st := .eraseList, releaseDurable := true } else b)
  let closed := (page.filter (fun r => r.type == .bandClose)).map (·.band)
  let lines := s.map.lines.map (fun l => if l.committed && !mapWaits tail l then { l with st := .clean, committed := false } else l)
  let s := { s with map := { s.map with core := c, tail := tail, journal := s.map.journal ++ page, pages := s.map.pages + 1
                                        lines := trimClean (readCacheLines s) lines, stripeJournal := snapshot }
                    red := { s.red with openSummary := s.red.openSummary.filter (fun n => !closed.contains n) } }
  closed.foldl (fun s n => appendSummary s (summaryFor s 2 n ((bandAt s.map.core n).elim 0 (·.closeMsn)))) s

/-- Whether the primary checkpoint is due: 1 GiB of journal since it began, or 24 operating hours (R154). -/
def cycleDue (s : State) : Bool :=
  gib ≤ divCeil (s.map.journal.length - s.map.primary.journalFrom) pageRecords * 65536
    || 24 * hourMs ≤ s.time.opMs - s.map.cycleStartMs

/-- The segments of a namespace. -/
def segmentCount (c : MapCore) (nsid : Nat) : Nat := ((readAt [] c.segs nsid).map (·.2)).sum

/-- The pieces of a checkpoint: every map segment, every band record, and the entries of every block that has any (R153). -/
def checkpointPieces (s : State) : List Piece :=
  s.map.core.segs.flatMap (fun p => (List.range (segmentCount s.map.core p.1)).map (fun i => Piece.segment p.1 i))
    ++ s.map.core.bands.map (fun p => Piece.band p.1) ++ s.media.blocks.map (fun p => Piece.block p.1)

/-- Bytes of a checkpoint: span and segment table entries, fine maps, band records with their redundancy entries, block entries (R131, R133, R134,
R141, R153, R194, R269). -/
def checkpointBytes (s : State) : Nat :=
  ((s.map.core.segs.map (fun p => segmentCount s.map.core p.1)).sum) * (8192 * 8 + 4) + s.map.core.fine.length * 2048
    + s.map.core.bands.length * (64 + 32) + s.media.blocks.length * 16 + mirrorBytes s

/-- The pages of a checkpoint programmed as 15 + 1 XOR stripes over the metadata blocks of all carriers (R153); how its pieces lie in the pages is
free. -/
def programCheckpoint (s : State) (stripes : Nat) : State :=
  (List.range stripes).foldl (fun s j =>
    let page := fun (i : Nat) => padTo 65536 (Config.checkpointPage (16 * j + i))
    let s := (List.range 15).foldl (fun s i => programMeta s i (page i)) s
    programMeta s 15 (((List.range 15).map page).foldl xorBytes [])) s

/-- A checkpoint cycle complete: it becomes the primary, the primary the secondary, and the journal before the new secondary is
released; the block entries go with it, and the T_c of every carrier that is powered and swept (R72, R97, R99, R110, R153). -/
def checkpointCycle (s : State) : State :=
  let from_ := s.map.primary.journalFrom
  let kept := s.map.journal.drop from_
  let stripes := divCeil (checkpointBytes s) (15 * 65536)
  let cp : Checkpoint := { core := s.map.core, msn := s.map.msn, journalFrom := kept.length, blocks := s.media.blocks
                           pieces := (checkpointPieces s).map (fun p => (p, s.map.msn)), stripes := stripes
                           mirrorBits := (s.halo.mirrors.filter (fun m => !m.secondary)).map (fun m => (m.session, m.dirty, m.inFlight))
                           migBits := (s.halo.migration.filter (fun g => !g.successor)).map (fun g => (g.session, g.dirty, g.inFlight)) }
  let s := programCheckpoint s stripes
  { s with map := { s.map with
      secondary := { s.map.primary with journalFrom := 0 }, primary := cp
      journal := kept, cycleStartMs := s.time.opMs, journalFull := false }
           ret := { s.ret with car := Vector.ofFn (fun i : Fin 16 =>
             let x := s.ret.car[i]
             if (carrierAt s i).pwrEn && x.powerUpSweepDone then { x with tcCheckpoint := x.tc.toNat } else x) } }

/-! ### Closing a band (R32, R142, R145, R183, R186) -/

/-- The units of a group's stripes that wait for its inner XOR page on a slot, as programs (R181). -/
def heldUnits (s : State) (band : Nat) (b : Band) (group slot : Nat) : List Submission :=
  s.map.stripes.flatMap (fun f =>
    if f.band = band && f.stripe / 31 = group then
      (f.held.filter (fun h => h.1 == slot)).filterMap (fun h =>
        ((unitSubmissions s.red.geometry band b f.stripe (List.replicate 16 h.2)).find? (fun p => p.1 == h.1)).map (·.2))
    else [])

/-- The pages below the inner XOR page of a group on a slot that no unit was written to (R183). -/
def padPages (s : State) (b : Band) (group slot : Nat) : List Nat :=
  let g := s.red.geometry
  let (pos, page) := placeXor (bpc g) group
  let key := bandBlock g b slot pos
  (List.range page).filter (fun p => (lookup s.media.pages (pageKey key p)).isNone && (blockAt s key).wp.getD 0 ≤ p)

/-- A pad unit. -/
def padUnit : PageContent := .codewords (List.replicate 16 padCodeword)

/-- The inner XOR of a partly written group on a slot: over the units programmed there, those that wait for the XOR page, and the pad units (R183). -/
def partialXor (s : State) (band : Nat) (b : Band) (group slot : Nat) : Bytes :=
  let written := ((List.range 31).map (fun i => 31 * group + i)).filterMap (fun st => unitOnMedia s band b st (unitInSlot band st slot))
  let units := written ++ (heldUnits s band b group slot).map (·.payload) ++ (padPages s b group slot).map (fun _ => padUnit)
  units.foldl (fun acc u => xorBytes acc (unitBytes u)) []

/-- The programs that complete a partly written last group: on each slot the pad units below the XOR position in its block, then
the XOR page, then the units that waited for it (R181, R183). -/
def partialPrograms (s : State) (band : Nat) (b : Band) (group : Nat) : List Submission :=
  let g := s.red.geometry
  (List.range 16).flatMap (fun slot =>
    let x := xorSubmission g band b group slot (partialXor s band b group slot)
    (padPages s b group slot).map (fun p => { key := x.key, page := p, payload := padUnit, owner := .plain }) ++ [x] ++ heldUnits s band b group slot)

/-- The stripes of a band that wait for nothing but a group's inner XOR pages: every other unit of theirs has ended (R181). -/
def onlyHeld (s : State) (band : Nat) : Bool :=
  s.map.stripes.all (fun f => f.band != band || (!f.held.isEmpty
    && (List.range 16).all (fun slot => vget f.units 0 slot != 0 || f.held.any (fun h => h.1 == slot))))

/-- The last group of a closing band completed where it is partly written (R183). -/
def completeGroup (s : State) (band : Nat) (b : Band) (group : Nat) : State :=
  let subs := partialPrograms s band b group
  let s := { s with map := { s.map with stripes := s.map.stripes.map (fun f =>
    if f.band = band && f.stripe / 31 = group then { f with held := [] } else f) } }
  submitAll s (queueOf b.stream) subs

/-- Whether the XOR page of a group on a slot is done: programmed, excepted, or taken care of by rebuild. -/
def xorSettled (s : State) (b : Band) (group slot : Nat) : Bool :=
  b.xorDone.contains (16 * group + slot) || b.exceptions.any (fun e => e.index == group && e.slot == slot && e.kind == 2)
    || (s.red.failedSlot == some slot && b.rebuildDone)

/-- Whether a program of a band's XOR pages is still queued or running. -/
def xorQueued (s : State) (band group : Nat) : Bool :=
  let mine := fun (e : QEntry) => match e.owner with
    | .xorUnit n g _ => n == band && g == group
    | _ => false
  s.media.channels.any (fun c => c.q.any (fun l => l.any mine))
    || s.media.luns.any (fun p => p.2.running.elim false (fun r => mine r.entry) || p.2.suspended.elim false (fun r => mine r.entry))

/-- Whether a band has taken its whole summary, or needs none. -/
def summaryDone (g : Geometry) (b : Band) : Bool := summaryLeft b == 0 || bandStripes g ≤ b.nextStripe || b.abandoned

/-- Whether every condition of R32 holds for a closing band. -/
def mayClose (s : State) (band : Nat) (b : Band) : Bool :=
  b.st == .closing && summaryDone s.red.geometry b && !(s.map.stripes.any (fun f => f.band == band))
    && (b.abandoned && b.resyncDone || (List.range (divCeil b.nextStripe 31)).all (fun g => (List.range 16).all (xorSettled s b g)))
    && !(s.red.st == .degraded && s.red.rebuildRunning && !b.rebuildDone && b.substSlot != s.red.failedSlot)

/-- The least T_c over a band's carriers (R141 CLOSE_TC). -/
def leastTc (s : State) (b : Band) : Nat :=
  let l := (b.blocks.map (fun k => carrierOf (channelOfKey k))).eraseDups.map (tcOf s)
  l.foldl min (l.headD 0)

/-- A closing band: its last group completed where it is partly written, then closed with its BAND_CLOSE record (R32, R142,
R183). -/
def bandClose (s : State) (band : Nat) : State :=
  match bandAt s.map.core band with
  | none => s
  | some b =>
    if mayClose s band b then
      let (msn, s) := takeMsn s 1
      let b := { b with st := .closed, closeMsn := msn, closeTc := leastTc s b }
      let s := setCore s (bandMod s.map.core band (fun _ => b))
      addRecords s [{ type := .bandClose, band := band, msn := msn, formed := some b }]
    else
      let last := b.nextStripe / 31
      if b.st = .closing && !b.abandoned && summaryDone s.red.geometry b && b.nextStripe % 31 ≠ 0
          && onlyHeld s band && !xorQueued s band last && !(List.range 16).all (xorSettled s b last) then
        completeGroup s band b last
      else s

/-! ### Reading for relocation (R26, R157, R190, R220) -/

/-- A read that was recovered at a step noted: at step 3 or later the band is scheduled for relocation and a Notice record is written
(R26). A host read that decodes counts for the margin class of its block, a read for relocation does not (R112). -/
def noteRecovery (s : State) (band off step : Nat) (counted : Option Nat) : State :=
  match bandAt s.map.core band with
  | none => s
  | some b =>
    let key := (offsetPlace s band b off).1
    if 3 ≤ step then
      record (scheduleBand s band) 0x0401 .notice (b1 (channelOfKey key) ++ b1 (lunOfKey key) ++ b4 (blockOfKey key) ++ b1 step)
    else if b.stream = .emergency then s
    else counted.elim s (noteRead s key step)

/-- Whether a block of a band is already gathered or in flight to Nimbus. -/
def alreadyTaken (s : State) (band off : Nat) : Bool :=
  s.map.gather.any (fun x => x.src == some (band, off))
    || s.map.stripes.any (fun f => f.blocks.any (fun b => b.src == some (band, off)))

/-- A band's exception list lengthened (R194). -/
def noteException (s : State) (band index kind slot : Nat) : State :=
  setCore s (bandMod s.map.core band (fun b => { b with exceptions := b.exceptions ++ [{ index := index, kind := kind, slot := slot }] }))

/-- A block gathered for Nimbus from a source: as it lies on media, its tag with it (R137), or as new data from a Halo partner, with a new MSN
(R199). -/
def gatherBlock (s : State) (band off step : Nat) (cw : Codeword) : State :=
  let (msn, s) := if step = 6 then takeMsn s 1 else (cw.msn, s)
  let cw := if step = 6 then sealCodeword { cw with msn := msn } else cw
  { s with map := { s.map with gather := s.map.gather ++ [{ cw := cw, src := some (band, off) }] } }

/-- One mapped block of a source band read and gathered for Nimbus; a block that no step recovers is set LOST (R157). -/
def collectBlock (s : State) (band : Nat) (p : (Nat × Nat × Nat) × BlockRead) : State :=
  let (nsid, lba, off) := p.1
  if alreadyTaken s band off then s
  else
    match recoverBlock s nsid lba band off p.2 with
    | (_, none) => loseOrWait s nsid lba 0
    | (step, some cw) => gatherBlock (noteRecovery s band off step none) band off step cw

/-- A list of blocks in rising offset order. -/
def insertByOffset (x : Nat × Nat × Nat) : List (Nat × Nat × Nat) → List (Nat × Nat × Nat)
  | [] => [x]
  | y :: t => if x.2.2 ≤ y.2.2 then x :: y :: t else y :: insertByOffset x t

/-- The mapped blocks of a band in offset order. -/
def blocksInOrder (c : MapCore) (band : Nat) : List (Nat × Nat × Nat) := (bandBlocks c band).foldr insertByOffset []

/-- A collection of a band (R157): the band is RELOCATING, its mapped blocks are read in offset order, as many as there are reads
given, and gathered for Nimbus. An unreadable summary is noted. -/
def collect (s : State) (band : Nat) (summaryOk : Bool) (reads : List BlockRead) : State :=
  match bandAt s.map.core band with
  | none => s
  | some b =>
    let lost := !summaryOk && !b.summaryLost
    let s := recordIf lost s 0x0309 .notice (b4 band)
    let s := setCore s (bandMod s.map.core band (fun b =>
      { b with st := .relocating, summaryLost := b.summaryLost || lost, passRunning := false }))
    let todo := (blocksInOrder s.map.core band).filter (fun p => !alreadyTaken s band p.2.2)
    (todo.zip reads).foldl (fun s p => collectBlock s band p) s

/-! ### Release and erase (R27, R142, R157, R158) -/

/-- Whether every change that took a band's last references away is durable: the durable journal too leaves its VALID 0. -/
def releaseCommitted (s : State) (band : Nat) : Bool :=
  bandValid (replay s.map.primary.core (s.map.journal.drop s.map.primary.journalFrom)) band == 0

/-- Whether a band may be released: CLOSED or RELOCATING, VALID 0 and every commit durable (R142). -/
def mayRelease (s : State) (band : Nat) (b : Band) : Bool :=
  (b.st == .closed || b.st == .relocating) && bandValid s.map.core band == 0 && releaseCommitted s band
    && !(s.map.tail.any (fun r => r.type == .release && r.band == band)) && (!b.secure || !s.map.secureJobs.isEmpty)

/-- The blocks a band holds: its own and its substitutes (R193). -/
def ownedBlocks (b : Band) : List Nat :=
  b.blocks ++ b.substs.map (fun x => blockKey (lunAtPos x.host b.group x.hostPos) x.block)

/-- Whether a block can be reached for an erase: its carrier is live and the block is good. -/
def erasable (s : State) (key : Nat) : Bool := carrierLive s (carrierOf (channelOfKey key)) && (blockAt s key).health == .good

/-- A band relocated by retention counted: on the device and, block by block, on its carriers (R129). -/
def countRelocated (s : State) (b : Band) : State :=
  let on := fun (c : Nat) => (ownedBlocks b).countP (fun k => carrierOf (channelOfKey k) == c)
  let car := Vector.ofFn (fun i : Fin 16 => { s.ret.car[i] with relocated := s.ret.car[i].relocated + on i.val })
  { s with ret := { s.ret with relocationsDone := s.ret.relocationsDone + 1, car := car } }

/-- A band on the erase list erased (R142, R158, R164): every block that can be reached, those that fail marked grown-bad; then
its ERASED record. -/
def eraseBand (s : State) (band : Nat) (unerased : List Nat) : State :=
  match bandAt s.map.core band with
  | none => s
  | some b =>
    let s := (ownedBlocks b).foldl (fun s k =>
      if !erasable s k then s else if unerased.contains k then markGrownBad s k 0x03 else eraseBlock s k) s
    let s := if b.secure then
        ((ownedBlocks b).filter (fun k => !erasable s k)).foldl (fun s k =>
          record s 0x0308 .fault (b1 (carrierOf (channelOfKey k)) ++ b1 (channelOfKey k) ++ b1 (lunOfKey k) ++ b4 (blockOfKey k))) s
      else s
    let s := prepareShortfall (if b.retQueued = 2 then countRelocated s b else s) band
    let (msn, s) := takeMsn s 1
    let s := { s with map := { s.map with
      core := { s.map.core with bands := remove s.map.core.bands band }
      emergency := s.map.emergency.filter (fun f => !(f.band == band && f.applied))
      xorAcc := s.map.xorAcc.filter (fun p => p.1 / 16 / 2 ^ 20 != band) } }
    let s := if s.map.core.bands.any (fun p => p.2.secure) then s else { s with map := { s.map with secureJobs := [] } }
    addRecords s [{ type := .erased, band := band, msn := msn }]

/-- A band released, or erased once its RELEASE is durable (R142). -/
def bandRelease (s : State) (band : Nat) (unerased : List Nat) : State :=
  match bandAt s.map.core band with
  | none => s
  | some b =>
    if isHeld s then s
    else if b.st = .eraseList then eraseBand s band unerased
    else if mayRelease s band b then
      let (msn, s) := takeMsn s 1
      addRecords s [{ type := .release, band := band, msn := msn }]
    else s

end Sys2Proof.Machine
end

