-- ==== Sys2Proof/Machine/Translation.lean ====
section
/-! DEFINITION. The commands of the Translation Engine (04_translation): stripes, the journal and its checkpoints, collection,
relocation and consolidation; and the data-plane burst (01 R22). -/
namespace Sys2Proof.Machine

/-- The stream of a command's operand. -/
def streamOf : Fin 3 → Stream
  | 0 => .cirrus
  | 1 => .stratus
  | 2 => .nimbus

/-- STRIPE_WRITE (R24, R180): the next band is opened for the stream, or a full stripe is written to an open band of it. -/
def execStripeWrite (stream : Fin 3) (band : Nat) (s : State) : Result := .next (background s (fun s =>
    stripeWrite s (streamOf stream) band false))

/-- GATHER_TIMEOUT (R180): a stream's short stripe is completed with pad blocks and written. -/
def execGatherTimeout (stream : Fin 3) (band : Nat) (s : State) : Result := .next (background s (fun s =>
    stripeWrite s (streamOf stream) band true))

/-- GROUP_DECLARATION (R184): it binds when the next journal page is durable (R185). -/
def execGroupDeclaration (band : Nat) (s : State) : Result := .next (background s (fun s =>
    declareGroups s band))

/-- STRIPE_COMMIT (R182, R149, R159): it waits while the journal has no room (R154), or the pool none for a fine map it needs (R136); a Held array
commits nothing (R200). -/
def execStripeCommit (band stripe : Nat) (s : State) : Result :=
  .next (background s (fun s =>
    if isHeld s || poolFull s (flightSpans s band stripe) then s
    else if journalHolds s 240 then journalWait s
    else stripeCommit s band stripe))

/-- JOURNAL_PAGE_WRITE (R151, R172, R184, R185): the page is programmed on two carriers, and durable when both copies have completed with
SUCCESS. -/
def execJournalPageWrite (first second : Bool) (s : State) : Result :=
  .next (background s (fun s =>
    match journalSlot s with
    | none => s
    | some c =>
      let s := programJournal s c first second
      if first && second then settleCleanStop (pageDurable s) else s))

/-- CHECKPOINT_CYCLE (R153, R154): a cycle that is due completes. -/
def execCheckpointCycle (s : State) : Result := .next (background s (fun s =>
    if cycleDue s && mayWriteMedia s then checkpointCycle s else s))

/-- BAND_CLOSE (R32, R142, R183). -/
def execBandClose (band : Nat) (s : State) : Result :=
  .next (background s (fun s =>
    if isHeld s then s else if journalHolds s 1 then journalWait s else bandClose s band))

/-- BAND_RELEASE (R142, R157, R158): RELEASE, and the erase once RELEASE is durable. -/
def execBandRelease (band : Nat) (unerased : List Nat) (s : State) : Result :=
  .next (background s (fun s =>
    if journalHolds s 1 then journalWait s else bandRelease s band unerased))

/-- Whether a band may be collected: CLOSED, covered by rebuild, not held by Secure Deallocate (R156). -/
def mayCollect (s : State) (b : Band) : Bool := b.st == .closed && !needsRebuild s b && !b.secure

/-- Whether a band comes before another as a victim: the head of collection first, then least VALID, then the oldest CLOSE_MSN
(R156, R159, R189). -/
def victimBefore (s : State) (x y : Nat × Band) : Bool :=
  let hx := x.2.headOfCollection
  let hy := y.2.headOfCollection
  if hx != hy then hx
  else bandValid s.map.core x.1 < bandValid s.map.core y.1
    || (bandValid s.map.core x.1 == bandValid s.map.core y.1 && x.2.closeMsn < y.2.closeMsn)

/-- Whether two bands are collected in one group: an emergency band counts in every group (R169 step 5). -/
def sameGroup (x y : Band) : Bool := x.stream == .emergency || y.stream == .emergency || x.group == y.group

/-- Whether a band is the victim of its group (R156). -/
def isVictim (s : State) (band : Nat) (b : Band) : Bool :=
  mayCollect s b && s.map.core.bands.all (fun p =>
    p.1 == band || !sameGroup p.2 b || !mayCollect s p.2 || !victimBefore s p (band, b))

/-- Whether collection runs in a group: free bands below FREE_TARGET, or a band at the head of collection (R155). -/
def collectionRuns (s : State) (b : Band) : Bool := freeBands s b.group < setting s 0x01 3 || b.headOfCollection

/-- GARBAGE_COLLECTION (R155 to R157): of a group's victim, begun or carried on. -/
def execGarbageCollection (band : Nat) (summaryOk : Bool) (reads : List BlockRead) (s : State) : Result :=
  .next (afterStart s (fun s =>
    match bandAt s.map.core band with
    | none => s
    | some b =>
      if mayWriteMedia s && (b.st == .relocating || (isVictim s band b && collectionRuns s b)) then collect s band summaryOk reads
      else s))

/-- RELOCATION (R27, R114, R142): of a band scheduled for relocation, once it is CLOSED; one that retention queued in its turn. -/
def execRelocation (band : Nat) (summaryOk : Bool) (reads : List BlockRead) (s : State) : Result :=
  .next (afterStart s (fun s =>
    match bandAt s.map.core band with
    | none => s
    | some b =>
      if mayWriteMedia s && (b.st == .relocating || (b.st == .closed && (b.scheduled || b.secure || (b.retQueued == 2 && servedNext s band b))))
      then collect s band summaryOk reads else s))

/-- The span with the fewest mapped blocks among those with a fine map, that holds any not yet on its way (R136). -/
def consolidationSpan (s : State) : Option Nat :=
  let mapped := fun k => (List.range 256).countP (fun i => match mapAt s.map.core (k / 2 ^ 40) (k % 2 ^ 40 * 256 + i) with
    | some (.mapped b o) => !alreadyTaken s b o
    | _ => false)
  ((fineSpans s.map.core).filter (fun k => 0 < mapped k)).foldl (fun best k =>
    match best with
    | none => some k
    | some o => if mapped k < mapped o then some k else best) none

/-- The mapped blocks of a span as (NSID, LBA, band, offset). -/
def spanBlocks (s : State) (k : Nat) : List (Nat × Nat × Nat × Nat) :=
  (List.range 256).filterMap (fun i =>
    let lba := k % 2 ^ 40 * 256 + i
    match mapAt s.map.core (k / 2 ^ 40) lba with
    | some (.mapped b o) => some (k / 2 ^ 40, lba, b, o)
    | _ => none)

/-- A span gathered for Nimbus as a whole; the CLOSED bands it lies in, chosen for consolidation, are RELOCATING (R136, R142). -/
def consolidateSpan (s : State) (k : Nat) (reads : List BlockRead) : State :=
  let sources := (spanBlocks s k).map (fun x => x.2.2.1)
  let s := setCore s (bandsMap s.map.core (fun n b => if b.st == .closed && sources.contains n then { b with st := .relocating } else b))
  ((spanBlocks s k).zip reads).foldl (fun s p => collectBlock s p.1.2.2.1 ((p.1.1, p.1.2.1, p.1.2.2.2), p.2)) s

/-- Span consolidation (R136): it starts at 90 % and ends at 80 % occupancy, each with a Notice record. -/
def consolidate (s : State) (reads : List BlockRead) : State :=
  let mille := finePoolMille s
  let start := !s.map.consolidating && 900 ≤ mille
  let s := recordIf start { s with map := { s.map with consolidating := s.map.consolidating || start } } 0x0301 .notice (b4 mille)
  if !s.map.consolidating then s
  else if mille ≤ 800 then record { s with map := { s.map with consolidating := false } } 0x0301 .notice (b4 mille)
  else
    match consolidationSpan s with
    | none => s
    | some k => consolidateSpan s k reads

/-- SPAN_CONSOLIDATION (R136). -/
def execSpanConsolidation (reads : List BlockRead) (s : State) : Result :=
  .next (afterStart s (fun s =>
    if mayWriteMedia s then consolidate s reads else s))

/-- DATA_PLANE_BURST (R22): a CRC mismatch is sent once more; a second mismatch halts the DMA channel with a Fault record. -/
def execDataPlaneBurst (dma : Nat) (firstOk secondOk : Bool) (s : State) : Result :=
  .next (if firstOk || s.dram.dmaHalted.contains dma then s
    else
      let s := reportCor { s with dram := { s.dram with burstsResent := s.dram.burstsResent + 1 } } 0 14
      if secondOk then s
      else record { s with dram := { s.dram with dmaHalted := s.dram.dmaHalted ++ [dma] } } 0x0A08 .fault (b1 5 ++ b4 dma))

end Sys2Proof.Machine
end

