-- ==== Sys2Proof/Machine/Redundancy.lean ====
section
/-! DEFINITION. The activities of Carrier Redundancy (05_carrier_redundancy R188 to R207): resynchronisation, rebuild, LUN
rebuild and reshape. -/
namespace Sys2Proof.Machine

/-- Groups of a band that hold a written stripe. -/
def writtenGroups (b : Band) : Nat := divCeil b.nextStripe 31

/-- Every written group of every band, in ascending band number and group (R188). -/
def allGroups (c : MapCore) : List (Nat × Nat) :=
  c.bands.flatMap (fun p => if p.2.stream == .emergency then [] else (List.range (writtenGroups p.2)).map (fun g => (p.1, g)))

/-- Whether a (band, group) is at or after another in ascending order. -/
def groupFrom (pos x : Nat × Nat) : Bool := pos.1 < x.1 || (pos.1 == x.1 && pos.2 ≤ x.2)

/-- Whether the running resynchronisation has read a group: in its first phase, or behind the background phase's position (R188). -/
def groupRead (s : State) (x : Nat × Nat) : Bool := s.red.resyncRead.contains x || !groupFrom s.red.resyncPos x

/-- The group that resynchronisation reads next: the first phase's in their order, then every other one for the background phase (R188). -/
def nextResync (s : State) : Option (Nat × Nat) :=
  match s.red.resyncFirst with
  | x :: _ => some x
  | [] => (allGroups s.map.core).find? (fun x => !groupRead s x)

/-- One unit that does not decode (R189). -/
def resyncUnit (s : State) (band : Nat) (f : ResyncFinding) (slot : Nat) : State :=
  let blocks := unitBlocks s.map.core band f.stripe slot
  if blocks.isEmpty then
    record (noteException s band f.stripe 1 slot) 0x0605 .info (b4 band ++ b4 f.stripe ++ b1 1)
  else
    let lost := blocks.filter (fun p => !f.recovered || (recoverBlock s p.1 p.2.1 band p.2.2 { step := 4 }).2.isNone)
    if lost.isEmpty then
      record (setCore s (bandMod s.map.core band (fun b => { b with headOfCollection := true, scheduled := true })))
        0x0605 .notice (b4 band ++ b4 f.stripe ++ b1 0)
    else
      lost.foldl (fun s p => loseBlock s p.1 p.2.1 0)
        (setCore s (bandMod s.map.core band (fun b => { b with lostFlag := true })))

/-- The units of a stripe that decode count toward the margin classes of their blocks (R112, R189). -/
def resyncReads (s : State) (band : Nat) (f : ResyncFinding) : State :=
  match bandAt s.map.core band with
  | none => s
  | some b => f.reads.foldl (fun s x => noteRead s (unitPlace s band b f.stripe x.1).1 x.2.1 x.2.2) s

/-- What resynchronisation finds of one stripe (R189). -/
def resyncStripe (s : State) (band : Nat) (f : ResyncFinding) : State :=
  let s := resyncReads s band f
  let s := f.bad.foldl (fun s slot => resyncUnit s band f slot) s
  if f.bad.isEmpty && !f.parityOk then
    record (noteException s band f.stripe 1 ((f.stripe + band) % 16)) 0x0605 .notice (b4 band ++ b4 f.stripe ++ b1 1)
  else s

/-- A group read and checked (R189). -/
def resyncGroupDone (s : State) (band group : Nat) (findings : List ResyncFinding) (xorBad : List Nat) : State :=
  let s := (findings.filter (fun f => f.stripe / 31 == group)).foldl (fun s f => resyncStripe s band f) s
  xorBad.foldl (fun s slot => record (noteException s band group 2 slot) 0x0605 .notice (b4 band ++ b4 group ++ b1 2)) s

/-- A band whose last group has been read: RESYNC_DONE, the head of collection where it has an exception, and its blocks covered
for the Dawn scan (R189). -/
def resyncBandDone (s : State) (band : Nat) : State :=
  match bandAt s.map.core band with
  | none => s
  | some b =>
    let s := (bandKeys s b).foldl (fun s k => settleScan (modBlock s k (fun x => { x with dawnPending := false })) (carrierOf (channelOfKey k))) s
    setCore s (bandMod s.map.core band (fun b => { b with
      resyncDone := true, headOfCollection := b.headOfCollection || !b.exceptions.isEmpty
      scheduled := b.scheduled || !b.exceptions.isEmpty }))

/-- The Notice record that a phase begins or ends with (R188). -/
def resyncNotice (s : State) (phase : Nat) : State := record s 0x0602 .notice (b1 0 ++ b1 phase)

/-- Whether every written group of a band has been read. -/
def bandRead (s : State) (band : Nat) : Bool :=
  (bandAt s.map.core band).elim false (fun b => (List.range (writtenGroups b)).all (fun g => groupRead s (band, g)))

/-- A group read: the first phase goes on to its next, and ends with its last; the background phase moves its position on (R188). -/
def resyncAdvance (s : State) (band group : Nat) : State :=
  match s.red.resyncFirst with
  | [] => { s with red := { s.red with resyncPos := (band, group + 1) } }
  | _ :: rest =>
    let s := { s with red := { s.red with resyncFirst := rest, resyncPos := (0, 0), resyncRead := s.red.resyncRead ++ [(band, group)] } }
    if rest.isEmpty then
      let s := resyncNotice s 1
      if s.boot.bgStarted then resyncNotice s 2 else s
    else s

/-- One group of the running resynchronisation (R188, R189). -/
def resync (s : State) (band group : Nat) (findings : List ResyncFinding) (xorBad : List Nat) : State :=
  let s := resyncGroupDone s band group findings xorBad
  let s := setCore s (bandMod s.map.core band (fun b => { b with resyncGroup := max b.resyncGroup (group + 1) }))
  let s := resyncAdvance s band group
  let s := if bandRead s band then resyncBandDone s band else s
  if s.boot.bgStarted && (nextResync s).isNone then resyncNotice { s with red := { s.red with resyncRunning := false } } 2 else s

/-- RESYNCHRONISATION (R188, R189): the next group of the running phase; the background phase begins with boot step 16. It waits while the journal
has no room for LOST records (R154). -/
def execResynchronisation (band group : Nat) (findings : List ResyncFinding) (xorBad : List Nat) (s : State) : Result :=
  .next (background s (fun s =>
    if s.red.resyncRunning && !isHeld s && (s.boot.bgStarted || !s.red.resyncFirst.isEmpty) && nextResync s == some (band, group) then
      (if findings.any (fun f => !f.bad.isEmpty) && journalHolds s 7440 then journalWait s else resync s band group findings xorBad)
    else s))

/-! ### Rebuild (R195 to R199) -/

/-- Bands that rebuild still has to take. -/
def rebuildBands (s : State) : List (Nat × Band) := s.map.core.bands.filter (fun p => p.2.st != .eraseList && needsRebuild s p.2)

/-- The band that rebuild takes next: open or closing ones first, then closed ones in descending risk (R196). -/
def nextRebuild (s : State) : Option Nat :=
  let l := rebuildBands s
  match l.find? (fun p => p.2.st == .opened || p.2.st == .closing) with
  | some p => some p.1
  | none => (l.foldl (fun best p =>
      match best with
      | none => some p
      | some o => if bandRisk s o.2 < bandRisk s p.2 then some p else best) none).map (·.1)

/-- Whether the program window lets pages be programmed on every block of a list (R33). -/
def allInside (s : State) (keys : List Nat) : Bool := keys.all (fun k => insideWindow s (k / 65536))

/-- A block copied page for page to another: pages, pointer, and the stamp of its new carrier (R110, R205). -/
def copyBlock (s : State) (src dst : Nat) : State :=
  let pages := s.media.pages.filter (fun p => p.1 / 4096 == src)
  let m := pages.foldl (fun m p => insert m (pageKey dst (p.1 % 4096)) p.2) s.media.pages
  let wp := (blockAt s src).wp.getD 0
  let s := { s with media := { s.media with pages := m } }
  rebudget (modBlock s dst (fun b => { b with wp := some wp, stamp := tcOf s (carrierOf (channelOfKey dst)), margin := 3, queued := 0 })) dst

/-- What a page of a band's block at a position holds, page by page of what is written: the group and the stripe whose unit it is, none for the
group's inner XOR (R178, R179). -/
def positionPages (g : Geometry) (b : Band) (pos : Nat) : List (Nat × Nat × Option Nat) :=
  (List.range g.pagesPerBlock).filterMap (fun page =>
    let q := bpc g * page + pos
    let group := q / 32
    let x := group % 32
    let i := q % 32
    if i = x then (if 31 * group < b.nextStripe then some (page, group, none) else none)
    else
      let stripe := 31 * group + (if i < x then i else i - 1)
      if stripe < b.nextStripe then some (page, group, some stripe) else none)

/-- A page reconstructed, if what it needs can be read: a unit of a slot by `unit`, the group's inner XOR over the units as `unit` gives them, those
never programmed as nothing (R183, R196, R198). -/
def rebuiltPage (s : State) (band slot : Nat) (b : Band) (unit : Nat → Option Bytes) (group : Nat) (stripe : Option Nat) : Option PageContent :=
  match stripe with
  | some st => (unit st).map (rebuiltContent s band st slot)
  | none =>
    let terms := ((List.range 31).map (fun i => 31 * group + i)).map (fun st =>
      if st < b.nextStripe then (match readableUnit s band b st slot with
        | some u => some u
        | none => (unit st).map PageContent.raw) else some (.raw []))
    (allBytes terms).map (fun l => .raw (l.foldl xorBytes []))

/-- The block of a substitute (R193). -/
def substKey (b : Band) (x : Subst) : Nat := blockKey (lunAtPos x.host b.group x.hostPos) x.block

/-- The state with a slot's substitutes that an earlier rebuild left unfinished erased (R196). -/
def eraseLeftSubsts (s : State) (slot : Nat) (b : Band) : State :=
  (b.substs.filter (fun x => x.slot == slot && x.state == 3)).foldl (fun s x => eraseBlock s (substKey b x)) s

/-- The substitutes that a rebuild by image programs (R193, R196). -/
def rebuildSubsts (s : State) (band slot : Nat) (b : Band) : List Subst :=
  (substitutes s (heldBlocks s) band b.group slot).map (fun x => { x with state := 2 })

/-- A band's positions on the failed slot rebuilt by image (R193, R196): the slot's units, each from the fifteen others of its stripe, and every
group's XOR page over them, programmed into substitutes page for page. -/
def rebuildImage (s : State) (band slot : Nat) (b : Band) : State :=
  let s := eraseLeftSubsts s slot b
  let subs := rebuildSubsts s band slot b
  if !allInside s (subs.map (substKey b)) then s
  else
    let from_ := s
    let s := subs.foldl (fun s x => (positionPages s.red.geometry b x.pos).foldl (fun s p =>
      match rebuiltPage from_ band slot b (fun st => outerUnit from_ band b st slot) p.2.1 p.2.2 with
      | some content => programPage s (substKey b x) p.1 content
      | none => s) s) s
    setCore s (bandMod s.map.core band (fun b => { b with
      substs := b.substs.filter (fun x => x.slot != slot) ++ subs, substSlot := some slot, rebuildDone := true
      rebuildGroup := bandGroupsXor s.red.geometry }))

/-- Blocks that a Halo partner holds gathered for Nimbus as new data (R199). -/
def gatherPeer (s : State) (band : Nat) (blocks : List (Nat × Nat × Nat)) (reads : List BlockRead) : State :=
  (blocks.zip reads).foldl (fun s p => collectBlock s band p) s

/-- The referenced blocks of a stripe in a unit and in the failed slot's unit (R199). -/
def lostPair (s : State) (band stripe slot failed : Nat) : List (Nat × Nat × Nat) :=
  unitBlocks s.map.core band stripe slot ++ unitBlocks s.map.core band stripe failed

/-- A unit of a surviving slot that its inner XOR does not yield, during rebuild (R199): nothing to lose, or fetched from a
partner and retired, or a second error, which puts the array in Held. What is left of the reads comes with it. -/
def recoverUnit (s : State) (band failed : Nat) (namesLost : Bool) (p : Nat × Nat) (reads : List BlockRead) :
    State × List BlockRead :=
  if isHeld s then (s, reads)
  else
    let blocks := lostPair s band p.1 p.2 failed
    if !namesLost && blocks.isEmpty then (noteException s band p.1 1 p.2, reads)
    else
      let mine := reads.take blocks.length
      if !namesLost && mine.length == blocks.length && mine.all (fun r => r.step == 6) && blocks.all (fun p => partnerHolds s p.1 p.2.1) then
        (noteException (gatherPeer s band blocks mine) band p.1 1 p.2, reads.drop blocks.length)
      else (enterHeld s 1 [p.2, failed], reads)

/-- Rebuild complete: SPARED, with a Notice record, and waiting carriers offered again (R196, R204, R208). -/
def endRebuild (s : State) (slot : Nat) : State :=
  offerWaiting { record s 0x0602 .notice (b1 1 ++ b1 slot) with
    red := { s.red with st := .spared, rebuildRunning := false } }

/-- Whether a band is rebuilt by image: VALID at least REBUILD_RELOCATE_BELOW of its offsets, or not yet closed (R196). -/
def byImage (s : State) (band : Nat) (b : Band) : Bool :=
  b.st != .closed || setting s 0x04 7 * bandData s.red.geometry ≤ 100 * bandValid s.map.core band

/-- One band rebuilt (R196, R199). -/
def rebuildBand (s : State) (band slot : Nat) (b : Band) (reads : List BlockRead) (unreadable : List (Nat × Nat))
    (namesLost : Bool) : State :=
  let (s, left) := unreadable.foldl (fun acc p => recoverUnit acc.1 band slot namesLost p acc.2) (s, reads)
  if isHeld s then s
  else if byImage s band b then rebuildImage s band slot b
  else if (((blocksInOrder s.map.core band).filter (fun p => !alreadyTaken s band p.2.2)).zip left).any (fun p =>
      (recoverBlock s p.1.1 p.1.2.1 band p.1.2.2 p.2).2.isNone) then enterHeld s 1 [slot]
  else
    let s := collect s band true left
    let rest := (bandBlocks s.map.core band).filter (fun p => !alreadyTaken s band p.2.2)
    if rest.isEmpty then
      setCore s (bandMod s.map.core band (fun b => { b with rebuildDone := true, substSlot := some slot
                                                            substs := b.substs.filter (fun x => x.slot != slot) }))
    else s

/-- REBUILD (R196, R199): the next band of the running rebuild; with the last, the array becomes SPARED. -/
def execRebuild (band : Nat) (reads : List BlockRead) (unreadable : List (Nat × Nat)) (namesLost : Bool) (s : State) : Result :=
  .next (background s (fun s =>
    match s.red.failedSlot, bandAt s.map.core band with
    | some slot, b? =>
      if !s.red.rebuildRunning || isHeld s then s
      else if (nextRebuild s).isNone then endRebuild s slot
      else
        match b? with
        | some b =>
          if nextRebuild s == some band then
            let s := rebuildBand s band slot b reads unreadable namesLost
            if !isHeld s && (nextRebuild s).isNone then endRebuild s slot else s
          else s
        | none => s
    | none, _ => s))

/-! ### LUN rebuild (R198) -/

/-- The mapped blocks of a band at a position of a slot. -/
def positionBlocks (s : State) (band slot pos : Nat) : List (Nat × Nat × Nat) :=
  (bandBlocks s.map.core band).filter (fun p =>
    let q := place (bpc s.red.geometry) band (p.2.2 / 240) (p.2.2 % 240 / 16)
    q.1 == slot && q.2.1 == pos)

/-- A unit on a failed LUN as its carrier's inner XOR gives it, the outer parity behind that (R198). -/
def lunUnit (s : State) (band slot : Nat) (b : Band) (lost : List Nat) (stripe : Nat) : Option Bytes :=
  if lost.contains stripe then none
  else match innerUnit s band b stripe slot with
    | some u => some u
    | none => outerUnit s band b stripe slot

/-- One page of a failed LUN's position rebuilt into its substitute; a unit that cannot be: its blocks are LOST, an XOR page that cannot be: its
group is an INNER_GAP (R194, R198). -/
def lunPage (s from_ : State) (band slot : Nat) (b : Band) (lost : List Nat) (dst : Nat) (p : Nat × Nat × Option Nat) : State :=
  match rebuiltPage from_ band slot b (lunUnit from_ band slot b lost) p.2.1 p.2.2, p.2.2 with
  | some content, _ => programPage s dst p.1 content
  | none, some st => (unitBlocks s.map.core band st slot).foldl (fun s x => loseBlock s x.1 x.2.1 0) s
  | none, none => noteException s band p.2.1 2 slot

/-- One position of a failed LUN rebuilt unit by unit onto a substitute of its carrier; its blocks are LOST where there is none (R198). -/
def rebuildPosition (s : State) (band : Nat) (b : Band) (lost : List Nat) (p : Nat × Nat) : State :=
  match lunSubstitute s (heldBlocks s) b.group p.1 p.2 with
  | none => (positionBlocks s band p.1 p.2).foldl (fun s x => loseBlock s x.1 x.2.1 0) s
  | some x =>
    let dst := blockKey (lunAtPos x.host b.group x.hostPos) x.block
    if !insideWindow s (dst / 65536) then s
    else
      let from_ := s
      let s := (positionPages s.red.geometry b p.2).foldl (fun s q => lunPage s from_ band p.1 b lost dst q) s
      setCore s (bandMod s.map.core band (fun b => { b with substs := b.substs ++ [{ x with state := 2 }] }))

/-- LUN_REBUILD (R198): a band's positions on a failed LUN, `lost` naming the stripes whose unit there neither parity yields; with the last band, the
LUN's rebuild ends. It waits while the journal has no room for LOST records (R154). -/
def execLunRebuild (lun band : Nat) (lost : List Nat) (s : State) : Result :=
  .next (background s (fun s =>
    if !s.red.lunRebuilds.contains lun || isHeld s then s
    else
      let todo := (bandAt s.map.core band).elim [] (fun b => if b.st == BandSt.eraseList then [] else lunPositions s b lun)
      if !todo.isEmpty && journalHolds s (16 * s.red.geometry.pagesPerBlock) then journalWait s
      else
        let s := match bandAt s.map.core band with
          | none => s
          | some b => todo.foldl (fun s p => rebuildPosition s band b lost p) s
        if s.map.core.bands.all (fun p => p.2.st == BandSt.eraseList || (lunPositions s p.2 lun).isEmpty) then
          { s with red := { s.red with lunRebuilds := s.red.lunRebuilds.filter (· != lun) } }
        else s))

/-! ### Reshape (R205 to R207) -/

/-- The band a reshape takes next: the lowest CLOSED one at or above its position, else the lowest left for the final sweep
(R205). -/
def nextReshape (s : State) (r : Reshape) : Option Nat :=
  let l := s.map.core.bands.filter (fun p => p.2.st == .closed && needsReshape r p.2)
  match l.find? (fun p => r.position ≤ p.1) with
  | some p => some p.1
  | none => l.head?.map (·.1)

/-- A band evacuated: its units of the slot copied into substitutes (R205). -/
def evacuateBand (s : State) (band slot : Nat) (b : Band) : State :=
  let subs := (substitutes s (heldBlocks s) band b.group slot).map (fun x => { x with state := 2 })
  let s := subs.foldl (fun s x => copyBlock s (bandBlock s.red.geometry b slot x.pos)
    (blockKey (lunAtPos x.host b.group x.hostPos) x.block)) s
  setCore s (bandMod s.map.core band (fun b => { b with substs := b.substs.filter (fun x => x.slot != slot) ++ subs
                                                        substSlot := some slot, reshaped := true }))

/-- A band copied back: its substitutes' images copied to free blocks of the new member, least worn first (R205). -/
def copybackBand (s : State) (band slot : Nat) (b : Band) : State :=
  let n := bpc s.red.geometry
  let s := (List.range n).foldl (fun s pos =>
    match bandAt s.map.core band with
    | none => s
    | some b' =>
      let lun := lunAtPos slot b.group pos
      let dst := blockKey lun ((takeBlock s (heldBlocks s) lun).getD 0)
      let s := copyBlock s (bandBlock s.red.geometry b slot pos) dst
      setCore s (bandMod s.map.core band (fun b => { b with blocks := b'.blocks.set (slot * n + pos) dst }))) s
  setCore s (bandMod s.map.core band (fun b => { b with
    substs := b.substs.map (fun x => if x.slot == slot then { x with state := 3 } else x), substSlot := none, reshaped := true }))

/-- The sources of the bands that a checkpoint covers erased and dropped (R205, R207). -/
def eraseSources (s : State) (slot boundary : Nat) : State :=
  let old := s.map.core.bands.flatMap (fun p => if p.1 < boundary then
    (p.2.substs.filter (fun x => x.slot == slot && x.state == 3)).map (fun x => blockKey (lunAtPos x.host p.2.group x.hostPos) x.block)
    else [])
  let s := old.foldl eraseBlock s
  setCore s (bandsMap s.map.core (fun n b =>
    if n < boundary then { b with substs := b.substs.filter (fun x => !(x.slot == slot && x.state == 3)) } else b))

/-- Bands that wait for the final sweep (R205, R206 FINAL_SWEEP). -/
def sweepLeft (s : State) (r : Reshape) : Nat :=
  s.map.core.bands.countP (fun p => (p.2.st == .opened || p.2.st == .closing) && needsReshape r p.2)

/-- Bands copied since the last reshape checkpoint (R206). -/
def sinceCheckpoint (s : State) (r : Reshape) : Nat :=
  s.map.core.bands.countP (fun p => r.boundary ≤ p.1 && p.1 < r.position && p.2.reshaped)

/-- A reshape checkpoint: the boundary reaches the position and the sources below it are erased (R205, R206). -/
def reshapeCheckpoint (s : State) (r : Reshape) : State :=
  let s := { s with red := { s.red with reshape := some { r with boundary := r.position } } }
  if r.kind = 2 then eraseSources s r.slot r.position else s

/-- A reshape ended: an evacuated slot is vacated and SPARED; a copied-back one is a member and the array NORMAL; waiting
carriers are offered again (R204, R205). -/
def endReshape (s : State) (r : Reshape) : State :=
  let s := if r.kind = 2 then eraseSources s r.slot s.map.nextBand else s
  let s := record s 0x0602 .notice (b1 3 ++ b1 r.slot)
  let red := setRole s.red r.slot (if r.kind = 1 then .vacated else .member)
  let red := if r.kind = 1 then { red with st := .spared, failedSlot := some r.slot, reshape := none }
    else { red with st := .normal, failedSlot := none, reshape := none }
  offerWaiting { s with red := red }

/-- Whether the program window lets a band's reshape run: inside on every LUN that it programs (R33). -/
def reshapeInside (s : State) (r : Reshape) (band : Nat) (b : Band) : Bool :=
  if r.kind = 1 then
    allInside s ((substitutes s (heldBlocks s) band b.group r.slot).map (fun x => blockKey (lunAtPos x.host b.group x.hostPos) x.block))
  else (List.range (bpc s.red.geometry)).all (fun pos => insideWindow s (lunAtPos r.slot b.group pos))

/-- One band of the running reshape, or its end where nothing is left (R205). -/
def reshapeBand (s : State) (r : Reshape) (band : Nat) : State :=
  let s :=
    match nextReshape s r, bandAt s.map.core band with
    | some n, some b =>
      if n = band && reshapeInside s r band b then
        let s := if r.kind = 1 then evacuateBand s band r.slot b else copybackBand s band r.slot b
        let r := { r with position := max r.position (band + 1) }
        let r := { r with finalSweep := sweepLeft s r }
        let s := { s with red := { s.red with reshape := some r } }
        if setting s 0x04 8 ≤ sinceCheckpoint s r then reshapeCheckpoint s r else s
      else s
    | _, _ => s
  match s.red.reshape with
  | none => s
  | some r => if (nextReshape s r).isNone && sweepLeft s r == 0 then endReshape s r else s

/-- RESHAPE (R205): evacuation or copyback, while the array is in that state. -/
def execReshape (band : Nat) (s : State) : Result :=
  .next (afterStart s (fun s =>
    match s.red.reshape with
    | none => s
    | some r => if s.red.st == .evacuating || s.red.st == .copyback then reshapeBand s r band else s))

end Sys2Proof.Machine
end

