-- ==== Sys2Proof/Machine/HostOps.lean ====
section
/-! DEFINITION. Namespaces as the host sees them: protection information, the content of blocks, their reads, and the mirrors and
migrations that follow a change (01 R25, R26; 06 R217 to R220, R224 to R226; 07 R269, R271, R279; 09 R326). -/
namespace Sys2Proof.Machine

/-! ### Namespaces -/

/-- A namespace. -/
def nsAt (s : State) (nsid : Nat) : Option Namespace := lookup s.nvme.namespaces nsid
/-- A namespace changed, where it exists. -/
def modNs (s : State) (nsid : Nat) (f : Namespace → Namespace) : State :=
  match nsAt s nsid with
  | none => s
  | some n => { s with nvme := { s.nvme with namespaces := insert s.nvme.namespaces nsid (f n) } }

/-- Metadata bytes of an LBA format (R217). -/
def mdSize (lbaf : Nat) : Nat := if lbaf = 1 then 16 else if lbaf = 2 then 64 else 0
/-- Protection information bytes of an LBA format (R217). -/
def piSize (lbaf : Nat) : Nat := if lbaf = 1 then 8 else if lbaf = 2 then 16 else 0
/-- Guard width in bits (R217). -/
def guardBits (lbaf : Nat) : Nat := if lbaf = 2 then 64 else 16
/-- Bytes of the reference tag (R217). -/
def refBytes (lbaf : Nat) : Nat := if lbaf = 2 then 6 else 4

/-! ### Protection information (R217 to R219) -/

/-- A number as `n` bytes, most significant first, as the fields of protection information are laid out. -/
def beBytes (n v : Nat) : Bytes := (leBytes n v).reverse
/-- The number of a run of bytes, most significant first. -/
def ofBE (b : Bytes) : Nat := ofLE b.reverse

/-- Where the protection information begins in the metadata (R218). -/
def piOffset (n : Namespace) : Nat := if n.piFirst then 0 else mdSize n.lbaf - piSize n.lbaf
/-- What the guard covers (R217). -/
def guardInput (n : Namespace) (d : BlockData) : Bytes :=
  padTo 4096 d.data ++ (if n.piFirst then [] else padTo (piOffset n) d.md)
/-- The guard that a block should carry. -/
def guardOf (n : Namespace) (d : BlockData) : Nat := Config.piGuard (guardBits n.lbaf) (guardInput n d)
/-- The guard a block carries. -/
def piGuardField (n : Namespace) (d : BlockData) : Nat := ofBE (slice d.md (piOffset n) (guardBits n.lbaf / 8))
/-- The application tag a block carries. -/
def piApp (n : Namespace) (d : BlockData) : Nat := ofBE (slice d.md (piOffset n + guardBits n.lbaf / 8) 2)
/-- The reference tag a block carries. -/
def piRef (n : Namespace) (d : BlockData) : Nat := ofBE (slice d.md (piOffset n + guardBits n.lbaf / 8 + 2) (refBytes n.lbaf))
/-- The all-ones reference tag of a format. -/
def refOnes (lbaf : Nat) : Nat := 2 ^ (8 * refBytes lbaf) - 1

/-- Whether a block of a namespace carries protection information that is checked: none is for LBAF 0 or type 0, and the
application tag 0xFFFF disables the checks (R219). -/
def piChecked (n : Namespace) (d : BlockData) : Bool :=
  n.piType != 0 && piSize n.lbaf != 0 && piApp n d != 0xFFFF || (n.piType == 3 && piSize n.lbaf != 0 && piRef n d != refOnes n.lbaf)

/-- A block with its protection information inserted (R218 PRACT). -/
def insertPi (n : Namespace) (d : BlockData) (app ref : Nat) : BlockData :=
  let md := overlay (padTo (mdSize n.lbaf) d.md) (piOffset n)
    (zeros (guardBits n.lbaf / 8) ++ beBytes 2 app ++ beBytes (refBytes n.lbaf) ref)
  let d' : BlockData := { data := padTo 4096 d.data, md := md }
  { d' with md := overlay md (piOffset n) (beBytes (guardBits n.lbaf / 8) (guardOf n d')) }

/-- Content returned for DEALLOCATED and ZERO blocks (R326). -/
def zeroBlock (n : Namespace) : BlockData :=
  let d : BlockData := { data := zeros 4096, md := zeros (mdSize n.lbaf) }
  if n.piType = 0 || piSize n.lbaf = 0 then d else insertPi n d 0xFFFF (refOnes n.lbaf)

/-- The protection checks a command asks for (R218, R219): PRCHK, the expected tags and the mask. -/
structure PiAsk where
  guard : Bool := true
  app : Bool := false
  ref : Bool := false
  appTag : Nat := 0
  appMask : Nat := 0
  refTag : Nat := 0
  deriving DecidableEq, Repr

/-- What an NVMe Read, Write, Verify or Write Zeroes asks (R218): PRINFO and the tags of its dwords. -/
def piAskOf (q : Sqe) : PiAsk :=
  { guard := q.cdw12 / 2 ^ 28 % 2 == 1, app := q.cdw12 / 2 ^ 27 % 2 == 1, ref := q.cdw12 / 2 ^ 26 % 2 == 1
    appTag := q.cdw15 % 65536, appMask := q.cdw15 / 65536, refTag := q.cdw14 + q.cdw3 % 65536 * 2 ^ 32 }

/-- Why a block fails a check: the SC of SCT 2h (R219). -/
def piFailure (n : Namespace) (ask : PiAsk) (i : Nat) (d : BlockData) : Option Nat :=
  if !piChecked n d then none
  else if ask.guard && piGuardField n d != guardOf n d then some 0x82
  else if ask.app && (BitVec.ofNat 16 (piApp n d) ^^^ BitVec.ofNat 16 ask.appTag) &&& BitVec.ofNat 16 ask.appMask != 0 then some 0x83
  else if ask.ref && n.piType != 3 && piRef n d != (ask.refTag + i) % 2 ^ (8 * refBytes n.lbaf) then some 0x84
  else none

/-- The first failure of a run of blocks. -/
def firstPiFailure (n : Namespace) (ask : PiAsk) (l : List BlockData) : Option Nat :=
  l.zipIdx.findSome? (fun p => piFailure n ask p.2 p.1)

/-- The check of a seal, an audit or an arrival over the ring (R219): the guard always; the reference tag of type 1 is the LBA. -/
def sealAsk (n : Namespace) (lba : Nat) : PiAsk := { guard := true, ref := n.piType == 1, refTag := lba }

/-! ### Reads (R25, R26, R220, R226) -/

/-- What a read of one block finds. -/
inductive ReadRes where
  | ok (d : BlockData)
  | unrecovered
  | guard
  deriving DecidableEq, Repr

/-- The referenced blocks that a stripe has lost beside one that peer repair supplies (R199). -/
def otherLost (s : State) (band off nsid lba : Nat) : List (Nat × Nat × Nat) :=
  match bandAt s.map.core band with
  | none => []
  | some b =>
    (lostBlocks s band b (off / 240) (place (bpc s.red.geometry) band (off / 240) (off % 240 / 16)).1).filter (· != (nsid, lba, off))

/-- The blocks that a partner has supplied while the array is DEGRADED, gathered for Nimbus as new data; their stripe is UNPROTECTED (R199). -/
def peerServed (s : State) (nsid lba band off : Nat) (r : BlockRead) : State :=
  let slot := (place (bpc s.red.geometry) band (off / 240) (off % 240 / 16)).1
  let l := ((nsid, lba, off), r.peer) :: (otherLost s band off nsid lba).zip r.others
  let s := l.foldl (fun s p =>
    if alreadyTaken s band p.1.2.2 then s else gatherBlock s band p.1.2.2 6 (peerCodeword s p.1.1 p.1.2.1 0 p.2)) s
  noteException s band (off / 240) 1 slot

/-- What a block that no step recovers leaves (R199, R203): a second error while the array is DEGRADED; outside it the block LOST; nothing while the
array is Held, or where the partner has not been asked. -/
def blockLost (s : State) (nsid lba band off : Nat) (r : BlockRead) : State :=
  if r.here || isHeld s then s
  else if s.red.st == .degraded then
    enterHeld s 1 [(place (bpc s.red.geometry) band (off / 240) (off % 240 / 16)).1, s.red.failedSlot.getD 0xFF]
  else loseOrWait s nsid lba 0

/-- Whether the guard of a codeword's block holds, or is not checked (R219, R220). -/
def guardHolds (n : Namespace) (c : Codeword) : Bool :=
  let d : BlockData := { data := c.data, md := c.md }
  !piChecked n d || piGuardField n d == guardOf n d

/-- One mapped block read from media through the escalation, which a guard failure continues (R25, R26, R197, R199, R220). A block that decodes
and fails its guard at every step is a guard failure, with its Fault record. -/
def readMapped (s : State) (n : Namespace) (nsid lba band off : Nat) (r : BlockRead) : ReadRes × State :=
  match recoverBlockIf (guardHolds n) s nsid lba band off r with
  | (_, none) =>
    if (recoverBlock s nsid lba band off r).2.isSome then (.guard, record s 0x0501 .fault (b4 nsid ++ b8 lba))
    else (.unrecovered, blockLost s nsid lba band off r)
  | (step, some cw) =>
    let degraded := step = 6 && s.red.st == .degraded
    if degraded && r.others.length < (otherLost s band off nsid lba).length then (.unrecovered, blockLost s nsid lba band off r)
    else
      let s := if degraded then peerServed s nsid lba band off r else s
      let s := noteRecovery s band off step (some r.corrected)
      (.ok { data := cw.data, md := cw.md }, s)

/-- One block read as the host sees it: from the newest cache line, from the map for a deallocated or ZERO block, or from media
(R25, R226). -/
def readBlock (s : State) (n : Namespace) (nsid lba : Nat) (r : BlockRead) : ReadRes × State :=
  match lineOf s.map.lines nsid lba with
  | some l => (.ok { data := l.data, md := l.md }, readLine s l)
  | none =>
    match mapAt s.map.core nsid lba with
    | none => (.ok (zeroBlock n), s)
    | some .zero => (.ok (zeroBlock n), s)
    | some .lost => (.unrecovered, s)
    | some (.mapped b o) => if n.keyUnusable then (.unrecovered, s) else readMapped s n nsid lba b o r

/-- A run of blocks read, the i-th as the i-th answer says. -/
def readBlocks (s : State) (n : Namespace) (nsid lba count : Nat) (media : List BlockRead) : List ReadRes × State :=
  (List.range count).foldl (fun acc i =>
    let (r, s) := readBlock acc.2 n nsid (lba + i) (media.getD i {})
    (acc.1 ++ [r], s)) ([], s)

/-- The blocks of reads that succeeded. -/
def okBlocks (l : List ReadRes) : List BlockData := l.filterMap (fun r => match r with
  | .ok d => some d
  | _ => none)

/-- Whether any read of a list went unrecovered. -/
def anyUnrecovered (l : List ReadRes) : Bool := l.any (· == .unrecovered)
/-- Whether any read of a list failed its guard. -/
def anyGuard (l : List ReadRes) : Bool := l.any (· == .guard)

/-! ### Mirrors and migration (R269, R271, R276, R279, R280) -/

/-- Two lists of spans as one, without repeats. -/
def unionSpans {α : Type} [BEq α] (a b : List α) : List α := b.foldl (fun l x => if l.contains x then l else l ++ [x]) a

/-- The blocks of a changed span that the partner of a synchronous, active mirror lacks: those of the change, unless the whole span is DIRTY
already (R271). -/
def notePart (m : Mirror) (lba count : Nat) (l : List (Nat × List Nat)) (span : Nat) : List (Nat × List Nat) :=
  let changed := ((List.range 256).map (256 * span + ·)).filter (fun x => lba ≤ x && x < lba + count)
  match l.find? (fun p => p.1 == span) with
  | some p => l.map (fun q => if q.1 == span then (span, unionSpans p.2 changed) else q)
  | none => if m.synchronous && m.st == .active && !m.dirty.contains span then l ++ [(span, changed)] else l

/-- A change of a range accepted: DIRTY set on its spans for every mirror and migration that sends the namespace (R269, R277). -/
def noteChange (s : State) (nsid lba count : Nat) : State :=
  let spans := spansOf lba count
  let mirrors := s.halo.mirrors.map (fun m =>
    if !m.secondary && m.localNsid == nsid then { m with dirty := unionSpans m.dirty spans, part := spans.foldl (notePart m lba count) m.part } else m)
  let mig := s.halo.migration.map (fun m =>
    if !m.successor && m.st != .committed then { m with dirty := unionSpans m.dirty (spans.map (fun sp => (nsid, sp))) } else m)
  { s with halo := { s.halo with mirrors := mirrors, migration := mig } }

/-- A Secure Deallocate of a range accepted: its push carries SECURE (R271). -/
def noteSecure (s : State) (nsid lba count : Nat) : State :=
  let spans := spansOf lba count
  let mirrors := s.halo.mirrors.map (fun m =>
    if !m.secondary && m.localNsid == nsid then { m with secureSpans := unionSpans m.secureSpans spans } else m)
  let mig := s.halo.migration.map (fun m =>
    if !m.successor && m.st != .committed then { m with secureSpans := unionSpans m.secureSpans (spans.map (fun sp => (nsid, sp))) } else m)
  noteChange { s with halo := { s.halo with mirrors := mirrors, migration := mig } } nsid lba count

/-- Whether a namespace is the secondary of a mirror (R271). -/
def isSecondary (s : State) (nsid : Nat) : Bool := s.halo.mirrors.any (fun m => m.secondary && m.localNsid == nsid)

/-- Whether a migration session runs that stops namespace management (R276). -/
def migrationRuns (s : State) : Bool := s.halo.migration.elim false (fun m => !m.successor && m.st != .committed)

/-- Whether changes wait for the final phase of a migration (R279). -/
def migrationHolds (s : State) : Bool :=
  s.halo.migration.elim false (fun m => !m.successor && (m.st == .final || m.st == .committing))

/-- Whether the synchronous, active mirrors of a namespace hold every span of a range (R271). -/
def mirroredSync (s : State) (nsid lba count : Nat) : Bool :=
  s.halo.mirrors.all (fun m => m.secondary || m.localNsid != nsid || !m.synchronous || m.st != .active ||
    (spansOf lba count).all (fun sp => !m.dirty.contains sp && !m.inFlight.contains sp))

/-! ### Keys (R221, R224, R225) -/

/-- The live keys in the first entries of both copies, as compaction leaves them (R225). -/
def compactKeys (l : List (Nat × MediaKey)) : List (Nat × MediaKey) := l.zipIdx.map (fun p => (p.1.1, { p.1.2 with slot := p.2 }))

/-- A media key of a namespace made: programmed in both copies, compacting where no entry is free, and loaded in the key unit
(R224, R225). -/
def makeKey (s : State) (nsid gen : Nat) : State :=
  let (k, s) := drawRandom s
  let (iv, s) := drawRandom s
  let x := s.sealing
  let full := 1024 ≤ x.keyEntriesUsed
  let keys := if full then compactKeys x.keys else x.keys
  let used := if full then keys.length else x.keyEntriesUsed
  modNs { s with sealing := { x with
      keys := insert keys nsid { key := k, gen := gen, slot := used, iv := iv.toNat % 2 ^ 96 }, keyEntriesUsed := used + 1
      keyUnit := insert x.keyUnit nsid k } } nsid (fun n => { n with keyGen := gen })

/-- A namespace's key destroyed in both copies and in the key unit (R225). -/
def destroyKey (s : State) (nsid : Nat) : State :=
  { s with sealing := { s.sealing with keys := remove s.sealing.keys nsid, keyUnit := remove s.sealing.keyUnit nsid } }

/-- DEVICE_SERIAL: sixteen uppercase hexadecimal digits, most significant first, and four spaces (R294). -/
def serialText (s : State) : Bytes :=
  ((List.range 16).map (fun i =>
    let d := s.host.serial.toNat / 16 ^ (15 - i) % 16
    BitVec.ofNat 8 (if d < 10 then 48 + d else 55 + d))) ++ List.replicate 4 32#8

end Sys2Proof.Machine
end

