-- ==== Sys2Proof/Machine/SealOps.lean ====
section
/-! DEFINITION. Seals: the Merkle construction, the seal table and store, Seal Records and custody records
(06_integrity_and_seals R228 to R247). -/
namespace Sys2Proof.Machine

/-! ### The Merkle construction (R232, R233) -/

/-- The octets of a digest. -/
def digestBytes (d : Digest) : Bytes := beBytes 32 d.toNat
/-- The octets of a key or a signature. -/
def octets64 (v : BitVec 512) : Bytes := beBytes 64 v.toNat

/-- Level 0, node i (R232). -/
def leafNode (i : Nat) (d : BlockData) : Digest := Config.sm3 (0#8 :: (b8 i ++ padTo 4096 d.data ++ d.md))

/-- One level of the tree from the level below; an odd node is carried up unchanged (R232). -/
def levelUp : List Digest → List Digest
  | a :: b :: t => Config.sm3 (1#8 :: (digestBytes a ++ digestBytes b)) :: levelUp t
  | l => l

/-- Levels raised a number of times. -/
def raiseLevels : Nat → List Digest → List Digest
  | 0, l => l
  | n + 1, l => raiseLevels n (levelUp l)

/-- A level and those above it up to the root, at most `fuel` of them (R233). -/
def levelsFrom : Nat → List Digest → List (List Digest)
  | 0, l => [l]
  | n + 1, l => if l.length ≤ 1 then [l] else l :: levelsFrom n (levelUp l)

/-- The level-8 node of one span whose blocks begin at index i of the range (R232). -/
def spanNode (i : Nat) (blocks : List BlockData) : Digest :=
  (raiseLevels 8 (blocks.zipIdx.map (fun p => leafNode (i + p.2) p.1))).headD 0

/-- The stored levels of a range's blocks: level 8 and above (R233). -/
def sealLevels (blocks : List BlockData) : List (List Digest) :=
  levelsFrom 17 ((List.range (blocks.length / 256)).map (fun j => spanNode (256 * j) ((blocks.drop (256 * j)).take 256)))

/-- The root that stored levels end in. -/
def rootOf (levels : List (List Digest)) : Digest := (levels.getLastD []).headD 0

/-! ### The seal table and store (R234, R235) -/

/-- Bytes of the seal store (R234): exportable capacity over 8,192, in whole map segments. -/
def sealStoreSize (s : State) : Nat := sealStoreSegments s.red.geometry * (8 * gib)

/-- The NSID that the block tags of the seal store carry (R234). -/
def storeNsid : Nat := 0xFFF0

/-- Where a seal's table entry lies in the store: the table takes the first 1 GiB (log entry 261, DESIGN CHOICE). -/
def entryLoc (id : Nat) : Nat := 64 * ((id - 1) % 16777216)

/-- Bytes a seal takes in the store: table entry, stored levels and record. -/
def sealBytes (levels : List (List Digest)) : Nat := 64 + 32 * (levels.map List.length).sum + 224

/-- Seals the table holds at most (R228). -/
def sealLimit : Nat := 16777216

/-- A seal by its identifier. -/
def sealById (s : State) (id : Nat) : Option Seal := s.sealing.seals.find? (fun x => x.id == id)
/-- A seal changed. -/
def modSeal (s : State) (id : Nat) (f : Seal → Seal) : State :=
  { s with sealing := { s.sealing with seals := s.sealing.seals.map (fun x => if x.id == id then f x else x) } }

/-- Whether a range of a namespace meets a span that is being sealed (R229). -/
def beingSealed (s : State) (nsid lba count : Nat) : Bool :=
  s.sealing.seals.any (fun x => x.st == .sealing && x.nsid == nsid && lba < x.slba + 256 * x.spans && x.slba < lba + count)

/-- Whether a change of a range is refused with Sealed Range: a span is sealed or being sealed (R161, R229). -/
def rangeLocked (s : State) (nsid lba count : Nat) : Bool :=
  rangeSealed s.map.core nsid lba count || beingSealed s nsid lba count

/-- Whether a namespace holds a sealed span (R238). -/
def nsSealed (s : State) (nsid : Nat) : Bool := s.map.core.sealed.any (fun p => p.1 / 2 ^ 40 == nsid)

/-- The STATE byte of a seal table entry (R235). -/
def sealStateByte : SealSt → Nat
  | .sealing => 1
  | .issued => 2
  | .unsealed => 3
  | .received => 4

/-- The 64 bytes of a seal table entry (R235). -/
def sealEntry (x : Seal) : Bytes :=
  b8 x.id ++ b4 x.nsid ++ b1 (sealStateByte x.st) ++ b1 x.custody.length ++ b1 x.auditResult ++ b1 0 ++ b8 x.slba ++ b4 x.spans
    ++ b4 x.auditHours ++ b8 x.treeLoc ++ b8 x.recordLoc ++ b4 x.badSpan ++ zeros 12

/-! ### Records (R236, R237, R246) -/

/-- The public seal key (R237). -/
def sealKey : PubKey := Config.devicePublicKey 0
/-- KEY_ID of the seal key (R236). -/
def sealKeyId : Digest := Config.sm3 (octets64 sealKey)

/-- A signature with the seal key at the next draw (R237). -/
def signSeal (s : State) (b : Bytes) : Signature × State := (Config.sm2Sign 0 s.freeCtr b, { s with freeCtr := s.freeCtr + 1 })

/-- The least T_c over the array's carriers (R236 T_C_MIN). -/
def tcMin (s : State) : Nat := ((List.range 16).map (tcOf s)).foldl min (tcOf s 0)

/-- The age of an erase block: the T_c of its carrier less its stamp (R236 AGE_MAX). -/
def blockAge (s : State) (key : Nat) : Nat := tcOf s (carrierOf (channelOfKey key)) - (blockAt s key).stamp

/-- The ages of the erase blocks that hold a block of a range on media (R236 AGE_MAX): for a block of the emergency band, those of
the band's blocks. -/
def rangeAges (s : State) (nsid lba count : Nat) : List Nat :=
  (List.range count).flatMap (fun i =>
    if (lineOf s.map.lines nsid (lba + i)).isSome then []
    else match mapAt s.map.core nsid (lba + i) with
    | some (.mapped band off) =>
      match bandAt s.map.core band with
      | none => []
      | some b => if b.stream = .emergency then b.blocks.map (blockAge s) else [blockAge s (offsetPlace s band b off).1]
    | _ => [])

/-- GUARD of a record (R236). -/
def guardCode (n : Namespace) : Nat := if n.piType = 0 then 0 else if n.lbaf = 2 then 2 else 1

/-- Bytes 0x00 to 0x9F of a Seal Record (R236). -/
def sealRecordHead (s : State) (n : Namespace) (x : Seal) (root : Digest) : Bytes :=
  let count := 256 * x.spans
  ascii "SEAL" ++ b2 1 ++ b2 ((if n.piType != 0 then 1 else 0) + (if s.mbx.mediaEncrypt then 2 else 0)) ++ b8 x.id ++ b4 x.nsid
    ++ b1 (mdSize n.lbaf) ++ b1 n.piType ++ b1 (guardCode n) ++ b1 0 ++ b8 x.slba ++ b8 count ++ digestBytes root
    ++ b8 s.time.calendar.toNat ++ b4 (tcMin s) ++ b4 ((rangeAges s x.nsid x.slba count).foldl max 0) ++ b4 (opHours s) ++ b4 0
    ++ serialText s ++ zeros 12 ++ digestBytes sealKeyId

/-- A Seal Record signed (R236, R237). -/
def makeSealRecord (s : State) (n : Namespace) (x : Seal) (root : Digest) : Bytes × State :=
  let head := sealRecordHead s n x root
  let (sig, s) := signSeal s head
  (head ++ octets64 sig, s)

/-- ROOT of a Seal Record. -/
def recordRoot (r : Bytes) : Digest := BitVec.ofNat 256 (ofBE (slice r 0x28 32))

/-- A 64-byte octet string read as a signature. -/
def signatureAt (r : Bytes) (off : Nat) : Signature := BitVec.ofNat 512 (ofBE (slice r off 64))

/-- A custody record signed by this controller as receiver (R245, R246). -/
def makeCustody (s : State) (hop sealId prev : Nat) (piChecked : Bool) (root : Digest) (nsid slba : Nat) : Bytes × State :=
  let head := ascii "CSTD" ++ b2 1 ++ b1 hop ++ b1 (if piChecked then 1 else 0) ++ b8 sealId ++ beBytes 32 prev ++ digestBytes root
    ++ b4 nsid ++ b4 (opHours s) ++ b8 slba ++ b8 s.time.calendar.toNat ++ b4 (tcMin s) ++ b4 0 ++ serialText s ++ digestBytes sealKeyId
    ++ zeros 28
  let (sig, s) := signSeal s head
  (head ++ octets64 sig, s)

/-- Lines of a range bound to Stratus (R143, R230). -/
def bindStratus (ls : List CacheLine) (nsid lba count : Nat) : List CacheLine :=
  ls.map (fun l => if l.nsid == nsid && lba ≤ l.lba && l.lba < lba + count && l.st == .dirty then { l with stratus := true } else l)

/-- The nodes of a seal's stored levels, as the store holds them (R233). -/
def treeBytes (x : Seal) : Bytes := x.levels.flatten.flatMap digestBytes

/-- What the seals put into the store, by offset: table entry, stored levels, Seal Record and custody records (R234). -/
def storePieces (s : State) : List (Nat × Bytes) :=
  s.sealing.seals.flatMap (fun x =>
    [(entryLoc x.id, sealEntry x), (x.treeLoc, treeBytes x), (x.recordLoc, x.record ++ x.custody.flatten)])

/-- A block of the store. -/
def storeBlock (s : State) (i : Nat) : BlockData :=
  { data := (storePieces s).foldl (fun b p =>
      let lo := max p.1 (4096 * i)
      let hi := min (p.1 + p.2.length) (4096 * i + 4096)
      if lo < hi then overlay b (lo - 4096 * i) ((p.2.drop (lo - p.1)).take (hi - lo)) else b) (zeros 4096) }

/-- The blocks that hold a run of the store written through the Stratus stream (R234). -/
def storeWrite (s : State) (off len : Nat) : State :=
  if len = 0 then s
  else (List.range ((off + len - 1) / 4096 + 1 - off / 4096)).foldl (fun s i =>
    cacheWrite s storeNsid (off / 4096 + i) [storeBlock s (off / 4096 + i)] none true) s

/-- A seal's table entry written to the store. -/
def writeSealEntry (s : State) (id : Nat) : State := storeWrite s (entryLoc id) 64

/-- A seal's stored levels, record and custody records written to the store, and its table entry (R230 steps 2 and 4, R245). -/
def writeSeal (s : State) (x : Seal) : State :=
  writeSealEntry (storeWrite (storeWrite s x.treeLoc (treeBytes x).length) x.recordLoc (x.record.length + 256 * x.custody.length)) x.id

/-- Whether a block of a run of the store is LOST. -/
def storeLost (s : State) (off len : Nat) : Bool :=
  (List.range (divCeil (off % 4096 + len) 4096)).any (fun i => mapAt s.map.core storeNsid (off / 4096 + i) == some .lost)

/-- A failed seal's entry taken out, its stored levels freed (R231). -/
def dropSeal (s : State) (id : Nat) : State :=
  writeSealEntry { s with sealing := { s.sealing with seals := s.sealing.seals.filter (fun x => x.id != id) } } id

/-- Bytes of the seal store in use. -/
def sealStoreUsed (s : State) : Nat := (s.sealing.seals.map (fun x => sealBytes x.levels + 256 * x.custody.length)).sum

/-- SEAL or UNSEAL journalled for a seal's range, SEALED set or cleared on its spans (R230, R240). -/
def journalSeal (s : State) (x : Seal) (on : Bool) : State :=
  let (msn, s) := takeMsn s 1
  let s := setCore s (sealSpans s.map.core x.nsid (x.slba / 256) x.spans on)
  addRecords s [{ type := if on then .sealed else .unsealed, nsid := x.nsid, count := x.spans, lba := x.slba / 256, msn := msn }]

/-- Whether a seal's SEAL or UNSEAL record still waits in the tail buffer. -/
def sealJournalWaits (s : State) (x : Seal) : Bool :=
  s.map.tail.any (fun r => (r.type == .sealed || r.type == .unsealed) && r.nsid == x.nsid && r.lba == x.slba / 256)

/-! ### Auditing (R242 to R244) -/

/-- How one span of an audit ended: 1 passed, 2 passed after repair, 3 mismatch, 4 unreadable. -/
structure SpanAudit where
  index : Nat := 0
  result : Nat := 1
  /-- The means of a repair: 1 outer parity, 2 a Halo partner. -/
  means : Nat := 0
  deriving DecidableEq, Repr

/-- Whether a span's reads pass R242's checks and give the stored node. -/
def spanMatches (n : Namespace) (x : Seal) (index : Nat) (rs : List ReadRes) : Bool :=
  let lba := x.slba + 256 * index
  let bs := okBlocks rs
  bs.length == 256 && (firstPiFailure n (sealAsk n lba) bs).isNone && spanNode (256 * index) bs == ((x.levels.headD [])[index]?).getD 0

/-- The mapped blocks of a span gathered for Nimbus with conditional commits, each as a read of it answers (R28, R199, R243). -/
def rewriteSpan (s : State) (nsid lba : Nat) (reads : Nat → BlockRead) : State :=
  (List.range 256).foldl (fun s i =>
    match mapAt s.map.core nsid (lba + i) with
    | some (.mapped b o) => collectBlock s b ((nsid, lba + i, o), reads i)
    | _ => s) s

/-- One span of a seal audited (R242, R243): `media` answers its blocks, `peer` is the span as a Halo partner returns it. A span that does not match
is read again with every unit reconstructed from outer parity, then taken from the partner. -/
def auditSpan (s : State) (n : Namespace) (x : Seal) (index : Nat) (media : List BlockRead) (peer : List BlockData) : SpanAudit × State :=
  let lba := x.slba + 256 * index
  let (rs, s) := readBlocks s n x.nsid lba 256 media
  if anyUnrecovered rs then ({ index := index, result := 4 }, s)
  else if spanMatches n x index rs then ({ index := index, result := 1 }, s)
  else
    let again := fun i => { media.getD i {} with step := 5, here := true }
    let (rs, s) := readBlocks s n x.nsid lba 256 ((List.range 256).map again)
    if spanMatches n x index rs then ({ index := index, result := 2, means := 1 }, rewriteSpan s x.nsid lba again)
    else if partnerHolds s x.nsid lba && spanMatches n x index (peer.map .ok) then
      ({ index := index, result := 2, means := 2 }, rewriteSpan s x.nsid lba (fun i => { step := 6, peer := peer.getD i {} }))
    else ({ index := index, result := 3 }, s)

/-- The records of an audit's spans: a Fault for each repaired one, a Critical for each mismatch (R243). -/
def auditRecords (s : State) (id : Nat) (l : List SpanAudit) : State :=
  l.foldl (fun s a =>
    if a.result = 2 then record s 0x0703 .fault (b8 id ++ b4 a.index)
    else if a.result = 3 then record s 0x0703 .critical (b8 id ++ b4 a.index) else s) s

/-- What an audit's findings rank to (R243). -/
def auditRank (l : List SpanAudit) : Nat :=
  if l.any (fun a => a.result == 3) then 3 else if l.any (fun a => a.result == 4) then 4
  else if l.any (fun a => a.result == 2) then 2 else 1

/-- Whether the stored levels above level 8 follow from it and end in ROOT (R242 step 3). -/
def levelsHold (x : Seal) : Bool :=
  levelsFrom 17 (x.levels.headD []) == x.levels && rootOf x.levels == recordRoot x.record

/-- Whether the signature this controller made over a seal verifies with its own key (R242 step 3): the Seal Record's, or for a
RECEIVED seal that of its newest custody record. -/
def recordVerifies (x : Seal) : Bool :=
  if x.st = .received then
    let c := x.custody.getLastD []
    Config.sm2Verify sealKey (slice c 0 0xC0) (signatureAt c 0xC0)
  else Config.sm2Verify sealKey (slice x.record 0 0xA0) (signatureAt x.record 0xA0)

/-- The stored levels recomputed from the data of the whole seal where they do not hold or cannot be read (R244): rewritten with a Notice record,
or none where the data does not reproduce ROOT either. -/
def repairLevels (s : State) (n : Namespace) (x : Seal) : Option State × State :=
  if levelsHold x && !storeLost s x.treeLoc (treeBytes x).length then (some s, s)
  else
    let (rs, s) := readBlocks s n x.nsid x.slba (256 * x.spans) []
    let levels := sealLevels (okBlocks rs)
    if (okBlocks rs).length = 256 * x.spans && rootOf levels == recordRoot x.record then
      let s := modSeal s x.id (fun y => { y with levels := levels })
      (some (record (storeWrite s x.treeLoc (treeBytes x).length) 0x0704 .notice (b4 x.nsid ++ b8 x.slba)), s)
    else (none, s)

end Sys2Proof.Machine
end

