-- ==== Sys2Proof/Machine/NvmeOps.lean ====
section
/-! DEFINITION. The Queue Engine (09_command_queues R316 to R325, R331; 08 R288, R300): commands, their order, their outcomes,
completions, events and interrupts. -/
namespace Sys2Proof.Machine

/-! ### Functions, controllers and queues -/

/-- A function's PCI state. -/
def funcAt (s : State) (fn : Nat) : PciFunc := vget s.host.func {} fn
/-- A function's PCI state changed. -/
def modFunc (s : State) (fn : Nat) (f : PciFunc → PciFunc) : State :=
  { s with host := { s.host with func := vset s.host.func fn (f (funcAt s fn)) } }
/-- A controller. -/
def ctrlAt (s : State) (fn : Nat) : Ctrl := vget s.nvme.ctrl {} fn
/-- A controller changed. -/
def modCtrl (s : State) (fn : Nat) (f : Ctrl → Ctrl) : State :=
  { s with nvme := { s.nvme with ctrl := vset s.nvme.ctrl fn (f (ctrlAt s fn)) } }
/-- A submission queue. -/
def sqAt (s : State) (fn q : Nat) : Option SubQueue := lookup (ctrlAt s fn).sqs q
/-- A submission queue changed, where it exists. -/
def modSq (s : State) (fn q : Nat) (f : SubQueue → SubQueue) : State :=
  match sqAt s fn q with
  | none => s
  | some x => modCtrl s fn (fun c => { c with sqs := insert c.sqs q (f x) })
/-- A VF's manager state (R348, R349). -/
def vfAt (s : State) (n : Nat) : VfState := vget s.vf {} (n - 1)
/-- A VF's manager state changed. -/
def modVf (s : State) (n : Nat) (f : VfState → VfState) : State := { s with vf := vset s.vf (n - 1) (f (vfAt s n)) }

/-- Whether a function exists: the PF, or a VF that VF Enable has created (R349). -/
def funcExists (s : State) (fn : Nat) : Bool := fn == 0 || (vfAt s fn).st != .none

/-- Whether a function may issue requests: bus master, D0, the link up, no reset under way (R301, R307, R308). -/
def mayRequest (s : State) (fn : Nat) : Bool :=
  (funcAt s fn).busMaster && (funcAt s fn).d == .d0 && !(funcAt s fn).flrWait && !s.host.perst && s.host.linkUp && funcExists s fn

/-- The largest memory write the device issues: the programmed Max Payload Size, never above 512 B (R299). -/
def maxPayload (s : State) : Nat := min 512 (128 * 2 ^ (funcAt s 0).mps)
/-- The largest memory read the device issues: the programmed Max Read Request Size, up to 4,096 B (R299). -/
def maxReadRequest (s : State) : Nat := min 4096 (128 * 2 ^ (funcAt s 0).mrrs)
/-- Non-posted requests that all functions together hold outstanding at most (R299). -/
def requestLimit (s : State) : Nat := if (funcAt s 0).tag10 then 768 else 256

/-- A transfer of a number of bytes cut into pieces of at most a size. -/
def splitTlps (size together n : Nat) : TlpSplit := { size := size, full := n / size, rest := n % size, together := min together (divCeil n size) }

/-- Bytes written to host memory, as memory writes (R299). -/
def noteHostWrite (s : State) (n : Nat) : State :=
  if n = 0 then s
  else { s with host := { s.host with lastWrite := splitTlps (maxPayload s) (divCeil n (maxPayload s)) n } }

/-- Bytes read from host memory, as memory reads (R299). -/
def noteHostRead (s : State) (n : Nat) : State :=
  if n = 0 then s else { s with host := { s.host with lastRead := splitTlps (maxReadRequest s) (requestLimit s) n } }

/-- Bytes returned for a host read of a BAR, as completions of at most 64 B (R299). -/
def noteCompletion (s : State) (n : Nat) : State :=
  { s with host := { s.host with lastCompletion := splitTlps 64 (divCeil n 64) n } }

/-- I/O queue pairs and MSI-X vectors of a function (R289, R343). -/
def queuePairs (fn : Nat) : Nat := if fn = 0 then 128 else 32
/-- MSI-X vectors of a function (R292, R296). -/
def vectorsOf (fn : Nat) : Nat := if fn = 0 then 2048 else 64

/-! ### Interrupts and wake (R288, R300, R302) -/

/-- Whether a vector of a function is masked: Function Mask, or bit 0 of its Vector Control, which resets to 1. -/
def vectorMasked (f : PciFunc) (v : Nat) : Bool := f.msixMask || (readAt 1#32 f.msixTable (4 * v + 3)) &&& 1 == 1

/-- The link leaves L1 for a transfer, with CLKREQ# asserted (R298). -/
def leaveL1 (s : State) : State := { s with host := { s.host with l1 := false, clkreqReleased := false } }

/-- An MSI-X message sent, or its Pending bit set while the vector is masked (R300). Nothing is sent while MSI-X is disabled or
the function may issue no request (R288, R307). -/
def sendMsix (s : State) (fn v : Nat) : State :=
  let f := funcAt s fn
  if !f.msixEnable || !mayRequest s fn then s
  else if vectorMasked f v then modFunc s fn (fun f => { f with pba := unionSpans f.pba [v] })
  else leaveL1 (modFunc s fn (fun f => { f with messages := f.messages ++ [v] }))

/-! ### Outcomes (R316, R329, R331) -/

/-- Success. -/
def cplOk : Cpl := {}
/-- A generic status. -/
def cplGen (sc : Nat) : Cpl := { sct := 0, sc := sc }
/-- A command-specific status. -/
def cplCmd (sc : Nat) : Cpl := { sct := 1, sc := sc }
/-- A media error. -/
def cplMedia (sc : Nat) : Cpl := { sct := 2, sc := sc }
/-- A vendor status of R16. -/
def cplVendor (sc : Nat) : Cpl := { sct := 7, sc := sc }
/-- Invalid Command Opcode. -/
def invalidOpcode : Cpl := cplGen 0x01
/-- Invalid Field in Command. -/
def invalidField : Cpl := cplGen 0x02
/-- Data Transfer Error. -/
def transferError : Cpl := cplGen 0x04
/-- Command Abort Requested. -/
def abortRequested : Cpl := cplGen 0x07
/-- Invalid Namespace or Format. -/
def invalidNs : Cpl := cplGen 0x0B
/-- Command Sequence Error. -/
def sequenceError : Cpl := cplGen 0x0C
/-- Sanitize In Progress. -/
def sanitizing : Cpl := cplGen 0x1D
/-- LBA Out of Range. -/
def lbaRange : Cpl := cplGen 0x80
/-- Capacity Exceeded. -/
def capacityExceeded : Cpl := cplGen 0x81
/-- Sealed Range (R16). -/
def sealedRange : Cpl := cplVendor 0xC0
/-- Unrecovered Read Error. -/
def unrecovered : Cpl := cplMedia 0x81
/-- End-to-end Guard Check Error. -/
def guardError : Cpl := cplMedia 0x82
/-- Namespace Not Ready with Array Held (R331). -/
def arrayHeld : Cpl := { sct := 0, sc := 0x82, dnr := some true, dw0 := 0x7C2 }
/-- Namespace Not Ready for a successor's namespace or a missing array (R331). -/
def notReadyNs : Cpl := { sct := 0, sc := 0x82, dnr := some false }
/-- Namespace is Write Protected in HELD_READ_ONLY (R331). -/
def heldReadOnlyCpl : Cpl := { sct := 0, sc := 0x20, dnr := some true, dw0 := 0x7C2 }
/-- Namespace is Write Protected for a secondary, a source after the commit or a locked namespace (R331, R354). -/
def writeProtected : Cpl := { sct := 0, sc := 0x20, dnr := some true }
/-- Thermal Hold (R332). -/
def thermalHold : Cpl := { sct := 7, sc := 0xC1, dnr := some false }

/-! ### Commands in their queues (R319) -/

/-- A fetched command that is not posted. -/
def cmdAt (s : State) (c : CmdRef) : Option Fetched :=
  (sqAt s c.fn c.sq).bind (fun q => q.cmds.find? (fun f => f.sqe.cid == c.cid))

/-- A fetched command changed. -/
def modCmd (s : State) (c : CmdRef) (f : Fetched → Fetched) : State :=
  modSq s c.fn c.sq (fun q => { q with cmds := q.cmds.map (fun x => if x.sqe.cid == c.cid then f x else x) })

/-- The commands of its queue that come before a command; an outstanding Asynchronous Event Request holds up nothing (R350). -/
def earlier (s : State) (c : CmdRef) : List Fetched :=
  ((sqAt s c.fn c.sq).elim [] (fun q => q.cmds.takeWhile (fun f => f.sqe.cid != c.cid))).filter
    (fun f => !(c.sq == 0 && f.sqe.opc == 0x0C))

/-- Whether every earlier command of the queue has taken effect or ended, so that this one may (R319). -/
def inTurn (s : State) (c : CmdRef) : Bool := (earlier s c).all (fun f => f.effect || f.done.isSome)

/-- A command ends with an outcome; it is posted in its turn (R319). -/
def endCmd (s : State) (c : CmdRef) (o : Cpl) : State := modCmd s c (fun f => { f with done := some o })

/-- A command takes effect and ends with an outcome. -/
def takeEffect (s : State) (c : CmdRef) (o : Cpl) : State := modCmd s c (fun f => { f with effect := true, done := some o })

/-- Data written to host memory for a command. -/
def putData (s : State) (c : CmdRef) (out : List BlockData) : State := modCmd s c (fun f => { f with out := out })

/-- PRP Offset Invalid. -/
def prpOffset : Cpl := cplGen 0x13

/-- Whether the PRP entries of a transfer break the page boundaries of the PRP rules (R325), which are NVM Express's (log entry 41, PRESUMED):
the first entry is dword-aligned, a second is a page's first byte, and a list is qword-aligned. -/
def prpBad (s : State) (fn : Nat) (q : Sqe) (bytes : Nat) : Bool :=
  let page := 4096 * 2 ^ ((ctrlAt s fn).cc.toNat / 128 % 16)
  let first := page - q.prp1 % page
  !q.sgl && bytes != 0 && (q.prp1 % 4 != 0 || (decide (first < bytes) && (if bytes ≤ first + page then q.prp2 % page != 0
    else q.prp2 % 8 != 0 || !q.prpListOk)))

/-- A command that writes one run of bytes to the host and succeeds, unless its PRP entries break their rules (R325). -/
def answer (s : State) (c : CmdRef) (bytes : Bytes) : State :=
  if (cmdAt s c).elim false (fun f => prpBad s c.fn f.sqe bytes.length) then endCmd s c prpOffset
  else takeEffect (putData s c [{ data := bytes }]) c cplOk

/-- A row's meaning: its command is fetched, has the row's opcode and queue, has not ended, and the DRAM is not frozen (R408). -/
def onCommand (s : State) (c : CmdRef) (admin : Bool) (opc : Nat) (k : Fetched → State → State) : State :=
  match cmdAt s c with
  | none => s
  | some f => if f.sqe.opc == opc && (c.sq == 0) == admin && f.done.isNone && !s.dram.frozen then k f s else s

/-- A row's meaning for a command whose turn it is to take effect (R319). -/
def onTurn (s : State) (c : CmdRef) (admin : Bool) (opc : Nat) (k : Fetched → State → State) : State :=
  onCommand s c admin opc (fun f s => if inTurn s c then k f s else s)

/-! ### The acceptance of I/O commands (R201, R271, R276, R280, R331, R334, R354) -/

/-- Whether a Sanitize runs (R334). -/
def sanitizeRuns (s : State) : Bool := s.nvme.sanitize.running != 0

/-- Why an I/O command to a namespace is refused before its own checks. -/
def ioRefusal (s : State) (fn nsid : Nat) (writes : Bool) : Option Cpl :=
  if sanitizeRuns s then some sanitizing
  else
    match nsAt s nsid with
    | none => some invalidNs
    | some n =>
      if !n.attached.contains fn then some invalidNs
      else if s.red.st = .none then some notReadyNs
      else if n.notReady then some notReadyNs
      else if s.red.st = .held then some arrayHeld
      else if writes && s.red.st = .heldReadOnly then some heldReadOnlyCpl
      else if writes && (isSecondary s nsid || n.protectedAfterCommit || n.locked) then some writeProtected
      else if writes && n.keyUnusable then some writeProtected
      else none

/-- NLB of Read, Write, Verify and Write Zeroes (0-based, 16 bits). -/
def nlbOf (q : Sqe) : Nat := q.cdw12 % 65536 + 1
/-- SLBA. -/
def slbaOf (q : Sqe) : Nat := q.cdw10 + q.cdw11 * 2 ^ 32
/-- NLB of the vendor commands (32 bits, not 0-based) (R327). -/
def vendorNlb (q : Sqe) : Nat := q.cdw12

/-- The most blocks a Read or Write may transfer (R324). -/
def maxBlocks (n : Namespace) : Nat := if !n.extended then 512 else if n.lbaf = 1 then 510 else if n.lbaf = 2 then 504 else 512

/-- Bytes that a Read or Write of a number of blocks transfers through its data pointer. -/
def transferBytes (n : Namespace) (blocks : Nat) : Nat := blocks * (4096 + if n.extended then mdSize n.lbaf else 0)

/-- Whether an SGL describes less than a transfer (R325). -/
def sglShort (q : Sqe) (bytes : Nat) : Bool := q.sgl && q.sglBytes < bytes

/-- Whether a separate metadata buffer is not dword-aligned (R318). -/
def mptrBad (q : Sqe) (n : Namespace) : Bool := !n.extended && mdSize n.lbaf != 0 && q.mptr % 4 != 0

/-- What fails a Read or Write before its data moves (R318, R324, R325). -/
def transferRefusal (s : State) (fn : Nat) (q : Sqe) (n : Namespace) : Option Cpl :=
  if maxBlocks n < nlbOf q then some invalidField
  else if mptrBad q n then some invalidField
  else if n.nsze < slbaOf q + nlbOf q then some lbaRange
  else if sglShort q (transferBytes n (nlbOf q)) then some (cplGen 0x0F)
  else if prpBad s fn q (transferBytes n (nlbOf q)) then some prpOffset
  else none

/-! ### Asynchronous events (R302, R316, R317) -/

/-- An asynchronous event: it completes an outstanding request, or waits for one; a type that is masked is not raised again until
its log page is read. -/
def raiseEvent (s : State) (fn type info log : Nat) : State :=
  let c := ctrlAt s fn
  if c.maskedEvents.contains type || c.events.any (fun e => e == (type, info, log)) then s
  else
    match c.aers with
    | [] => modCtrl s fn (fun c => { c with events := c.events ++ [(type, info, log)] })
    | cid :: rest =>
      let s := modCtrl s fn (fun c => { c with aers := rest, maskedEvents := c.maskedEvents ++ [type] })
      endCmd s { fn := ⟨fn % 128, Nat.mod_lt _ (by decide)⟩, sq := 0, cid := cid }
        { cplOk with dw0 := type + info * 256 + log * 65536 }

/-- A SMART / Health Status event where the changed Critical Warning bits are enabled: also a wake event (R302, R340). -/
def healthEvent (s : State) (changed info : Nat) : State :=
  let asks := fun fn => (ctrlAt s fn).rdy && BitVec.ofNat 8 (ctrlAt s fn).aec &&& BitVec.ofNat 8 changed != 0
  let fns := (List.range 128).filter asks
  if fns.isEmpty then s else signalPme (fns.foldl (fun s fn => raiseEvent s fn 1 info 2) s)

/-- Namespace Attribute Changed to the controllers that a change concerns (R333, R346). -/
def nsChanged (s : State) (fn nsid : Nat) : State :=
  let s := modCtrl s fn (fun c => { c with changedNs := unionSpans c.changedNs [nsid] })
  if (ctrlAt s fn).rdy && (ctrlAt s fn).aec / 256 % 2 == 1 then raiseEvent s fn 2 0 4 else s

/-! ### Posting (R216, R319, R320, R446) -/

/-- Error Information entries a controller keeps (R317, R355). -/
def errorDepth (fn : Nat) : Nat := if fn = 0 then 256 else 64

/-- Whether an outcome counts in Media and Data Integrity Errors (R216). -/
def integrityError (opc : Nat) (o : Cpl) : Bool :=
  (o.sct == 2 && o.sc == 0x81) || (o.sct == 2 && 0x82 ≤ o.sc && o.sc ≤ 0x84 && opc != 1) || (o.sct == 7 && o.sc == 0xC3)

/-- A completion queue's room: entries written and not yet consumed leave at least one slot free. -/
def cqRoom (q : CplQueue) : Bool := (q.tail + 1) % max 1 q.size != q.head

/-- Whether a write's completion may be posted (R271, R446): in write-through no line of it is left without a durable MAP record,
and the synchronous mirrors of its namespace hold its spans. -/
def writePostable (s : State) (c : CmdRef) (f : Fetched) : Bool :=
  let q := f.sqe
  (!s.pwr.writeThrough || s.map.lines.all (fun l => l.provisional != some c || l.st == .clean))
    && mirroredSync s q.nsid (slbaOf q) (nlbOf q)

/-- Whether a command's completion may be posted now: it has ended, nothing comes before it in its queue, and a write meets the
conditions of its own (R319). -/
def postable (s : State) (c : CmdRef) (f : Fetched) : Bool :=
  f.done.isSome && (earlier s c).isEmpty && mayRequest s c.fn && !s.dram.frozen && !(ctrlAt s c.fn).cfs
    && (f.sqe.opc != 1 || c.sq == 0 || f.done != some cplOk || writePostable s c f)

/-- Counters of SMART for a command that ends (R340). -/
def countCommand (s : State) (c : CmdRef) (f : Fetched) (o : Cpl) : State :=
  let n := s.nvme
  if c.sq = 0 || o != cplOk then s
  else if f.sqe.opc = 2 then { s with nvme := { n with cmdsRead := n.cmdsRead + 1, blocksRead := n.blocksRead + nlbOf f.sqe } }
  else if f.sqe.opc = 1 then { s with nvme := { n with cmdsWritten := n.cmdsWritten + 1, blocksWritten := n.blocksWritten + nlbOf f.sqe } }
  else s

/-- An error logged (R317): the entry with its Error Count, newest first. -/
def logError (s : State) (c : CmdRef) (f : Fetched) (o : Cpl) : State :=
  modCtrl s c.fn (fun k =>
    let n := k.errorCount + 1
    { k with errorCount := n, errorLog := ({ count := n, sq := c.sq, cid := c.cid, status := o.sct * 256 + o.sc
                                             lba := slbaOf f.sqe, nsid := f.sqe.nsid } :: k.errorLog).take (errorDepth c.fn) })

/-- The entry written to a completion queue, the queue advanced, and its interrupt (R300, R319). -/
def writeCqe (s : State) (c : CmdRef) (f : Fetched) (o : Cpl) : State :=
  match sqAt s c.fn c.sq with
  | none => s
  | some q =>
    match lookup (ctrlAt s c.fn).cqs q.cqid with
    | none => s
    | some k =>
      let k' := { k with
        posted := k.posted ++ [{ sq := c.sq, cid := c.cid, sqHead := q.head, phase := k.phase, cpl := o, out := f.out }]
        tail := (k.tail + 1) % max 1 k.size, phase := if k.tail + 1 = k.size then !k.phase else k.phase }
      let s := noteHostWrite s ((f.out.map (fun b => b.data.length + b.md.length)).sum)
      let s := leaveL1 (modCtrl s c.fn (fun x => { x with cqs := insert x.cqs q.cqid k' }))
      if k.ien then sendMsix s c.fn k.iv else s

/-- A completion posted (R319, R320): the write's lines are acknowledged, errors are logged and counted, the entry is written, and
the command is gone. -/
def postCompletionOf (s : State) (c : CmdRef) (f : Fetched) (o : Cpl) : State :=
  let s := { s with map := { s.map with lines := postLines s.map.lines c } }
  let s := if integrityError f.sqe.opc o && c.sq != 0 then
      { s with sealing := { s.sealing with integrityErrors := s.sealing.integrityErrors + 1 } } else s
  let s := countCommand s c f o
  let s := if o.sct = 0 && o.sc = 0 then s else logError s c f o
  let s := writeCqe s c f o
  let s := modSq s c.fn c.sq (fun q => { q with cmds := q.cmds.filter (fun x => x.sqe.cid != c.cid) })
  { s with nvme := { s.nvme with idleSinceMs := s.time.opMs } }

/-- Whether the completion queue of a command has room. -/
def cqHasRoom (s : State) (c : CmdRef) : Bool :=
  ((sqAt s c.fn c.sq).bind (fun q => lookup (ctrlAt s c.fn).cqs q.cqid)).elim false cqRoom

/-- COMPLETION_POST's effect. -/
def postNow (s : State) (c : CmdRef) : State :=
  match cmdAt s c with
  | none => s
  | some f =>
    match f.done with
    | none => s
    | some o => if postable s c f && cqHasRoom s c then postCompletionOf s c f o else s

/-! ### Ends of work in progress (R201, R231, R320, R322) -/

/-- A command's place in the line of admission given up. -/
def leaveLine (s : State) (c : CmdRef) : State := { s with nvme := { s.nvme with line := s.nvme.line.filter (· != c) } }

/-- A Seal abandoned: the marks, the stored levels and the entry go (R231). -/
def abandonSeal (s : State) (f : Fetched) : State :=
  match sealById s f.sealId with
  | some x => if x.st = .sealing then dropSeal s x.id else modSeal s x.id (fun y => { y with busy := false })
  | none => s

/-- A command terminated inside the controller: a write's provisional lines are dropped, a Seal or Audit Range is abandoned (R231,
R320, R323). A Secure Deallocate past its first step runs on (R351): its range stays to be erased. -/
def terminate (s : State) (c : CmdRef) (f : Fetched) : State :=
  let s := leaveLine s c
  let s := { s with map := { s.map with lines := dropLines s.map.lines c } }
  if c.sq != 0 && (f.sqe.opc == 0x81 || f.sqe.opc == 0x8D) && f.done.isNone then abandonSeal s f
  else if c.sq != 0 && f.sqe.opc == 0x85 && f.begun && f.done.isNone then
    { s with map := { s.map with secureJobs := s.map.secureJobs ++ [(f.sqe.nsid, slbaOf f.sqe, vendorNlb f.sqe)] } }
  else s

/-- Every command of a controller terminated, without completions. -/
def terminateAll (s : State) (fn : Func) : State :=
  let all := (ctrlAt s fn).sqs.flatMap (fun p => p.2.cmds.map (fun f => (({ fn := fn, sq := p.1, cid := f.sqe.cid } : CmdRef), f)))
  let s := all.foldl (fun s p => terminate s p.1 p.2) s
  modCtrl s fn (fun c => { c with sqs := c.sqs.map (fun p => (p.1, { p.2 with cmds := [] })), aers := [] })

/-- Commands of a controller that are fetched and not posted, Asynchronous Event Requests left out (R350). -/
def outstanding (s : State) (fn : Nat) : Nat :=
  ((ctrlAt s fn).sqs.map (fun p => p.2.cmds.countP (fun f => !(p.1 == 0 && f.sqe.opc == 0x0C)))).sum

/-- The device-wide features of the PF's controller at their reset values (R337 to R339). -/
def resetFeatures (n : NvmeState) : NvmeState :=
  { n with powerSelected := 0, powerReturn := 0, apstEnable := false, apst := [], tmt1 := 0, tmt2 := 0 }

/-- A running self-test ended with a result code of the specification (R342). -/
def endSelfTest (s : State) (code segment : Nat) : State :=
  let t := s.nvme.selfTest
  if t.kind = 0 then s
  else { s with nvme := { s.nvme with selfTest := { results := ((t.kind * 16 + code, segment, opHours s, t.nsid) :: t.results).take 20 } } }

/-- What a reset of a function's controller ends besides its commands: a self-test it started, and on the PF the staged package and
the features (R342, R505). -/
def endWithController (s : State) (fn : Nat) : State :=
  let s := if s.nvme.selfTest.kind != 0 && s.nvme.selfTest.fn == fn then endSelfTest s 2 s.nvme.selfTest.segment else s
  if fn = 0 then { s with fw := { s.fw with staged := [] }, nvme := resetFeatures s.nvme } else s

/-- A controller's registers and queues as a controller reset leaves them; AQA, ASQ and ACQ are kept (R320). -/
def resetController (s : State) (fn : Func) : State :=
  let s := endWithController (terminateAll s fn) fn
  modCtrl s fn (fun c => { aqa := c.aqa, asq := c.asq, acq := c.acq, errorLog := c.errorLog, errorCount := c.errorCount
                           fetchStopped := c.fetchStopped, shst := 0 })

/-- A controller's ready bit (R348, R385): CC.EN is set, intake is open, and the controller is the PF's or an online VF's. -/
def settleReady (s : State) (fn : Nat) : State :=
  let c := ctrlAt s fn
  if c.cc &&& 1 == 1 && !c.rdy && s.boot.intake && (fn == 0 || ((vfAt s fn).st != .none && (vfAt s fn).st != .offline)) then
    modCtrl s fn (fun c =>
      let a := c.aqa.toNat
      { c with rdy := true
               sqs := insert c.sqs 0 { base := c.asq.toNat, size := a % 4096 + 1, cqid := 0 }
               cqs := insert c.cqs 0 { base := c.acq.toNat, size := a / 65536 % 4096 + 1, iv := 0, ien := true } })
  else s

/-- Whether the whole device is idle: no command outstanding, no unfetched entry, no mailbox command (R337). -/
def deviceIdle (s : State) : Bool :=
  (List.range 128).all (fun fn => (ctrlAt s fn).sqs.all (fun p => p.2.head == p.2.tail
    && p.2.cmds.all (fun f => p.1 == 0 && f.sqe.opc == 0x0C)))
    && s.mbx.boxes.all (fun p => p.2.exec.isNone)

end Sys2Proof.Machine
end

