-- ==== Sys2Proof/Machine/NvmeIo.lean ====
section
/-! DEFINITION. Queues and I/O commands (09_command_queues R316 to R332; 04 R150, R160 to R164; 06 R228 to R244): doorbells, fetching,
writes and their admission, reads, deallocations, the vendor commands, completion posts, and queue creation and deletion. -/
namespace Sys2Proof.Machine

/-! ### Doorbells and fetching -/

/-- Whether doorbells of a function are recorded and not acted on: a handover's stall, or quiescing (R310, R350). -/
def doorbellsRecorded (s : State) (fn : Nat) : Bool :=
  s.fw.intakeStalled || (fn != 0 && ((vfAt s fn).st == .quiescing || (vfAt s fn).st == .quiesced || (vfAt s fn).st == .saved))

/-- A tail doorbell acted on; from then on the reported latency tolerance is 20 µs (R298). -/
def setTail (s : State) (fn q value : Nat) : State :=
  let s := modSq s fn q (fun x => if value < x.size then { x with tail := value } else x)
  { s with host := { s.host with ltrUs := 20 } }

/-- A head doorbell acted on. -/
def setHead (s : State) (fn q value : Nat) : State :=
  modCtrl s fn (fun c => match lookup c.cqs q with
    | some k => if value < k.size then { c with cqs := insert c.cqs q { k with head := value } } else c
    | none => c)

/-- The doorbells recorded in a stall acted on, in their order (R310, R349). -/
def replayDoorbells (s : State) (fn : Nat) : State :=
  let l := (ctrlAt s fn).recorded
  l.foldl (fun s d => if d.1 then setHead s fn d.2.1 d.2.2 else setTail s fn d.2.1 d.2.2) (modCtrl s fn (fun c => { c with recorded := [] }))

/-- A doorbell write of a function (R289, R290). -/
def doorbell (s : State) (fn : Nat) (cq : Bool) (q value : Nat) : State :=
  if !(funcAt s fn).memSpace || !funcExists s fn || s.host.perst then s
  else if doorbellsRecorded s fn then modCtrl s fn (fun c => { c with recorded := c.recorded ++ [(cq, q, value)] })
  else if cq then setHead (leaveL1 s) fn q value else setTail (leaveL1 s) fn q value

/-- Admin opcodes of the PF (R316). -/
def pfAdmin : List Nat := [0x00, 0x01, 0x02, 0x04, 0x05, 0x06, 0x08, 0x09, 0x0A, 0x0C, 0x0D, 0x10, 0x11, 0x14, 0x15, 0x1C, 0x80, 0x81, 0x82, 0x84]
/-- Admin opcodes of a VF (R345). -/
def vfAdmin : List Nat := [0x00, 0x01, 0x02, 0x04, 0x05, 0x06, 0x08, 0x09, 0x0A, 0x0C, 0x81, 0x82]
/-- I/O opcodes (R316, R345). -/
def ioOpcodes : List Nat := [0x00, 0x01, 0x02, 0x08, 0x09, 0x0C, 0x81, 0x85, 0x8D]

/-- The features that Set Features of a function serves (R317, R345). -/
def settableFeatures (fn : Nat) : List Nat :=
  if fn = 0 then [0x01, 0x02, 0x04, 0x07, 0x08, 0x09, 0x0B, 0x0C, 0x0E, 0x10] else [0x01, 0x02, 0x07, 0x08, 0x09, 0x0B]

/-- What a fetched entry is refused for whatever the state: its opcode, FUSE, an SGL of an admin command (R318), or a choice of its opcode that the device does not
serve (R316, R317, R345). -/
def entryRefusal (fn q : Nat) (e : Sqe) : Option Cpl :=
  if q ≠ 0 then
    if !ioOpcodes.contains e.opc then some invalidOpcode else if e.fuse ≠ 0 then some invalidField else none
  else if !(if fn = 0 then pfAdmin else vfAdmin).contains e.opc then some invalidOpcode
  else if e.fuse ≠ 0 || e.sgl then some invalidField
  else
    match e.opc with
    | 0x09 => if !(settableFeatures fn).contains (e.cdw10 % 256) then some invalidField
              else if e.cdw10 / 2 ^ 31 = 1 then some (cplCmd 0x0D) else none
    | 0x0D => if e.cdw10 % 16 ≤ 1 then none else some invalidField
    | 0x15 => if e.cdw10 % 16 ≤ 1 then none else some invalidField
    | 0x10 => if e.cdw10 / 8 % 8 ≤ 3 then none else some invalidField
    | 0x14 => if e.cdw10 % 16 = 1 || e.cdw10 % 16 = 2 || e.cdw10 % 16 = 15 then none else some invalidField
    | 0x1C => if e.cdw10 % 16 = 7 || e.cdw10 % 16 = 9 then none else some invalidField
    | 0x84 => if e.cdw10 % 8 = 2 || e.cdw10 % 8 = 4 then none else some invalidField
    | _ => none

/-- Whether intake runs for a function: ready, not fatal, not stopped, not quiesced, not stalled, awake (R39, R308, R337, R350, R408). -/
def intakeRuns (s : State) (fn : Nat) : Bool :=
  let c := ctrlAt s fn
  s.boot.intake && c.rdy && !c.cfs && !c.fetchStopped && c.shst == 0 && (ctrlAt s 0).shst == 0 && mayRequest s fn && !s.fw.intakeStalled && !s.dram.frozen
    && !s.pwr.pwrfail && s.pwr.sleep == .zenith && s.pwr.phase == .steady && (fn == 0 || (vfAt s fn).st == .online)

/-- Bytes a command moves, by direction: (to the host, from the host) (R348). -/
def movedBytes (e : Sqe) (q : Nat) : Nat × Nat :=
  if q = 0 then (0, 0) else if e.opc = 2 then (4096 * nlbOf e, 0) else if e.opc = 1 then (0, 4096 * nlbOf e) else (0, 0)

/-- The commands that a VF fetched in the 10 ms that end now (R348). -/
def recentOf (s : State) (fn : Nat) : List (Nat × Nat × Nat) := (vfAt s fn).recent.filter (fun e => s.time.opMs < e.1 + 10)

/-- Whether a VF's pace lets a command be fetched: with the last 10 ms' it stays within the limits (R348), in units of 100 MB/s, 0 none; a
command beyond a whole window's data goes alone in its window (log entry 187). -/
def paceAllows (s : State) (fn : Nat) (e : Sqe) (q : Nat) : Bool :=
  if fn = 0 then true
  else
    let v := vfAt s fn
    let l := recentOf s fn
    let (r, w) := movedBytes e q
    let ok := fun limit used add => limit == 0 || add == 0 || used == 0 || used + add ≤ limit * 1000000
    ok v.readLimit (l.map (·.2.1)).sum r && ok v.writeLimit (l.map (·.2.2)).sum w

/-- A fetched command charged to its VF's pace (R348). -/
def chargePace (s : State) (fn : Nat) (e : Sqe) (q : Nat) : State :=
  if fn = 0 then s
  else modVf s fn (fun v => { v with recent := recentOf s fn ++ [(s.time.opMs, movedBytes e q)] })

/-- COMMAND_FETCH (R319, R343, R348): the entry at the head of a queue that holds unfetched entries. -/
def execCommandFetch (fn : Func) (q : Nat) (sqe : Sqe) (s : State) : Result :=
  .next (match sqAt s fn q with
    | none => s
    | some x =>
      if intakeRuns s fn && x.head != x.tail && paceAllows s fn sqe q && x.cmds.all (fun f => f.sqe.cid != sqe.cid) then
        let s := noteHostRead s 64
        let f : Fetched := { sqe := sqe, order := s.nvme.nextOrder, done := entryRefusal fn q sqe }
        let s := modFunc (chargePace s fn sqe q) fn (fun g => { g with fetchRetry := g.fetchRetry.filter (· != q) })
        let s := modSq s fn q (fun x => { x with head := (x.head + 1) % max 1 x.size, cmds := x.cmds ++ [f] })
        { s with nvme := { s.nvme with nextOrder := s.nvme.nextOrder + 1, idleSinceMs := s.time.opMs
                                       selfTest := { s.nvme.selfTest with yielding := s.nvme.selfTest.kind != 0 } } }
      else s)

/-! ### Writes (R24, R147, R320, R332) -/

/-- A run of blocks of a length, blocks past its end being empty. -/
def fitBlocks (n : Nat) (l : List BlockData) : List BlockData := (List.range n).map (fun i => l.getD i {})

/-- The blocks of a write as they enter the cache: with PRACT set the protection information is inserted (R218). -/
def writeBlocks (n : Namespace) (q : Sqe) (l : List BlockData) : List BlockData :=
  let ask := piAskOf q
  let pract := q.cdw12 / 2 ^ 29 % 2 == 1 && n.piType != 0 && piSize n.lbaf != 0
  (fitBlocks (nlbOf q) l).zipIdx.map (fun p =>
    if pract then insertPi n p.1 ask.appTag (ask.refTag + p.2)
    else { data := padTo 4096 p.1.data, md := padTo (mdSize n.lbaf) p.1.md })

/-- WRITE (R24, R218, R219, R332): the data is read and checked, and the write is offered for admission once every earlier command
of its queue has been offered. -/
def execWrite (c : CmdRef) (blocks : List BlockData) (s : State) : Result :=
  .next (onCommand s c false 0x01 (fun f s =>
    let q := f.sqe
    if f.begun || !(earlier s c).all (fun e => e.begun || e.effect || e.done.isSome) then s
    else
      match ioRefusal s c.fn q.nsid true, nsAt s q.nsid with
      | some e, _ => endCmd s c e
      | none, none => s
      | none, some n =>
        match transferRefusal s c.fn q n with
        | some e => endCmd s c e
        | none =>
          if rangeLocked s q.nsid (slbaOf q) (nlbOf q) then endCmd s c sealedRange
          else
            let bs := writeBlocks n q blocks
            match firstPiFailure n (piAskOf q) bs with
            | some sc => endCmd s c (cplMedia sc)
            | none =>
              let s := noteHostRead s (transferBytes n (nlbOf q))
              let s := modCmd s c (fun f => { f with begun := true, writeData := bs, offeredMs := s.time.opMs })
              { s with nvme := { s.nvme with line := s.nvme.line ++ [c] } }))

/-- Whether the write at the head of the line may enter the cache (R147, R154, R279, R319); a shutdown notification stops intake (R172). -/
def mayEnter (s : State) (c : CmdRef) (f : Fetched) : Bool :=
  inTurn s c && (ctrlAt s 0).shst == 0 && mayAdmit s (nlbOf f.sqe) && !migrationHolds s && !journalHolds s 0 && !s.dram.frozen && !sanitizeRuns s

/-- WRITE_ADMISSION (R24 step 4, R147, R320, R332): the head of the line enters both copies of the cache and takes effect, unless
its range has been sealed or its namespace closed meanwhile. -/
def execWriteAdmission (s : State) : Result :=
  .next (match s.nvme.line with
    | [] => s
    | c :: _ =>
      match cmdAt s c with
      | none => leaveLine s c
      | some f =>
        let q := f.sqe
        if f.done.isSome then leaveLine s c
        else if !mayEnter s c f then (if journalHolds s 0 then journalWait s else s)
        else
          match ioRefusal s c.fn q.nsid true with
          | some e => endCmd (leaveLine s c) c e
          | none =>
            if rangeLocked s q.nsid (slbaOf q) (nlbOf q) then endCmd (leaveLine s c) c sealedRange
            else
              let s := cacheWrite (leaveLine s c) q.nsid (slbaOf q) f.writeData (some c) false
              let s := noteChange s q.nsid (slbaOf q) (nlbOf q)
              modCmd (takeEffect s c cplOk) c (fun f => { f with writeData := [] }))

/-- Whether a closed program window holds destaging on at least one LUN (R332). -/
def destagingHeld (s : State) : Bool :=
  (List.range 64).any (fun ch => ((channelAt s ch).q[1]).any (fun e => windowHeld s ch 1 e))

/-- THERMAL_HOLD_LIMIT_EXPIRY (R332): once for each write; the first of a run writes its Notice record and is counted. -/
def execThermalHoldLimitExpiry (c : CmdRef) (s : State) : Result :=
  .next (if !s.nvme.line.contains c then s
    else match cmdAt s c with
    | none => s
    | some f =>
      if f.holdTested || f.done.isSome then s
      else if destagingHeld s then
        let first := !s.nvme.holdRun
        let s := { s with nvme := { s.nvme with holdRun := true, holdRuns := s.nvme.holdRuns + if first then 1 else 0 }
                          cool := { s.cool with holds := s.cool.holds + 1 } }
        let s := recordIf first s 0x0201 .notice (b1 c.fn.val ++ b2 c.sq)
        endCmd (leaveLine s c) c thermalHold
      else modCmd { s with nvme := { s.nvme with holdRun := false } } c (fun f => { f with holdTested := true }))

/-! ### Reads (R25, R219, R220) -/

/-- The outcome of a host read of blocks: the first block that fails decides (R219, R220). -/
def readOutcome (n : Namespace) (ask : PiAsk) (l : List ReadRes) : Cpl :=
  (l.zipIdx.findSome? (fun p => match p.1 with
    | .unrecovered => some unrecovered
    | .guard => some (if ask.guard then guardError else unrecovered)
    | .ok d => (piFailure n { ask with guard := false } p.2 d).map cplMedia)).getD cplOk

/-- A read or verify of its range: every block read, the outcome decided, the data kept for the host (R25). An array that entered
Held meanwhile decides it (R201). -/
def hostRead (s : State) (c : CmdRef) (q : Sqe) (n : Namespace) (media : List BlockRead) (transfer : Bool) : State :=
  let (rs, s) := readBlocks s n q.nsid (slbaOf q) (nlbOf q) media
  if s.red.st = .held then endCmd s c arrayHeld
  else
    let s := if transfer then putData s c (okBlocks rs) else s
    takeEffect s c (readOutcome n (piAskOf q) rs)

/-- READ (R25, R26, R219, R220, R319). -/
def execRead (c : CmdRef) (media : List BlockRead) (s : State) : Result :=
  .next (onTurn s c false 0x02 (fun f s =>
    match ioRefusal s c.fn f.sqe.nsid false, nsAt s f.sqe.nsid with
    | some e, _ => endCmd s c e
    | none, none => s
    | none, some n =>
      match transferRefusal s c.fn f.sqe n with
      | some e => endCmd s c e
      | none => hostRead s c f.sqe n media true))

/-- VERIFY (R219, R324): reads and checks, transfers nothing. -/
def execVerify (c : CmdRef) (media : List BlockRead) (s : State) : Result :=
  .next (onTurn s c false 0x0C (fun f s =>
    match ioRefusal s c.fn f.sqe.nsid false, nsAt s f.sqe.nsid with
    | some e, _ => endCmd s c e
    | none, none => s
    | none, some n =>
      if n.nsze < slbaOf f.sqe + nlbOf f.sqe then endCmd s c lbaRange else hostRead s c f.sqe n media false))

/-- FLUSH (R150, R321): it ends once every earlier command of its queue has ended, and forces no destage. -/
def execFlush (c : CmdRef) (s : State) : Result :=
  .next (onCommand s c false 0x00 (fun f s =>
    if !(earlier s c).all (fun e => e.done.isSome) then s
    else if f.sqe.nsid = 0xFFFFFFFF then (if sanitizeRuns s then endCmd s c sanitizing else if s.red.st = .held then endCmd s c arrayHeld else takeEffect s c cplOk)
    else match ioRefusal s c.fn f.sqe.nsid false with
      | some e => endCmd s c e
      | none => takeEffect s c cplOk))

/-! ### Deallocation (R160, R161) -/

/-- Whether a change of a range waits: for the journal, the fine-map pool or the final phase of a migration (R136, R154, R279). -/
def changeWaits (s : State) (nsid lba count : Nat) : Bool :=
  journalHolds s 1 || poolHolds s nsid lba count || migrationHolds s

/-- WRITE_ZEROES (R160, R161, R326): with DEAC the range is deallocated, otherwise set to ZERO. -/
def execWriteZeroes (c : CmdRef) (s : State) : Result :=
  .next (onTurn s c false 0x08 (fun f s =>
    let q := f.sqe
    match ioRefusal s c.fn q.nsid true, nsAt s q.nsid with
    | some e, _ => endCmd s c e
    | none, none => s
    | none, some n =>
      if n.nsze < slbaOf q + nlbOf q then endCmd s c lbaRange
      else if rangeLocked s q.nsid (slbaOf q) (nlbOf q) then endCmd s c sealedRange
      else if changeWaits s q.nsid (slbaOf q) (nlbOf q) then journalWait s
      else
        let s := if q.cdw12 / 2 ^ 25 % 2 = 1 then deallocRange s q.nsid (slbaOf q) (nlbOf q) false
          else zeroRange s q.nsid (slbaOf q) (nlbOf q)
        takeEffect (noteChange s q.nsid (slbaOf q) (nlbOf q)) c cplOk))

/-- The ranges of a Dataset Management that are not skipped (R324). -/
def dsmRanges (q : Sqe) (l : List DsmRange) : List DsmRange := (l.take (q.cdw10 % 256 + 1)).filter (fun r => r.len != 0)

/-- DATASET_MANAGEMENT (R160, R161, R316): the Deallocate attribute; other attributes are ignored. -/
def execDatasetManagement (c : CmdRef) (ranges : List DsmRange) (s : State) : Result :=
  .next (onTurn s c false 0x09 (fun f s =>
    let q := f.sqe
    let deallocate := q.cdw11 / 4 % 2 == 1
    match ioRefusal s c.fn q.nsid deallocate, nsAt s q.nsid with
    | some e, _ => endCmd s c e
    | none, none => s
    | none, some n =>
      let rs := dsmRanges q ranges
      if prpBad s c.fn q (16 * (q.cdw10 % 256 + 1)) then endCmd s c prpOffset
      else if !deallocate then takeEffect s c cplOk
      else if rs.any (fun r => n.nsze < r.slba + r.len) then endCmd s c lbaRange
      else if rs.any (fun r => rangeLocked s q.nsid r.slba r.len) then endCmd s c sealedRange
      else if journalHolds s rs.length || migrationHolds s || rs.any (fun r => poolHolds s q.nsid r.slba r.len) then journalWait s
      else takeEffect (rs.foldl (fun s r => noteChange (deallocRange s q.nsid r.slba r.len false) q.nsid r.slba r.len) s) c cplOk))

/-! ### Secure Deallocate (R162 to R164) -/

/-- Whether a band's summary holds a block of a range (R162 step 1). -/
def bandHolds (b : Band) (nsid lba count : Nat) : Bool :=
  b.extents.any (fun e => e.nsid == nsid && lba < e.lba + e.count && e.lba < lba + count)

/-- The bands that a range's blocks may lie in: the span filter matches and the summary confirms (R162 step 1). -/
def bandsHolding (c : MapCore) (nsid lba count : Nat) : List Nat :=
  (c.bands.filter (fun p => (spansOf lba count).any (fun sp => p.2.filter.contains (filterBit nsid sp)) && bandHolds p.2 nsid lba count
    && p.2.st != .eraseList)).map (·.1)

/-- Steps 1 and 2 of a Secure Deallocate (R162): bands marked, open ones closed short, the range deallocated with SECURE, its lines overwritten. -/
def secureBegin (s : State) (nsid lba count : Nat) : List Nat × State :=
  let marked := bandsHolding s.map.core nsid lba count
  let core := marked.foldl (fun c n => beginClosing (bandMod c n (fun b => { b with secure := true })) n true) s.map.core
  let gather := s.map.gather.filter (fun g => !(g.cw.nsid == nsid && lba ≤ g.cw.lba && g.cw.lba < lba + count))
  let s := deallocRange { s with map := { s.map with core := core, gather := gather } } nsid lba count true
  (marked, { s with map := { s.map with lines := cacheErase s.map.lines nsid lba count } })

/-- Step 4 of a Secure Deallocate (R162): every marked band that holds nothing any more is released and, once RELEASE is durable,
erased. -/
def secureErase (s : State) (marked : List Nat) (unerased : List Nat) : State :=
  marked.foldl (fun s n =>
    match bandAt s.map.core n with
    | none => s
    | some b =>
      if b.st = .eraseList then eraseBand s n unerased
      else if mayRelease s n { b with secure := false } then
        let (msn, s) := takeMsn s 1
        addRecords s [{ type := .release, secure := true, band := n, msn := msn }]
      else s) s

/-- Whether a Secure Deallocate has ended (R162 step 5): every marked band is gone and its ERASED record durable. -/
def secureDone (s : State) (marked : List Nat) : Bool :=
  marked.all (fun n => (bandAt s.map.core n).isNone && !(s.map.tail.any (fun r => r.type == .erased && r.band == n)))

/-- Whether two vendor commands name overlapping ranges of one namespace. -/
def rangesOverlap (a b : Sqe) : Bool :=
  a.nsid == b.nsid && decide (slbaOf a < slbaOf b + vendorNlb b) && decide (slbaOf b < slbaOf a + vendorNlb a)

/-- Whether an overlapping Secure Deallocate admitted earlier still runs or waits (R330). -/
def secureOverlaps (s : State) (f : Fetched) : Bool :=
  (List.finRange 128).any (fun (fn : Func) => (ctrlAt s fn.val).sqs.any (fun p => p.1 != 0 && p.2.cmds.any (fun g =>
    g.sqe.opc == 0x85 && g.done.isNone && g.order != f.order && rangesOverlap g.sqe f.sqe
      && (g.begun || (decide (g.order < f.order) && inTurn s { fn := fn, sq := p.1, cid := g.sqe.cid })))))

/-- Whether a reserved dword of a vendor command is not zero (R327). -/
def vendorReserved (q : Sqe) (audit : Bool) : Bool :=
  (if audit then 1 < q.cdw13 else q.cdw13 != 0) || q.cdw14 != 0 || q.cdw15 != 0

/-- The first call of a Secure Deallocate: accepted or refused in the order of R329, then begun (R162 steps 1 and 2). -/
def secureStart (s : State) (c : CmdRef) (f : Fetched) : State :=
  let q := f.sqe
  let lba := slbaOf q
  let count := vendorNlb q
  match nsAt s q.nsid with
  | none => endCmd s c (if sanitizeRuns s then sanitizing else invalidNs)
  | some n =>
    if vendorReserved q false || count = 0 then endCmd s c invalidField
    else if n.nsze < lba + count then endCmd s c lbaRange
    else
      match ioRefusal s c.fn q.nsid true with
      | some e => endCmd s c e
      | none =>
        if rangeLocked s q.nsid lba count then endCmd s c sealedRange
        else if secureOverlaps s f then s
        else if changeWaits s q.nsid lba count then journalWait s
        else
          let (marked, s) := secureBegin s q.nsid lba count
          modCmd (noteSecure s q.nsid lba count) c (fun f => { f with begun := true, effect := true, bands := marked })

/-- SECURE_DEALLOCATE (R162 to R164, R329, R330): its steps, one call after another, until every marked band is erased; with a
synchronous mirror also until the partner has done the same (R271). -/
def execSecureDeallocate (c : CmdRef) (unerased : List Nat) (s : State) : Result :=
  .next (onCommand s c false 0x85 (fun f s =>
    if !f.begun then (if inTurn s c then secureStart s c f else s)
    else if isHeld s then endCmd s c arrayHeld
    else if secureDone s f.bands then
      if mirroredSync s f.sqe.nsid (slbaOf f.sqe) (vendorNlb f.sqe) then endCmd s c cplOk else s
    else secureErase s f.bands unerased))

/-! ### Seal (R228 to R231) -/

/-- Why a Seal is not accepted, in the order of R228. -/
def sealRefusal (s : State) (fn : Nat) (q : Sqe) (n : Namespace) : Option Cpl :=
  let lba := slbaOf q
  let count := vendorNlb q
  if sanitizeRuns s then some sanitizing
  else if !n.attached.contains fn then some invalidNs
  else if vendorReserved q false || lba % 256 ≠ 0 || count % 256 ≠ 0 || count < 256 || 16777216 < count then some invalidField
  else if n.nsze < lba + count then some lbaRange
  else if s.red.st = .none || n.notReady then some notReadyNs
  else if s.red.st = .held then some arrayHeld
  else if s.red.st = .heldReadOnly then some heldReadOnlyCpl
  else if n.keyUnusable || isSecondary s q.nsid || n.protectedAfterCommit || n.locked then some writeProtected
  else if rangeLocked s q.nsid lba count then some sealedRange
  else if sealLimit ≤ s.sealing.seals.length then some capacityExceeded
  else if sglShort q 224 then some (cplGen 0x0F)
  else if prpBad s fn q 224 then some prpOffset
  else none

/-- A Seal admitted: its entry and its marks are made; it has taken effect in its queue (R229, R235, R319). -/
def sealAdmit (s : State) (c : CmdRef) (q : Sqe) : State :=
  let id := s.sealing.nextId
  let x : Seal := { id := id, nsid := q.nsid, st := .sealing, slba := slbaOf q, spans := vendorNlb q / 256, busy := true }
  let s := { s with sealing := { s.sealing with nextId := id + 1, seals := s.sealing.seals ++ [x] } }
  modCmd (writeSealEntry s id) c (fun f => { f with begun := true, effect := true, sealId := id })

/-- A Seal that fails (R231): no record, no span sealed, its entry gone. -/
def sealFail (s : State) (c : CmdRef) (x : Seal) (o : Cpl) (sev : Option Severity) (lba : Nat) : State :=
  let s := dropSeal s x.id
  let s := match sev with
    | none => s
    | some v => record s 0x0704 v (b4 x.nsid ++ b8 lba)
  endCmd s c o

/-- The first block of a list of reads that fails, with what decides the Seal's outcome (R231). -/
def sealFault (n : Namespace) (lba : Nat) (rs : List ReadRes) : Option (Nat × Cpl) :=
  rs.zipIdx.findSome? (fun p => match p.1 with
    | .unrecovered => some (lba + p.2, unrecovered)
    | .guard => some (lba + p.2, guardError)
    | .ok d => (piFailure n (sealAsk n lba) p.2 d).map (fun sc => (lba + p.2, cplMedia sc)))

/-- The work of a Seal (R230 steps 1 to 5, R231): every block read and checked, the tree built, lines bound to Stratus, the record
signed and kept, SEAL journalled. -/
def sealWork (s : State) (c : CmdRef) (x : Seal) (n : Namespace) (media : List BlockRead) : State :=
  let count := 256 * x.spans
  let (rs, s) := readBlocks s n x.nsid x.slba count media
  if isHeld s then sealFail s c x arrayHeld none 0
  else
    match sealFault n x.slba rs with
    | some (lba, o) => sealFail s c x o (some .fault) lba
    | none =>
      let levels := sealLevels (okBlocks rs)
      if sealStoreSize s < sealStoreUsed s + sealBytes levels then sealFail s c x capacityExceeded (some .notice) x.slba
      else
        let s := { s with map := { s.map with lines := bindStratus s.map.lines x.nsid x.slba count } }
        let (rec, s) := makeSealRecord s n x (rootOf levels)
        let loc := s.sealing.storeNext
        let treeBytes := 32 * (levels.map List.length).sum
        let s := modSeal s x.id (fun y => { y with levels := levels, record := rec, treeLoc := loc, recordLoc := loc + treeBytes })
        let s := { s with sealing := { s.sealing with storeNext := loc + treeBytes + 224 } }
        let s := writeSeal s { x with levels := levels, record := rec, treeLoc := loc, recordLoc := loc + treeBytes }
        journalSeal s x true

/-- SEAL (R228 to R231, R327 to R329): admitted, worked, and completed once its SEAL record is durable. -/
def execSealCmd (c : CmdRef) (media : List BlockRead) (s : State) : Result :=
  .next (onCommand s c false 0x81 (fun f s =>
    let q := f.sqe
    match nsAt s q.nsid with
    | none => endCmd s c (if sanitizeRuns s then sanitizing else invalidNs)
    | some n =>
      if !f.begun then
        if !inTurn s c then s
        else match sealRefusal s c.fn q n with
          | some e => endCmd s c e
          | none => if migrationHolds s then s else sealAdmit s c q
      else
        match sealById s f.sealId with
        | none => endCmd s c abortRequested
        | some x =>
          if x.levels.isEmpty then (if journalHolds s 1 then journalWait s else if secureOverlaps s f then s else sealWork s c x n media)
          else if sealJournalWaits s x then s
          else
            let s := writeSealEntry (modSeal s x.id (fun y => { y with st := .issued, busy := false })) x.id
            let s := record s 0x0701 .notice (b8 x.id ++ b4 x.nsid)
            endCmd (putData s c [{ data := x.record }]) c { cplOk with dw0 := x.id % 2 ^ 32, dw1 := x.id / 2 ^ 32 }))

/-! ### Audit Range (R120, R241 to R244) -/

/-- The seal that a range lies wholly within, SEALED or RECEIVED (R241). -/
def auditSeal (s : State) (q : Sqe) : Option Seal :=
  s.sealing.seals.find? (fun x => x.nsid == q.nsid && (x.st == .issued || x.st == .received) && x.slba ≤ slbaOf q
    && slbaOf q + vendorNlb q ≤ x.slba + 256 * x.spans)

/-- The bands that hold the blocks of a range. -/
def rangeBands (s : State) (nsid lba count : Nat) : List Nat :=
  ((List.range count).filterMap (fun i => match mapAt s.map.core nsid (lba + i) with
    | some (.mapped b _) => some b
    | _ => none)).eraseDups

/-- Whether every die that holds a range declares Recharge (R120). -/
def rangeRecharges (s : State) (nsid lba count : Nat) : Bool :=
  (rangeBands s nsid lba count).all (fun n => (bandAt s.map.core n).elim true (fun b =>
    (ownedBlocks b).all (fun k => (carrierAt s (carrierOf (channelOfKey k))).lomril.elim true (fun l => l.caps % 2 == 1))))

/-- Why an Audit Range is not accepted, in the order of R241 (R329). -/
def auditRefusal (s : State) (fn : Nat) (q : Sqe) (n : Namespace) : Option Cpl :=
  let lba := slbaOf q
  let count := vendorNlb q
  if sanitizeRuns s then some sanitizing
  else if !n.attached.contains fn then some invalidNs
  else if s.red.st = .none || n.notReady then some notReadyNs
  else if s.red.st = .held then some arrayHeld
  else if vendorReserved q true || lba % 256 ≠ 0 || count % 256 ≠ 0 || count < 256 then some invalidField
  else if (auditSeal s q).isNone then some invalidField
  else if q.cdw13 % 2 = 1 && !rangeRecharges s q.nsid lba count then some (cplVendor 0xC4)
  else none

/-- The outcome of an audit (R328, R243): its result in DW0 and the first failing span in DW1. -/
def auditOutcome (l : List SpanAudit) : Cpl :=
  let rank := auditRank l
  let bad := ((l.find? (fun a => 3 ≤ a.result)).map (·.index)).getD 0xFFFFFFFF
  { (if rank = 3 then cplVendor 0xC3 else if rank = 4 then unrecovered else cplOk) with dw0 := rank, dw1 := bad }

/-- The spans of an audit one after another. -/
def auditSpans (s : State) (n : Namespace) (x : Seal) (first count : Nat) (media : List BlockRead) (repair : List (Nat × List BlockData)) :
    List SpanAudit × State :=
  (List.range count).foldl (fun acc i =>
    let (a, s) := auditSpan acc.2 n x (first + i) ((media.drop (256 * i)).take 256) (((repair.find? (fun r => r.1 == first + i)).map (·.2)).getD [])
    (acc.1 ++ [a], s)) ([], s)

/-- A Seal Mismatch of a whole seal: levels or signature that do not hold (R244). -/
def auditWhole (s : State) (c : CmdRef) (x : Seal) : State :=
  let s := writeSealEntry (modSeal s x.id (fun y => { y with auditResult := 3, auditHours := opHours s, badSpan := 0xFFFFFFFF, busy := false })) x.id
  let s := record s 0x0703 .critical (b8 x.id ++ b4 0xFFFFFFFF)
  endCmd s c { cplVendor 0xC3 with dw0 := 3, dw1 := 0xFFFFFFFF }

/-- The bands of an audited range queued at the head of the retention queue: for a Recharge pass where they qualify, else for
relocation (R120). -/
def queueRange (s : State) (bands : List Nat) : State :=
  bands.foldl (fun s n => match bandAt s.map.core n with
    | none => s
    | some b =>
      let choice := if bandQualifies s b then 1 else 2
      let s := if b.retQueued = choice then s else queueBand s n choice (bandRisk s b)
      setCore s (bandMod s.map.core n (fun b => { b with retHead := true }))) s

/-- The work of an Audit Range (R242 to R244). -/
def auditWork (s : State) (c : CmdRef) (q : Sqe) (x : Seal) (n : Namespace) (media : List BlockRead) (repair : List (Nat × List BlockData)) :
    State :=
  let (l, s) := auditSpans s n x ((slbaOf q - x.slba) / 256) (vendorNlb q / 256) media repair
  match repairLevels s n x with
  | (none, s) => auditWhole s c x
  | (some s, _) =>
    if !recordVerifies x then auditWhole s c x
    else
      let o := auditOutcome l
      let s := auditRecords s x.id l
      let s := modSeal s x.id (fun y => { y with auditResult := auditRank l, auditHours := opHours s, badSpan := o.dw1, busy := false })
      let s := writeSealEntry s x.id
      let s := record s 0x0703 .info (b8 x.id ++ b4 o.dw1)
      if q.cdw13 % 2 = 1 then
        let bands := rangeBands s q.nsid (slbaOf q) (vendorNlb q)
        modCmd (queueRange s bands) c (fun f => { f with begun := true, effect := true, outcome := some o, bands := bands })
      else takeEffect s c o

/-- AUDIT_RANGE (R120, R241 to R244, R328). -/
def execAuditRange (c : CmdRef) (media : List BlockRead) (repair : List (Nat × List BlockData)) (s : State) : Result :=
  .next (onCommand s c false 0x8D (fun f s =>
    let q := f.sqe
    match f.outcome with
    | some o =>
      if f.bands.all (fun n => (bandAt s.map.core n).elim true (fun b => b.retQueued == 0)) then endCmd s c o else s
    | none =>
      if !inTurn s c then s
      else match nsAt s q.nsid with
        | none => endCmd s c (if sanitizeRuns s then sanitizing else invalidNs)
        | some n =>
          match auditRefusal s c.fn q n, auditSeal s q with
          | some e, _ => endCmd s c e
          | none, none => endCmd s c invalidField
          | none, some x => auditWork s c q x n media repair))

/-! ### Completions and queues (R316, R319, R324) -/

/-- CREATE_IO_COMPLETION_QUEUE (R316, R324): physically contiguous, a granted identifier, 2 to 65,536 entries, a vector of the
function. -/
def execCreateIoCompletionQueue (c : CmdRef) (s : State) : Result :=
  .next (onTurn s c true 0x05 (fun f s =>
    let q := f.sqe
    let qid := q.cdw10 % 65536
    let size := q.cdw10 / 65536 % 65536
    let granted := (ctrlAt s c.fn).granted.elim 0 (fun g => g.2 + 1)
    if q.cdw11 % 2 = 0 then endCmd s c invalidField
    else if qid = 0 || granted < qid || (lookup (ctrlAt s c.fn).cqs qid).isSome then endCmd s c (cplCmd 0x01)
    else if size = 0 then endCmd s c (cplCmd 0x02)
    else if vectorsOf c.fn ≤ q.cdw11 / 65536 then endCmd s c (cplCmd 0x08)
    else
      let k : CplQueue := { base := q.prp1, size := size + 1, iv := q.cdw11 / 65536, ien := q.cdw11 / 2 % 2 == 1 }
      takeEffect (modCtrl s c.fn (fun x => { x with cqs := insert x.cqs qid k })) c cplOk))

/-- CREATE_IO_SUBMISSION_QUEUE (R316, R324). -/
def execCreateIoSubmissionQueue (c : CmdRef) (s : State) : Result :=
  .next (onTurn s c true 0x01 (fun f s =>
    let q := f.sqe
    let qid := q.cdw10 % 65536
    let size := q.cdw10 / 65536 % 65536
    let cqid := q.cdw11 / 65536
    let granted := (ctrlAt s c.fn).granted.elim 0 (fun g => g.1 + 1)
    if q.cdw11 % 2 = 0 then endCmd s c invalidField
    else if qid = 0 || granted < qid || (lookup (ctrlAt s c.fn).sqs qid).isSome then endCmd s c (cplCmd 0x01)
    else if cqid = 0 || (lookup (ctrlAt s c.fn).cqs cqid).isNone then endCmd s c (cplCmd 0x00)
    else if size = 0 then endCmd s c (cplCmd 0x02)
    else
      let x : SubQueue := { base := q.prp1, size := size + 1, cqid := cqid }
      takeEffect (modCtrl s c.fn (fun k => { k with sqs := insert k.sqs qid x })) c cplOk))

/-- DELETE_IO_SUBMISSION_QUEUE (R316): its commands end with it, without completions of their own. -/
def execDeleteIoSubmissionQueue (c : CmdRef) (s : State) : Result :=
  .next (onTurn s c true 0x00 (fun f s =>
    let qid := f.sqe.cdw10 % 65536
    match (if qid = 0 then none else sqAt s c.fn qid) with
    | none => endCmd s c (cplCmd 0x01)
    | some x =>
      let s := x.cmds.foldl (fun s g => terminate s { fn := c.fn, sq := qid, cid := g.sqe.cid } g) s
      takeEffect (modCtrl s c.fn (fun k => { k with sqs := remove k.sqs qid })) c cplOk))

/-- DELETE_IO_COMPLETION_QUEUE (R316): refused while a submission queue uses it. -/
def execDeleteIoCompletionQueue (c : CmdRef) (s : State) : Result :=
  .next (onTurn s c true 0x04 (fun f s =>
    let qid := f.sqe.cdw10 % 65536
    if qid = 0 || (lookup (ctrlAt s c.fn).cqs qid).isNone then endCmd s c (cplCmd 0x01)
    else if (ctrlAt s c.fn).sqs.any (fun p => p.1 != 0 && p.2.cqid == qid) then endCmd s c (cplCmd 0x0C)
    else takeEffect (modCtrl s c.fn (fun k => { k with cqs := remove k.cqs qid })) c cplOk))

end Sys2Proof.Machine
end

