-- ==== Sys2Proof/Machine/AdminOps.lean ====
section
/-! DEFINITION. What the admin commands report and share (09_command_queues R316 to R345): health, log pages, Identify data and
features. Offsets and codes that the spec does not give are those of NVM Express 2.0 (log entry 41, PRESUMED). -/
namespace Sys2Proof.Machine

/-! ### Health (R210, R339, R340) -/

/-- SPARE_FREE: the least part of any LUN's spare reserve that is still free, in thousandths (R210). -/
def spareFree (s : State) : Nat :=
  if s.red.st = .none then 0
  else
    let held := heldBlocks s
    let luns := (List.range s.red.geometry.volumes).flatMap (groupLuns s.red.geometry)
    (luns.map (fun l =>
      let r := spareReserve s.red.geometry l
      min r (freeBlocks s held l).length * 1000 / max 1 r)).foldl min 1000

/-- Percentage Used (R340). -/
def percentUsed (s : State) : Nat :=
  (s.media.blocks.map (fun p =>
    let c := carrierAt s (carrierOf (channelOfKey p.1))
    if c.st = .inService then c.lomril.elim 0 (fun l => p.2.pe * 100 / max 1 l.peRated) else 0)).foldl (fun a b => min 255 (max a b)) 0

/-- Kelvin of a temperature in 0.0625 °C. -/
def kelvinOfSixteenth (t : Int) : Nat := (t / 16 + 273).toNat
/-- Kelvin of a temperature in °C. -/
def kelvin (t : Int) : Nat := (t + 273).toNat

/-- The composite temperature and sensors 1 to 3 in kelvin (R339); none before a first reading. -/
def sensorK (s : State) (i : Nat) : Option Nat :=
  match i with
  | 0 => some (kelvinOfSixteenth s.cool.tj)
  | 1 => some (kelvinOfSixteenth s.cool.tj)
  | 2 => s.cool.hot.map (fun h => kelvin h.2.2)
  | 3 => s.cool.cold.map (fun h => kelvin h.2.2)
  | _ => none

/-- A threshold of Temperature Threshold: sensor, type 0 over or 1 under; WCTEMP over the composite unless set (R318, R339). -/
def thresholdK (c : Ctrl) (sensor type : Nat) : Nat :=
  match c.tempThresholds.find? (fun t => t.1 == 16 * sensor + type) with
  | some t => t.2
  | none => if type = 1 then 0 else if sensor = 0 then 388 else 0xFFFF

/-- Whether a controller's thresholds are reached on any sensor. -/
def thresholdReached (s : State) (c : Ctrl) : Bool :=
  (List.range 4).any (fun i => (sensorK s i).elim false (fun k => thresholdK c i 0 ≤ k || k ≤ thresholdK c i 1))

/-- Critical Warning (R340). -/
def warningNow (s : State) : Nat :=
  let degraded := s.red.st == .degraded || s.red.st == .held || s.red.st == .heldReadOnly
    || s.map.core.entries.any (fun e => e.2 == .lost)
  bitsOf [s.red.st != .none && spareFree s < 100, thresholdReached s (ctrlAt s 0), degraded, s.red.st == .heldReadOnly,
          decide (s.pwr.measured < gib)]

/-- The bits in which two numbers differ. -/
def changedBits (a b : Nat) : Nat := (BitVec.ofNat 8 a ^^^ BitVec.ofNat 8 b).toNat

/-- Critical Warning brought up to date: each change is a SMART / Health Status event where it is enabled (R340); the event's
information names the cause: 1 a temperature threshold, 2 the spare, 0 reliability. -/
def noteHealth (s : State) : State :=
  let w := warningNow s
  if w = s.nvme.criticalWarning then s
  else
    let d := changedBits w s.nvme.criticalWarning
    let s := { s with nvme := { s.nvme with criticalWarning := w } }
    healthEvent s d (if d / 2 % 2 = 1 then 1 else if d % 2 = 1 then 2 else 0)

/-! ### Log pages (R317) -/

/-- The SMART / Health Information page (R340). Controller busy time, the minutes above WCTEMP and CCTEMP, and the seconds of the two
thermal management temperatures are times the model does not count: free values (log entry 42, DESIGN CHOICE). -/
def smartPage (s : State) : Bytes × State :=
  let n := s.nvme
  let (busy, s) := drawNat s
  let (warn, s) := drawNat s
  let (crit, s) := drawNat s
  let (t1, s) := drawNat s
  let (t2, s) := drawNat s
  let b16 := leBytes 16
  let errors := ((List.range 128).map (fun fn => (ctrlAt s fn).errorCount)).sum
  (b1 (warningNow s) ++ b2 ((sensorK s 0).getD 0) ++ b1 (spareFree s / 10) ++ b1 10 ++ b1 (percentUsed s) ++ zeros 26
    ++ b16 (divCeil (n.blocksRead * 8) 1000) ++ b16 (divCeil (n.blocksWritten * 8) 1000) ++ b16 n.cmdsRead ++ b16 n.cmdsWritten
    ++ b16 busy ++ b16 s.time.powerCycles ++ b16 (opHours s) ++ b16 n.unsafeShutdowns ++ b16 s.sealing.integrityErrors ++ b16 errors
    ++ b4 warn ++ b4 crit ++ (List.range 3).flatMap (fun i => b2 ((sensorK s (i + 1)).getD 0)) ++ zeros 10
    ++ b4 n.hctmCounts.1 ++ b4 (n.hctmCounts.2 + n.holdRuns) ++ b4 t1 ++ b4 t2 ++ zeros 280, s)

/-- An Error Information entry. -/
def errorBytes (e : ErrorEntry) : Bytes :=
  b8 e.count ++ b2 e.sq ++ b2 e.cid ++ b2 (e.status * 2) ++ b2 0xFFFF ++ b8 e.lba ++ b4 e.nsid ++ zeros 36

/-- The Firmware Slot Information page: slots 1 and 2 are Config Store slots 0 and 1 (R502). -/
def fwSlotPage (s : State) : Bytes :=
  let f := s.fw
  let rev := fun i => let x := vget f.slots {} i; if x.state = .committed then padTo 8 x.fwVersion else zeros 8
  b1 (f.activeSlot.val + 1 + (if f.namedSlot = f.activeSlot then 0 else 16 * (f.namedSlot.val + 1))) ++ zeros 7 ++ rev 0 ++ rev 1
    ++ zeros 488

/-- Effects of a supported command: CSUPP, with LBCC, NCC and NIC as the command's effects are (R328). -/
def effectsOf (io : Bool) (opc : Nat) : Nat :=
  if io then (if [0x01, 0x08, 0x09, 0x81, 0x85].contains opc then 3 else 1)
  else if opc = 0x80 then 7 else if opc = 0x84 then 3 else if opc = 0x0D || opc = 0x15 then 9 else 1

/-- The Commands Supported and Effects page. -/
def effectsPage (fn : Nat) : Bytes :=
  let admin := if fn = 0 then pfAdmin else vfAdmin
  (List.range 256).flatMap (fun o => b4 (if admin.contains o then effectsOf false o else 0))
    ++ (List.range 256).flatMap (fun o => b4 (if ioOpcodes.contains o then effectsOf true o else 0)) ++ zeros 2048

/-- The Device Self-test page: the test that runs and the last twenty results. -/
def selfTestPage (s : State) : Bytes :=
  let t := s.nvme.selfTest
  b1 t.kind ++ b1 t.percent ++ b2 0
    ++ (List.range 20).flatMap (fun i => match t.results[i]? with
      | some (code, seg, hours, nsid) => b1 (code % 16 + 16 * (code / 16)) ++ b1 seg ++ b1 1 ++ b1 0 ++ b8 hours ++ b4 nsid ++ zeros 12
      | none => b1 0x0F ++ zeros 27)

/-- Estimated Time for Block Erase in seconds (R335), from the members' descriptors; none where no carrier is in service. -/
def blockEraseSeconds (s : State) : Option Nat :=
  (((List.range 16).filterMap (fun c => let x := carrierAt s c; if x.st = .inService then x.lomril else none)).map
    (fun l => divCeil (l.blocksPerPlane * l.tBersMax) 100000 + 60)).max?

/-- The Sanitize Status page (R335). -/
def sanitizePage (s : State) : Bytes :=
  let z := s.nvme.sanitize
  b2 z.progress ++ b2 z.sstat ++ b4 (if z.running = 2 then 4 else if z.running = 1 then 2 else 0) ++ b4 0xFFFFFFFF
    ++ b4 ((blockEraseSeconds s).getD 0xFFFFFFFF) ++ b4 30 ++ b4 0xFFFFFFFF ++ b4 0xFFFFFFFF ++ b4 0xFFFFFFFF ++ zeros 480

/-- The Changed Namespace List page. -/
def changedNsPage (c : Ctrl) : Bytes := padTo 4096 (c.changedNs.flatMap b4)

/-- A log page of a function, where it serves it (R317, R345). -/
def logPage (s : State) (fn lid : Nat) : Option (Bytes × State) :=
  let c := ctrlAt s fn
  match lid with
  | 0x01 => some (padTo (64 * errorDepth fn) (c.errorLog.flatMap errorBytes), s)
  | 0x02 => some (smartPage s)
  | 0x03 => if fn = 0 then some (fwSlotPage s, s) else none
  | 0x04 => some (changedNsPage c, s)
  | 0x05 => some (effectsPage fn, s)
  | 0x06 => if fn = 0 then some (selfTestPage s, s) else none
  | 0x81 => if fn = 0 then some (sanitizePage s, s) else none
  | _ => none

/-- What the reading of a page clears: the mask of its event type, and the Changed Namespace List. -/
def logRead (c : Ctrl) (lid : Nat) (retain : Bool) : Ctrl :=
  if retain then c
  else if lid = 0x02 then { c with maskedEvents := c.maskedEvents.filter (· != 1) }
  else if lid = 0x04 then { c with maskedEvents := c.maskedEvents.filter (· != 2), changedNs := [] }
  else c

/-! ### Identify (R318, R333, R343, R344) -/

/-- CNTLID of a function. -/
def cntlid (fn : Nat) : Nat := fn + 1

/-- The largest power of the power state descriptors, and their latencies (R336): MP, NOPS, ENLAT, EXLAT. -/
def powerDescriptors : List (Nat × Nat × Nat × Nat) :=
  [(25000, 0, 2000, 2000), (19000, 0, 2000, 2000), (14000, 0, 2000, 2000), (10000, 0, 2000, 2000),
   (3500, 1, 1000, 200), (900, 1, 20000, 25000), (150, 1, 2000000, 45000000)]

/-- One power state descriptor. -/
def powerDescriptor (i : Nat) (d : Nat × Nat × Nat × Nat) : Bytes :=
  let r := if i ≤ 3 then i else 0
  b2 d.1 ++ b1 0 ++ b1 (2 * d.2.1) ++ b4 d.2.2.1 ++ b4 d.2.2.2 ++ b1 r ++ b1 r ++ b1 r ++ b1 r ++ zeros 16

/-- Exportable capacity, zero while no array is formed (R130, R174), within R132's cap. -/
def exportableNow (s : State) : Nat :=
  if s.red.st = .none then 0
  else
    let e := exportable s.red.geometry
    if dramBytes s < 256 * gib then min e (2 ^ 51) else e

/-- A text in a field of a width, space-padded. -/
def spacePad (n : Nat) (b : Bytes) : Bytes := (b ++ List.replicate n 32#8).take n

/-- Version text of the firmware that runs. -/
def fwVersionNow (s : State) : Bytes := padTo 8 (vget s.fw.slots {} s.fw.activeSlot.val).fwVersion

/-- Identify Controller (R318, R344). -/
def identifyController (s : State) (fn : Nat) : Bytes :=
  let pf := fn == 0
  let pick := fun (a b : Nat) => if pf then a else b
  let ssvid := (s.mbx.subsystem.getD (0x1F7E, 0)).1
  let psd := powerDescriptors.zipIdx.map (fun p => powerDescriptor p.2 p.1)
  let b16 := leBytes 16
  b2 0x1F7E ++ b2 ssvid ++ serialText s ++ spacePad 40 (ascii "Caerostux SHL-8064-B1") ++ fwVersionNow s
    ++ b1 0 ++ zeros 3 ++ b1 2 ++ b1 9 ++ b2 (cntlid fn) ++ b4 0x20000 ++ b4 0 ++ b4 0 ++ b4 0x100 ++ b4 0 ++ zeros 11 ++ b1 1 ++ zeros 144
    ++ b2 (pick 0x9F 0x01) ++ b1 (pick 7 3) ++ b1 (pick 15 3) ++ b1 (pick 0x14 0) ++ b1 0x02 ++ b1 (pick 255 63) ++ b1 (pick 6 0) ++ b1 0
    ++ b1 (pick 1 0) ++ b2 388 ++ b2 398 ++ b2 0 ++ b4 0 ++ b4 0 ++ b16 (exportableNow s)
    ++ b16 (exportableNow s - segmentsUsed s * 8 * gib) ++ b4 0 ++ b2 60 ++ b1 1 ++ b1 0x10 ++ b2 0 ++ b2 1 ++ b2 303 ++ b2 388
    ++ b4 (pick 0x20000003 0) ++ zeros 180 ++ b1 0x66 ++ b1 0x44 ++ b2 0 ++ b4 1024 ++ b2 0x00CC ++ b2 0 ++ b1 0 ++ b1 0 ++ b2 0 ++ b2 0
    ++ b1 0 ++ b1 0 ++ b2 0 ++ b2 0 ++ b4 0x10002 ++ zeros 1508 ++ (if pf then psd else psd.take 1).flatten
    ++ zeros (pick 1824 2016)

/-- The LBA format descriptors (R217). -/
def lbaFormats : Bytes := b4 0x000C0000 ++ b4 0x000C0010 ++ b4 0x000C0040

/-- NUSE: blocks that are not deallocated (R333). -/
def usedBlocks (s : State) (nsid : Nat) : Nat := s.map.core.entries.countP (fun e => e.1 / 2 ^ 48 == nsid)

/-- FLBAS of a namespace: format and metadata transfer mode. -/
def flbas (n : Namespace) : Nat := n.lbaf + if n.extended then 16 else 0
/-- DPS of a namespace: type and placement. -/
def dps (n : Namespace) : Nat := n.piType + if n.piFirst then 8 else 0

/-- Identify Namespace of a namespace, or of no namespace: what is common to all (R217, R218, R326, R333). -/
def identifyNamespace (s : State) (nsid : Nat) (n : Option Namespace) : Bytes :=
  let size := n.elim 0 (·.nsze)
  b8 size ++ b8 size ++ b8 (if n.isSome then usedBlocks s nsid else 0) ++ b1 0 ++ b1 2 ++ b1 (n.elim 0 flbas) ++ b1 3 ++ b1 0x1F
    ++ b1 (n.elim 0 dps) ++ b1 1 ++ b1 0 ++ b1 0 ++ b1 0x19 ++ zeros 14 ++ leBytes 16 (segmentsOf size * 8 * gib) ++ zeros 64
    ++ lbaFormats ++ zeros 3956

/-- The NVM command set's Identify Namespace: the guard formats of the LBA formats (R217). -/
def identifyNvmNamespace : Bytes := zeros 12 ++ b4 0 ++ b4 0 ++ b4 0x100 ++ zeros 4072

/-- The NVM command set's Identify Controller: VSL, WZSL, DMRL, DMRSL and DMSL (R318); 256 ranges is the field's "no limit". -/
def identifyNvmController : Bytes := zeros 4096

/-- NSIDs in rising order above a given one. -/
def nsList (l : List Nat) (above : Nat) : Bytes := padTo 4096 (((l.filter (above < ·)).take 1024).flatMap b4)

/-- Functions whose controllers exist. -/
def liveFunctions (s : State) : List Nat := (List.range 128).filter (funcExists s)

/-- A controller list: its count, then CNTLIDs from a given one. -/
def ctrlList (l : List Nat) (from_ : Nat) : Bytes :=
  let m := l.filter (fun fn => from_ ≤ cntlid fn)
  padTo 4096 (b2 m.length ++ m.flatMap (fun fn => b2 (cntlid fn)))

/-- Identify Primary Controller Capabilities (R343). -/
def primaryCaps : Bytes := padTo 4096 (b2 1 ++ zeros 38 ++ b2 33 ++ zeros 32 ++ b2 64)

/-- An entry of the Secondary Controller List (R343). -/
def secondaryEntry (s : State) (n : Nat) : Bytes :=
  let st := (vfAt s n).st
  b2 (cntlid n) ++ b2 1 ++ b1 (if st = .none || st = .offline then 0 else 1) ++ zeros 3 ++ b2 n ++ b2 33 ++ b2 64 ++ zeros 18

/-- The Secondary Controller List (R343): the VFs from a CNTLID on. -/
def secondaryList (s : State) (from_ : Nat) : Bytes :=
  let vfs := ((List.range 127).map (· + 1)).filter (fun n => from_ ≤ cntlid n)
  padTo 4096 (b1 vfs.length ++ zeros 31 ++ vfs.flatMap (secondaryEntry s))

/-- The namespaces attached to a function's controller, in rising order. -/
def attachedNs (s : State) (fn : Nat) : List Nat := (s.nvme.namespaces.filter (fun p => p.2.attached.contains fn)).map (·.1)

/-- What Identify answers to a CNS, where the function serves it (R316, R345). -/
def identifyData (s : State) (fn : Nat) (q : Sqe) : Option (Except Cpl Bytes) :=
  let cns := q.cdw10 % 256
  let cnt := q.cdw10 / 65536 % 65536
  let active := fun (k : Namespace → Bytes) (none_ : Bytes) =>
    if q.nsid = 0 || (1024 < q.nsid && q.nsid ≠ 0xFFFFFFFF) then Except.error invalidNs
    else match nsAt s q.nsid with
      | some n => if n.attached.contains fn then Except.ok (k n) else Except.ok none_
      | none => Except.ok none_
  match cns with
  | 0x00 => some (if q.nsid = 0xFFFFFFFF then (if fn = 0 then Except.ok (identifyNamespace s 0 none) else Except.error invalidNs)
                  else active (fun n => identifyNamespace s q.nsid (some n)) (zeros 4096))
  | 0x01 => some (Except.ok (identifyController s fn))
  | 0x02 => some (if 0xFFFFFFFE ≤ q.nsid then Except.error invalidNs else Except.ok (nsList (attachedNs s fn) q.nsid))
  | 0x03 => some (active (fun _ => padTo 4096 (b1 4 ++ b1 1 ++ b2 0 ++ b1 0)) (zeros 4096))
  | 0x05 => if fn = 0 then some (active (fun _ => identifyNvmNamespace) (zeros 4096)) else none
  | 0x06 => if fn = 0 then some (Except.ok identifyNvmController) else none
  | 0x10 => if fn = 0 then some (Except.ok (nsList (s.nvme.namespaces.map (·.1)) q.nsid)) else none
  | 0x11 => if fn = 0 then some (if q.nsid = 0 || 1024 < q.nsid then Except.error invalidNs
      else Except.ok ((nsAt s q.nsid).elim (zeros 4096) (fun n => identifyNamespace s q.nsid (some n)))) else none
  | 0x12 => if fn = 0 then some ((nsAt s q.nsid).elim (Except.error invalidNs) (fun n =>
      Except.ok (ctrlList ((List.range 128).filter n.attached.contains) cnt))) else none
  | 0x13 => if fn = 0 then some (Except.ok (ctrlList (liveFunctions s) cnt)) else none
  | 0x14 => if fn = 0 then some (Except.ok primaryCaps) else none
  | 0x15 => if fn = 0 then some (Except.ok (secondaryList s cnt)) else none
  | _ => none

/-! ### Features (R317) -/

/-- The calendar set to a value: a change by more than 1 s is recorded with both values (R43). -/
def setCalendar (s : State) (v : BitVec 48) : State :=
  let old := s.time.calendar
  let far := 1000 < max old.toNat v.toNat - min old.toNat v.toNat
  let s := { s with time := { s.time with calendar := v } }
  recordIf far s 0x0A02 .notice (b6 old.toNat ++ b6 v.toNat)

/-- Bytes of the APST table: 32 entries of ITPS and ITPT. -/
def apstBytes (l : List (Nat × Nat)) : Bytes :=
  (List.range 32).flatMap (fun i => let e := l.getD i (0, 0); b4 (8 * e.1 + 256 * e.2) ++ b4 0)

/-- What Get Features answers (R317, R345): DW0 and the data of the features that transfer data. -/
def featureValue (s : State) (fn : Nat) (q : Sqe) : Option (Nat × Bytes) :=
  let c := ctrlAt s fn
  let n := s.nvme
  match q.cdw10 % 256 with
  | 0x01 => some (c.arbitration, [])
  | 0x02 => some (if fn = 0 then n.powerSelected else 0, [])
  | 0x04 =>
    let sensor := q.cdw11 / 65536 % 16
    let type := q.cdw11 / 2 ^ 20 % 4
    if 3 < sensor || 1 < type then none else some (thresholdK c sensor type, [])
  | 0x07 => some (let g := c.granted.getD (queuePairs fn - 1, queuePairs fn - 1); (g.1 + 65536 * g.2, []))
  | 0x08 => some (c.intCoal, [])
  | 0x09 =>
    let v := q.cdw11 % 65536
    if vectorsOf fn ≤ v then none else some (v + if c.coalDisabled.contains v then 65536 else 0, [])
  | 0x0B => some (c.aec, [])
  | 0x0C => if fn = 0 then some (if n.apstEnable then 1 else 0, apstBytes n.apst) else none
  | 0x0E => some (0, b6 s.time.calendar.toNat ++ b1 (if s.time.calendar = 0 then 0 else 2) ++ b1 0)
  | 0x10 => if fn = 0 then some (n.tmt2 + 65536 * n.tmt1, []) else none
  | _ => none

/-! ### Self-test (R341, R342) -/

/-- Segments of a test. -/
def segmentsOfTest (kind : Nat) : Nat := if kind = 2 then 9 else 7

/-- The segments a test goes through with the results given; a failed one ends it, and the last ends it (R342). -/
def runSegments : State → List Bool → State
  | s, [] => s
  | s, ok :: rest =>
    let t := s.nvme.selfTest
    if t.kind = 0 then s
    else
      let seg := t.segment + 1
      if !ok then record (endSelfTest s 7 seg) 0x0202 .fault (b2 t.kind ++ b2 seg)
      else if segmentsOfTest t.kind ≤ seg then record (endSelfTest s 0 0) 0x0202 .info (b2 t.kind ++ b2 seg)
      else
        runSegments { s with nvme := { s.nvme with selfTest := { t with segment := seg, percent := 100 * seg / segmentsOfTest t.kind } } } rest

/-! ### Namespaces (R131, R132, R225, R238, R333) -/

/-- Whether the DRAM in use holds the allocations of R139 and R194 with the tables of more map segments (R132, R400). -/
def dramHolds (s : State) (segments : Nat) : Bool :=
  dramDemand s (finePool s) s.dram.dirtyLimit (segmentsUsed s + segments) s.map.openCounts.toList.sum + redReserve s.red.geometry ≤ dramBytes s

/-- Whether the capacity holds a namespace of a size (R131, R132, R174). -/
def capacityHolds (s : State) (nsze : Nat) : Bool :=
  (segmentsUsed s + segmentsOf nsze) * 8 * gib ≤ exportableNow s && dramHolds s (segmentsOf nsze)

/-- The lowest free NSID. -/
def freeNsid (s : State) : Option Nat := ((List.range 1024).map (· + 1)).find? (fun n => (nsAt s n).isNone)

/-- One run of a new namespace's segments: its table entry, journalled (R131, R151). -/
def takeSegments (s : State) (nsid : Nat) (r : Nat × Nat) : State :=
  let (msn, s) := takeMsn s 1
  addRecords (setCore s (addSegments s.map.core nsid r)) [{ type := .nsSegment, nsid := nsid, count := r.2, offset := r.1, msn := msn }]

/-- STREAM_POLICY of a namespace at its default (R173). -/
def resetPolicy (s : State) (nsid : Nat) : State := { s with settings := removeSetting s.settings (0x01, 9, nsid) }

/-- A namespace made: its segments at the lowest free positions of the span map, journalled; its STREAM_POLICY at the default; with
MEDIA_ENCRYPT at 1 its key drawn (R131, R151, R173, R225). -/
def createNamespace (s : State) (nsid : Nat) (n : Namespace) : State :=
  let s := (newSegments s.map.core (segmentsOf n.nsze)).foldl (fun s r => takeSegments s nsid r) (resetPolicy s nsid)
  let s := { s with nvme := { s.nvme with namespaces := insert s.nvme.namespaces nsid n } }
  if s.mbx.mediaEncrypt then makeKey s nsid 0 else s

/-- The first half of a namespace's deletion: every block deallocated and the segments given up, in the journal (R225). -/
def beginDelete (s : State) (nsid : Nat) (n : Namespace) : State :=
  let s := deallocRange s nsid 0 n.nsze false
  let (msn, s) := takeMsn s 1
  addRecords (setCore s (dropSegments s.map.core nsid)) [{ type := .nsSegment, nsid := nsid, count := 0, msn := msn }]

/-- Whether a journal change of a namespace still waits to be durable. -/
def nsJournalWaits (s : State) (nsid : Nat) : Bool := s.map.tail.any (fun r => r.nsid == nsid)

/-- The second half of a namespace's deletion: its key destroyed, the namespace gone with its setting (R173, R225, R333). -/
def endDelete (s : State) (nsid : Nat) : State :=
  let fns := (nsAt s nsid).elim [] (·.attached)
  let s := destroyKey (resetPolicy s nsid) nsid
  let s := { s with nvme := { s.nvme with namespaces := remove s.nvme.namespaces nsid } }
  fns.foldl (fun s fn => nsChanged s fn nsid) s

/-- Whether a Seal, Secure Deallocate or Audit Range runs on a namespace (Format NVM waits for it). -/
def nsBusy (s : State) (nsid : Nat) : Bool :=
  s.nvme.ctrl.any (fun k => k.sqs.any (fun p => p.1 != 0 && p.2.cmds.any (fun f =>
    [0x81, 0x85, 0x8D].contains f.sqe.opc && f.sqe.nsid == nsid && f.begun && f.done.isNone)))

end Sys2Proof.Machine
end

