-- ==== Sys2Proof/Machine/MbxOps.lean ====
section
/-! DEFINITION. The mailboxes (11_management_mailboxes R358 to R376): issuing, availability, order, completion, resets and Custodian
authorisation. -/
namespace Sys2Proof.Machine

/-- The status codes of R370. -/
inductive MbxStatus where
  | success | badOpcode | lenRange | badPayload | valueRange | busyOrder | hostXfer | notReady | notPermitted | csFail | csFull
  | authRequired | authStale | authFailed | authLockout | carrierState | arrayState | nsPresent | sealUnknown | sealBusy
  | sessionState | peerRefused | vfState | quiescePending | nsShared | notInStep | blobInvalid | nsMismatch | promoted | peerUnknown
  deriving DecidableEq, Repr

/-- The number of a status (R370). -/
def MbxStatus.code : MbxStatus → Nat
  | .success => 0x0000
  | .badOpcode => 0x0001
  | .lenRange => 0x0002
  | .badPayload => 0x0003
  | .valueRange => 0x0004
  | .busyOrder => 0x0005
  | .hostXfer => 0x0006
  | .notReady => 0x0007
  | .notPermitted => 0x0008
  | .csFail => 0x0009
  | .csFull => 0x000A
  | .authRequired => 0x0010
  | .authStale => 0x0011
  | .authFailed => 0x0012
  | .authLockout => 0x0013
  | .carrierState => 0x0020
  | .arrayState => 0x0021
  | .nsPresent => 0x0022
  | .sealUnknown => 0x0023
  | .sealBusy => 0x0024
  | .sessionState => 0x0025
  | .peerRefused => 0x0026
  | .vfState => 0x0030
  | .quiescePending => 0x0031
  | .nsShared => 0x0032
  | .notInStep => 0x0033
  | .blobInvalid => 0x0034
  | .nsMismatch => 0x0035
  | .promoted => 0x0036
  | .peerUnknown => 0x0037

/-- Kinds of an opcode: R reads state, C changes it, A changes it under Custodian authorisation (R366). -/
inductive MbxKind where
  | r | c | a
  deriving DecidableEq, Repr

/-- The opcodes with their kinds, and whether a VF's mailboxes serve them (R371). -/
def mbxOpcodes : List (Nat × MbxKind × Bool) :=
  [(0x0101, .r, true), (0x0102, .c, false), (0x0103, .r, true), (0x0104, .r, false), (0x0105, .r, false), (0x01F0, .r, false),
   (0x01F1, .c, false), (0x0201, .r, false), (0x0202, .r, false), (0x0203, .a, false), (0x0204, .c, false), (0x0301, .r, false),
   (0x0302, .r, false), (0x0303, .c, false), (0x0304, .c, false), (0x0305, .c, false)] ++
  [(0x0401, .r, false), (0x0402, .r, false), (0x0403, .a, false), (0x0404, .c, false), (0x0405, .c, false), (0x04F0, .r, false),
   (0x04F1, .c, false), (0x0501, .r, false), (0x0502, .c, false), (0x05F0, .r, false), (0x05F1, .c, false), (0x0601, .r, true),
   (0x0602, .r, true), (0x0603, .r, true), (0x0604, .r, true), (0x0605, .a, false)] ++
  [(0x0701, .r, false), (0x0702, .c, false), (0x0703, .c, false), (0x0704, .r, false), (0x0705, .c, false), (0x0706, .c, false),
   (0x0707, .r, false), (0x0708, .c, false), (0x07F0, .r, false), (0x07F1, .c, false), (0x0801, .a, false), (0x0802, .r, false),
   (0x08F0, .r, false), (0x08F1, .c, false), (0x0901, .r, false), (0x0902, .c, false), (0x0903, .c, false), (0x09F0, .r, false),
   (0x09F1, .c, false)] ++
  [(0x0A01, .r, false), (0x0A02, .c, false), (0x0AF0, .r, false), (0x0AF1, .c, false), (0x0B01, .r, false), (0x0B02, .c, false),
   (0x0B03, .c, false), (0x0C01, .r, false), (0x0C02, .c, false), (0x0C03, .c, false), (0x0C04, .c, false), (0x0C05, .c, false),
   (0x0C06, .c, false), (0x0D01, .a, false), (0x0D02, .c, false), (0x0D10, .r, false), (0x0D11, .c, false), (0x0D12, .a, false),
   (0x0D13, .r, true), (0x0E01, .a, false), (0x0E02, .c, false), (0x0F01, .r, false), (0x0F02, .c, false)]

/-- The kind of an opcode that a function serves. -/
def mbxKind (fn opcode : Nat) : Option MbxKind :=
  (mbxOpcodes.find? (fun o => o.1 == opcode && (fn == 0 || o.2.2))).map (·.2.1)

/-- Whether a function's mailboxes answer an opcode with more than BAD_OPCODE: those they serve, and CUSTODIAN_ENROL, which R377 has every
other function answer with NOT_PERMITTED. -/
def answered (fn opcode : Nat) : Bool := (mbxKind fn opcode).isSome || opcode == 0x0D11

/-! ### Mailboxes and their registers -/

/-- The number of a mailbox among all functions' mailboxes. -/
def boxKey (fn m : Nat) : Nat := 16 * fn + m
/-- A mailbox. -/
def boxAt (s : State) (key : Nat) : Mailbox := readAt {} s.mbx.boxes key
/-- A mailbox changed. -/
def modBox (s : State) (key : Nat) (f : Mailbox → Mailbox) : State :=
  { s with mbx := { s.mbx with boxes := writeAt {} s.mbx.boxes key (f (boxAt s key)) } }
/-- Mailboxes of a function (R358, R359). -/
def boxesOf (fn : Nat) : Nat := if fn = 0 then 16 else 2

/-- Whether host software reaches a function's BARs (R290, R384). -/
def barReached (s : State) (fn : Nat) : Bool :=
  (funcAt s fn).memSpace && funcExists s fn && s.host.configReady && !s.host.perst && (funcAt s fn).d == .d0

/-- The bytes of a payload buffer. -/
def bufferBytes (b : Mailbox) (off n : Nat) : Bytes := (List.range n).map (fun i => readAt 0 b.buffer (off + i))

/-- Bytes laid into a payload buffer. A word that they cover in part and that is uncorrectable keeps its content; one they cover
whole becomes good again (R417, R418). -/
def bufferWrite (b : Mailbox) (off : Nat) (bytes : Bytes) : Mailbox :=
  let whole := fun w => off ≤ 8 * w && 8 * w + 8 ≤ off + bytes.length
  let lands := fun i => let w := (off + i) / 8; i + off < 65536 && (whole w || !b.badWords.contains w)
  { b with
    buffer := bytes.zipIdx.foldl (fun l p => if lands p.2 then writeAt 0 l (off + p.2) p.1 else l) b.buffer
    badWords := b.badWords.filter (fun w => !whole w) }

/-- Whether the words of a request hold an uncorrectable one (R418). -/
def requestBad (b : Mailbox) (len : Nat) : Bool := b.badWords.any (fun w => 8 * w < len)

/-! ### Completion (R362, R364, R369) -/

/-- The completion record (R364). -/
def mbxRecord (e : MbxExec) (status resultLen detail : Nat) : Bytes :=
  b2 e.opcode.toNat ++ b2 e.seq.toNat ++ b2 status ++ b2 1 ++ b4 resultLen ++ b4 detail

/-- A mailbox after its command has completed (R362 steps 7 and 8). -/
def completedBox (b : Mailbox) (e : MbxExec) (status detail : Nat) (result : Bytes) : Mailbox :=
  let result := if status = 0 then result.take 65536 else []
  let b := if e.hostPayload then { b with hostResult := if e.registersOnly then b.hostResult else result } else bufferWrite b 0 result
  { b with
    status := status, detail := detail, resultLen := result.length, done := true, busy := false, exec := none
    records := if b.cplAddr != 0 && !e.registersOnly then b.records ++ [mbxRecord e status result.length detail] else b.records }

/-- The end of a mailbox command: its mailbox completes and its message is sent, or it was orphaned and nothing is seen of it
(R362, R369). -/
def mbxEnd (s : State) (key : Nat) (e : MbxExec) (st : MbxStatus) (detail : Nat) (result : Bytes) : State :=
  let b := boxAt s key
  if b.exec.elim false (fun x => x.id == e.id) then
    let s := if e.hostPayload && !e.registersOnly && st.code = 0 then noteHostWrite s (result.take 65536).length else s
    let s := modBox s key (fun b => completedBox b e st.code detail result)
    if b.irqEn then sendMsix s (key / 16) b.vector else s
  else { s with mbx := { s.mbx with orphans := s.mbx.orphans.filter (fun o => o.2.id != e.id) } }

/-- The command that waits under a mailbox and a number. -/
def waiterOf (s : State) (w : Nat × Nat) : Option MbxExec :=
  match (boxAt s w.1).exec with
  | some e => if e.id = w.2 then some e else (s.mbx.orphans.find? (fun o => o.2.id == w.2)).map (·.2)
  | none => (s.mbx.orphans.find? (fun o => o.2.id == w.2)).map (·.2)

/-- The end of the command that waits for a work, where one does. -/
def endWaiter (s : State) (w : Option (Nat × Nat)) (st : MbxStatus) (detail : Nat) (result : Bytes) : State :=
  match w with
  | none => s
  | some w => match waiterOf s w with
    | none => s
    | some e => mbxEnd s w.1 e st detail result

/-! ### Availability and order (R366, R368, R394, R396) -/

/-- Whether the opcode's family is served in the present start state (R368, R394, R396). -/
def familyServed (s : State) (opcode : Nat) : Bool :=
  if s.boot.phase = .noStore then false
  else if s.boot.phase = .safeStart && s.boot.safeStep = 5 then [0x0101, 0x0802, 0x0B01, 0x0201, 0x0202].contains opcode
  else if s.boot.intake && !s.dram.frozen then true
  else [0x01, 0x02, 0x08, 0x09, 0x0B, 0x0D, 0x0F].contains (opcode / 256)

/-- The object of a C or A command (R366): VF, carrier, SEAL_ID, or the family. -/
def mbxObject (opcode : Nat) (kind : MbxKind) (request : Bytes) : Nat × Nat :=
  let args := if kind = .a then request.drop 256 else request
  let fam := opcode / 256
  (fam, if fam = 0x0C then field args 0 2 else if fam = 0x03 then field args 0 1 else if fam = 0x06 then field args 0 8 else 0)

/-- Whether a C or A command that still runs has an object. -/
def objectBusy (s : State) (id : Nat) (o : Nat × Nat) : Bool :=
  let runs := fun (e : MbxExec) => e.waiting && e.id != id
    && (mbxOpcodes.find? (fun x => x.1 == e.opcode.toNat)).elim false (fun x => x.2.1 != .r && mbxObject x.1 x.2.1 e.request == o)
  s.mbx.boxes.any (fun p => p.2.exec.elim false runs) || s.mbx.orphans.any (fun p => runs p.2)

/-! ### Custodian authorisation (R374 to R376) -/

/-- KEY_INDEX as the mailboxes report it. -/
def keyIndexNow (s : State) : Nat := if s.mbx.custodianKey.isSome then s.mbx.keyIndex else 0xFFFFFFFF

/-- Whether a nonce is the live challenge of a mailbox (R374). -/
def challengeLive (s : State) (key : Nat) (nonce : Bytes) : Bool :=
  (boxAt s key).challenge.elim false (fun c => digestBytes c.1 == nonce && s.time.opMs ≤ c.2 + 60000)

/-- A challenge consumed (R376 step 3). -/
def consumeChallenge (s : State) (key : Nat) : State := modBox s key (fun b => { b with challenge := none })

/-- A completion with AUTH_FAILED: recorded, counted, and the eighth within 60 operating minutes locks CHALLENGE (R376). -/
def noteAuthFailed (s : State) (opcode : Nat) : State :=
  let s := record s 0x0A03 .notice (b2 opcode ++ b4 (keyIndexNow s))
  let l := s.mbx.failures.filter (fun t => s.time.opMs < t + 3600000) ++ [s.time.opMs]
  if 8 ≤ l.length && !s.mbx.lockout then
    record { s with mbx := { s.mbx with failures := [], lockout := true } } 0x0A03 .fault (b2 opcode ++ b4 (keyIndexNow s))
  else { s with mbx := { s.mbx with failures := l } }

/-- The checks of a command of kind A (R376 steps 1 to 4): the status it fails with, and the state its check leaves. -/
def authorise (s : State) (key : Nat) (e : MbxExec) : Option MbxStatus × State :=
  let r := e.request
  match s.mbx.custodianKey with
  | none => (some .authRequired, s)
  | some pub =>
    if e.len < 256 || slice r 0 4 != ascii "CAUT" || field r 4 2 != 1 then (some .authRequired, s)
    else if field r 6 2 != e.opcode.toNat || !challengeLive s key (slice r 0x10 32) then (some .authStale, s)
    else
      let s := consumeChallenge s key
      if slice r 0x30 32 != digestBytes (Config.sm3 (octets64 pub)) || slice r 0x50 32 != digestBytes (Config.sm3 (r.drop 256))
          || !Config.sm2Verify pub (slice r 0 0x70) (signatureAt r 0x70) then
        (some .authFailed, noteAuthFailed s e.opcode.toNat)
      else (none, record s 0x0A03 .notice (b2 e.opcode.toNat ++ b4 (keyIndexNow s)))

/-! ### Running an opcode (R362, R365, R366) -/

/-- The command a row runs: the function, the mailbox and its number, and what was latched. -/
structure MbxCtx where
  fn : Nat := 0
  key : Nat := 0
  e : MbxExec := {}
  deriving DecidableEq, Repr

/-- The reference by which work finds a command again. -/
def MbxCtx.ref (x : MbxCtx) : Nat × Nat := (x.key, x.e.id)

/-- Success, with a result and DETAIL. -/
def mbxOk (x : MbxCtx) (result : Bytes) (detail : Nat) (s : State) : State := mbxEnd s x.key x.e .success detail result
/-- Success without a result. -/
def mbxDone (x : MbxCtx) (s : State) : State := mbxOk x [] 0 s
/-- Another status, with DETAIL. -/
def mbxFail (x : MbxCtx) (st : MbxStatus) (detail : Nat) (s : State) : State := mbxEnd s x.key x.e st detail []
/-- The command goes on to wait for the work it has begun. -/
def mbxWait (x : MbxCtx) (s : State) : State :=
  if (boxAt s x.key).exec.elim false (fun e => e.id == x.e.id) then
    modBox s x.key (fun b => { b with exec := b.exec.map (fun e => { e with waiting := true }) })
  else { s with mbx := { s.mbx with orphans := s.mbx.orphans.map (fun o => if o.2.id == x.e.id then (o.1, { o.2 with waiting := true }) else o) } }

/-- The command of an opcode that a mailbox, or a reset mailbox's orphaned work, holds begun and not yet run. -/
def begunCommand (s : State) (key opcode : Nat) : Option MbxExec :=
  let is := fun (e : MbxExec) => e.opcode.toNat == opcode && e.begun && !e.waiting
  match s.mbx.orphans.find? (fun o => o.1 == key && is o.2) with
  | some o => some o.2
  | none => (boxAt s key).exec.filter is

/-- Reserved bytes of the authorisation block (R375). -/
def authReserved (r : Bytes) : Option Nat := if !allZero (slice r 8 8) then some 8 else if !allZero (slice r 0xB0 80) then some 0xB0 else none

/-- The run of an opcode: the checks every command passes, in their order, and then its own work on its arguments (R365 to R368, R376).
In a handover's stall and in a sleep state nothing runs (R337, R368). -/
def runMbx (fn m opcode : Nat) (sizes : Nat → Bool) (work : MbxCtx → Bytes → State → State) (s : State) : State :=
  let key := boxKey fn m
  match begunCommand s key opcode with
  | none => s
  | some e =>
    let x : MbxCtx := { fn := fn, key := key, e := e }
    if s.fw.intakeStalled || s.pwr.sleep != .zenith || s.pwr.phase != .steady then s
    else
      match mbxKind fn opcode with
      | none => mbxFail x .badOpcode 0 s
      | some kind =>
        if 65536 < e.len then mbxFail x .lenRange 0 s
        else if !familyServed s opcode then mbxFail x .notReady 0 s
        else if kind != .r && (sanitizeRuns s || objectBusy s e.id (mbxObject opcode kind e.request)) then mbxFail x .busyOrder 0 s
        else if kind = .a then
          match authorise s key e with
          | (some st, s) => mbxFail x st 0 s
          | (none, s) =>
            if !sizes (e.len - 256) then mbxFail x .lenRange 0 s
            else match authReserved e.request with
              | some o => mbxFail x .badPayload o s
              | none => work x (e.request.drop 256) s
        else if !sizes e.len then mbxFail x .lenRange 0 s
        else work x e.request s

/-- The one request size of an opcode. -/
def size (n : Nat) : Nat → Bool := fun len => len == n

/-- The offset of an argument in the payload, for BAD_PAYLOAD's DETAIL (R365). -/
def argOffset (x : MbxCtx) (off : Nat) : Nat := if mbxKind x.fn x.e.opcode.toNat = some .a then off + 256 else off

/-- A command that fails at an argument (R365). -/
def mbxBad (x : MbxCtx) (off : Nat) (s : State) : State := mbxFail x .badPayload (argOffset x off) s

/-! ### Resets and Bus Master Enable (R369) -/

/-- A function's mailboxes reset: a command not begun is dropped, one begun runs on unseen; challenges are discarded. What has been written to
host memory stays there. -/
def resetMailboxes (s : State) (fn : Nat) : State :=
  (List.range 16).foldl (fun s m =>
    let key := boxKey fn m
    let b := boxAt s key
    let left := match b.exec with
      | some e => if e.begun then [(key, e)] else []
      | none => []
    let s := { s with mbx := { s.mbx with orphans := s.mbx.orphans ++ left } }
    modBox s key (fun b => { buffer := b.buffer, badWords := b.badWords, hostResult := b.hostResult, records := b.records })) s

/-- Bus Master Enable of a function cleared: a command whose host payload is incomplete fails, a begun one completes in the registers
only (R369). -/
def mailboxesNoMaster (s : State) (fn : Nat) : State :=
  (List.range 16).foldl (fun s m =>
    let key := boxKey fn m
    match (boxAt s key).exec with
    | none => s
    | some e =>
      if e.begun then modBox s key (fun b => { b with exec := some { e with registersOnly := true } })
      else mbxEnd s key { e with registersOnly := true } .hostXfer 0 []) s

end Sys2Proof.Machine
end

