-- ==== Sys2Proof/Machine/FwOps.lean ====
section
/-! DEFINITION. Firmware images, packages, slots and the hot handover (16_almanac_and_firmware_handover R501 to R513). -/
namespace Sys2Proof.Machine

/-- 64 KiB: the block of a package and of an image. -/
def fwBlock : Nat := 65536

/-! ### Images (R501) -/

/-- IMAGE_LENGTH of an image. -/
def imageLength (i : Bytes) : Nat := field i 0x14 4
/-- DIGEST of an image's header. -/
def imageDigest (i : Bytes) : Digest := BitVec.ofNat 256 (ofBE (slice i 0x50 32))
/-- What DIGEST covers. -/
def digestInput (i : Bytes) : Bytes := slice i 0 0x30 ++ slice i 0x1000 (imageLength i - 0x1000)

/-- Whether a header's fields are those of the table: magic, version, reserved bytes and lengths. -/
def headerHolds (i : Bytes) : Bool :=
  slice i 0 4 == ascii "SHFW" && field i 4 2 == 1 && field i 6 2 == 0 && imageLength i != 0 && imageLength i % fwBlock == 0
    && imageLength i ≤ 16320 * 1024 && field i 0x18 4 % 4096 == 0 && field i 0x1C 4 ≤ 8 * mib && field i 0x24 4 ≤ mib
    && field i 0x10 4 ≤ 1024

/-- Whether an image passes every check of R501 but the one of ROLLBACK. -/
def imageHolds (i : Bytes) : Bool :=
  headerHolds i && Config.sm3 (digestInput i) == imageDigest i
    && (Config.firmwareKey (BitVec.ofNat 256 (ofBE (slice i 0x30 32)))).elim false (fun k => Config.sm2Verify k (slice i 0 0x70) (signatureAt i 0x70))

/-- ROLLBACK of an image. -/
def imageRollback (i : Bytes) : Nat := field i 0x10 4

/-- The Meridian region's page check (R501, R510): every PAGE_CRC matches. -/
def pageCrcsHold (i : Bytes) : Bool :=
  (List.range (divCeil (field i 0x1C 4) 4096)).all (fun p =>
    (crc32c (slice i (field i 0x18 4 + 4096 * p) 4096)).toNat == field i (0x1000 + 4 * p) 4)

/-! ### Packages (R504 to R507) -/

/-- A block of the staged package, where it has been downloaded. -/
def stagedBlock (f : FwState) (j : Nat) : Option Bytes :=
  (f.staged.find? (fun p => p.1 ≤ j * fwBlock && j * fwBlock + fwBlock ≤ p.1 + p.2.length)).map
    (fun p => slice p.2 (j * fwBlock - p.1) fwBlock)

/-- A directory entry: OP, SRC, DELTA, DELTA_CRC, TARGET_CRC. -/
def dirEntry (h : Bytes) (t : Nat) : Nat × Nat × Nat × Nat × Nat :=
  let o := 0x40 + 16 * t
  (field h o 1, field h (o + 1) 1, field h (o + 2) 2, field h (o + 4) 4, field h (o + 8) 4)

/-- One target block built from its entry, where its checks pass (R507 step 3). -/
def targetBlock (f : FwState) (base h : Bytes) (t : Nat) : Option Bytes :=
  let (op, src, delta, dcrc, tcrc) := dirEntry h t
  let from_ := slice base (src * fwBlock) fwBlock
  let d := if delta < field h 6 2 then (stagedBlock f (delta + 1)).filter (fun b => (crc32c b).toNat == dcrc) else none
  let out := match op with
    | 1 => some from_
    | 2 => d.map (fun b => xorBytes from_ b)
    | 3 => d
    | _ => none
  out.filter (fun b => (crc32c b).toNat == tcrc)

/-- The blocks of a target image one after another, none where one fails. -/
def targetBlocks (f : FwState) (base h : Bytes) : Nat → Option Bytes
  | 0 => some []
  | n + 1 => (targetBlocks f base h n).bind (fun acc => (targetBlock f base h n).map (acc ++ ·))

/-- Whether a package header passes its checks against the active image (R507 step 1). -/
def packageHolds (base h : Bytes) : Bool :=
  let n := field h 0x30 4
  slice h 0 4 == ascii "SHDL" && field h 4 2 == 1 && field h 6 2 ≤ 255 && 1 ≤ n && n ≤ 255
    && (crc32c (slice h 0 0x34 ++ slice h 0x40 4080)).toNat == field h 0x34 4
    && (!(List.range n).any (fun t => (dirEntry h t).1 == 1 || (dirEntry h t).1 == 2) || slice h 0x10 32 == digestBytes (imageDigest base))

/-- The slot that is not active. -/
def inactiveSlot (f : FwState) : Nat := 1 - f.activeSlot.val
/-- A slot. -/
def slotAt (f : FwState) (i : Nat) : FwSlot := vget f.slots {} i
/-- A slot replaced. -/
def setSlot (f : FwState) (i : Nat) (x : FwSlot) : FwState := { f with slots := vset f.slots i x }

/-- The image that the staged package gives, where every block is present and every check of R507 passes up to its step 4. -/
def packageImage (f : FwState) : Option Bytes :=
  let base := (slotAt f f.activeSlot).image
  match stagedBlock f 0 with
  | none => none
  | some h =>
    if packageHolds base h && (List.range (field h 6 2)).all (fun j => (stagedBlock f (j + 1)).isSome) then
      (targetBlocks f base h (field h 0x30 4)).filter (fun i => imageLength i == i.length)
    else none

/-- A slot that holds an image, COMMITTED (R502). -/
def committedSlot (i : Bytes) : FwSlot :=
  { image := i, state := .committed, fwVersion := slice i 8 8, digest := imageDigest i, rollback := imageRollback i }

/-- How the write of a slot ends (R507): the slot's new content, or the status it fails with. -/
def slotWrite (f : FwState) (activates storeOk : Bool) : Except Cpl FwSlot :=
  match packageImage f with
  | none => .error (cplCmd 0x07)
  | some i =>
    if !storeOk || !imageHolds i then .error (cplCmd 0x07)
    else if imageRollback i < f.antiRollback then .error (cplCmd 0x13)
    else if activates && f.policy then .error (cplCmd 0x13)
    else .ok (committedSlot i)

/-- Why a Commit is refused before its work (R507). -/
def commitRefusal (s : State) (action fs : Nat) : Option Cpl :=
  let f := s.fw
  if 2 < fs || (action ≠ 2 && fs ≠ 0 && fs - 1 = f.activeSlot.val) || (action = 2 && fs = 0) then some (cplCmd 0x06)
  else if f.commit.isSome || sanitizeRuns s then some (cplCmd 0x13)
  else none

/-! ### The handover (R508 to R513) -/

/-- The two versions a handover's record carries (R500). -/
def versionParams (f : FwState) : Bytes :=
  padTo 8 (slotAt f f.activeSlot).fwVersion ++ padTo 8 (slotAt f (inactiveSlot f)).fwVersion

/-- The Commit of a running handover completed, where its command still stands (R510, R513). -/
def endCommit (s : State) (o : Cpl) : State :=
  let s := match s.fw.commit with
    | none => s
    | some (fn, sq, cid, _) => takeEffect s { fn := ⟨fn % 128, Nat.mod_lt _ (by decide)⟩, sq := sq, cid := cid } o
  { s with fw := { s.fw with commit := none, staged := [] } }

/-- Intake resumed after the stall: every function's recorded doorbells are acted on (R310, R512). -/
def resumeIntake (s : State) : State :=
  if !s.fw.intakeStalled then s
  else (List.range 128).foldl (fun s fn => if fn == 0 || (vfAt s fn).st == .online then replayDoorbells s fn else s)
    { s with fw := { s.fw with intakeStalled := false } }

/-- The handover ended: the old or the new microcode is freed and intake resumes. -/
def handoverOver (s : State) : State :=
  resumeIntake { s with fw := { s.fw with handover := .none, microcodeRolled := 0 } }

/-- A reversion for a failed image (R512). -/
def revertImage (s : State) : State :=
  let s := record s 0x0A09 .fault (versionParams s.fw)
  let f := s.fw
  let s := { s with fw := { setSlot f (inactiveSlot f) { slotAt f (inactiveSlot f) with state := .invalid } with lastActivation := 2 } }
  endCommit (handoverOver s) (cplCmd 0x07)

/-- A refusal for an incompatibility (R509, R512): the slot is named for the next start. -/
def revertIncompatible (s : State) : State :=
  let s := record s 0x0A09 .fault (versionParams s.fw)
  let f := s.fw
  let s := { s with fw := { f with lastActivation := 3, namedSlot := if f.activeSlot = 0 then 1 else 0 } }
  endCommit (handoverOver s) (cplCmd 0x0B)

/-- The handover abandoned by PWRFAIL_N or a freeze before READY (R513): the slot stays COMMITTED and is not named. -/
def abandonHandover (s : State) : State :=
  if s.fw.handover = .none then s
  else { s with fw := { s.fw with handover := .none, microcodeRolled := 0, intakeStalled := false, commit := none } }

/-- Whether the incoming image and the running one are compatible (R509). -/
def compatible (s : State) : Bool :=
  let old := (slotAt s.fw s.fw.activeSlot).image
  let new := (slotAt s.fw (inactiveSlot s.fw)).image
  field new 0x2A 2 ≤ field old 0x28 2 && field old 0x28 2 ≤ field new 0x28 2 && field new 0x2E 2 ≤ field old 0x2C 2
    && field old 0x2C 2 ≤ field new 0x2C 2 && !s.dram.frozen

/-- READY (R503, R510): set and slot exchanged, the record names the new slot, the counter raised. -/
def handoverReady (s : State) : State :=
  let s := record s 0x0A09 .notice (versionParams s.fw)
  let f := s.fw
  let new : Fin 2 := if f.activeSlot = 0 then 1 else 0
  let s := { s with fw := { f with activeSlot := new, namedSlot := new, setB := !f.setB, lastActivation := 1
                                   antiRollback := max f.antiRollback (slotAt f new).rollback, firstStartDone := true } }
  endCommit (handoverOver s) cplOk

end Sys2Proof.Machine
end

