-- ==== Sys2Proof/Machine/Mailbox.lean ====
section
/-! DEFINITION. Issuing a mailbox command (11_management_mailboxes R361 to R365, R369, R418). -/
namespace Sys2Proof.Machine

/-- GO accepted: the command is latched, BUSY set and DONE cleared; what no opcode serves ends at once (R362, R365, R370). -/
def latchCommand (s : State) (fn m : Nat) : State :=
  let key := boxKey fn m
  let b := boxAt s key
  let e : MbxExec := { id := s.mbx.nextExec, opcode := b.opcode, len := b.len.toNat, seq := b.seq, hostPayload := b.hostPayload
                       begun := !b.hostPayload, request := if b.hostPayload then [] else bufferBytes b 0 (min b.len.toNat 65536) }
  let s := modBox s key (fun b => { b with busy := true, done := false, exec := some e })
  let s := { s with mbx := { s.mbx with nextExec := e.id + 1 } }
  if !answered fn b.opcode.toNat then mbxEnd s key e .badOpcode 0 []
  else if 65536 < e.len then mbxEnd s key e .lenRange 0 []
  else if !b.hostPayload && requestBad b e.len then mbxEnd s key e .hostXfer 0 []
  else s

/-- A write of 1 to GO (R362, R363); none is accepted after PWRFAIL_N (R447). -/
def writeGo (s : State) (fn m : Nat) : State :=
  if !barReached s fn || boxesOf fn ≤ m || s.pwr.pwrfail then s
  else if (boxAt s (boxKey fn m)).busy then modBox s (boxKey fn m) (fun b => { b with overrun := true })
  else latchCommand (leaveL1 s) fn m

/-- MBX_HOST_PAYLOAD_ARRIVAL (R362, R369): the last byte arrives and the command has begun. -/
def execMbxHostPayloadArrival (fn : Func) (m : Fin 16) (data : Bytes) (s : State) : Result :=
  .next (match (boxAt s (boxKey fn m)).exec with
    | none => s
    | some e =>
      if e.begun || !e.hostPayload || !mayRequest s fn then s
      else modBox (noteHostRead s e.len) (boxKey fn m) (fun b => { b with exec := some { e with begun := true, request := padTo e.len data } }))

end Sys2Proof.Machine
end

