-- ==== Sys2Proof/Machine/CtrlOps.lean ====
section
/-! DEFINITION. Controllers and VFs as wholes (08 R301 to R310, 09 R320, 10 R348 to R351): enabling, shutdown, resets, the fatal state,
and what a reset or removal does to a VF. -/
namespace Sys2Proof.Machine

/-- A number as a function. -/
def toFunc (n : Nat) : Func := ⟨n % 128, Nat.mod_lt _ (by decide)⟩

/-! ### VF records and outcomes (R349 to R351) -/

/-- Why a VF's record is written; the numbers are the model's (log entry 40, PRESUMED). -/
inductive VfCause where
  | offline | flr | d3hot | removal | quiesced | saved | restored | resumed | forced
  deriving DecidableEq, Repr

/-- The number of a cause in the record. -/
def VfCause.code : VfCause → Nat
  | .offline => 1
  | .flr => 2
  | .d3hot => 3
  | .removal => 4
  | .quiesced => 5
  | .saved => 6
  | .restored => 7
  | .resumed => 8
  | .forced => 9

/-- The record of a VF's event: VF, cause, commands terminated (R500). -/
def vfRecord (s : State) (sev : Severity) (n : Nat) (c : VfCause) (count : Nat) : State :=
  record s 0x0203 sev (b1 n ++ b2 c.code ++ b4 count)

/-- What a reset or removal does to a VF that is not OFFLINE (R351): commands terminated, the controller reset, its record written, a
waiting VF Manager operation ended. -/
def vfOutcome (s : State) (n : Nat) (c : VfCause) : State :=
  let v := vfAt s n
  let calm := v.st == .quiesced || v.st == .saved
  let count := outstanding s n
  let s := resetController s (toFunc n)
  let s := modCtrl s n (fun k => { k with fetchStopped := false })
  let s := vfRecord s (if calm then .notice else .fault) n c (if calm then 0 else count)
  endWaiter (modVf s n (fun v => { v with st := .offline, waiter := none })) v.waiter .vfState 0 []

/-- QUIESCING ends with the last outstanding command: VF_QUIESCE completes (R349, R350). -/
def settleQuiesce (s : State) (n : Nat) : State :=
  let v := vfAt s n
  if n = 0 || v.st ≠ .quiescing || outstanding s n ≠ 0 then s
  else
    let s := modVf s n (fun v => { v with st := .quiesced, waiter := none })
    endWaiter (vfRecord s .notice n .quiesced 0) v.waiter .success 0 []

/-- COMPLETION_POST (R300, R319, R320, R350). -/
def execCompletionPost (c : CmdRef) (s : State) : Result := .next (settleQuiesce (postNow s c) c.fn)

/-! ### Enabling and shutdown (R172, R320, R385) -/

/-- CC.EN set: RDY follows where it may (R348, R385); in Safe Start CSTS.CFS reads 1 while CC.EN is 1 (R393). -/
def ccEnSet (s : State) (fn : Nat) : State :=
  if !barReached s fn || (ctrlAt s fn).cc &&& 1 == 1 then s
  else
    let s := modCtrl s fn (fun c => { c with cc := c.cc ||| 1, cfs := c.cfs || s.boot.phase == .safeStart })
    settleReady { s with map := { s.map with cleanStop := false } } fn

/-- A controller reset by CC.EN: a VF keeps its state (R320, R350). -/
def controllerReset (s : State) (fn : Nat) : State := settleQuiesce (resetController s (toFunc fn)) fn

/-- CC.EN cleared; in a handover's stall the reset is carried out after it (R513). -/
def ccEnClear (s : State) (fn : Nat) : State :=
  if !barReached s fn || (ctrlAt s fn).cc &&& 1 == 0 then s
  else if s.fw.intakeStalled then { s with fw := { s.fw with deferred := s.fw.deferred ++ [(fn, 0)] } }
  else controllerReset s fn

/-- A shutdown notification (R172): on the PF intake stops and the clean stop begins; a VF's ends with its function alone. -/
def shutdownNotify (s : State) (fn : Nat) : State :=
  if !barReached s fn || (ctrlAt s fn).shst ≠ 0 || (ctrlAt s fn).cc &&& 1 == 0 then s
  else
    let s := modCtrl s fn (fun c => { c with cc := (c.cc &&& 0xFFFF3FFF#32) ||| 0x4000, shst := if fn = 0 then 1 else 2 })
    if fn = 0 then settleCleanStop s else s

/-! ### The fatal state (R307) -/

/-- A controller in the fatal state: its commands end without completions (R307, R320). -/
def enterFatal (s : State) (fn : Nat) : State := modCtrl (terminateAll s (toFunc fn)) fn (fun c => { c with cfs := true })

/-- Bus Master Enable's clear, or an equal event, on a function with commands outstanding (R307): the fatal state and a Fault record.
Mailbox commands fail or complete in their registers only (R369). -/
def stopRequests (s : State) (fn : Nat) : State :=
  let count := outstanding s fn
  let s := mailboxesNoMaster s fn
  if count = 0 then s
  else
    let s := enterFatal s fn
    let s := { s with host := { s.host with counters := { s.host.counters with bmeFatal := s.host.counters.bmeFatal + 1 } } }
    record s 0x0105 .fault (b1 fn ++ b4 count)

/-! ### Function resets (R308, R309) -/

/-- A function's configuration, MSI-X and controller registers at their reset values, its mailboxes reset; sticky bits, what the host
has been sent and the error log stay (R308). -/
def resetFunction (s : State) (fn : Nat) : State :=
  let s := resetController s (toFunc fn)
  let s := modCtrl s fn (fun c => { errorLog := c.errorLog, errorCount := c.errorCount })
  let s := modFunc s fn (fun f => { messages := f.messages, aerUncor := f.aerUncor, aerCor := f.aerCor, pmeEn := f.pmeEn, pmeStatus := f.pmeStatus })
  resetMailboxes s fn

/-- A VF removed (R295, R349, R351): what was attached to it and its limits are kept. -/
def removeVf (s : State) (n : Nat) : State :=
  if (vfAt s n).st = .none then s
  else
    let s := if (vfAt s n).st = .offline then s else vfOutcome s n .removal
    let s := resetFunction s n
    modFunc (modVf s n (fun v => { v with st := .none })) n (fun f => { messages := f.messages })

/-- The VFs above a number removed. -/
def removeVfsAbove (s : State) (n : Nat) : State :=
  (List.range 127).foldl (fun s i => if n < i + 1 then removeVf s (i + 1) else s) s

/-- The DOE mailbox at its reset values, as the other configuration registers: its answer, connection and transcript are gone; the
connection over Security Send is its own (R308, R312). -/
def doeReset (x : SpdmState) : SpdmState :=
  { x with conn := x.conn.set 0 .start, answer := x.answer.set 0 [], transcript := x.transcript.set 0 [], intStatus := false }

/-- The end of a Function Level Reset (R308, R349 to R351): the PF's removes every VF; a VF that is ONLINE or SAVED becomes OFFLINE, a
quiescing or quiesced one keeps its state. -/
def endFlr (s : State) (fn : Nat) : State :=
  let s := if fn = 0 then
      let s := removeVfsAbove s 0
      { s with host := { s.host with vfEnable := false, numVfs := 0, ariHierarchy := false, pageSize := 1, spdm := doeReset s.host.spdm } }
    else
      match (vfAt s fn).st with
      | .online => vfOutcome s fn .flr
      | .saved => vfOutcome s fn .flr
      | .quiesced => vfRecord s .notice fn .flr 0
      | .quiescing => vfRecord s .fault fn .flr (outstanding s fn)
      | _ => s
  settleQuiesce (record (resetFunction s fn) 0x0106 .notice (b1 fn)) fn

/-- The completion timeout that a Completion Timeout Value applies, in µs (R303). -/
def completionTimeoutUs (value : Nat) : Nat :=
  match value with
  | 1 => 90
  | 2 => 9000
  | 6 => 200000
  | 9 => 800000
  | 10 => 3000000
  | 13 => 12000000
  | 14 => 60000000
  | _ => 50000

/-- A Function Level Reset begins: requests and fetching stop at once (R308); in a handover's stall it waits for the stall's end
(R310). -/
def beginFlr (s : State) (fn : Nat) : State :=
  if !funcExists s fn || (funcAt s fn).flrWait || s.host.perst || !s.host.configReady then s
  else if s.fw.intakeStalled then { s with fw := { s.fw with deferred := s.fw.deferred ++ [(fn, 1)] } }
  else
    let s := modFunc s fn (fun f => { f with flrWait := true, flrWaitUs := min 90000 (completionTimeoutUs f.ctoValue) })
    { s with host := { s.host with counters := { s.host.counters with flr := s.host.counters.flr + 1 } } }

/-- The resets that came in a handover's stall, carried out after it (R307, R310, R513). -/
def runDeferred (s : State) : State :=
  if s.fw.intakeStalled then s
  else
    s.fw.deferred.foldl (fun s d =>
      if d.2 = 0 then controllerReset s d.1 else if d.2 = 1 then beginFlr s d.1 else stopRequests s d.1)
      { s with fw := { s.fw with deferred := [] } }

/-! ### Identity of the PCI hierarchy (R295, R349) -/

/-- VFs 1 to n created: each comes up OFFLINE with its stored configuration and attachments (R348, R349). -/
def enableVfs (s : State) (n : Nat) : State :=
  (List.range 127).foldl (fun s i => if i + 1 ≤ n && (vfAt s (i + 1)).st == .none then
    modVf s (i + 1) (fun v => { v with st := .offline, waiter := none }) else s) s

end Sys2Proof.Machine
end

