-- ==== Sys2Proof/Machine/NvmeAdmin.lean ====
section
/-! DEFINITION. The admin commands and the controller's own events (09_command_queues R316 to R342, 10 R343 to R348): log pages,
Identify, Abort, features, namespaces, Format, firmware, self-test, Virtualization Management, enabling and shutdown. -/
namespace Sys2Proof.Machine

/-! ### Log pages, Identify, Abort -/

/-- GET_LOG_PAGE (R317, R324, R345): NUMD dwords of the page, zero past its end. -/
def execGetLogPage (c : CmdRef) (s : State) : Result :=
  .next (onTurn s c true 0x02 (fun f s =>
    let q := f.sqe
    let lid := q.cdw10 % 256
    let dwords := q.cdw10 / 65536 + q.cdw11 % 65536 * 65536 + 1
    match logPage s c.fn lid with
    | none => endCmd s c (cplCmd 0x09)
    | some (page, s') =>
      if lid = 0x02 && q.nsid ≠ 0 && q.nsid ≠ 0xFFFFFFFF then endCmd s c invalidField
      else answer (modCtrl s' c.fn (fun k => logRead k lid (q.cdw10 / 32768 % 2 == 1))) c (padTo (4 * dwords) page)))

/-- IDENTIFY_COMMAND (R316, R318, R333, R343 to R345). -/
def execIdentifyCommand (c : CmdRef) (s : State) : Result :=
  .next (onTurn s c true 0x06 (fun f s =>
    match identifyData s c.fn f.sqe with
    | none => endCmd s c invalidField
    | some (.error e) => endCmd s c e
    | some (.ok b) => answer s c b))

/-- Whether an Abort comes too late for its target (R320, R322). -/
def tooLate (s : State) (t : CmdRef) (f : Fetched) : Bool :=
  let write := t.sq != 0 && f.sqe.opc == 1
  let outlived := match f.done with
    | none => false
    | some o => if write && o == cplOk then writePostable s t f else true
  outlived || (write && anyAssigned s.map.lines t) || (t.sq != 0 && f.sqe.opc == 0x85 && f.begun)
    || (t.sq == 0 && ([0x80, 0x84, 0x10].contains f.sqe.opc || f.begun))

/-- Aborts of a function's admin queue that were submitted before a command and still run (R318, R343). -/
def abortsBefore (s : State) (c : CmdRef) : Nat :=
  (earlier s c).countP (fun f => f.sqe.opc == 0x08 && f.done.isNone)

/-- ABORT (R322, R323): decided when it is processed, whatever its queue still holds. -/
def execAbort (c : CmdRef) (s : State) : Result :=
  .next (onCommand s c true 0x08 (fun f s =>
    let t : CmdRef := { fn := c.fn, sq := f.sqe.cdw10 % 65536, cid := f.sqe.cdw10 / 65536 }
    if (if c.fn = 0 then 8 else 4) ≤ abortsBefore s c then endCmd s c (cplCmd 0x03)
    else
      match cmdAt s t with
      | none => endCmd s c { cplOk with dw0 := 1 }
      | some g =>
        if tooLate s t g then endCmd s c { cplOk with dw0 := 1 }
        else
          let s := modCtrl (terminate s t g) c.fn (fun k => if t.sq = 0 then { k with aers := k.aers.filter (· != t.cid) } else k)
          endCmd (endCmd s t abortRequested) c cplOk))

/-! ### Features (R317, R336 to R339) -/

/-- The meaning of a Set Features row: the command's feature is the row's, and its turn has come. -/
def onFeature (s : State) (c : CmdRef) (fid : Nat) (k : Sqe → State → State) : State :=
  onTurn s c true 0x09 (fun f s => if f.sqe.cdw10 % 256 = fid then k f.sqe s else s)

/-- SET_FEATURES_ARBITRATION (R317): round robin only; the value is kept. -/
def execSetFeaturesArbitration (c : CmdRef) (s : State) : Result :=
  .next (onFeature s c 0x01 (fun q s => takeEffect (modCtrl s c.fn (fun k => { k with arbitration := q.cdw11 })) c cplOk))

/-- SET_FEATURES_POWER_MANAGEMENT (R336, R337): only the PF sets the device-wide state. -/
def execSetFeaturesPowerManagement (c : CmdRef) (s : State) : Result :=
  .next (onFeature s c 0x02 (fun q s =>
    let ps := q.cdw11 % 32
    if c.fn ≠ 0 then (if ps = 0 then takeEffect s c cplOk else endCmd s c invalidField)
    else if 6 < ps then endCmd s c invalidField
    else takeEffect { s with nvme := { s.nvme with
        powerSelected := ps, powerReturn := if ps ≤ 3 then ps else s.nvme.powerReturn } } c cplOk))

/-- SET_FEATURES_TEMPERATURE_THRESHOLD (R339): the composite and sensors 1 to 3, or all of them. -/
def execSetFeaturesTemperatureThreshold (c : CmdRef) (s : State) : Result :=
  .next (onFeature s c 0x04 (fun q s =>
    let sensor := q.cdw11 / 65536 % 16
    let type := q.cdw11 / 2 ^ 20 % 4
    if (3 < sensor && sensor ≠ 15) || 1 < type then endCmd s c invalidField
    else
      let keys := (if sensor = 15 then [0, 1, 2, 3] else [sensor]).map (fun i => 16 * i + type)
      let set := fun (l : List (Nat × Nat)) => keys.foldl (fun l k => insert l k (q.cdw11 % 65536)) l
      takeEffect (noteHealth (modCtrl s c.fn (fun k => { k with tempThresholds := set k.tempThresholds }))) c cplOk))

/-- SET_FEATURES_NUMBER_OF_QUEUES (R324): the function's maximum is granted, before any I/O queue is made. -/
def execSetFeaturesNumberOfQueues (c : CmdRef) (s : State) : Result :=
  .next (onFeature s c 0x07 (fun _ s =>
    let k := ctrlAt s c.fn
    let n := queuePairs c.fn - 1
    if k.sqs.any (fun p => p.1 != 0) || k.cqs.any (fun p => p.1 != 0) then endCmd s c sequenceError
    else takeEffect (modCtrl s c.fn (fun k => { k with granted := some (n, n) })) c { cplOk with dw0 := n + 65536 * n }))

/-- SET_FEATURES_INTERRUPT_COALESCING (R317). -/
def execSetFeaturesInterruptCoalescing (c : CmdRef) (s : State) : Result :=
  .next (onFeature s c 0x08 (fun q s => takeEffect (modCtrl s c.fn (fun k => { k with intCoal := q.cdw11 % 65536 })) c cplOk))

/-- SET_FEATURES_INTERRUPT_VECTOR_CONFIG (R317): a vector of the function. -/
def execSetFeaturesInterruptVectorConfig (c : CmdRef) (s : State) : Result :=
  .next (onFeature s c 0x09 (fun q s =>
    let v := q.cdw11 % 65536
    if vectorsOf c.fn ≤ v then endCmd s c invalidField
    else
      let off := q.cdw11 / 65536 % 2 == 1
      let rest := (ctrlAt s c.fn).coalDisabled.filter (· != v)
      takeEffect (modCtrl s c.fn (fun k => { k with coalDisabled := if off then rest ++ [v] else rest })) c cplOk))

/-- SET_FEATURES_ASYNC_EVENT_CONFIG (R317). -/
def execSetFeaturesAsyncEventConfig (c : CmdRef) (s : State) : Result :=
  .next (onFeature s c 0x0B (fun q s => takeEffect (modCtrl s c.fn (fun k => { k with aec := q.cdw11 })) c cplOk))

/-- SET_FEATURES_APST (R338): an entry names a non-operational state, or is zero. -/
def execSetFeaturesApst (c : CmdRef) (table : List (Nat × Nat)) (s : State) : Result :=
  .next (onFeature s c 0x0C (fun q s =>
    if table.any (fun e => e.2 != 0 && !(4 ≤ e.1 && e.1 ≤ 6)) then endCmd s c invalidField
    else takeEffect { s with nvme := { s.nvme with apstEnable := q.cdw11 % 2 == 1, apst := table.take 32 } } c cplOk))

/-- SET_FEATURES_TIMESTAMP (R10, R43, R317). -/
def execSetFeaturesTimestamp (c : CmdRef) (value : BitVec 48) (s : State) : Result :=
  .next (onFeature s c 0x0E (fun _ s => takeEffect (setCalendar s value) c cplOk))

/-- Whether the temperatures of Host Controlled Thermal Management are allowed (R339). -/
def hctmAllowed (t1 t2 : Nat) : Bool :=
  let ok := fun t => t == 0 || (303 ≤ t && t ≤ 388)
  ok t1 && ok t2 && (t1 == 0 || t2 == 0 || t1 < t2)

/-- SET_FEATURES_HCTM (R339). -/
def execSetFeaturesHctm (c : CmdRef) (s : State) : Result :=
  .next (onFeature s c 0x10 (fun q s =>
    let t1 := q.cdw11 / 65536 % 65536
    let t2 := q.cdw11 % 65536
    if hctmAllowed t1 t2 then takeEffect { s with nvme := { s.nvme with tmt1 := t1, tmt2 := t2 } } c cplOk else endCmd s c invalidField))

/-- GET_FEATURES (R317): SEL other than 000b is refused. -/
def execGetFeatures (c : CmdRef) (s : State) : Result :=
  .next (onTurn s c true 0x0A (fun f s =>
    if f.sqe.cdw10 / 256 % 8 ≠ 0 then endCmd s c invalidField
    else
      match featureValue s c.fn f.sqe with
      | none => endCmd s c invalidField
      | some (dw0, data) => takeEffect (if data.isEmpty then s else putData s c [{ data := data }]) c { cplOk with dw0 := dw0 }))

/-- ASYNCHRONOUS_EVENT_REQUEST (R316, R318, R343): it waits for an event, or takes the first that is pending. -/
def execAsynchronousEventRequest (c : CmdRef) (s : State) : Result :=
  .next (onCommand s c true 0x0C (fun _ s =>
    let k := ctrlAt s c.fn
    if k.aers.contains c.cid then s
    else if (if c.fn = 0 then 16 else 4) ≤ k.aers.length then endCmd s c (cplCmd 0x05)
    else
      match k.events.find? (fun e => !k.maskedEvents.contains e.1) with
      | some (type, info, log) =>
        let s := modCtrl s c.fn (fun k => { k with events := dropFirst (fun e => !k.maskedEvents.contains e.1) k.events
                                                   maskedEvents := k.maskedEvents ++ [type] })
        endCmd s c { cplOk with dw0 := type + info * 256 + log * 65536 }
      | none => modCtrl s c.fn (fun k => { k with aers := k.aers ++ [c.cid] })))

/-! ### Namespaces and Format (R131, R132, R225, R238, R276, R333) -/

/-- Why Namespace Management or Format NVM is refused whatever its operands (R276, R334). -/
def managementRefusal (s : State) : Option Cpl :=
  if sanitizeRuns s then some sanitizing else if migrationRuns s then some sequenceError else none

/-- Whether a format and its protection exist (R217, R218). -/
def formatAllowed (lbaf pi : Nat) : Bool := lbaf ≤ 2 && pi ≤ 3 && (pi == 0 || lbaf != 0)

/-- NAMESPACE_CREATE (R333): the lowest free NSID, in DW0. -/
def execNamespaceCreate (c : CmdRef) (p : NsParams) (s : State) : Result :=
  .next (onTurn s c true 0x0D (fun f s =>
    if f.sqe.cdw10 % 16 ≠ 0 then s
    else
      match managementRefusal s with
      | some e => endCmd s c e
      | none =>
        if p.ncap ≠ p.nsze || p.nsze = 0 then endCmd s c invalidField
        else if !formatAllowed (p.flbas % 16) (p.dps % 8) || 32 ≤ p.flbas || 16 ≤ p.dps then endCmd s c (cplCmd 0x0A)
        else
          match freeNsid s with
          | none => endCmd s c (cplCmd 0x16)
          | some nsid =>
            if !capacityHolds s p.nsze then endCmd s c (cplCmd 0x15)
            else if journalHolds s 1 then journalWait s
            else
              let n : Namespace := { nsze := p.nsze, lbaf := p.flbas % 16, piType := p.dps % 8, piFirst := p.dps / 8 % 2 == 1
                                     extended := p.flbas / 16 % 2 == 1 }
              takeEffect (createNamespace s nsid n) c { cplOk with dw0 := nsid }))

/-- The namespaces that a delete names: all of them for 0xFFFF_FFFF. -/
def namedNs (s : State) (nsid : Nat) : List Nat :=
  if nsid = 0xFFFFFFFF then s.nvme.namespaces.map (·.1) else if (nsAt s nsid).isSome then [nsid] else []

/-- The beginning of a namespace's deletion: no controller has it any more, its blocks and segments are given up (R225, R333). -/
def startDelete (s : State) (nsid : Nat) : State :=
  match nsAt s nsid with
  | none => s
  | some n =>
    let s := modNs s nsid (fun n => { n with attached := [] })
    n.attached.foldl (fun s fn => nsChanged s fn nsid) (beginDelete s nsid n)

/-- NAMESPACE_DELETE (R225, R238, R276, R333): begun, then ended by a later call once the deletion is durable. -/
def execNamespaceDelete (c : CmdRef) (s : State) : Result :=
  .next (onTurn s c true 0x0D (fun f s =>
    let l := namedNs s f.sqe.nsid
    if f.sqe.cdw10 % 16 ≠ 1 then s
    else if f.begun then
      if l.any (nsJournalWaits s) then s else takeEffect (l.foldl endDelete s) c cplOk
    else
      match managementRefusal s with
      | some e => endCmd s c e
      | none =>
        if l.isEmpty then endCmd s c invalidNs
        else if l.any (fun n => nsSealed s n || beingSealed s n 0 ((nsAt s n).elim 0 (·.nsze))) then endCmd s c sealedRange
        else if journalHolds s (2 * l.length) then journalWait s
        else modCmd (l.foldl startDelete s) c (fun f => { f with begun := true })))

/-- Namespaces attached to a VF. -/
def vfAttachments (s : State) (fn : Nat) : Nat := s.nvme.namespaces.countP (fun p => p.2.attached.contains fn)

/-- A controller list is valid: controllers that exist, by CNTLID. -/
def ctrlsValid (s : State) (ctrls : List Nat) : Bool :=
  !ctrls.isEmpty && ctrls.all (fun id => 1 ≤ id && id ≤ 128 && funcExists s (id - 1))

/-- NAMESPACE_ATTACH (R333, R346, R348). -/
def execNamespaceAttach (c : CmdRef) (ctrls : List Nat) (s : State) : Result :=
  .next (onTurn s c true 0x15 (fun f s =>
    let nsid := f.sqe.nsid
    let fns := ctrls.map (· - 1)
    if f.sqe.cdw10 % 16 ≠ 0 then s
    else if sanitizeRuns s then endCmd s c sanitizing
    else
      match nsAt s nsid with
      | none => endCmd s c invalidNs
      | some n =>
        if !ctrlsValid s ctrls then endCmd s c (cplCmd 0x1C)
        else if fns.any n.attached.contains then endCmd s c (cplCmd 0x18)
        else if fns.any (fun fn => fn != 0 && 64 ≤ vfAttachments s fn) then endCmd s c (cplCmd 0x27)
        else
          let s := modNs s nsid (fun n => { n with attached := unionSpans n.attached fns })
          takeEffect (fns.foldl (fun s fn => nsChanged s fn nsid) s) c cplOk))

/-- NAMESPACE_DETACH (R333). -/
def execNamespaceDetach (c : CmdRef) (ctrls : List Nat) (s : State) : Result :=
  .next (onTurn s c true 0x15 (fun f s =>
    let nsid := f.sqe.nsid
    let fns := ctrls.map (· - 1)
    if f.sqe.cdw10 % 16 ≠ 1 then s
    else if sanitizeRuns s then endCmd s c sanitizing
    else
      match nsAt s nsid with
      | none => endCmd s c invalidNs
      | some n =>
        if !ctrlsValid s ctrls then endCmd s c (cplCmd 0x1C)
        else if !fns.all n.attached.contains then endCmd s c (cplCmd 0x1A)
        else
          let s := modNs s nsid (fun n => { n with attached := n.attached.filter (fun fn => !fns.contains fn) })
          takeEffect (fns.foldl (fun s fn => nsChanged s fn nsid) s) c cplOk))

/-- FORMAT_NVM (R238, R276, R342 and the Format paragraph of 09): the format changes, every block is deallocated, and a later call
completes the command once the map change is durable. It waits for a Seal, Secure Deallocate or Audit Range of the namespace. -/
def execFormatNvm (c : CmdRef) (s : State) : Result :=
  .next (onTurn s c true 0x80 (fun f s =>
    let q := f.sqe
    let lbaf := q.cdw10 % 16
    let pi := q.cdw10 / 32 % 8
    if f.begun then (if nsJournalWaits s q.nsid then s else takeEffect s c cplOk)
    else
      match managementRefusal s with
      | some e => endCmd s c e
      | none =>
        match nsAt s q.nsid with
        | none => endCmd s c invalidNs
        | some n =>
          if q.cdw10 / 512 % 8 ≠ 0 then endCmd s c invalidField
          else if !formatAllowed lbaf pi || q.cdw10 / 4096 % 4 ≠ 0 then endCmd s c (cplCmd 0x0A)
          else if nsSealed s q.nsid then endCmd s c sealedRange
          else if nsBusy s q.nsid then s
          else if journalHolds s 1 then journalWait s
          else
            let s := endSelfTest s 4 s.nvme.selfTest.segment
            let s := noteChange (deallocRange s q.nsid 0 n.nsze false) q.nsid 0 n.nsze
            let s := modNs s q.nsid (fun n => { n with
              lbaf := lbaf, piType := pi, piFirst := q.cdw10 / 256 % 2 == 1, extended := q.cdw10 / 16 % 2 == 1 })
            modCmd s c (fun f => { f with begun := true })))

/-! ### Firmware (R324, R502 to R508) -/

/-- FIRMWARE_IMAGE_DOWNLOAD (R324, R505): whole 64 KiB blocks within 16 MiB; offset 0 discards what is staged. -/
def execFirmwareImageDownload (c : CmdRef) (data : Bytes) (s : State) : Result :=
  .next (onTurn s c true 0x11 (fun f s =>
    let len := 4 * (f.sqe.cdw10 + 1)
    let off := 4 * f.sqe.cdw11
    let staged := if off = 0 then [] else s.fw.staged
    if len % fwBlock ≠ 0 || off % fwBlock ≠ 0 || 16 * mib < off + len || 2 * mib < len then endCmd s c invalidField
    else if prpBad s c.fn f.sqe len then endCmd s c prpOffset
    else if staged.any (fun p => p.1 < off + len && off < p.1 + p.2.length) then endCmd s c (cplCmd 0x14)
    else takeEffect { s with fw := { s.fw with staged := staged ++ [(off, padTo len data)] } } c cplOk))

/-- A Firmware Commit's row: the action is the row's, and nothing refuses it before its work (R507). -/
def onCommit (s : State) (c : CmdRef) (action : Nat) (k : Nat → State → State) : State :=
  onTurn s c true 0x10 (fun f s =>
    if f.sqe.cdw10 / 8 % 8 ≠ action then s
    else if s.fw.commit = some (c.fn.val, c.sq, c.cid, 3) then s
    else
      match commitRefusal s action (f.sqe.cdw10 % 8) with
      | some e => endCmd s c e
      | none => k (f.sqe.cdw10 % 8) s)

/-- The inactive slot written from the staged package, or left empty (R507); the package is discarded with the command. -/
def writeSlot (s : State) (c : CmdRef) (activates storeOk : Bool) (k : State → State) : State :=
  let f := s.fw
  match slotWrite f activates storeOk with
  | .error e => endCmd { s with fw := { setSlot f (inactiveSlot f) {} with staged := [] } } c e
  | .ok x => k { s with fw := setSlot f (inactiveSlot f) x }

/-- A Commit completed: the staged package is discarded (R505). -/
def commitDone (s : State) (c : CmdRef) : State := takeEffect { s with fw := { s.fw with staged := [] } } c cplOk

/-- A slot's number as an index. -/
def slotIndex (i : Nat) : Fin 2 := if i = 0 then 0 else 1

/-- FIRMWARE_COMMIT_ACTION_0 (R506, R507): the inactive slot is written. -/
def execFirmwareCommitAction0 (c : CmdRef) (storeOk : Bool) (s : State) : Result :=
  .next (onCommit s c 0 (fun _ s => writeSlot s c false storeOk (fun s => commitDone s c)))

/-- FIRMWARE_COMMIT_ACTION_1 (R506 to R508): written, and named for the next start. -/
def execFirmwareCommitAction1 (c : CmdRef) (storeOk : Bool) (s : State) : Result :=
  .next (onCommit s c 1 (fun _ s => writeSlot s c false storeOk (fun s =>
    commitDone { s with fw := { s.fw with namedSlot := slotIndex (inactiveSlot s.fw) } } c)))

/-- FIRMWARE_COMMIT_ACTION_2 (R506 to R508): a COMMITTED slot is named; under the countersignature policy it must carry one. -/
def execFirmwareCommitAction2 (c : CmdRef) (s : State) : Result :=
  .next (onCommit s c 2 (fun fs s =>
    let x := slotAt s.fw (fs - 1)
    if x.state ≠ .committed then endCmd s c (cplCmd 0x07)
    else if x.rollback < s.fw.antiRollback || (s.fw.policy && x.countersignature.isNone) then endCmd s c (cplCmd 0x13)
    else commitDone { s with fw := { s.fw with namedSlot := slotIndex (fs - 1) } } c))

/-- FIRMWARE_COMMIT_ACTION_3 (R506 to R510): written, then the hot handover begins; its end completes the command. -/
def execFirmwareCommitAction3 (c : CmdRef) (storeOk : Bool) (s : State) : Result :=
  .next (onCommit s c 3 (fun _ s => writeSlot s c true storeOk (fun s =>
    { s with fw := { s.fw with handover := .loading, commit := some (c.fn.val, c.sq, c.cid, 3) } })))

/-! ### Self-test (R341, R342) -/

/-- A self-test started by a function (R341). -/
def startSelfTest (s : State) (c : CmdRef) (code : Nat) : State :=
  onTurn s c true 0x14 (fun f s =>
    let nsid := f.sqe.nsid
    if f.sqe.cdw10 % 16 ≠ code then s
    else if sanitizeRuns s then endCmd s c sanitizing
    else if s.nvme.selfTest.kind ≠ 0 then endCmd s c (cplCmd 0x1D)
    else if nsid ≠ 0 && nsid ≠ 0xFFFFFFFF && (nsAt s nsid).isNone then endCmd s c invalidNs
    else takeEffect { s with nvme := { s.nvme with
        selfTest := { kind := code, fn := c.fn, nsid := nsid, results := s.nvme.selfTest.results } } } c cplOk)

/-- DEVICE_SELF_TEST_SHORT (R341). -/
def execDeviceSelfTestShort (c : CmdRef) (s : State) : Result := .next (startSelfTest s c 1)

/-- DEVICE_SELF_TEST_EXTENDED (R341). -/
def execDeviceSelfTestExtended (c : CmdRef) (s : State) : Result := .next (startSelfTest s c 2)

/-- DEVICE_SELF_TEST_ABORT (R342): code Fh ends the test that runs. -/
def execDeviceSelfTestAbort (c : CmdRef) (s : State) : Result :=
  .next (onTurn s c true 0x14 (fun f s =>
    if f.sqe.cdw10 % 16 ≠ 15 then s else takeEffect (endSelfTest s 1 s.nvme.selfTest.segment) c cplOk))

/-- SELF_TEST_RESUME (R342): an idle device's test goes on with the segments given. -/
def execSelfTestResume (segments : List Bool) (s : State) : Result :=
  .next (if s.nvme.selfTest.kind ≠ 0 && deviceIdle s && !s.dram.frozen then
    runSegments { s with nvme := { s.nvme with selfTest := { s.nvme.selfTest with yielding := false } } } segments
  else s)

/-! ### Virtualization Management (R346, R348, R349) -/

/-- A Virtualization Management row: the action is the row's and the CNTLID names a VF that exists. -/
def onSecondary (s : State) (c : CmdRef) (action : Nat) (k : Nat → State → State) : State :=
  onTurn s c true 0x1C (fun f s =>
    let n := f.sqe.cdw10 / 65536 - 1
    if f.sqe.cdw10 % 16 ≠ action then s
    else if f.sqe.cdw10 / 65536 < 2 || 127 < n || (vfAt s n).st = .none then endCmd s c (cplCmd 0x1F)
    else k n s)

/-- VIRTUALIZATION_MANAGEMENT_ONLINE (R348, R349). -/
def execVirtualizationManagementOnline (c : CmdRef) (s : State) : Result :=
  .next (onSecondary s c 9 (fun n s =>
    match (vfAt s n).st with
    | .online => takeEffect s c cplOk
    | .offline =>
      if !(vfAt s n).configured then endCmd s c (cplCmd 0x20)
      else takeEffect (settleReady (modVf s n (fun v => { v with st := .online })) n) c cplOk
    | _ => endCmd s c (cplCmd 0x20)))

/-- VIRTUALIZATION_MANAGEMENT_OFFLINE (R349, R351). -/
def execVirtualizationManagementOffline (c : CmdRef) (s : State) : Result :=
  .next (onSecondary s c 7 (fun n s =>
    if (vfAt s n).st = .offline then takeEffect s c cplOk else takeEffect (vfOutcome s n .offline) c cplOk))

/-! ### Enabling, shutdown -/

/-- CC_EN_SET (R320, R385). -/
def execCcEnSet (fn : Func) (s : State) : Result := .next (ccEnSet s fn)

/-- CC_EN_CLEAR (R320, R350, R513). -/
def execCcEnClear (fn : Func) (s : State) : Result := .next (ccEnClear s fn)

/-- SHUTDOWN_NOTIFICATION (R172). -/
def execShutdownNotification (fn : Func) (s : State) : Result := .next (shutdownNotify s fn)

/-- CLEAN_STOP_DESTAGE_TIMEOUT (R172): what is left goes to the emergency band with CAUSE 3; the stop is clean all the same. -/
def execCleanStopDestageTimeout (s : State) : Result :=
  .next (if (ctrlAt s 0).shst = 1 then
    let s := emergencyFlush s 3
    modCtrl { s with alm := saveDrops (closeOpen s.alm), map := { s.map with cleanStop := true } } 0 (fun c => { c with shst := 2 })
  else s)

end Sys2Proof.Machine
end

