-- ==== Sys2Proof/Machine/LedgerOps.lean ====
section
/-! DEFINITION. The Boot Ledger and what a start reads from it (12_start_and_boot_ledger R386 to R392). -/
namespace Sys2Proof.Machine

/-- The word of step k in a slot (R386, R387). -/
def ledgerWord (b : BootState) (slot k : Nat) : LedgerWord := readAt {} b.ledger (16 * slot + k - 1)

/-- A word programmed in the slot of this start, where it has a ledger, ahead of other Config Store work (R90, R388, R396). -/
def setLedger (s : State) (k : Nat) (f : LedgerWord → LedgerWord) : State :=
  match s.boot.slot with
  | none => s
  | some i =>
    let w := f (ledgerWord s.boot i k)
    match csTurn s with
    | some s => { s with boot := { s.boot with ledger := writeAt {} s.boot.ledger (16 * i + k - 1) w } }
    | none => csWait s (.ledger (16 * i + k - 1) w)

/-- MODE of a step that runs or does not (R387). -/
def StepMode.code : StepMode → Nat
  | .normal => 1
  | .alternative => 2
  | .skipped => 3
  | .notRun => 4

/-- MODE of step 1's word: the cause of the start (R387). -/
def StartCause.code : StartCause → Nat
  | .powerUp => 0x11
  | .sysRst => 0x12
  | .internalRestart => 0x13

/-- How a step runs in this start. -/
def modeOf (s : State) (k : Nat) : StepMode := vget s.boot.modes .normal (k - 1)
/-- f[k]. -/
def failsOf (s : State) (k : Nat) : Nat := vget s.boot.f 0 (k - 1)

/-- The begin mark of a step (R388). -/
def beginMark (s : State) (k mode : Nat) : State :=
  setLedger s k (fun w => { w with beginMark := 0, mode := mode, startLo := s.boot.startCount % 65536 })

/-- ELAPSED at this moment (R387). -/
def elapsedNow (s : State) : Nat := min ((s.time.opMs - s.boot.riseMs) / 10) 0xFFFE

/-- The end mark of a step (R388). -/
def endMark (s : State) (k result : Nat) : State :=
  setLedger s k (fun w => { w with endMark := 0, result := result, elapsed := elapsedNow s })

/-- A begin mark whose program fails its verify (R388): a Fault record; what the word's first half then reads as is free (log entry 1, DESIGN
CHOICE). -/
def beginMarkFailed (s : State) (k : Nat) : State :=
  let (a, s) := drawNat s
  let (b, s) := drawNat s
  let (c, s) := drawNat s
  let s := setLedger s k (fun w => { w with beginMark := a % 256, mode := b % 256, startLo := c % 65536 })
  record s 0x0A04 .fault (b1 k ++ b1 (failsOf s k))

/-- An end mark whose program fails its verify (R388): a Fault record; what the word's second half then reads as is free (log entry 1, DESIGN CHOICE). -/
def endMarkFailed (s : State) (k : Nat) : State :=
  let (a, s) := drawNat s
  let (b, s) := drawNat s
  let (c, s) := drawNat s
  let s := setLedger s k (fun w => { w with endMark := a % 256, result := b % 256, elapsed := c % 65536 })
  record s 0x0A04 .fault (b1 k ++ b1 (failsOf s k))

/-- The slots that earlier starts have used, oldest first (R387). -/
def usedSlots (b : BootState) : List Nat := (List.range 32).filter (fun i => ledgerWord b i 1 != {})

/-- f[k] from the used slots, newest first (R391). -/
def countFails (b : BootState) (k : Nat) : List Nat → Nat → Nat
  | [], n => n + vget b.carry.failCount 0 (k - 1)
  | i :: t, n =>
    let w := ledgerWord b i k
    if w.beginMark = 0xFF then countFails b k t n
    else if w.endMark ≠ 0xFF && w.result = 4 then countFails b k t n
    else if w.endMark = 0xFF then countFails b k t (n + 1)
    else n

/-- f[k] for every step (R391). -/
def failCounts (b : BootState) : Vector Nat 16 := Vector.ofFn (fun i : Fin 16 => countFails b (i.val + 1) (usedSlots b).reverse 0)

/-- RESULT of step 1 of the start before this one (R392). -/
def previousResult (b : BootState) : Nat :=
  match (usedSlots b).getLast? with
  | some i => (ledgerWord b i 1).result
  | none => b.carry.lastStart

/-- The ledger erased, with a carry record that keeps what its slots said (R389, R390). -/
def eraseLedger (b : BootState) (firstStart : Nat) : BootState :=
  { b with ledger := []
           carry := { erases := (b.carry.erases + 1) % 65536, firstStart := firstStart
                      failCount := (failCounts b).map (fun n => min n 255), lastStart := previousResult b } }

/-- The address of the Boot Ledger (R86). -/
def ledgerBase : Nat := 0x3040000

/-- The ledger's erase while the device serves I/O (R390): the carry record is computed first, and the sector's erase begun. -/
def beginLedgerErase (s : State) (carry : CarryRecord) : State :=
  beginOwnErase { s with boot := { s.boot with carryNext := some carry } } ledgerBase

/-- The ledger's erase given to the Config Store queue (R90, R390). -/
def submitLedgerErase (s : State) (carry : CarryRecord) : State :=
  match s.media.csErase with
  | none => beginLedgerErase s carry
  | some _ => csWait s (.ledgerErase carry)

/-- The end of the ledger's erase (R390): the carry record is programmed; a sector that does not erase keeps its words. -/
def endLedgerErase (b : BootState) (ok : Bool) : BootState :=
  match b.carryNext with
  | none => b
  | some c => if ok then { b with ledger := [], carry := c, carryNext := none } else { b with carryNext := none }

/-- The steps with an alternative that is a skip (R381). -/
def skipsAsAlternative (k : Nat) : Bool := k == 9 || k == 14 || k == 15

/-- How step k runs for its count of failures: in a start that is not a Safe Start for it or an earlier one (R392). -/
def decideMode (fails : Nat) (k : Nat) : StepMode :=
  if fails = 0 then .normal
  else if skipsAsAlternative k then .skipped
  else if k = 5 || k = 7 || k = 10 || k = 12 then .alternative
  else .normal

/-- The decision of R392: Safe Start and for which step, or a trial start. The steps 2 to 4 have no Safe Start (R395). -/
def decideStart (b : BootState) (f : Vector Nat 16) : Nat × Bool :=
  match ((List.range 12).map (· + 5)).find? (fun k => 3 ≤ vget f 0 (k - 1)) with
  | none => (0, false)
  | some k => if b.cause ≠ .internalRestart && previousResult b = 3 then (0, true) else (k, false)

end Sys2Proof.Machine
end

