-- ==== Sys2Proof/Machine/ConfigStore.lean ====
section
/-! DEFINITION. The Config Store die and its queue (02_carriers_and_media_channels R86 to R90). -/
namespace Sys2Proof.Machine

/-- Bytes of the Config Store (R86). -/
def csSize : Nat := 64 * mib
/-- The 64 bits of a Boot Ledger word (R387). -/
def ledgerBits (w : LedgerWord) : Nat :=
  w.elapsed + 2 ^ 16 * w.result + 2 ^ 24 * w.endMark + 2 ^ 32 * w.startLo + 2 ^ 48 * w.mode + 2 ^ 56 * w.beginMark

/-- The 64 bytes of the carry record (R389). -/
def carryBytes (c : CarryRecord) : Bytes :=
  let b := ascii "BLDG" ++ b2 1 ++ b2 c.erases ++ b4 c.firstStart ++ c.failCount.toList.flatMap b1 ++ b1 c.lastStart ++ zeros 31
  b ++ b4 (crc32c b).toNat

/-- The Almanac sector that an address lies in. -/
def almSectorOf (addr : Nat) : Option Nat :=
  if 0x2000000 ≤ addr && addr < 0x3000000 then some ((addr - 0x2000000) / csSector)
  else if 0x30C0000 ≤ addr && addr < 0x30E0000 then some ((addr - 0x30C0000) / csSector + 256)
  else none

/-- The 64 bytes of a live key table entry (R224). -/
def keyEntry (nsid : Nat) (k : MediaKey) : Bytes :=
  let head := b2 nsid ++ b1 0xA5 ++ b1 k.gen
  head ++ leBytes 12 k.iv ++ padTo 48 (Config.wrapKey head k.iv k.key)

/-- A byte of the key table at an offset of its first or second copy (R224, R225): live entries, entries destroyed, and free ones erased. -/
def keyTableByte (x : SealState) (off : Nat) : Byte :=
  let i := off % 65536 / 64
  match x.keys.find? (fun p => p.2.slot == i && (if off < 65536 then p.2.copy1 else p.2.copy2)) with
  | some p => (keyEntry p.1 p.2).getD (off % 64) 0xFF
  | none => if i < x.keyEntriesUsed then 0 else 0xFF

/-- STATE of a slot record (R502). -/
def SlotState.code : SlotState → Nat
  | .empty => 0xFF
  | .committed => 0x0F
  | .invalid => 0

/-- The slot record at 0x0FF_0000 of a firmware slot (R502): erased while the slot is empty. -/
def slotRecordBytes (x : FwSlot) : Bytes :=
  let body := padTo 8 x.fwVersion ++ digestBytes x.digest ++ b4 x.rollback
  if x.state = .empty then []
  else ascii "SLOT" ++ b1 x.state.code ++ zeros 3 ++ body ++ b4 (crc32c body).toNat ++ zeros 8
    ++ x.countersignature.elim (List.replicate 68 0xFF) (fun g => octets64 g ++ b4 x.keyIndex)

/-- The byte of a firmware slot at an offset: its image, then its record (R502). -/
def slotByte (x : FwSlot) (off : Nat) : Byte :=
  if off < 0xFF0000 then x.image.getD off 0xFF else (slotRecordBytes x).getD (off - 0xFF0000) 0xFF

/-- The bytes of the migration record (R278): none where no migration has a record. -/
def migrationArea (h : HaloState) : Bytes :=
  (h.migration.filter (fun g => g.beginWaiter.isNone)).elim [] (fun g =>
    Config.migrationRecord g.session g.successor g.st.code g.recPass g.recNsid g.recSpan)

/-- The byte that the records kept in State put at an address: firmware slots, Almanac, Calibration Set, Boot Ledger, key records, open-band
summary, array record, key table and migration record (R86, R177, R186, R224, R278, R379, R387, R389, R449, R487, R491); erased where they put none. -/
def typedByte (s : State) (addr : Nat) : Byte :=
  if addr < 0x2000000 then slotByte (vget s.fw.slots {} (addr / (16 * mib))) (addr % (16 * mib))
  else if 0x3000000 ≤ addr && addr < 0x3040000 then readAt 0xFF s.pwr.cal (addr - 0x3000000)
  else if 0x3040000 ≤ addr && addr < 0x3050000 then
    let off := addr - 0x3040000
    if off < 64 then (carryBytes s.boot.carry).getD off 0xFF
    else if 0x80 ≤ off && off < 0x1080 then (leBytes 8 (ledgerBits (readAt {} s.boot.ledger ((off - 0x80) / 8)))).getD (off % 8) 0xFF
    else 0xFF
  else if 0x3058000 ≤ addr && addr < 0x3060000 then (s.mbx.keyRecords.getD ((addr - 0x3058000) / 128) []).getD (addr % 128) 0xFF
  else if 0x3060000 ≤ addr && addr < 0x3080000 then
    let off := addr - 0x3060000
    (((vget s.red.summarySectors [] (off / csSector))[off % csSector / 32]?).map (fun x => (summaryRecordBytes x).getD (off % 32) 0xFF)).getD 0xFF
  else if 0x3080000 ≤ addr && addr < 0x3090000 then (arrayArea s.red).getD (addr - 0x3080000) 0xFF
  else if 0x3090000 ≤ addr && addr < 0x30B0000 then keyTableByte s.sealing (addr - 0x3090000)
  else if 0x30B0000 ≤ addr && addr < 0x30C0000 then (migrationArea s.halo).getD (addr - 0x30B0000) 0xFF
  else if 0x30E0000 ≤ addr && addr < 0x30F0000 then
    (Config.firmwareRecord s.fw.namedSlot.val s.fw.antiRollback).getD (addr - 0x30E0000) 0xFF
  else match almSectorOf addr with
    | none => 0xFF
    | some k => ((s.alm.records.find? (fun r => r.sector == k && r.slot == addr % csSector / 64)).map
        (fun r => (recordBytes r none).getD (addr % 64) 0xFF)).getD 0xFF

/-- The word that those records put at a byte address: erased in a sector that CS_ERASE has erased under them. -/
def typedWord (s : State) (addr : Nat) : Word64 :=
  if s.media.csShadow.contains (addr / csSector) then BitVec.allOnes 64
  else BitVec.ofNat 64 (ofLE ((List.range 8).map (fun i => typedByte s (addr / 8 * 8 + i))))

/-- The word at a byte address: a raw program only clears bits of what the records put there (R88). -/
def csWord (s : State) (addr : Nat) : CsWord :=
  let w := readAt {} s.media.cs (addr / 8)
  { w with value := w.value &&& typedWord s addr }

/-- Bytes read from the Config Store. -/
def csBytes (s : State) (addr n : Nat) : Bytes :=
  (List.range n).map (fun i => ((csWord s (addr + i)).value >>> (8 * ((addr + i) % 8))).setWidth 8)

/-- Whether a range lies in the active firmware slot or in the identity area outside its key records (R86, R379). -/
def csProtected (s : State) (addr len : Nat) : Bool :=
  let slot := s.fw.activeSlot.val * (16 * mib)
  (addr < slot + 16 * mib && slot < addr + len) || (addr < 0x3058000 && 0x3050000 < addr + len)

/-- An Almanac or Boot Ledger address, whose programs suspend an erase (R90). -/
def csUrgent (addr : Nat) : Bool :=
  (0x2000000 ≤ addr && addr < 0x3000000) || (0x30C0000 ≤ addr && addr < 0x30E0000) || (0x3040000 ≤ addr && addr < 0x3050000)

/-- The status and failing offset of the last Config Store descriptor, under its TAG (R69, R87, R88). -/
def csDone (s : State) (tag : Word16) (status offset : Nat) : State :=
  { s with media := { s.media with csStatus := status, csOffset := offset, csTag := tag } }

/-- Words programmed in ascending order (R88): the failing word's status and offset end the descriptor; a word that fails verify keeps some
of its bits, which ones is free (log entry 1, DESIGN CHOICE), and carries its fail flag (R70). -/
def csProgramWords (addr : Nat) (tag : Word16) (failAt : Option Nat) : Nat → State → List Word64 → State
  | _, s, [] => csDone s tag 0 0
  | i, s, v :: t =>
    let w := csWord s (addr + 8 * i)
    if v &&& ~~~w.value ≠ 0 then csDone s tag 0x21 (8 * i)
    else if 2 ≤ w.programs then csDone s tag 0x22 (8 * i)
    else if failAt = some i then
      let (free, s) := drawNat s
      let x : CsWord := { value := v ||| (w.value &&& BitVec.ofNat 64 free), programs := w.programs + 1, failed := true }
      let s := { s with media := { s.media with cs := writeAt {} s.media.cs ((addr + 8 * i) / 8) x } }
      record (csDone s tag 0x20 (8 * i)) 0x0407 .fault (b8 (addr + 8 * i))
    else
      csProgramWords addr tag failAt (i + 1)
        { s with media := { s.media with cs := writeAt {} s.media.cs ((addr + 8 * i) / 8) { w with value := v, programs := w.programs + 1 } } } t

/-- The 64-bit words of a run of bytes, at most `n`. -/
def wordsOf : Nat → Bytes → List Word64
  | 0, _ => []
  | n + 1, b => if b.isEmpty then [] else BitVec.ofNat 64 (field b 0 8) :: wordsOf n (b.drop 8)

/-- Bytes of management SRAM, to which Config Store descriptors deliver (R20, R87). -/
def msramSize : Nat := sramRegions.headD 0

/-- CS_READ carried out (R87): the bytes go to the buffer in management SRAM, as far as it lies there (log entry 236, DEDUCED). A field that
must be zero and is not completes with BAD_OPCODE, as R67 has it (log entry 245, DEDUCED). -/
def csRead (s : State) (d : CsDesc) (buffer : Nat) : State :=
  if !d.zeroFields then csDone s d.tag 0x0F 0
  else if d.len = 0 || 16 * mib < d.len then csDone s d.tag 0x14 0
  else if csSize < d.addr + d.len then csDone s d.tag 0x0C 0
  else
    let b := csBytes s d.addr d.len
    csDone { s with media := { deliverOnDie s.media buffer (b.take (msramSize - buffer)) with csData := b } } d.tag 0 0

/-- CS_PROGRAM carried out (R87, R88). -/
def csProgram (s : State) (d : CsDesc) (data : Bytes) (failAt : Option Nat) : State :=
  if !d.zeroFields then csDone s d.tag 0x0F 0
  else if d.addr % 8 ≠ 0 || csSize < d.addr + d.len then csDone s d.tag 0x0C 0
  else if d.len % 8 ≠ 0 || d.len < 8 || 4096 < d.len then csDone s d.tag 0x14 0
  else if csProtected s d.addr d.len then csDone s d.tag 0x23 0
  else csProgramWords d.addr d.tag failAt 0 s (wordsOf d.len (padTo d.len data))

/-- CS_ERASE begun (R87, R90). -/
def csErase (s : State) (d : CsDesc) : State :=
  if !d.zeroFields then csDone s d.tag 0x0F 0
  else if d.addr % csSector ≠ 0 || csSize ≤ d.addr then csDone s d.tag 0x0C 0
  else if d.len ≠ 0 then csDone s d.tag 0x14 0
  else if csProtected s d.addr csSector then csDone s d.tag 0x23 0
  else { s with media := { s.media with csErase := some (d.addr, 0), csOwn := false, csTag := d.tag } }

/-- Work submitted to the Config Store queue (R90): at once when the die is free; an Almanac or Boot Ledger program suspends an erase, at
most sixteen times; everything else waits. -/
def csSubmit (s : State) (op : CsOp) : State :=
  match s.media.csErase with
  | none =>
    match op with
    | .read d x => csRead s d x
    | .program d b f => csProgram s d b f
    | .erase d => csErase s d
    | .ledger i w => { s with boot := { s.boot with ledger := writeAt {} s.boot.ledger i w } }
    | .summary x => putSummary s x
    | .ledgerErase c => beginLedgerErase s c
    | .almErase k => submitAlmErase s k
  | some _ =>
    match op with
    | .program d b f =>
      if csUrgent d.addr then
        match csTurn s with
        | some s => csProgram s d b f
        | none => csWait s op
      else csWait s op
    | .ledger i w =>
      match csTurn s with
      | some s => { s with boot := { s.boot with ledger := writeAt {} s.boot.ledger i w } }
      | none => csWait s op
    | _ => csWait s op

/-- The rank of waiting work: Almanac programs, Boot Ledger programs, all other work (R90). -/
def csRank : CsOp → Nat
  | .program d _ _ => if 0x3040000 ≤ d.addr && d.addr < 0x3050000 then 1 else if csUrgent d.addr then 0 else 2
  | .ledger _ _ => 1
  | _ => 2

/-- Waiting work in the order the queue serves it (R90). -/
def csServeOrder (l : List CsOp) : List CsOp :=
  l.filter (fun o => csRank o == 0) ++ l.filter (fun o => csRank o == 1) ++ l.filter (fun o => csRank o == 2)

/-- The end of a clear, once its last sector has been erased (R495, R498): the drop counters are zero, CLEARING goes and the mailbox command
completes. -/
def settleClear (s : State) : State :=
  if !s.alm.clearing || !s.alm.clearLeft.isEmpty then s
  else
    let w := s.alm.clearWaiter
    let failed := s.alm.clearFailed
    let zero := Vector.replicate 4 0
    let s := { s with alm := { s.alm with drops := zero, dropsSaved := zero, clearing := false, clearFailed := false, clearWaiter := none } }
    if failed then endWaiter s w .csFail 0x24 [] else endWaiter s w .success 0 []

/-- The end of a sector erase (R70, R88, R90): the sector's words are erased, or the sector is marked failed with a
Critical record; then the waiting work is served. The controller's own erase has no descriptor to complete. -/
def csEraseEnd (s : State) (ok : Bool) : State :=
  match s.media.csErase with
  | none => s
  | some (addr, _) =>
    let waiting := csServeOrder s.media.csWaiting
    let own := s.media.csOwn
    let m := { s.media with csErase := none, csOwn := false, csWaiting := [] }
    let others := m.csShadow.filter (· != addr / csSector)
    let s := if own && addr = ledgerBase then { s with boot := endLedgerErase s.boot ok } else s
    let s := if ok then { s with media := { m with cs := m.cs.filter (fun p => p.1 * 8 / csSector != addr / csSector)
                                                   csShadow := if own then others else others ++ [addr / csSector] } }
      else record { s with media := { m with csFailedSectors := m.csFailedSectors ++ [addr / csSector] } } 0x0407 .critical (b8 addr)
    let s := if own then (almSectorOf addr).elim s (fun k => { s with alm := sectorErased s.alm k ok }) else s
    settleClear (waiting.foldl csSubmit (if own then s else csDone s s.media.csTag (if ok then 0 else 0x24) 0))

/-- CS_READ (R87). -/
def execCsRead (d : CsDesc) (buffer : Nat) (s : State) : Result := .next (csSubmit s (.read d buffer))

/-- CS_PROGRAM (R87, R88, R90). -/
def execCsProgram (d : CsDesc) (data : Bytes) (failAt : Option Nat) (s : State) : Result :=
  .next (csSubmit s (.program d data failAt))

/-- CS_ERASE (R87, R90). -/
def execCsErase (d : CsDesc) (s : State) : Result := .next (csSubmit s (.erase d))

end Sys2Proof.Machine
end

