-- ==== Sys2Proof/Machine/PowerOps.lean ====
section
/-! DEFINITION. Performance levels, hold-up energy, replans and voltage monitors (14_power_states_and_ageing R427 to R446, R449,
R450). -/
namespace Sys2Proof.Machine

/-! ### Levels (R428, R429) -/

/-- The level of the selected power state: of the operational state left, while a non-operational one is selected. -/
def selectedLevel (s : State) : Nat := if s.nvme.powerSelected ≤ 3 then s.nvme.powerSelected else s.nvme.powerReturn

/-- The limit of Host Controlled Thermal Management: P2 above TMT1, P3 above TMT2 (R339). -/
def hctmLimit (s : State) : Nat := if s.nvme.hctmLevel = 2 then 3 else if s.nvme.hctmLevel = 1 then 2 else 0
/-- The limit the thermal manager demands, of a threshold or of the rate of rise. -/
def thermalLimit (s : State) : Nat := max s.cool.demand (s.cool.rateDemand.getD 0)
/-- The limit after a motor fault. -/
def motorLimit (s : State) : Nat := if s.cool.motorFault then 3 else 0
/-- The level that the thermal manager demands: of a threshold, of the rate of rise, or after a motor fault (R428, R485). -/
def managerDemand (s : State) : Nat := max (thermalLimit s) (motorLimit s)
/-- The limit while a core voltage fault stands. -/
def coreLimit (s : State) : Nat := if s.pwr.coreFault then 3 else 0

/-- The level in force that R428 gives: P3 until the first housekeeping round of a start. -/
def wantedLevel (s : State) : Nat :=
  if !s.pwr.levelFree then 3
  else
    min 3 (max (selectedLevel s) (max (perfCap s) (max (hctmLimit s) (max (thermalLimit s) (max (motorLimit s)
      (max s.pwr.ageingLimit (coreLimit s)))))))

/-- LIMIT_CAUSE: bit 0 is PWR_STATUS [16] (R428, R440). A refused step up names the level it holds. -/
def limitCause (s : State) : Nat :=
  let above := fun l => decide (selectedLevel s < l)
  bitsOf [above (perfCap s), above (hctmLimit s), above (thermalLimit s), above (motorLimit s), above s.pwr.ageingLimit,
          above (coreLimit s), s.pwr.avsFailed && above s.pwr.level]

/-- What a level or a sleep state runs on (R427): core voltage in mV before the ageing offset, codec and Meridian clocks in MHz, reverse body
bias in mV, SRAM assist (0 off, 1 read, 2 read and write, 3 retention), and power limit in units of 0.1 W. -/
structure Supply where
  coreMv : Nat
  codecMhz : Nat
  meridianMhz : Nat
  bodyBiasMv : Nat
  assist : Nat
  limit : Nat
  deriving DecidableEq, Repr

/-- The rows of R427's table: P0 to P3, Dusk, Night and Eclipse. -/
def supplyTable : List Supply :=
  [⟨800, 1600, 2000, 0, 0, 2500⟩, ⟨750, 1400, 1800, 0, 0, 1900⟩, ⟨700, 1100, 1500, 100, 1, 1400⟩, ⟨650, 800, 1200, 200, 2, 1000⟩,
   ⟨650, 200, 400, 200, 2, 350⟩, ⟨550, 0, 0, 300, 3, 90⟩, ⟨500, 0, 0, 300, 3, 15⟩]

/-- The row of the level in force, or of the sleep state (R427). -/
def supplyRow (s : State) : Nat :=
  match s.pwr.sleep with
  | .zenith => min 3 s.pwr.level
  | .dusk => 4
  | .night => 5
  | .eclipse => 6

/-- The supply in force; P0 runs its codec at the clock that ageing leaves it (R427, R442). -/
def supplyNow (s : State) : Supply :=
  let r := supplyTable.getD (supplyRow s) ⟨500, 0, 0, 300, 3, 15⟩
  if supplyRow s = 0 then { r with codecMhz := s.pwr.p0Freq } else r

/-- The voltage of a row with its ageing offset, which the two retention voltages do not take (R427, R442). -/
def rowMv (s : State) (row : Nat) : Nat :=
  let base := (supplyTable.getD row ⟨500, 0, 0, 300, 3, 15⟩).coreMv
  if row < 5 then base + 5 * vget s.pwr.offset 0 (min 3 row) else base

/-- A voltage requested of the core regulator over AVSBus (R1, R427). -/
def requestRow (s : State) (row : Nat) : State := { s with pwr := { s.pwr with requestedMv := rowMv s row } }

/-- LDPC capacity, sustained host reads and sustained ingest of the level in force, in MB/s (R430). -/
def ldpcCapacity (s : State) : Nat := 80 * (supplyNow s).codecMhz
def sustainedReads (s : State) : Nat := min 96000 (3 * ldpcCapacity s / 4)
def sustainedIngest (s : State) : Nat := min 48000 (ldpcCapacity s * 10000 / 22022)

/-- The switched power domains that are on (R426), by group: media channels, channel cores, DRAM PHYs, LDPC engines, integrity engines,
Meridian cores, Halo ports and PCIe; none after a power failure's flush (R447). -/
def domainsOn (s : State) : List Nat :=
  let phys := s.dram.ch.toList.countP (fun c => c.st == .inUse)
  let ports := s.halo.ports.toList.countP (fun p => p.st != .down)
  let cores := if s.fw.handover != .none then 8 else 4
  if s.pwr.allOff then [0, 0, 0, 0, 0, 0, 0, 0]
  else if s.pwr.domainsOff then [0, 0, 0, 0, 0, 0, 0, 1]
  else if s.pwr.sleep = .dusk then [64, 32, phys, 2, 1, 4, ports, 1]
  else [64, 32, phys, 16, 16, cores, ports, 1]

/-- The level in force changed, with the request of its voltage and its Info record (R427, R429). -/
def setLevel (s : State) (l : Nat) : State :=
  if l = s.pwr.level then { s with pwr := { s.pwr with stepTo := none, avsRepeated := false } }
  else
    let old := s.pwr.level
    let s := requestRow { s with pwr := { s.pwr with level := l, stepTo := none, avsRepeated := false } } l
    record s 0x0B01 .info (b1 old ++ b1 l ++ b2 (limitCause s))

/-- One move toward the level wanted (R429): a step down is taken at once; a step up requests its voltage, and a later call, the
regulator having acknowledged it, raises the clocks. -/
def stepLevel (s : State) : State :=
  let w := wantedLevel s
  if s.pwr.level < w then setLevel s w
  else
    match s.pwr.stepTo with
    | some l => setLevel s (max l w)
    | none =>
      if w = s.pwr.level || s.pwr.avsFailed then s
      else requestRow { s with pwr := { s.pwr with stepTo := some w, avsRepeated := false } } w

/-- An AVSBus request not acknowledged: repeated once, then no step up is taken any more (R429). -/
def avsTimeout (s : State) : State :=
  if s.pwr.stepTo.isNone then s
  else if !s.pwr.avsRepeated then { s with pwr := { s.pwr with avsRepeated := true } }
  else record { s with pwr := { s.pwr with stepTo := none, avsRepeated := false, avsFailed := true } } 0x0B06 .fault (b2 2)

/-! ### The Calibration Set (R449, R450) -/

/-- Bytes of the Calibration Set. -/
def calBytes (s : State) (off n : Nat) : Bytes := (List.range n).map (fun i => readAt 0xFF s.pwr.cal (off + i))
/-- Whether a section has never been written. -/
def calErased (s : State) (off n : Nat) : Bool := (calBytes s off n).all (· == 0xFF)
/-- Whether a section's CRC-32C, in its last four bytes, matches its other bytes. -/
def calCrcOk (s : State) (off n : Nat) : Bool :=
  let b := calBytes s off n
  (crc32c (b.take (n - 4))).toNat == field b (n - 4) 4
/-- The hold-up section, where it is written and passes its check (R446, R450). -/
def holdupCal (s : State) : Option HoldupCal :=
  if calErased s 0x11000 64 || !calCrcOk s 0x11000 64 then none
  else
    let b := calBytes s 0x11000 64
    some { cNom := field b 0 4, iTest := field b 4 4, vMin := field b 8 4, divider := field b 12 4, efficiency := field b 16 4
           flushPower := field b 20 4 }
/-- The baseline of a ring at a level: BASE_KHZ, TEMP_COEF in ppm/°C, VOLT_COEF in ppm/mV. -/
def ringBaseline (s : State) (ring level : Nat) : Nat × Int × Nat :=
  let b := calBytes s (0x3000 + 32 * ring + 8 * level) 8
  (field b 0 4, fieldInt b 4 2, field b 6 2)

/-! ### Hold-up energy (R444 to R446) -/

/-- e_usable in units of 5 × 10⁻²¹ J: C in µF, voltages in mV, percentages whole (R445). -/
def usableEnergy (s : State) (k : HoldupCal) (c v0 : Nat) : Int :=
  (c : Int) * (9025 * (v0 * v0 : Nat) - 10000 * (k.vMin * k.vMin : Nat)) * k.efficiency * (100 - setting s 0x09 5 : Nat)

/-- The measured dirty limit from a capacitance, in whole 256 MiB (R445). -/
def measuredLimit (s : State) (k : HoldupCal) (c v0 carriers : Nat) : Nat :=
  let e := usableEnergy s k c v0
  let num : Int := 40000000000 * (carriers : Int) * (e * 1000 - 9000000000000000000000 * (k.flushPower : Int))
  let den : Int := 3200000000000000000000000 * (k.flushPower : Int) * ((256 * mib : Nat) : Int)
  (num / den).toNat * (256 * mib)

/-- Carriers in service. -/
def carriersInService (s : State) : Nat := s.media.carriers.toList.countP (fun c => c.st == .inService)

/-- The limits computed again from the last valid C, or half of it (R444 to R446). Write-through is entered when the measured limit is
below WRITE_THROUGH_BELOW, and left only by a valid measurement. -/
def recomputeLimit (s : State) (carriers : Nat) (valid : Bool) : State :=
  let p := s.pwr
  let (m, e) := match holdupCal s, p.lastC with
    | some k, some c =>
      let c := if p.halved then c / 2 else c
      (measuredLimit s k c p.v0 carriers, (usableEnergy s k c p.v0 / (2 * 10 ^ 19)).toNat)
    | _, _ => (0, 0)
  let eff := min s.dram.dirtyLimit m
  let below := decide (m < setting s 0x09 6)
  let s := { s with pwr := { p with measured := m, eUsable := e, effective := eff, carriersCounted := carriers
                                    writeThrough := if p.writeThrough then !(valid && !below) else below } }
  let s := recordIf (eff != p.effective) s 0x0B02 .notice (b4 (eff / mib))
  if s.pwr.writeThrough = p.writeThrough then s
  else record s 0x0B03 (if s.pwr.writeThrough then .critical else .notice) (b4 (m / mib))

/-- The limits follow the count of carriers in service from the end of step 10 (R445). -/
def settleHoldup (s : State) : State :=
  let n := carriersInService s
  if n = s.pwr.carriersCounted || s.pwr.sleep != .zenith || !(s.boot.phase == .complete || (s.boot.phase == .running && 10 < s.boot.step)) then s
  else recomputeLimit s n false

/-- The bank's voltage in mV from HOLDUP_SENSE in µV, through the divider whose ratio is DIVIDER (R444, R449; log entry 266, PRESUMED). -/
def bankMv (k : HoldupCal) (sense : Nat) : Nat := sense * k.divider / 1000

/-- A measurement begins: HOLDUP_TEST is driven high (R444). -/
def startMeasure (s : State) : State :=
  { s with pwr := { s.pwr with measuring := true, measureDue := false }, pins := { s.pins with holdupTest := true } }

/-- The capacitance of a sample in µF, where it is valid: the fall was reached, C lies within 25 % to 400 % of C_NOM, and PWRFAIL_N
was not asserted (R444). -/
def sampleC (s : State) (k : HoldupCal) (x : HoldupSample) : Option Nat :=
  let v0 := bankMv k x.v0
  let vEnd := bankMv k x.vEnd
  let c := k.iTest * x.us / (v0 - vEnd)
  if x.reached && vEnd < v0 && x.us ≤ 200000 && !x.pwrfail && !s.pwr.pwrfail && 250 * k.cNom ≤ c && c ≤ 4000 * k.cNom then some c else none

/-- A measurement ends (R444): its C is taken, or it is invalid and half the last valid C counts. Without a hold-up section nothing is
computed and the measured limit is zero (R446). -/
def endMeasure (s : State) (x : HoldupSample) (carriers : Nat) : State :=
  let s := { s with pwr := { s.pwr with measuring := false }, pins := { s.pins with holdupTest := false } }
  match holdupCal s with
  | none => recomputeLimit s carriers false
  | some k =>
    match sampleC s k x with
    | some c =>
      recomputeLimit { s with pwr := { s.pwr with
        lastC := some c, v0 := bankMv k x.v0, holdupHours := opHours s, holdupInvalid := false, halved := false } } carriers true
    | none =>
      let s := record s 0x0B06 .fault (b2 1)
      recomputeLimit { s with pwr := { s.pwr with holdupInvalid := true, halved := true } } carriers false

/-! ### Replans (R441 to R443) -/

/-- A quotient rounded up, of integers with a positive divisor. -/
def intCeil (n d : Int) : Int := -((-n) / d)

/-- The slowdown of a ring as an exact fraction, at the level and offset in force (R442): none without a baseline. -/
def ringSlowdown (s : State) (ring freq : Nat) : Option (Int × Int) :=
  let (base, tc, vc) := ringBaseline s ring s.pwr.level
  let off := 5 * vget s.pwr.offset 0 s.pwr.level
  if base = 0 then none
  else
    let r := 16000000 * (freq : Int) - (base : Int) * (tc * (s.cool.tj - 960) + 16 * (vc * off : Nat))
    some (16000000 * (base : Int) - r, 16000000 * (base : Int))

/-- The largest of a list of whole numbers, at least zero. -/
def maxNat (l : List Int) : Nat := (l.foldl max 0).toNat

/-- RATIO of HK_PMON from a slowdown fraction: r in units of 1/32,768. -/
def ratioOf (x : Int × Int) : Nat := min 0xFFFF ((x.2 - x.1) * 32768 / x.2).toNat

/-- Whether an eye margin is below 20 % of the unit interval (R443). -/
def marginLow (m : Nat) : Bool := m < 20

/-- A replan with what it measures (R441 to R443). Offsets and the P0 clock only move away from nominal. -/
def replan (s : State) (x : ReplanSample) : State :=
  let p := s.pwr
  let slow := (List.range 64).map (fun i => (x.freq[i]?).bind (ringSlowdown s i))
  let known := slow.filterMap id
  let k := min 8 (maxNat (known.map (fun f => intCeil (f.1 * 1000) (6 * f.2))))
  let steps := maxNat (known.map (fun f => intCeil (f.1 * 10000 - 480 * f.2) (625 * f.2)))
  let clock := 1600 - 100 * steps
  let withdrawn := decide (clock < 1400)
  let p0 := if withdrawn then p.p0Freq else min p.p0Freq clock
  let offset := p.offset.map (max k)
  let used := fun i => (vget s.dram.ch {} i).st == .inUse
  let trained := fun c => carrierLive s c
  let ddr := Vector.ofFn (n := 8) (fun i => if used i then x.ddr.getD i 0xFF else 0xFF)
  let media := Vector.ofFn (n := 16) (fun i => if trained i then x.media.getD i 0 else 0)
  let low := (List.range 8).any (fun i => used i && marginLow (x.ddr.getD i 0xFF))
    || (List.range 16).any (fun i => trained i && marginLow (x.media.getD i 0xFF)) || (s.host.linkUp && marginLow x.pcie)
    || ((vget s.halo.ports {} 0).st == .up && marginLow x.haloE) || ((vget s.halo.ports {} 1).st == .up && marginLow x.haloW)
  let slower := fun c => carrierLive s c && (carrierAt s c).lomril.elim false (fun l => (carrierAt s c).rate < l.maxRate)
  let changed := offset != p.offset || p0 != p.p0Freq || x.seeds
  let s' := { s with pwr := { p with
    offset := offset, p0Freq := p0, slowdown := maxNat (known.map (fun f => f.1 * 10000 / f.2)), lastReplan := opHours s
    pmon := Vector.ofFn (n := 64) (fun i => ((slow[i.val]?).join).elim (vget p.pmon 0 i) ratioOf)
    ddrMargin := ddr, mediaMargin := media, pcieMargin := x.pcie, haloMargin := (x.haloE, x.haloW)
    ageingLimit := if withdrawn then 1 else p.ageingLimit, retrain := (List.range 16).filter slower, replanDue := false } }
  let s' := if offset != p.offset && p.sleep = .zenith then requestRow s' p.level else s'
  let params := b2 s'.pwr.slowdown ++ b1 k ++ b2 p0
  let s' := record s' 0x0B05 .info params
  let s' := recordIf (changed || low) s' 0x0B05 .notice params
  recordIf (withdrawn && p.ageingLimit == 0) s' 0x0B05 .critical params

/-! ### Voltage monitors (R437, R438) -/

/-- The nominal voltage of a monitor's rail in mV (R437): of the core rails the voltage requested. -/
def nominalMv (s : State) (n : Nat) : Nat :=
  if n ≤ 4 then s.pwr.requestedMv
  else if n ≤ 6 then s.pwr.requestedMv + 50
  else if n ≤ 10 then 1100
  else if n ≤ 14 then 1200
  else if n ≤ 18 then 850
  else if n ≤ 20 then 1800
  else if n ≤ 22 then 800
  else 1800

/-- What a rail's comparator finds (R437): beyond 6 % of its nominal voltage a fault, beyond 3 % a warning. -/
def railState (s : State) (n mv : Nat) : MonSt :=
  let nom := nominalMv s n
  if 100 * mv < 94 * nom then .faultLow
  else if 106 * nom < 100 * mv then .faultHigh
  else if 100 * mv < 97 * nom then .warnLow
  else if 103 * nom < 100 * mv then .warnHigh
  else .inside

/-- The number of a monitor's state. -/
def MonSt.code : MonSt → Nat
  | .inside => 0
  | .warnLow => 1
  | .warnHigh => 2
  | .faultLow => 3
  | .faultHigh => 4

/-- A monitor's comparator takes a state, with the records of R438; a low core or SRAM rail drops the level to P3 at once. -/
def monitorEvent (s : State) (n : Nat) (st : MonSt) (mv : Nat) : State :=
  let old := vget s.pwr.mon {} n
  let s := { s with pwr := { s.pwr with mon := vset s.pwr.mon n { old with st := st, mv := mv } } }
  let params := b1 n ++ b2 mv
  if st = old.st then s
  else
    match st with
    | .inside => s
    | .warnLow => record s 0x0B04 .notice params
    | .warnHigh => record s 0x0B04 .notice params
    | .faultHigh => record s 0x0B04 .fault params
    | .faultLow =>
      let s := record s 0x0B04 .fault params
      if n ≤ 6 then setLevel (record { s with pwr := { s.pwr with coreFault := true } } 0x0B04 .critical params) 3 else s

/-- Whether every core and SRAM rail lies inside the warning band. -/
def coreRailsInside (s : State) : Bool := (List.range 7).all (fun n => (vget s.pwr.mon {} n).st == .inside)

end Sys2Proof.Machine
end

