-- ==== Sys2Proof/Machine/CarrierOps.lean ====
section
/-! DEFINITION. Carriers: the Lomril descriptor, the state machine, insertion, removal and return from Eclipse
(02_carriers_and_media_channels R46 to R63). -/
namespace Sys2Proof.Machine

/-! ### The Lomril descriptor (R54 to R57) -/

/-- A signed byte of a descriptor. -/
def int8 (b : Bytes) (off : Nat) : Int := fieldInt b off 1

/-- Whether the header's fields lie in their ranges and its reserved bytes are zero (R51, R52, R55). -/
def headerRanges (b : Bytes) : Bool :=
  let f := fun off n => field b off n
  let pd := f 0x32 2
  let planes := f 0x30 1
  2020 ≤ f 0x28 2 && f 0x28 2 ≤ 2199 && 1 ≤ f 0x2A 1 && f 0x2A 1 ≤ 53 && f 0x2B 1 == 0 && (f 0x2C 1 == 1 || f 0x2C 1 == 2)
    && f 0x2D 1 < 32 && 1 ≤ f 0x2E 1 && f 0x2E 1 ≤ 16 && 1 ≤ f 0x2F 1 && f 0x2F 1 ≤ 8 && (planes == 2 || planes == 4) && f 0x31 1 ≤ 4
    && (pd == 16384 || pd == 32768) && pd * planes == 65536 && pd ≤ 8 * f 0x34 2 && 256 ≤ f 0x36 2 && f 0x36 2 ≤ 4096
    && 1024 ≤ f 0x38 4 && f 0x38 4 ≤ 65536 && 65536 * f 0x36 2 * f 0x38 4 ≤ 2 ^ 40
    && [0x3C, 0x3E, 0x40, 0x42, 0x44, 0x46].all (fun o => f o 2 != 0) && 1 ≤ f 0x49 1 && f 0x49 1 ≤ 32
    && (if f 0x2D 1 % 2 == 1 then 5 ≤ f 0x4C 1 else f 0x4B 1 == 0) && allZero (slice b 0x4F 177)

/-- Whether the read-retry table lies in its ranges (R56, R57). -/
def retryRanges (b : Bytes) : Bool :=
  let n := field b 0x49 1
  let tlc := field b 0x2C 1 == 1
  (List.range 32).all (fun i =>
    let e := slice b (0x100 + 16 * i) 16
    let fl := field e 15 1
    fl < 4 && (fl % 2 == 1) == decide (i < n) && (!tlc || allZero (slice e 7 8)))
    && allZero (slice b 0x100 15) && (List.range n).any (fun i => field b (0x10F + 16 * i) 1 / 2 % 2 == 1)

/-- Whether the Starlight coefficients lie in their ranges. -/
def starlightRanges (b : Bytes) : Bool :=
  800 ≤ field b 0x300 2 && field b 0x300 2 ≤ 1400 && field b 0x302 2 != 0 && 1 ≤ field b 0x314 1
    && field b 0x314 1 ≤ (if field b 0x2C 1 == 1 then 7 else 15) && field b 0x315 1 == 0 && allZero (slice b 0x318 228)

/-- The fields of a valid copy. -/
def lomrilOf (b : Bytes) : Lomril :=
  let f := fun off n => field b off n
  { serial := slice b 8 16, maker := slice b 0x18 16, mfgYear := f 0x28 2, mfgWeek := f 0x2A 1, qlc := f 0x2C 1 == 2, caps := f 0x2D 1
    volumes := f 0x2E 1, lunsPerVolume := f 0x2F 1, planes := f 0x30 1, maxRate := f 0x31 1, pageData := f 0x32 2, pageSpare := f 0x34 2
    pagesPerBlock := f 0x36 2, blocksPerPlane := f 0x38 4, peRated := f 0x3C 2, peRatedPslc := f 0x3E 2, tProgMax := f 0x40 2
    tBersMax := f 0x42 2, tReadMax := f 0x44 2, tSuspendMax := f 0x46 2, retryFeature := f 0x48 1, retryEntries := f 0x49 1
    tempFeature := f 0x4A 1, rechargeCmd := f 0x4B 1, rechargePulses := f 0x4C 1, progTempMin := int8 b 0x4D, progTempMax := int8 b 0x4E
    shifted := (List.range (f 0x49 1)).map (fun i => f (0x10F + 16 * i) 1 / 2 % 2 == 1), eaMev := f 0x300 2, dacStep := f 0x302 2
    c0 := fieldInt b 0x304 4, c1 := fieldInt b 0x308 4, c2 := fieldInt b 0x30C 4, c3 := fieldInt b 0x310 4, sweepLevel := f 0x314 1
    peDerate := f 0x316 2, bytes := padTo 1024 b }

/-- The first failing check of a copy, numbered in R54's order from 1; 0 for a valid copy: MAGIC, VERSION and LENGTH, CRC, ranges,
required features. -/
def lomrilCheck (b : Bytes) : Nat :=
  if slice b 0 4 != ascii "LMRL" then 1
  else if field b 4 2 != 1 || field b 6 2 != 1024 then 2
  else if (crc32c (slice b 0 0x3FC)).toNat != field b 0x3FC 4 then 3
  else if !(headerRanges b && retryRanges b && starlightRanges b) then 4
  else if field b 0x2D 1 / 2 % 16 != 15 then 5
  else 0

/-- The copy in use of the two read: its number and fields, and whether both are valid and differ; or the first failing check of the
primary (R54). -/
def chooseCopy (primary secondary : Bytes) : Except Nat (Nat × Lomril × Bool) :=
  if lomrilCheck primary = 0 then
    .ok (0, lomrilOf primary, lomrilCheck secondary == 0 && padTo 1024 primary != padTo 1024 secondary)
  else if lomrilCheck secondary = 0 then .ok (1, lomrilOf secondary, false)
  else .error (lomrilCheck primary)

/-! ### Records and states (R59) -/

/-- STATE of a carrier status entry (R371). -/
def CarrierSt.code : CarrierSt → Nat
  | .empty => 0
  | .debounce => 1
  | .powering => 2
  | .identifying => 3
  | .training => 4
  | .ready => 5
  | .inService => 6
  | .outOfService => 7
  | .emptyPending => 8
  | .failed => 9
  | .poweredDown => 10
  | .resuming => 11

/-- RATE of a status entry: 0xFF untrained. -/
def carrierRate (c : CarrierState) : Nat := if c.trained then c.rate else 0xFF

/-- The Notice record of a carrier's change: carrier, state, rate. -/
def carrierNotice (s : State) (c : Nat) : State :=
  record s 0x0404 .notice (b1 c ++ b1 (carrierAt s c).st.code ++ b1 (carrierRate (carrierAt s c)))
/-- The Fault record of a carrier: carrier and failing check, 0 for a removal. -/
def carrierFault (s : State) (c check : Nat) : State := record s 0x0405 .fault (b1 c ++ b1 check)

/-- The I3C bus and the address on it at which a carrier's Lomril is read (R46). -/
def i3cBus (c : Nat) : Nat := c / 4
def i3cAddress (c : Nat) : Nat := 0x50 + c % 4

/-- The rate of an I3C bus in kHz (R47): Fast-mode Plus where a target on it is a legacy I2C device. -/
def i3cRateKhz (s : State) (bus : Nat) : Nat :=
  if (List.range 16).any (fun c => i3cBus c == bus && (carrierAt s c).legacyI2c) then 1000 else 12500

/-- Whether carriers are brought up: from the beginning of boot step 10 (R58). -/
def carriersOpen (s : State) : Bool :=
  s.boot.phase == .complete || (s.boot.phase == .running && 10 ≤ s.boot.step)

/-- Carriers that are powering up; at most four do together (R59). -/
def poweringCount (s : State) : Nat :=
  s.media.carriers.toList.countP (fun c => c.st == .powering || (c.st == .resuming && c.pwrEn && !c.settled))

/-- A carrier's power and pads taken away: its descriptors end, its LUNs are forgotten (R58, R61). -/
def isolate (s : State) (c : Nat) (st : CarrierSt) : State :=
  let s := removeDescriptors s c
  let s := modCarrier (forgetLuns s c) c (fun k => { k with
    st := st, pwrEn := false, padsIsolated := true, debounced := false, settled := false, trained := false, appointed := 0, drain := 0 })
  { s with red := { s.red with waiting := s.red.waiting.filter (· != c) }
           pwr := { s.pwr with retrain := s.pwr.retrain.filter (· != c) } }

/-! ### What waits for descriptors to complete: Media Direct's disable (R94), a drain (R59) -/

/-- Whether an operation is a ring's. -/
def ringOwned (e : QEntry) : Bool :=
  match e.owner with
  | .ring _ => true
  | _ => false

/-- Whether a started descriptor of any ring is not complete. -/
def ringsRun (s : State) : Bool :=
  s.media.luns.any (fun p => (p.2.running.elim false (fun r => ringOwned r.entry)) || (p.2.suspended.elim false (fun r => ringOwned r.entry)))

/-- The end of a disable once the started descriptors are complete: the memory powers down and loses its contents, the rings return to
their reset values, and the mailboxes that wait complete (R94). -/
def settleDisable (s : State) : State :=
  if !s.media.mdDisabling || ringsRun s then s
  else
    let s := { s with media := { s.media with mdEnabled := false, mdPowered := false, mdDisabling := false, mdMem := [], mdBadWords := []
                                              rings := Vector.replicate 4 {} } }
    let mine := fun (e : MbxExec) => e.opcode == 0x0E02 && e.waiting
    let waiting := (s.mbx.boxes.filterMap (fun p => (p.2.exec.filter mine).map (fun e => (p.1, e.id))))
      ++ (s.mbx.orphans.filter (fun o => mine o.2)).map (fun o => (o.1, o.2.id))
    waiting.foldl (fun s w => endWaiter s (some w) .success 0 []) s

/-- The Notice and the end of the removal of a drained carrier (R59). -/
def endRemoval (s : State) (c : Nat) : State := carrierNotice (isolate s c .emptyPending) c

/-- A drained carrier out of service (R59). -/
def endOut (s : State) (c : Nat) : State :=
  carrierNotice (modCarrier s c (fun k => { k with st := .outOfService, mdTouched := false, drain := 0 })) c

/-- The mailbox commands that wait for a carrier's drain end once it drains no more (R59). -/
def endDrainWaiters (s : State) (c : Nat) : State :=
  if (carrierAt s c).drain ≠ 0 then s
  else
    let mine := fun (e : MbxExec) => (e.opcode == 0x0303 || e.opcode == 0x0304) && e.waiting && field e.request 0 1 == c
    let waiting := (s.mbx.boxes.filterMap (fun p => (p.2.exec.filter mine).map (fun e => (p.1, e.id))))
      ++ (s.mbx.orphans.filter (fun o => mine o.2)).map (fun o => (o.1, o.2.id))
    let st := if (carrierAt s c).st = .emptyPending || (carrierAt s c).st = .outOfService then MbxStatus.success else .carrierState
    waiting.foldl (fun s w => endWaiter s (some w) st 0 []) s

/-- What a carrier's descriptors may have kept waiting: its drain, and Media Direct's disable (R59, R94). -/
def settleCarrier (s : State) (c : Nat) : State :=
  let k := carrierAt s c
  let s := if k.drain = 0 || !carrierIdle s c then s else if k.drain = 1 then endRemoval s c else endOut s c
  settleDisable (endDrainWaiters s c)

/-- Whether Carrier Redundancy counts the slot's carrier as one of the array. -/
def arrayRole (s : State) (c : Nat) : Bool :=
  match roleOf s c with
  | .member => true
  | .retiring => true
  | .replacement => true
  | .outOfService => true
  | _ => false

/-- A carrier reported to Carrier Redundancy as failed or removed (R61, R191). -/
def reportFailed (s : State) (c cause : Nat) : State :=
  settleHoldup (if s.red.offeringOpen && arrayRole s c then memberFail s c cause else s)

/-- The beginning of a debounce, or of a power-up once it has ended and fewer than four carriers are powering (R59). -/
def powerUp (s : State) (c : Nat) : State :=
  let k := carrierAt s c
  if 4 ≤ poweringCount s then s
  else if k.st = .debounce && k.debounced then
    modStar (modCarrier s c (fun k => { k with st := .powering, pwrEn := true, settled := false })) c (fun x => { x with lastReadMs := s.time.opMs })
  else if k.st = .resuming && !k.pwrEn then
    modStar (modCarrier s c (fun k => { k with pwrEn := true, settled := false })) c (fun x => { x with lastReadMs := s.time.opMs })
  else s

/-- CARR_PRSNT_N of a slot falls as the controller sees it (R59). -/
def presenceFall (s : State) (c : Nat) : State :=
  modCarrier s c (fun k => if k.st = .empty && carriersOpen s then { k with present := true, st := .debounce, debounced := false }
    else { k with present := true })

/-- CARR_PRSNT_N of a slot rises as the controller sees it (R59, R61). -/
def presenceRise (s : State) (c : Nat) : State :=
  let old := (carrierAt s c).st
  let s := modCarrier s c (fun k => { k with present := false })
  match old with
  | .empty => s
  | .debounce => modCarrier s c (fun k => { k with st := .empty, debounced := false })
  | .powering | .identifying | .training => carrierNotice (isolate s c .empty) c
  | .ready | .inService | .outOfService => settleCarrier (reportFailed (carrierFault (isolate s c .empty) c 0) c 1) c
  | .emptyPending | .failed => modCarrier s c (fun k => { k with st := .empty })
  | .poweredDown | .resuming => reportFailed (carrierFault (isolate s c .empty) c 0) c 1

/-- A carrier identified: pads released, LUNs reset, volumes 0 to VOLUMES - 1 appointed, ZQ calibrated (R48, R49, R59); a carrier other than the slot's last one brings dies
that hold nothing (log entry 62, DESIGN CHOICE). -/
def identified (s : State) (c copy : Nat) (l : Lomril) : State :=
  let fresh := (carrierAt s c).lastSerial != l.serial
  let here := fun ch => carrierOf ch == c
  let s := if fresh then
      { s with media := { s.media with
          blocks := s.media.blocks.filter (fun p => !here (channelOfKey p.1)), pages := s.media.pages.filter (fun p => !here (channelOfKey (p.1 / 4096)))
          partly := s.media.partly.filter (fun p => !here (channelOfKey (p.1 / 4096)))
          luns := s.media.luns.filter (fun p => !here (p.1 / 128)) } }
    else s
  let s := modCarrier s c (fun k => { k with
    padsIsolated := false, lomril := some l, copyUsed := copy, lastSerial := l.serial, appointed := l.volumes
    lastRate := if fresh then none else k.lastRate
    servicedBefore := k.servicedBefore && !fresh, erasedSinceClear := k.erasedSinceClear && !fresh, mdTouched := k.mdTouched && !fresh })
  let s := (channelsOf c).foldl (fun s ch => modChannel s ch (fun x => { x with zqCount := x.zqCount + 1 })) s
  let empty := (effectiveWindow s c).isNone
  let s := modCarrier s c (fun k => { k with readOnly := empty })
  let s := modStar s c (fun x => { x with coeffOk := coefficientsOk l })
  if empty then carrierFault s c 6 else s

/-- The rate of a carrier's four channels: the lowest that any of them trained at, none where one of them failed at 800 MT/s (R62). -/
def commonRate (rates : List (Option Nat)) : Option Nat :=
  (List.range 4).foldl (fun acc i => match acc, (rates[i]?).join with
    | some a, some r => some (min a r)
    | _, _ => none) (some 4)

/-- The highest rate that a training tries: one below the last successful one, or 800 MT/s, when step 10 runs by its alternative (R63). -/
def trainingTop (s : State) (c : Nat) : Nat :=
  if s.boot.phase == .running && s.boot.step == 10 && vget s.boot.modes .normal 9 == .alternative then
    ((carrierAt s c).lastRate.elim 4 (· - 1))
  else 4

/-- A carrier trained at a rate, with its Notice record (R62). -/
def trainedAt (s : State) (c r : Nat) : State :=
  let r := min r (trainingTop s c)
  let top := (carrierAt s c).lomril.elim 4 (·.maxRate)
  carrierNotice (modCarrier s c (fun k => { k with trained := true, rate := min r top, lastRate := some (min r top) })) c

/-- A carrier that cannot be used: isolated, without power, and where it was one of the array's reported as failed (R59). -/
def failCarrier (s : State) (c check : Nat) (known : Bool) : State :=
  let s := carrierFault (isolate s c .failed) c check
  if known then settleCarrier (reportFailed s c 2) c else s

/-- A carrier READY and offered, where offers are open (R59). -/
def makeReady (s : State) (c : Nat) : State :=
  settleHoldup (offerCarrier (modCarrier s c (fun k => { k with st := .ready })) c)

/-- The effective window of every identified carrier computed again at a change of PROGRAM_WINDOW_LOW or PROGRAM_WINDOW_HIGH: one that has
become empty puts the carrier into read-only service with a Fault record, one that is no longer empty ends it with a Notice record (R56). -/
def refreshWindows (s : State) : State :=
  (List.range 16).foldl (fun s c =>
    let k := carrierAt s c
    let empty := (effectiveWindow s c).isNone
    if !carrierLive s c || k.readOnly == empty then s
    else
      let s := modCarrier s c (fun k => { k with readOnly := empty })
      if empty then carrierFault s c 6 else carrierNotice s c) s

/-- Entry to Eclipse of a carrier (R59, R431): its queues are empty, its state and SERIAL are recorded. A carrier on its way to READY is
EMPTY, and its present contact counts at the exit as the event that leaves EMPTY (log entry 244, DEDUCED). -/
def powerDownCarrier (s : State) (c : Nat) : State :=
  let k := carrierAt s c
  match k.st with
  | .ready | .inService | .outOfService =>
    modCarrier (isolate s c .poweredDown) c (fun x => { x with stateLeft := k.st, serialLeft := k.lomril.elim [] (·.serial) })
  | .debounce => modCarrier s c (fun x => { x with st := .empty, debounced := false, present := false })
  | .powering | .identifying | .training => modCarrier (isolate s c .empty) c (fun x => { x with present := false })
  | _ => s

/-- The block status and retention entries of a carrier loaded from the metadata blocks: those of the last complete checkpoint (R59, R72, R110,
R124). Where each block's written part ends is as its dies hold it (log entry 252, DESIGN CHOICE). -/
def loadEntries (s : State) (c : Nat) : State :=
  let keys := ((s.media.blocks.map (·.1)) ++ (s.map.primary.blocks.map (·.1))).eraseDups.filter (fun k => carrierOf (channelOfKey k) == c)
  keys.foldl (fun s k => modBlock s k (fun b =>
    let e := readAt {} s.map.primary.blocks k
    { e with wp := b.wp, queued := b.queued, health := if b.health = .factoryBad then b.health else e.health })) s

/-- A sweep due on a carrier that has been dark (R104). -/
def sweepAfterSleep (s : State) (c : Nat) : State :=
  if (carrierAt s c).st = .inService then
    modStar s c (fun x => { x with sweepDue := true, sweepDaily := false, powerUpSweepDone := false, dawnPending := true })
  else s

/-- A carrier at the exit from Night or Eclipse: presence is compared with what was recorded, a powered-down carrier resumes (R59,
R435). -/
def wakeCarrier (s : State) (c : Nat) : State :=
  let k := carrierAt s c
  if k.st = .poweredDown then
    if k.pin then powerUp (modCarrier s c (fun k => { k with st := .resuming, present := true })) c
    else reportFailed (carrierFault (modCarrier s c (fun k => { k with st := .empty, present := false })) c 0) c 1
  else if k.pin && !k.present then presenceFall s c
  else if !k.pin && k.present then presenceRise s c
  else s

end Sys2Proof.Machine
end

