-- ==== Sys2Proof/Machine/CoolOps.lean ====
section
/-! DEFINITION. The thermal manager, the Control Engine, the motors and the trace buffers (15_thermal_and_cooling_drive). -/
namespace Sys2Proof.Machine

/-! ### Motors and slots by number -/

/-- A motor. -/
def motorAt (s : State) (m : Nat) : MotorState := vget s.cool.motor {} m
/-- A motor changed. -/
def modMotor (s : State) (m : Nat) (f : MotorState → MotorState) : State :=
  { s with cool := { s.cool with motor := vset s.cool.motor m (f (motorAt s m)) } }
/-- A loop slot. -/
def loopAt (s : State) (n : Nat) : LoopState := vget s.cool.slot {} n
/-- A loop slot changed. -/
def modLoop (s : State) (n : Nat) (f : LoopState → LoopState) : State :=
  { s with cool := { s.cool with slot := vset s.cool.slot n (f (loopAt s n)) } }
/-- A trace buffer. -/
def traceAt (s : State) (b : Nat) : TraceState := vget s.cool.trace {} b
/-- A trace buffer changed. -/
def modTrace (s : State) (b : Nat) (f : TraceState → TraceState) : State :=
  { s with cool := { s.cool with trace := vset s.cool.trace b (f (traceAt s b)) } }
/-- CD_EN of a motor driven (R464). -/
def setCdEn (s : State) (m : Nat) (on : Bool) : State :=
  { s with pins := { s.pins with cdEn := if on then s.pins.cdEn ||| BitVec.ofNat 4 (2 ^ m) else s.pins.cdEn &&& ~~~ (BitVec.ofNat 4 (2 ^ m)) } }
/-- CD_FAULT_N of a motor. -/
def setFaultPin (s : State) (m : Nat) (high : Bool) : State :=
  { s with pins := { s.pins with
      cdFaultN := if high then s.pins.cdFaultN ||| BitVec.ofNat 4 (2 ^ m) else s.pins.cdFaultN &&& ~~~ (BitVec.ofNat 4 (2 ^ m)) } }

/-- 1.0 in Q16.16. -/
def q16 : Int := 65536

/-! ### Trace triggers (R484) -/

/-- Every armed single-mode buffer that a property holds of is triggered. -/
def triggerWhere (s : State) (p : TraceState → Bool) : State :=
  { s with cool := { s.cool with
      trace := s.cool.trace.map (fun t => if t.armed && !t.continuous && !t.triggered && p t then { t with triggered := true } else t) } }

/-! ### Setpoints (R457, R458, R461, R474, R476) -/

/-- The output of a thermal slot in 0.01 % of rated speed. -/
def slotDemand (l : LoopState) : Nat := (l.out * 100 / q16).toNat

/-- Whether an enabled thermal slot governs a motor. -/
def governs (l : LoopState) (m : Nat) : Bool := l.enable && l.motorMask.getLsbD m

/-- The outputs of the enabled thermal slots that govern a motor and have a property. -/
def demandsOf (s : State) (m : Nat) (p : LoopState → Bool) : List Nat :=
  (((List.range 4).map (loopAt s)).filter (fun l => governs l m && p l)).map slotDemand

/-- Whether the thermal slots stand still: in Safe Start, where each motor holds START_SPEED (R476). -/
def slotsStopped (s : State) : Bool := s.boot.phase == .safeStart || s.pwr.sleep == .night

/-- The setpoint of a running motor (R461), raised to MAX_SPEED at the critical threshold, on a rate-of-rise demand and after another
motor's fault. -/
def setpointOf (s : State) (m : Nat) : Nat :=
  let p := (motorAt s m).param
  if slotsStopped s then p.startSpeed
  else
    let media := (demandsOf s m (fun l => !l.ceiling && l.input != 0)).foldl max 0
    let ceiling := (demandsOf s m (fun l => l.ceiling)).foldl min p.maxSpeed
    let junction := (demandsOf s m (fun l => !l.ceiling && l.input == 0)).foldl max 0
    let sp := min (max (min media ceiling) (max junction p.minSpeed)) p.maxSpeed
    let raised := (vget s.cool.thr {} 3).reached || s.cool.rateDemand.isSome || s.cool.motorFault
    if raised then p.maxSpeed else sp

/-- Every running motor's setpoint brought up to date; in a handover's intake stall the setpoints hold (R476). -/
def settleSetpoints (s : State) : State :=
  if s.fw.intakeStalled then s else (List.range 4).foldl (fun s m =>
    if (motorAt s m).st = .run then modMotor s m (fun x => { x with setpoint := setpointOf s m }) else s) s

/-! ### The thermal manager (R454, R457, R458, R339) -/

/-- The temperature of a threshold in 0.0625 °C. -/
def thresholdTemp (s : State) (i : Nat) : Int :=
  let ot : Int := setting s 0x0A 5
  16 * (match i with
    | 0 => ot
    | 1 => ot + 5
    | 2 => 115
    | _ => 125)

/-- The severity of a threshold's record. -/
def thresholdSeverity (i : Nat) : Severity := if i ≤ 1 then .notice else if i = 2 then .fault else .critical

/-- The level that the reached thresholds demand. -/
def thresholdDemand (thr : Vector ThrState 4) : Nat :=
  (List.range 4).foldl (fun d i => if (vget thr {} i).reached then max d (min 3 (i + 1)) else d) 0

/-- The setpoints after what the thermal manager demands may have changed; a change of its level from an earlier one is noted and triggers traces
(R482, R484). -/
def noteDemand (before : Nat) (s : State) : State :=
  settleSetpoints (if managerDemand s = before then s
    else triggerWhere { s with cool := { s.cool with thresholdChange := true } } (fun t => t.trigSrc == 3))

/-- The demand settled after thresholds changed. -/
def settleDemand (s : State) : State :=
  noteDemand (managerDemand s) { s with cool := { s.cool with demand := thresholdDemand s.cool.thr } }

/-- One threshold against the junction temperature: reached at once, with its record; below it by 5 °C since a moment. -/
def judgeThreshold (s : State) (i : Nat) : State :=
  let t := vget s.cool.thr {} i
  let temp := thresholdTemp s i
  let put := fun (s : State) x => { s with cool := { s.cool with thr := vset s.cool.thr i x } }
  if temp ≤ s.cool.tj then
    let s' := put s { reached := true, belowSince := none }
    recordIf (!t.reached) s' 0x0C01 (thresholdSeverity i) (b1 i ++ b1 (temp / 16).toNat)
  else if t.reached then
    put s { t with belowSince := if s.cool.tj ≤ temp - 80 then t.belowSince.or (some s.time.opMs) else none }
  else s

/-- The thresholds whose temperature has stayed 5 °C below for 10 s fall back (R457). -/
def fallBack (s : State) : State :=
  let gone := fun (t : ThrState) => t.belowSince.elim false (fun b => b + 10000 ≤ s.time.opMs)
  settleDemand { s with cool := { s.cool with thr := s.cool.thr.map (fun t => if gone t then {} else t) } }

/-- The rate of rise over the last 5 s, in 0.1 °C/s: zero before 5 s of readings. -/
def rateNow (s : State) : Int :=
  match s.cool.history.find? (fun h => h.1 + 5000 ≤ s.time.opMs) with
  | some h => (s.cool.tj - h.2) / 8
  | none => 0

/-- The rate-of-rise demand judged (R458). -/
def judgeRate (s : State) : State :=
  let limit : Int := setting s 0x0A 6
  let r := rateNow s
  let s := { s with cool := { s.cool with rate := r } }
  let s :=
    if limit < r && thresholdTemp s 0 - 320 < s.cool.tj && s.cool.rateDemand.isNone then
      record (noteDemand (managerDemand s) { s with cool := { s.cool with
        rateDemand := some (min 3 (s.pwr.level + 1)), rateBelow := none } }) 0x0C02 .notice (b2 r.toNat)
    else s
  if s.cool.rateDemand.isSome then
    { s with cool := { s.cool with rateBelow := if 2 * r < limit then s.cool.rateBelow.or (some s.time.opMs) else none } }
  else s

/-- Host Controlled Thermal Management judged: each transition upward is counted (R339). -/
def judgeHctm (s : State) : State :=
  let above := fun (k : Nat) => decide (k ≠ 0) && decide (16 * ((k : Int) - 273) < s.cool.tj)
  let n := s.nvme
  let l := if above n.tmt2 then 2 else if above n.tmt1 then 1 else 0
  let counts := (n.hctmCounts.1 + (if n.hctmLevel = 0 && l = 1 then 1 else 0), n.hctmCounts.2 + (if n.hctmLevel ≠ 2 && l = 2 then 1 else 0))
  { s with nvme := { n with hctmLevel := l, hctmCounts := counts } }

/-- Whether a diode reading is faulty (R454). -/
def diodeFaulty (s : State) (raw : Int) : Bool :=
  raw < -880 || 2400 < raw || s.cool.prev.elim false (fun p => 320 < raw - p || 320 < p - raw)

/-- A diode reading corrected by the offset and slope of the Calibration Set (R449, R453): what the section's bytes say is the configuration's free
function; a section that has never been written corrects nothing (log entry 271, DESIGN CHOICE). -/
def correctedDiode (s : State) (raw : Int) : Int :=
  if calErased s 0x1000 64 then raw else Config.diodeCorrected (calBytes s 0x1000 64) raw

/-- A reading taken: time passes by its millisecond, and the junction temperature is known, or taken as 125 °C (R453, R454). -/
def takeReading (s : State) (diode : Int) : State :=
  let raw := correctedDiode s diode
  let bad := diodeFaulty s raw
  let c := s.cool
  let plausible := if bad then 0 else min 1000 (c.plausibleMs + 1)
  let fault := bad || (c.fault && plausible < 1000)
  let tj := if fault then 2000 else raw
  let t := { s.time with opMs := s.time.opMs + 1, calendar := if s.time.calendar = 0 then 0 else s.time.calendar + 1 }
  let s := { s with time := t, cool := { c with
    prev := some raw, plausibleMs := plausible, fault := fault, tj := tj
    history := (t.opMs, tj) :: c.history.takeWhile (fun h => t.opMs ≤ h.1 + 5000) } }
  recordIf (bad && !c.fault) s 0x0C04 .critical (leInt 2 raw)

/-! ### The Control Engine (R477 to R480) -/

/-- The motor a speed or current slot belongs to. -/
def motorOfSlot (n : Nat) : Nat := if n < 8 then n - 4 else (n - 8) / 2

/-- Milliamperes as Q16.16 amperes. -/
def ampsOf (ma : Nat) : Int := (ma : Int) * q16 / 1000

/-- The setpoint a slot compares with (R472, R477, R480). -/
def slotSetpoint (s : State) (n : Nat) : Int :=
  let l := loopAt s n
  let m := motorOfSlot n
  let half := ampsOf ((motorAt s m).param.iRated / 2)
  if n < 4 then
    match l.spSource with
    | 1 => (windowHigh s - l.spOffset) * q16
    | 2 => (windowLow s + l.spOffset) * q16
    | _ => l.sp
  else if n < 8 then ((motorAt s m).setpoint : Int) * q16 / 100
  else if n % 2 = 0 then (if (motorAt s m).st = .ramp then half else if (motorAt s m).st = .align then 0 else (loopAt s (4 + m)).out)
  else if (motorAt s m).st = .align then half else l.sp

/-- Whether a slot runs: a thermal one as enabled, a speed one in RUN, a current one while its motor is driven. -/
def slotRuns (s : State) (n : Nat) : Bool :=
  let st := (motorAt s (motorOfSlot n)).st
  if n < 4 then (loopAt s n).enable && !slotsStopped s
  else if n < 8 then st == .run
  else st == .run || st == .align || st == .ramp

/-- The sum of a slot's products, exact (R478). -/
def slotSum (l : LoopState) (e : Int) : Int :=
  let c := l.active
  let third := if l.order then c.b3 * l.e3 - c.a3 * l.y3 else 0
  c.b0 * e + c.b1 * l.e1 + c.b2 * l.e2 - c.a1 * l.y1 - c.a2 * l.y2 + third

/-- A slot's new value: the 64-bit sum rounded to Q16.16. A sum beyond 64 bits has no stated value: a free one (log entry 43, DESIGN CHOICE). -/
def slotValue (s : State) (l : LoopState) (e : Int) : Int × State :=
  let sum := slotSum l e
  if -(2 ^ 63) ≤ sum && sum < 2 ^ 63 then ((sum + 2 ^ 27) / 2 ^ 28, s)
  else
    let (v, s) := drawNat s
    ((v : Int) - 2 ^ 35, s)

/-- The shadow coefficients loaded where a COMMIT is due at this update (R479). -/
def loadShadow (l : LoopState) : LoopState :=
  if l.commitNext then { l with commitNext := false }
  else if l.commitPending then { l with active := l.shadow, commitPending := false }
  else l

/-- One update of a slot (R478): clamped, its history shifted, the clamped value stored. -/
def updateSlot (s : State) (n : Nat) (meas : Int) : State :=
  let l := loadShadow (loopAt s n)
  let sp := slotSetpoint s n
  let e := if n < 4 then meas - sp else sp - meas
  let (y, s) := slotValue s l e
  let out := min (max y l.outMin) l.outMax
  modLoop s n (fun _ => { l with
    meas := meas, out := out, updates := (l.updates + 1) % 65536, satHigh := l.satHigh || decide (l.outMax < y)
    satLow := l.satLow || decide (y < l.outMin), e1 := e, e2 := l.e1, e3 := l.e2, y1 := out, y2 := l.y1, y3 := l.y2 })

/-! ### The converter and the modulator (R463 to R467) -/

/-- SAMPLE_DELAY and SAMPLE_MIN in ns (R465). -/
def sampleDelay (p : MotorParam) : Nat := p.deadNs + 250
/-- The least low-side on time of a valid current sample, in ns (R465). -/
def sampleMin (p : MotorParam) : Nat := p.deadNs + 500

/-- Whether a phase's current sample is valid at its duty: (1 - d) T is at least SAMPLE_MIN (R465). -/
def sampleValid (p : MotorParam) (duty : Nat) : Bool := sampleMin p * p.pwmKhz * 65536 ≤ (65536 - duty) * 10 ^ 6

/-- A shunt's conversion as a phase current in mA: full scale 1.8 V, read about the 0.9 V bias (R465). Rounding is downward, and a gain or a shunt
of zero leaves no stated current: the free value (log entry 259, DESIGN CHOICE). -/
def phaseCurrent (p : MotorParam) (free : Nat) (counts : BitVec 12) : Int :=
  if p.shuntUohm * p.isenseGain = 0 then (free : Int) - 2 ^ 31
  else ((counts.toNat : Int) * 1800000 - 900000 * 4096) * 100000 / (4096 * p.shuntUohm * p.isenseGain : Nat)

/-- A phase voltage's conversion in mV, through the shelf's divider (R463, R465). -/
def phaseVoltage (p : MotorParam) (counts : BitVec 12) : Nat := counts.toNat * 1800 * p.vsenseDiv / (4096 * 100)

/-- The phase currents with one whose sample is invalid taken as minus the sum of the other two (R465). -/
def reconstructed (valid : Vector Bool 3) (i : Vector Int 3) : Vector Int 3 :=
  if !valid[0] then #v[-(i[1] + i[2]), i[1], i[2]]
  else if !valid[1] then #v[i[0], -(i[0] + i[2]), i[2]]
  else if !valid[2] then #v[i[0], i[1], -(i[0] + i[1])]
  else i

/-- An entry of the sine table, signed Q1.15 (R467, R480). -/
def sineEntry (s : State) (i : Nat) : BitVec 16 := readAt (Config.factorySine (i % 1024)) s.cool.sine (i % 1024)

/-- The table's value at an angle: angle [15:6] selects the entry and angle [5:0] interpolates toward the next (R467). -/
def sineAt (s : State) (angle : Nat) : Int :=
  let i := angle % 65536 / 64
  let a := (sineEntry s i).toInt
  a + ((sineEntry s (i + 1)).toInt - a) * (angle % 64 : Nat) / 64

/-- The table angles of phases A, B and C; with REVERSE forward is A, C, B (R467, R468). -/
def phaseAngles (p : MotorParam) (angle : Nat) : Vector Nat 3 :=
  let b := angle + 21845
  let c := angle + 43691
  if p.reverse then #v[angle, c, b] else #v[angle, b, c]

/-- The greatest duty at which a current sample is valid (R465). -/
def dutyLimit (p : MotorParam) : Nat := 65536 - min 65536 (divCeil (sampleMin p * p.pwmKhz * 65536) (10 ^ 6))

/-- The limiter (R465): where fewer than two phases would be valid, every duty is held to the greatest valid one (log entry 260, DESIGN CHOICE). -/
def limitDuties (p : MotorParam) (d : Vector Nat 3) : Vector Nat 3 :=
  if 2 ≤ d.toList.countP (sampleValid p) then d else d.map (min (dutyLimit p))

/-- The duties that the current slots' outputs ask for (R467). -/
def nextDuties (s : State) (m : Nat) : Vector Nat 3 :=
  let x := motorAt s m
  let vd := (loopAt s (9 + 2 * m)).out
  let vq := (loopAt s (8 + 2 * m)).out
  let angles := phaseAngles x.param (x.angle.toNat + Config.vectorOffset vd vq)
  limitDuties x.param (angles.map (fun a =>
    min 65536 (Config.phaseDuty (Config.vectorAmplitude vd vq * sineAt s a / 32768) x.param.vbusMv)))

/-- How far the rotor turns in 1.5 PWM periods at the estimated speed, in 1/65,536 of an electrical turn (R467). -/
def angleAdvance (x : MotorState) : Int :=
  3 * x.speed * x.param.ratedRpm * x.param.polePairs / (2 * 1000 * 100 * 60 * x.param.pwmKhz : Nat)

/-- The valley of a PWM period (R464, R466, R467): compare values take effect, gates that an overcurrent turned off return, and the angle is taken:
zero in ALIGN (R472), the observer's, advanced, in RUN, the ramp's in RAMP; what the observer and the ramp give is a free value (log entry 44,
DESIGN CHOICE). -/
def valley (s : State) (m : Nat) : State :=
  let (n, s) := drawNat s
  modMotor s m (fun x => { x with
    angle := if x.st = .align then 0 else if x.st = .run then BitVec.ofInt 16 (n + angleAdvance x) else BitVec.ofNat 16 n
    duty := x.dutyNext, gatesOff := false, overPeriods := if x.gatesOff then x.overPeriods else 0 })

/-- The high and low gate commands of phases A to C, as counts of one PWM period that each is high: CD_PWM of a motor (R463, R464, R471). The
counter runs at 200 MHz, in Night at 25 MHz; dead times round up to it. All are low while CD_EN is low or the gates are off; braking turns on
every low side. -/
def cdPwm (s : State) (m : Nat) : Vector (Nat × Nat) 3 :=
  let x := motorAt s m
  let tick := if s.pwr.sleep = .night then 40 else 5
  let period := 10 ^ 6 / (x.param.pwmKhz * tick)
  let dead := divCeil x.param.deadNs tick
  if !s.pins.cdEn.getLsbD m || x.gatesOff then Vector.replicate 3 (0, 0)
  else if x.st = .brake then Vector.replicate 3 (0, period)
  else if x.st = .align || x.st = .ramp || x.st = .run then
    x.duty.map (fun d => (d * period / 65536 - dead, period - d * period / 65536 - dead))
  else Vector.replicate 3 (0, 0)

/-- The whole square root of a number below 2 ^ (2 k), bit by bit. -/
def sqrtBits (n : Nat) : Nat → Nat → Nat
  | 0, r => r
  | k + 1, r => sqrtBits n k (if (r + 2 ^ k) * (r + 2 ^ k) ≤ n then r + 2 ^ k else r)

/-- The model speed in Q16.16 % of rated (R473): 100 % times the root of the filtered current over FAN_LAW, rounded down. A FAN_LAW of zero leaves
no stated speed: the free value (log entry 44, DESIGN CHOICE). -/
def modelSpeedOf (p : MotorParam) (free : Nat) (iq : Int) : Int :=
  if p.fanLaw = 0 then (free % 2 ^ 31 : Nat)
  else (sqrtBits (6553600 * 6553600 * (max iq 0).toNat * 1000 / (65536 * p.fanLaw)) 48 0 : Nat)

/-- The plausibility check's clocks after an estimate (R473): armed when the estimate has stayed within 10 % of the setpoint for 1 s, disarmed while
the setpoint moves by more than 1 % in 100 ms; since when an armed check finds the estimate apart from the model by more than PLAUS_BAND. -/
def judgePlausible (s : State) (m : Nat) : State :=
  let now := s.time.opMs
  let band := setting s 0x0A 7
  modMotor s m (fun x =>
    let recent := (now, x.setpoint) :: x.setpoints.filter (fun p => now ≤ p.1 + 100)
    let sp : Int := (x.setpoint : Int) * q16 / 100
    let near := decide (10 * (x.speed - sp).natAbs ≤ sp.natAbs)
    let nearSince := if near then x.nearSince.or (some now) else none
    let moving := recent.any (fun p => decide (p.2 + 100 < x.setpoint) || decide (x.setpoint + 100 < p.2))
    let armed := !moving && (x.plausArmed || nearSince.elim false (fun t => t + 1000 ≤ now))
    let apart := armed && decide (band * 65536 < (x.speed - x.modelSpeed).natAbs)
    { x with setpoints := recent, nearSince := nearSince, plausArmed := armed, apartSince := if apart then x.apartSince.or (some now) else none })

/-- Whether an armed check has found a motor's estimate apart from its model for 20 ms without break (R473). -/
def implausible (s : State) (m : Nat) : Bool := (motorAt s m).apartSince.elim false (fun t => t + 20 ≤ s.time.opMs)

/-- What a slot's update tells the drive's registers (R466, R473, R481): speed and model speed, currents, the valley of a period, and the compare
values of the next. The filter of the commanded q current has no stated discrete form: a free function (log entry 44, DESIGN CHOICE). -/
def noteUpdate (s : State) (n : Nat) (meas : Int) : State :=
  let m := motorOfSlot n
  if n < 4 then settleSetpoints s
  else if n < 8 then
    let (v, s) := drawNat s
    let out := (loopAt s n).out
    judgePlausible (modMotor s m (fun x =>
      let iq := Config.iqFilter x.iqFiltered out s.time.opMs
      { x with speed := meas, iqFiltered := iq, modelSpeed := modelSpeedOf x.param v iq })) m
  else if n % 2 = 0 then modMotor (valley s m) m (fun x => { x with iq := meas })
  else modMotor s m (fun x => { x with id := meas, dutyNext := nextDuties s m })

/-- A slot's history at zero, as on entry to RUN and on enabling (R478). -/
def clearHistory (l : LoopState) : LoopState :=
  { l with e1 := 0, e2 := 0, e3 := 0, y1 := 0, y2 := 0, y3 := 0, updates := 0 }

/-- The factory set of the slots (R461, R479); coefficients and limits are zero, the spec giving none (log entry 8, DESIGN CHOICE). -/
def factorySlots : Vector LoopState 16 :=
  (Vector.replicate 16 ({} : LoopState)).mapFinIdx (fun i l _ =>
    match i with
    | 0 => { l with enable := true, input := 0, sp := 95 * 65536, motorMask := 0xF }
    | 1 => { l with enable := true, input := 1, spSource := 1, spOffset := 8, motorMask := 0xF }
    | 2 => { l with enable := true, input := 2, ceiling := true, spSource := 2, spOffset := 6, motorMask := 0xF }
    | _ => l)

/-! ### Motors (R468 to R475) -/

/-- Whether a number of a motor's entry lies in its range. -/
def paramWithin (b : Bytes) (off n lo hi : Nat) : Bool := decide (lo ≤ field b off n) && decide (field b off n ≤ hi)

/-- Whether a motor's numbers lie within the ranges of R468. An entry out of them has no stated outcome: it counts as one that fails its check
(log entry 272, DESIGN CHOICE). -/
def paramInRange (b : Bytes) : Bool :=
  paramWithin b 0 1 0 2 && paramWithin b 1 1 1 16 && paramWithin b 0x1A 2 500 65535 && paramWithin b 0x1C 2 0 12000
    && paramWithin b 0x1E 2 16 100 && paramWithin b 0x20 2 20 2000 && paramWithin b 0x30 2 100 2000 && paramWithin b 0x32 2 200 4000

/-- A motor's entry of the Calibration Set (R468). -/
def motorParam (s : State) (m : Nat) : MotorParam :=
  let off := 0x10000 + 64 * m
  let b := calBytes s off 64
  if calErased s off 64 then {}
  else if !calCrcOk s off 64 || !paramInRange b then { bad := true }
  else
    { enable := field b 0 1, polePairs := field b 1 1, reverse := field b 2 2 % 2 == 1, ratedRpm := field b 4 4, ke := field b 8 4
      rPhase := field b 0xC 4, lPhase := field b 0x10 4, iRated := field b 0x14 2, iLimit := field b 0x16 2
      startSpeed := field b 0x18 2, minSpeed := field b 0x1A 2, maxSpeed := field b 0x1C 2, pwmKhz := field b 0x1E 2
      deadNs := field b 0x20 2, shuntUohm := field b 0x22 2, isenseGain := field b 0x24 2, vsenseDiv := field b 0x26 2
      vbusMv := field b 0x28 4, fanLaw := field b 0x2C 4, alignMs := field b 0x30 2, rampMs := field b 0x32 2
      brakeLimit := field b 0x34 2, valid := true }

/-- A motor moves to a state; the plausibility check, which belongs to RUN, starts over (R473). -/
def motorTo (s : State) (m : Nat) (st : MotorSt) : State :=
  modMotor s m (fun x => { x with
    st := st, since := s.time.opMs, setpoints := [], nearSince := none, apartSince := none, plausArmed := false, iqFiltered := 0 })

/-- The record of a motor's fault: 1 losses, 2 Ke, 3 brake timeout, 4 bad entry (R500). -/
def motorFaultRecord (s : State) (m cause : Nat) : State := record s 0x0C03 .fault (b1 m ++ b2 cause)

/-- A motor held in FAULT: CD_EN low, gates off, and its record. -/
def faultMotor (s : State) (m cause : Nat) : State :=
  let s := setCdEn (modMotor (motorTo s m .fault) m (fun x => { x with gatesOff := true, keFault := cause == 2 })) m false
  triggerWhere (motorFaultRecord s m cause) (fun t => t.trigSrc == 2)

/-- A motor counts as faulted: the other motors are raised to MAX_SPEED and P3 is demanded (R474). -/
def countFault (s : State) (m : Nat) : State :=
  let s := modMotor s m (fun x => { x with counted := true })
  noteDemand (managerDemand s) { s with cool := { s.cool with motorFault := true } }

/-- A motor starts from OFF with its entry of the moment (R468, R469). -/
def startMotor (s : State) (m : Nat) : State :=
  let x := motorAt s m
  if x.st ≠ .off || !x.enable || s.pwr.pwrfail || s.pwr.sleep == .eclipse then s
  else
    let p := motorParam s m
    let s := modMotor s m (fun x => { x with param := p })
    if p.bad then faultMotor s m 4
    else if !p.valid || p.enable = 0 then s
    else
      setCdEn (modMotor (motorTo s m .detect) m (fun x => { x with gatesOff := true, starts := x.starts + 1, overPeriods := 0 })) m true

/-- A motor stopped: gates off, CD_EN low (R469). -/
def stopMotor (s : State) (m : Nat) : State :=
  setCdEn (modMotor (motorTo s m .off) m (fun x => { x with gatesOff := true, setpoint := 0 })) m false

/-- ENABLE of a motor written (R469, R474). -/
def enableMotor (s : State) (m : Nat) (on : Bool) : State :=
  let s := modMotor s m (fun x => { x with enable := on })
  if on then startMotor s m else countFault (stopMotor s m) m

/-- Losses of the last 60 s (R474). -/
def recentLosses (s : State) (x : MotorState) : List Nat := x.losses.filter (fun t => s.time.opMs < t + 60000)

/-- A loss of the rotor: gates off, counted, coasting (R469, R474). Outside RUN it is not counted (R476). -/
def loseRotor (s : State) (m : Nat) : State :=
  if (motorAt s m).st ≠ .run then s
  else
    let s := modMotor (motorTo s m .coast) m (fun x => { x with
      losses := recentLosses s x ++ [s.time.opMs], lossesTotal := x.lossesTotal + 1, loss := true, gatesOff := true, overPeriods := 0 })
    triggerWhere s (fun t => t.trigSrc == 1 && t.trigMotor == m)

/-- Whether a measured Ke lies within ±25 % of the entry's. -/
def keHolds (p : MotorParam) (ke : Nat) : Bool := 3 * p.ke ≤ 4 * ke && 4 * ke ≤ 5 * p.ke

/-- A measured Ke judged: the motor is caught, or faulted as a mismatch (R469, R472). -/
def judgeKe (s : State) (m ke : Nat) : State :=
  let s := modMotor s m (fun x => { x with keMeas := ke })
  if keHolds (motorAt s m).param ke then motorTo s m .catching else faultMotor s m 2

/-- The motors at boot step 8, or on leaving Eclipse: each takes ENABLE from its entry and starts (R433, R469, R481). -/
def startMotors (s : State) : State :=
  (List.range 4).foldl (fun s m =>
    let p := motorParam s m
    let s := modMotor s m (fun x => { x with enable := p.enable != 0 || p.bad })
    startMotor s m) s

/-- Every motor OFF, as Eclipse and a reset leave them. -/
def motorsOff (s : State) : State :=
  (List.range 4).foldl (fun s m => if (motorAt s m).st = .off then s else stopMotor s m) s

/-- CD_EN low on every motor at once: driven motors coast (R447, R476). -/
def motorsCoast (s : State) : State :=
  { s with pins := { s.pins with cdEn := 0 }, cool := { s.cool with
      motor := s.cool.motor.map (fun x => if x.st = .off || x.st = .fault then x else { x with st := .off, gatesOff := true, setpoint := 0 }) } }

/-- Step 8's cooling work: the stored or the factory slot set is loaded and the motors start (R381, R479). -/
def startCooling (s : State) : State :=
  let set := s.cool.saved.getD factorySlots
  startMotors { s with cool := { s.cool with slot := set.map (fun l => { clearHistory l with shadow := l.active, out := 0, meas := 0 }) } }

/-! ### Trace buffers (R483, R484) -/

/-- A buffer armed: what it samples is fixed from now on. -/
def armTrace (t : TraceState) : TraceState :=
  { t with armed := true, done := false, triggered := false, writeIndex := 0, inForce := (t.decimation, t.index, t.signal), skipped := 0
           sinceTrigger := 0, lastValue := none }

/-- Whether an update's value crosses the trigger level. -/
def crossesLevel (t : TraceState) (v : Int) : Bool :=
  match t.lastValue with
  | none => false
  | some old =>
    let lv := t.level.toInt
    (t.trigSrc == 4 && decide (old ≤ lv) && decide (lv < v)) || (t.trigSrc == 5 && decide (lv ≤ old) && decide (v < lv))

/-- One update of a recording buffer's source: the trigger is judged, and every DECIMATION + 1 updates a sample is written. -/
def traceUpdate (t : TraceState) (v : Int) (time : Word32) : TraceState :=
  if !t.armed then t
  else
    let t := { t with triggered := t.triggered || (!t.continuous && crossesLevel t v), lastValue := some v }
    if t.skipped < t.inForce.1 then { t with skipped := t.skipped + 1 }
    else
      let since := if t.triggered && !t.continuous then t.sinceTrigger + 1 else 0
      let ended := decide (8192 - t.preTrigger ≤ since) && !t.continuous
      { t with skipped := 0, samples := insert t.samples t.writeIndex (BitVec.ofInt 32 v, time), writeIndex := (t.writeIndex + 1) % 8192
               sinceTrigger := since, done := ended, armed := !ended }

end Sys2Proof.Machine
end

