-- ==== Sys2Proof/Machine/DramOps.lean ====
section
/-! DEFINITION. DRAM and on-die memory: the freeze, channels left out, reloads and repairs (13_memory_protection R399 to R424). -/
namespace Sys2Proof.Machine

/-- The DRAM Controller changed. -/
def modDramState (s : State) (f : DramState → DramState) : State := { s with dram := f s.dram }

/-- Every existing controller reads CSTS.CFS = 1 (R408, R448). -/
def fatalAll (s : State) : State :=
  (List.range 128).foldl (fun s fn => if funcExists s fn then modCtrl s fn (fun c => { c with cfs := true }) else s) s

/-- Uncorrectable Internal Error reported by the PF (R311). -/
def internalError (s : State) : State := modFunc s 0 (fun f => { f with aerUncor := f.aerUncor ||| 0x400000 })

/-- The freeze (R408, R409): traffic and fetching stop, every controller is fatal, a handover is abandoned, the staged firmware package is discarded (R505), the cache is flushed unless a
power-fail flush already runs, and the Critical record is written. A further cause while frozen has no effect. -/
def freeze (s : State) (cause ch addr : Nat) : State :=
  if s.dram.frozen then s
  else
    let s := runDeferred (abandonHandover { s with alm := closeOpen s.alm, fw := { s.fw with staged := [] } })
    let s := modDramState s (fun d => { d with
      frozen := true, freezeCause := cause, freezeChannel := if cause = 3 then 0xF else ch, freezeAddr := if cause = 1 then addr else 0
      freezeHours := opHours s })
    let s := internalError (fatalAll s)
    let s := if s.pwr.flush = 0 then modDramState (emergencyFlush s 2) (fun d => { d with flushState := 1 }) else s
    record s 0x0901 .critical (b2 cause ++ b1 (if cause = 3 then 0xFF else ch) ++ b8 (if cause = 1 then addr else 0) ++ b4 (opHours s))

/-- The number of a channel's state (R412). -/
def DramSt.code : DramSt → Nat
  | .inUse => 0
  | .absent => 1
  | .leftTraining => 2
  | .leftPartner => 3
  | .leftMismatch => 4
  | .failed => 5

/-- A channel left out, with its Notice record (R399). -/
def leaveOut (s : State) (ch : Nat) (st : DramSt) : State :=
  record (modDram s ch (fun c => { c with st := st })) 0x0903 .notice (b1 ch ++ b1 st.code)

/-- The pair partner of a channel (R399). -/
def partnerOf (ch : Nat) : Nat := if ch % 2 = 0 then ch + 1 else ch - 1

/-- A channel failed under R407: during step 7 it is left out with its partner, afterwards it brings the freeze (R399, R408). -/
def failChannel (s : State) (ch : Nat) : State :=
  if s.boot.phase = .running && s.boot.step = 7 then
    let s := leaveOut s ch .leftTraining
    if (dramAt s (partnerOf ch)).st = .inUse then leaveOut s (partnerOf ch) .leftPartner else s
  else freeze (modDram s ch (fun c => { c with st := .failed })) 2 ch 0

/-- A corrected burst counted; the one that exceeds 1,000 in 24 operating hours writes a Notice record (R403). -/
def countCorrected (s : State) (ch addr : Nat) : State :=
  let c := dramAt s ch
  let fresh := decide (c.ceWindowMs + 24 * hourMs ≤ s.time.opMs)
  let n := if fresh then 1 else c.ceWindow + 1
  let s := modDram s ch (fun c => { c with
    ce := min (c.ce + 1) 0xFFFFFFFF, ceWindow := n, ceWindowMs := if fresh then s.time.opMs else c.ceWindowMs })
  recordIf (n == 1001) s 0x0904 .notice (b1 ch ++ b8 addr)

/-- An uncorrectable burst counted on the channel that holds an address (R412). -/
def countUncorrectable (s : State) (addr : Nat) : State :=
  modDram s (dramChannelOf s addr) (fun c => { c with ue := min (c.ue + 1) 0xFFFFFFFF })

/-- A Buffer-class error at an address counted, with the record of its recovery (R412, R413). -/
def bufferRecord (s : State) (sev : Severity) (addr : Nat) : State :=
  record (countUncorrectable s addr) 0x0904 sev (b1 (dramChannelOf s addr) ++ b8 addr)

/-- A line that leaves a pair of frames whose rewrite fails for a new pair; both old frames are unused until the next start (R413). -/
def moveFrame (s : State) (l : CacheLine) : State :=
  let s := modDramState s (fun d => { d with framesUnused := d.framesUnused + 2, badFrames := d.badFrames ++ [l.frame] })
  let f := freeFrame s.dram.badFrames s.map.lines
  { s with map := { s.map with lines := s.map.lines.map (fun o => if o == l then { o with frame := f } else o) } }

/-- Write Fault (R321). -/
def writeFault : Cpl := cplMedia 0x80

/-- A cache line of which both copies are uncorrectable (R414): an acknowledged block is LOST; a provisional line ends its write. -/
def loseLine (s : State) (l : CacheLine) : State :=
  let addr := lineAddr s l 0
  let s := countUncorrectable (countUncorrectable s addr) (lineAddr s l 1)
  match l.provisional with
  | some c =>
    let s := { s with map := { s.map with lines := dropLines s.map.lines c } }
    record (endCmd s c writeFault) 0x0905 .fault (b4 l.nsid ++ b8 l.lba)
  | none =>
    let s := { s with map := { s.map with lines := s.map.lines.filter (fun x => !(x.nsid == l.nsid && x.lba == l.lba && x.msn == l.msn)) } }
    modDramState (loseBlock s l.nsid l.lba addr) (fun d => { d with lostLines := d.lostLines + 1 })

/-- A line of the write cache one copy of which does not read (R413): its data comes from the other copy, from which the failing one is
rewritten; a rewrite that fails moves the line. -/
def copyError (s : State) (l : CacheLine) (copy : Nat) (rewriteFails : Bool) : State :=
  let s := bufferRecord (writeLine (readLine s l) l) .notice (lineAddr s l copy)
  if rewriteFails then moveFrame s l else s

/-- The line, and which of its copies, that lies at an address of the write cache (R402). -/
def frameLine (s : State) (addr : Nat) : Option (CacheLine × Nat) :=
  if !inWriteCache s addr then none
  else
    let half := s.dram.cacheSize / 2
    let off := addr - s.dram.cacheBase
    (s.map.lines.find? (fun l => l.st != .clean && l.frame == off % half / 4096)).map (fun l => (l, off / half))

/-- A Buffer-class error resolved (R413, R414); where a CLEAN line lay in the read cache is not modelled, so its address is a free value (log
entry 1, DESIGN CHOICE). -/
def bufferError (s : State) (loc : BufferLoc) : State :=
  match loc with
  | .readBuffer addr => bufferRecord s .info addr
  | .relocation addr => bufferRecord s .info addr
  | .gathering addr => bufferRecord s .info addr
  | .line nsid lba copy both rewriteFails =>
    match lineOf s.map.lines nsid lba with
    | none => s
    | some l =>
      if l.st = .clean then
        let (addr, s) := drawNat s
        bufferRecord { s with map := { s.map with lines := s.map.lines.filter (· != l) } } .info addr
      else if both then loseLine s l
      else copyError s l copy.val rewriteFails

/-! ### Management SRAM (R421 to R424) -/

/-- A code page reloaded, with its Notice record (R421). -/
def reloadPage (s : State) (addr : Nat) : State :=
  record (modDramState s (fun d => { d with codeReloads := d.codeReloads + 1 })) 0x0A07 .notice (b8 addr)

/-- An uncorrectable code page (R421): reloaded in its frame or a spare one, or a freeze. -/
def codeError (s : State) (addr : Nat) (storeOk frameOk : Bool) : State :=
  let s := modDramState s (fun d => { d with msramUe := min (d.msramUe + 1) 0xFFFFFFFF })
  if !storeOk then freeze s 3 0xF 0
  else if frameOk then reloadPage s addr
  else if s.dram.spareFrames = 0 then freeze s 3 0xF 0
  else reloadPage (modDramState s (fun d => { d with spareFrames := d.spareFrames - 1 })) addr

/-- A staged Almanac record dropped and counted as one dropped when full (R422, R492). -/
def dropStaged (a : AlmState) (i : Nat) : AlmState :=
  match a.staged[i]? with
  | none => a
  | some r =>
    let a' := raiseDrop a r.1.severity
    { a' with staged := a.staged.eraseIdx i, openRec := if i + 1 = a.staged.length then none else a.openRec }

/-- An uncorrectable data byte of management SRAM (R422). -/
def dataError (s : State) (use : MsramUse) : State :=
  let s := modDramState s (fun d => { d with msramUe := min (d.msramUe + 1) 0xFFFFFFFF })
  let (addr, s) := drawNat s
  match use with
  | .configCopy => record s 0x0A07 .fault (b8 addr)
  | .stagedRecord i => record { s with alm := dropStaged s.alm i } 0x0A07 .fault (b8 addr)
  | .other => freeze s 3 0xF 0

/-- A hard fault listed for the next start, with its Notice record; the list holds 64 (R424). -/
def listFault (s : State) (f : Nat × Nat) : State :=
  if 64 ≤ s.dram.repairs.length || s.dram.repairs.contains f then s
  else record (modDramState s (fun d => { d with repairs := d.repairs ++ [f] })) 0x0A08 .notice (b1 f.1 ++ b4 f.2)

/-- Step 2 maps a listed fault onto a spare, or leaves it listed with a Fault record where none remains (R424); which spares the fuses
left is not stated, so a free value decides (log entry 1, DESIGN CHOICE). -/
def repairFault (s : State) (f : Nat × Nat) : State :=
  let (spare, s) := drawBool s
  if spare then modDramState s (fun d => { d with repairs := d.repairs.filter (· != f) }) else record s 0x0A08 .fault (b1 f.1 ++ b4 f.2)

/-- A halt of an internal DMA that met an uncorrectable SRAM word, as its user handles it (R420), with its Fault record. In a media channel's
queue it ends the oldest descriptor that waits with BUFFER_ECC (R70). -/
def dmaHalt (s : State) (u : DmaUser) : State :=
  match u with
  | .host fn sq cid =>
    let c : CmdRef := { fn := fn, sq := sq, cid := cid }
    let s := if (cmdAt s c).elim false (fun f => f.done.isNone) then endCmd s c transferError else s
    record s 0x0A08 .fault (b1 1 ++ b4 fn.val)
  | .media ch q =>
    match (channelAt s ch).q[q].head? with
    | some e =>
      let (c, s) := unrun (takeEntry s ch q e) (lunIndex ch (descLun e.desc)) 0x13
      finish s ch q e c
    | none => record (modChannel s ch (fun x => { x with halted := vset x.halted q.val true })) 0x0A08 .fault (b1 4 ++ b4 ch.val)
  | .engine second => record (modDramState s (fun d => { d with engineRetries := d.engineRetries + if second then 0 else 1 })) 0x0A08 .fault (b1 2 ++ b4 0)
  | .halo p =>
    let i : Nat := match p with
      | .east => 0
      | .west => 1
    let x : HaloPort := vget s.halo.ports {} i
    let x : HaloPort := { x with crcErrors := min (x.crcErrors + 1) 65535, nakPending := x.nakPending || !x.inDiscard, inDiscard := true }
    let s := { s with halo := { s.halo with ports := vset s.halo.ports i x } }
    record s 0x0A08 .fault (b1 3 ++ b4 i)
  | .fabric n =>
    record (modDramState s (fun d => { d with dmaHalted := if d.dmaHalted.contains n then d.dmaHalted else d.dmaHalted ++ [n] })) 0x0A08 .fault (b1 5 ++ b4 n)

end Sys2Proof.Machine
end

