-- ==== Sys2Proof/Machine/HaloOps.lean ====
section
/-! DEFINITION. The Halo ring's ports, cells, topology, messages, transactions and sessions (07_halo_ring R248 to R285). -/
namespace Sys2Proof.Machine

/-- The index of a port: 0 East, 1 West (R284). -/
def pIdx : Port → Nat
  | .east => 0
  | .west => 1
/-- A port by its index. -/
def portAt (s : State) (i : Nat) : HaloPort := vget s.halo.ports {} i
/-- A port changed. -/
def modPort (s : State) (i : Nat) (f : HaloPort → HaloPort) : State :=
  { s with halo := { s.halo with ports := vset s.halo.ports i (f (portAt s i)) } }
/-- The Halo subsystem changed. -/
def modHalo (s : State) (f : HaloState → HaloState) : State := { s with halo := f s.halo }
/-- Whether a port is UP. -/
def portUp (s : State) (i : Nat) : Bool := (portAt s i).st == .up

/-! ### Headers and bodies (R264) -/

/-- The 64 bytes of a message header. -/
def headerBytes (h : HaloHeader) : Bytes :=
  b1 h.opcode ++ b1 (bitsOf [h.response, h.retry, h.secure]) ++ b2 h.status ++ b4 h.xid ++ b4 h.session ++ b4 h.bodyLen ++ b8 h.seqno
    ++ b4 h.nsid ++ b1 h.kind ++ b1 h.lbaf ++ b2 h.count ++ b8 h.lba ++ padTo 20 h.serial ++ b4 0

/-- A message header read from its bytes. -/
def headerOf (b : Bytes) : HaloHeader :=
  let f := field b 1 1
  { opcode := field b 0 1, response := f % 2 == 1, retry := f / 2 % 2 == 1, secure := f / 4 % 2 == 1, status := field b 2 2
    xid := field b 4 4, session := field b 8 4, bodyLen := field b 12 4, seqno := field b 16 8, nsid := field b 0x18 4
    kind := field b 0x1C 1, lbaf := field b 0x1D 1, count := field b 0x1E 2, lba := field b 0x20 8, serial := slice b 0x28 20 }

/-- The lane of an opcode (R253). -/
def laneOf (opcode : Nat) : Fin 4 :=
  if opcode = 0x10 then 2 else if opcode = 0x12 then 3 else if opcode = 0x13 then 1 else 0

/-- The opcodes of R265. -/
def haloOpcodes : List Nat := [0x01, 0x02, 0x03, 0x10, 0x11, 0x12, 0x13, 0x20, 0x21, 0x22]

/-- A body cut into payloads of 512 bytes, at most `fuel` of them. -/
def chunks : Nat → Bytes → List Bytes
  | 0, _ => []
  | n + 1, b => if b.isEmpty then [] else b.take 512 :: chunks n (b.drop 512)

/-- The cells of a message (R264): a header cell, the body, and a trailer with BODY_CRC; one cell where there is no body. -/
def cellsOf (m : HaloMessage) : List DataCell :=
  let cell : DataCell := { vl := m.vl, dst := m.dst, src := m.src }
  let head := { cell with payload := headerBytes m.header }
  if m.body.isEmpty then [head]
  else
    [{ head with eom := false }] ++ (chunks (m.body.length / 512 + 1) m.body).map (fun p => { cell with som := false, eom := false, payload := p })
      ++ [{ cell with som := false, payload := leBytes 4 (crc32c m.body).toNat }]

/-- The 528 bytes of a cell (R252): the header's first twelve bytes, the CRC over them and the payload, the payload. -/
def frameBytes (head payload : Bytes) : Bytes :=
  let p := padTo 512 payload
  head ++ b4 (crc32c (head ++ p)).toNat ++ p

/-- A cell header's first twelve bytes (R252). -/
def cellHead (type flags dst src seq len hops : Nat) : Bytes :=
  b1 type ++ b1 flags ++ b1 dst ++ b1 src ++ b2 seq ++ b2 len ++ b1 hops ++ zeros 3

/-- The payload of a CTRL cell (R252). -/
def ctrlPayload (c : CtrlCell) : Bytes :=
  b2 c.ackSeq.toNat ++ b1 (bitsOf [c.nak, c.sleeping]) ++ b1 0 ++ c.credit.toList.flatMap (fun x => b2 x.toNat)

/-- The payload of an INIT cell (R252). -/
def initPayload (c : InitCell) : Bytes :=
  b4 c.ringId ++ b1 c.nodeId ++ b1 (bitsOf [c.port]) ++ b2 c.protocol ++ padTo 20 c.serial ++ zeros 4 ++ c.credits.toList.flatMap b2

/-- A cell's bytes on the cable of a node (R252). -/
def cellBytes (node : Nat) : HaloCell → Bytes
  | .idle => frameBytes (cellHead 3 0 0 node 0 0 0) []
  | .init c => frameBytes (cellHead 4 0 0 node 0 40 0) (initPayload c)
  | .ctrl c => frameBytes (cellHead 2 0 0 node 0 12 0) (ctrlPayload c)
  | .data c => frameBytes (cellHead 1 (c.vl.val + bitsOf [false, false, c.som, c.eom]) c.dst c.src c.seq.toNat c.payload.length c.hops) c.payload

/-- A block body (R264): the blocks' data, then their metadata. -/
def blockBody (md : Nat) (l : List BlockData) : Bytes :=
  l.flatMap (fun d => padTo 4096 d.data) ++ l.flatMap (fun d => padTo md d.md)

/-- The blocks of a block body. -/
def bodyBlocks (md count : Nat) (b : Bytes) : List BlockData :=
  (List.range count).map (fun i => { data := slice b (4096 * i) 4096, md := slice b (4096 * count + md * i) md })

/-- A token entry's bytes (R261). -/
def tokenEntryBytes (e : TokenEntry) : Bytes :=
  b1 e.nodeId ++ b1 e.state ++ b1 e.ports ++ b1 e.sessions ++ padTo 20 e.serial ++ b2 e.protocol ++ zeros 6
/-- A TOKEN body: 32 entries, unused ones with NODE_ID 0xFF (R261). -/
def tokenBody (l : List TokenEntry) : Bytes :=
  (List.range 32).flatMap (fun i => match l[i]? with
    | some e => tokenEntryBytes e
    | none => b1 0xFF ++ zeros 31)

/-! ### Topology and routing (R260 to R263, R282) -/

/-- The nodes of a topology in East order: round the ring, or from the West end of a line to its East end. A token that found an end
of a line to the East turned there, so the entries after that end lie to the West of the originator. -/
def eastOrder (topology : Nat) (l : List TokenEntry) : List Nat :=
  if topology = 2 then
    let k := (l.findIdx? (fun e => e.ports % 2 == 0)).getD l.length
    ((l.drop (k + 1)).reverse ++ l.take (k + 1)).map (·.nodeId)
  else l.map (·.nodeId)

/-- The nodes recorded as asleep. -/
def asleepNodes (s : State) : List Nat := unionSpans s.halo.sleepEast s.halo.sleepWest

/-- Hops East and West to a node that the installed topology holds, none for a direction without a path (R263). -/
def hopsTo (s : State) (dst : Nat) : Option Nat × Option Nat :=
  let order := eastOrder s.halo.topology s.halo.entries
  match order.idxOf? (nodeId s), order.idxOf? dst with
  | some i, some j =>
    if s.halo.topology = 1 then (some ((j + order.length - i) % order.length), some ((i + order.length - j) % order.length))
    else if i < j then (some (j - i), none) else (none, some (i - j))
  | _, _ => (none, none)

/-- The port of a message toward a node: the shorter way, East where equal, alternating where the messages of a session are spread
(R263). Toward a sleeping node a message goes to the end of the line it lies beyond. -/
def routeTo (s : State) (dst : Nat) (west : Bool) : Option Nat :=
  match hopsTo s dst with
  | (some e, some w) => some (if e < w then 0 else if w < e then 1 else if west then 1 else 0)
  | (some _, none) => some 0
  | (none, some _) => some 1
  | (none, none) => if s.halo.sleepEast.contains dst then some 0 else if s.halo.sleepWest.contains dst then some 1 else none

/-- A message put on a port's own queue of its lane (R254), and among what the node has sent. -/
def sendOn (s : State) (i : Nat) (m : HaloMessage) : State :=
  let s := modPort s i (fun p => { p with own := vset p.own m.vl.val (vget p.own [] m.vl.val ++ cellsOf m) })
  modHalo s (fun h => { h with sent := h.sent ++ [m] })

/-- A message of this node, with its header's sender and length. -/
def ownMessage (s : State) (h : HaloHeader) (dst : Nat) (body : Bytes) : HaloMessage :=
  { header := { h with serial := serialText s, bodyLen := body.length }, src := nodeId s, dst := dst, vl := laneOf h.opcode, body := body }

/-- A message sent by the path current now; without a path it is lost, and fails by its timeout (R263, R267). -/
def sendMessage (s : State) (m : HaloMessage) : State :=
  let bulk := setting s 0x07 5 == 1 && (m.header.opcode == 0x10 || m.header.opcode == 0x13)
  let equalHops := match hopsTo s m.dst with
    | (some e, some w) => e == w
    | _ => false
  match routeTo s m.dst (bulk && s.halo.spread.contains m.header.session) with
  | none => modHalo s (fun h => { h with sent := h.sent ++ [m] })
  | some i =>
    let s := sendOn s i m
    let x := m.header.session
    if bulk && equalHops then modHalo s (fun h => { h with spread := if h.spread.contains x then h.spread.filter (· != x) else h.spread ++ [x] }) else s

/-- Active sessions as a token entry counts them (R261). -/
def activeSessions (s : State) : Nat :=
  s.halo.mirrors.countP (fun m => m.st == .active) + s.halo.migration.elim 0 (fun m => if m.st = .committed then 0 else 1)

/-- This node's token entry (R261). -/
def ownEntry (s : State) : TokenEntry :=
  let asleep := fun i => (portAt s i).st == .asleep || (portAt s i).st == .waking
  { nodeId := nodeId s, state := if isHeld s then 3 else if s.pwr.sleep = .dusk then 2 else 1
    ports := bitsOf [portUp s 0, portUp s 1, asleep 0, asleep 1], sessions := activeSessions s, serial := serialText s, protocol := 1 }

/-- A token's entries with this node's own: written where it stands already, else at the end (R260). -/
def writeEntry (l : List TokenEntry) (e : TokenEntry) : List TokenEntry :=
  if l.any (fun x => x.nodeId == e.nodeId && x.serial == e.serial) then
    l.map (fun x => if x.nodeId == e.nodeId && x.serial == e.serial then e else x)
  else if l.length < 32 then l ++ [e] else l

/-- A token sent out of a port, to the neighbour there. -/
def sendToken (s : State) (i : Nat) (t : Token) : State :=
  let h : HaloHeader := { opcode := 2, seqno := t.epoch, nsid := t.originator, kind := t.turns % 4 + if t.final then 4 else 0 }
  sendOn s i (ownMessage s h (portAt s i).neighbour (tokenBody t.entries))

/-- The neighbour East or West of a node in an order, round a ring. -/
def besideNode (topology : Nat) (order : List Nat) (node : Nat) (east : Bool) : Option Nat :=
  match order.idxOf? node with
  | none => none
  | some i =>
    let n := order.length
    if topology = 1 then order[if east then (i + 1) % n else (i + n - 1) % n]?
    else if east then order[i + 1]? else if i = 0 then none else order[i - 1]?

/-- The nodes that a completed token shows asleep beyond one end: the former neighbour of a node whose port there is asleep; a node
recorded before and not back keeps its record (R260, R282). -/
def sleepersOf (s : State) (l : List TokenEntry) (east : Bool) : List Nat :=
  let bit := if east then 4 else 8
  let order := eastOrder s.halo.topology s.halo.entries
  let shown := (l.filter (fun e => e.ports / bit % 2 == 1)).filterMap (fun e =>
    if e.nodeId = nodeId s then some (portAt s (if east then 0 else 1)).neighbour else besideNode s.halo.topology order e.nodeId east)
  (unionSpans (if east then s.halo.sleepEast else s.halo.sleepWest) shown).filter (fun n => !l.any (fun e => e.nodeId == n))

/-- A topology installed, with its Notice record where it differs from the last (R260, R281, R284). -/
def installTopology (s : State) (topology epoch : Nat) (l : List TokenEntry) : State :=
  let changed := topology != s.halo.topology || l.map (·.nodeId) != s.halo.entries.map (·.nodeId)
  let se := sleepersOf s l true
  let sw := sleepersOf s l false
  let s := modHalo s (fun h => { h with topology := topology, topoEpoch := epoch, entries := l, sleepEast := se, sleepWest := sw })
  recordIf changed s 0x0801 .notice (b1 topology ++ b1 l.length)

/-- A token started (R260): after a change in a port's UP state, or when the last one was abandoned. With no port UP the node is
isolated; with the ring disabled there is no topology. -/
def startToken (s : State) : State :=
  if !portUp s 0 && !portUp s 1 then
    let s := modHalo s (fun h => { h with ownToken := none })
    if s.halo.eng then installTopology s 3 s.halo.topoEpoch [ownEntry s] else installTopology s 0 s.halo.topoEpoch []
  else
    let e := s.halo.bestEpoch + 1
    let s := modHalo s (fun h => { h with bestEpoch := e, bestOriginator := nodeId s, ownToken := some e })
    sendToken s (if portUp s 0 then 0 else 1) { epoch := e, originator := nodeId s, turns := 0, final := false, entries := [ownEntry s] }

/-! ### Ports (R255 to R258) -/

/-- Credits a port offers in cells, by lane (R253). -/
def laneCredits : Vector Nat 4 := #v[256, 1024, 5632, 1024]

/-- The CTRL cell that a port sends now (R252, R255): the last sequence number taken in order, the NAK due, the credits released. -/
def ctrlNow (p : HaloPort) (sleeping : Bool) : CtrlCell := { ackSeq := p.rxSeq - 1, nak := p.nakPending, sleeping := sleeping, credit := p.released }

/-- The INIT cell that a port sends (R252). -/
def initNow (s : State) (i : Nat) : InitCell :=
  { ringId := ringId s, nodeId := nodeId s, port := i != 0, serial := serialText s, credits := laneCredits }

/-- A port's link state as a training begins: sequence state is discarded, unacknowledged cells are lost (R255). -/
def freshLink (p : HaloPort) : HaloPort :=
  { p with
    txSeq := 0, replay := [], resend := [], replaysInRow := 0, lastAck := 0xFFFF, rxSeq := 0, nakPending := false, inDiscard := false
    credits := #v[0, 0, 0, 0], returned := Vector.replicate 4 0, released := Vector.replicate 4 0, deficit := #v[0, 0, 0, 0], turn := 1
    slot := 0, sinceCtrl := 0, controlInWindow := 0, sinceIdle := 0, crcRun := 0, sleepingSeen := false, refused := false, initSent := 0
    nbValid := false, retryWait := false, withheld := #v[0, 0, 0, 0] }

/-- A port takes a state; LINK_CHANGE shows every change (R284), and a change of UP starts a token (R260). -/
def setPort (s : State) (i : Nat) (st : PortSt) : State :=
  let old := (portAt s i).st
  let s := modPort s i (fun p => { p with st := st, linkChange := p.linkChange || p.st != st })
  if (old == .up) != (st == .up) then startToken s else s

/-- A port retrains (R255, R256). -/
def retrain (s : State) (i : Nat) : State := setPort (modPort s i freshLink) i .training

/-- A port powered down (R256): its own state is lost, what its registers count stays until the domain's next start. -/
def portDown (s : State) (i : Nat) : State :=
  modPort s i (fun p => {
    st := .down, linkChange := p.linkChange || p.st != .down, replays := p.replays, crcErrors := p.crcErrors, fecUncorr := p.fecUncorr
    lastCell := p.lastCell })

/-- Both ports down and the topology gone with them. -/
def portsDown (s : State) : State := startToken (portDown (portDown s 0) 1)

/-- Both engagement pins driven to a level; the ports follow (R256, R257). -/
def setEngaged (s : State) (on : Bool) : State :=
  if on then
    let s := modHalo s (fun h => { h with eng := true })
    modPort (modPort s 0 (fun p => { p with powered := true })) 1 (fun p => { p with powered := true })
  else portsDown (modHalo s (fun h => { h with eng := false }))

/-- Whether the pins may rise (R257, R262): the ring is enabled, NODE_ID is loaded, the loopback tests pass, outside Safe Start and
without a standing NODE_ID conflict. -/
def mayEngage (s : State) : Bool :=
  ringId s != 0 && s.halo.stepDone && s.halo.loopbackOk && s.boot.phase != .safeStart && !s.halo.conflict && !s.pwr.pwrfail

/-- The pins raised where they may be. -/
def engage (s : State) : State := if mayEngage s then setEngaged s true else s

/-- The loopback tests run again (R257): a port that passed passes again; whether one that failed passes now is free (log entry 1, DESIGN
CHOICE). -/
def loopbackAgain (s : State) : State :=
  if s.halo.loopbackOk then s
  else
    let (ok, s) := drawBool s
    modHalo s (fun h => { h with loopbackOk := ok })

/-- A change of RING_ID, NODE_ID or MAX_LANE_RATE through the Halo family (R257, R262, R285): ring 0 disengages at once; otherwise
both ports retrain, and the pins rise where they may. -/
def haloChanged (s : State) (idx : Nat) : State :=
  let s := if idx = 2 then modHalo s (fun h => { h with conflict := false }) else s
  if ringId s = 0 then setEngaged s false
  else
    let s := if idx ≤ 2 && s.boot.phase != .safeStart then modHalo s (fun h => { h with stepDone := true }) else s
    let again := fun s i => match (portAt s i).st with
      | .down => s
      | .asleep => s
      | .waking => s
      | _ => retrain s i
    let s := again (again s 0) 1
    if idx ≤ 2 && !s.halo.eng then engage (loopbackAgain s) else s

/-- A replay (R255): cells from ACK_SEQ + 1 are sent again; the eighth in succession without an advance retrains the link. -/
def replayFrom (s : State) (i : Nat) : State :=
  let p := portAt s i
  let s := modPort s i (fun p => { p with resend := p.replay, replays := min (p.replays + 1) 65535, replaysInRow := p.replaysInRow + 1 })
  if 8 ≤ p.replaysInRow + 1 then retrain s i else s

/-- An acknowledgement up to a sequence number (R255). -/
def acknowledge (p : HaloPort) (ack : BitVec 16) : HaloPort :=
  match p.replay.findIdx? (fun c => c.seq == ack) with
  | none => p
  | some k => { p with replay := p.replay.drop (k + 1), resend := p.resend.filter (fun c => !(p.replay.take (k + 1)).contains c)
                       replaysInRow := 0, lastAck := ack }

/-- A port's lane as released: one cell has left the receive buffer (R253). -/
def releaseCredit (s : State) (i lane : Nat) : State :=
  modPort s i (fun p => { p with released := vset p.released lane (vget p.released 0 lane + 1) })

/-- Bytes held in reassembly (R264). -/
def reassemblyUsed (s : State) : Nat := (s.halo.reassembly.map (fun e => e.2.length)).sum

/-- The credit of a cell that has entered reassembly (R253): returned, or withheld while the reassembly memory is full. -/
def reassemblyCredit (s : State) (i lane : Nat) : State :=
  if reassemblyUsed s < Config.reassemblyBytes then
    let give := fun (p : HaloPort) => { p with
      released := Vector.ofFn (n := 4) (fun v => p.released[v] + BitVec.ofNat 16 p.withheld[v]), withheld := #v[0, 0, 0, 0] }
    releaseCredit (modPort (modPort s 0 give) 1 give) i lane
  else modPort s i (fun p => { p with withheld := vset p.withheld lane (vget p.withheld 0 lane + 1) })

/-- A cell for this node into the reassembly of its lane and source (R264): a message whole goes to the inbox. -/
def reassemble (s : State) (c : DataCell) : State :=
  let k := (c.vl.val, c.src)
  let sofar := (s.halo.reassembly.find? (fun e => e.1 == k)).map (·.2)
  let rest := s.halo.reassembly.filter (fun e => e.1 != k)
  let got := if c.som then some (padTo 64 c.payload) else sofar.map (· ++ c.payload)
  match got with
  | none => s
  | some b =>
    if !c.eom then modHalo s (fun h => { h with reassembly := rest ++ [(k, b)] })
    else
      let h := headerOf b
      let body := slice b 64 h.bodyLen
      let ok := h.bodyLen == 0 || field b (64 + h.bodyLen) 4 == (crc32c body).toNat
      let m : HaloMessage := { header := h, src := c.src, dst := c.dst, vl := c.vl, body := body, crcOk := ok }
      modHalo s (fun h => { h with reassembly := rest, inbox := h.inbox ++ [m] })

/-- Whether this node consumes a cell: it is the destination, or the last node awake on the way to a sleeping one (R263, R283). -/
def consumes (s : State) (i : Nat) (c : DataCell) : Bool :=
  let o := portAt s (1 - i)
  c.dst == nodeId s || ((o.st == .asleep || o.st == .waking) && o.neighbour == c.dst)

/-- A DATA cell accepted in sequence (R255, R263): for this node into reassembly, otherwise out of the other port with HOPS raised, or
discarded and counted. -/
def acceptCell (s : State) (i : Nat) (c : DataCell) : State :=
  if consumes s i c then reassemblyCredit (reassemble s c) i c.vl.val
  else if 32 ≤ c.hops + 1 || !(s.halo.entries.any (fun e => e.nodeId == c.dst) || (asleepNodes s).contains c.dst) then
    releaseCredit (modHalo s (fun h => { h with undeliverable := h.undeliverable + 1 })) i c.vl.val
  else modPort s (1 - i) (fun p => { p with transit := vset p.transit c.vl.val (vget p.transit [] c.vl.val ++ [{ c with hops := c.hops + 1 }]) })

/-! ### Filling a slot (R250, R254) -/

/-- Whether a lane of a port has a cell it may send: one waits, a credit is held, and the replay buffer has room (R253, R255). -/
def laneReady (p : HaloPort) (v : Nat) : Bool :=
  !((vget p.transit [] v).isEmpty && (vget p.own [] v).isEmpty) && vget p.credits 0 v != 0 && p.replay.length < 4096

/-- Whether the next cell of a lane is the node's own: no transit cell waits, or eight have passed (R254). -/
def ownNext (p : HaloPort) (v : Nat) : Bool :=
  !(vget p.own [] v).isEmpty && ((vget p.transit [] v).isEmpty || 8 ≤ vget p.passed 0 v)

/-- The next cell of a lane sent: sequenced, kept for replay, its credit used; a transit cell releases its receive buffer. -/
def sendCell (s : State) (i v kind : Nat) : State :=
  let p := portAt s i
  let own := ownNext p v
  let q := if own then vget p.own [] v else vget p.transit [] v
  match q with
  | [] => s
  | c :: rest =>
    let sent := { c with seq := p.txSeq }
    let s := modPort s i (fun p => { p with
      own := if own then vset p.own v rest else p.own, transit := if own then p.transit else vset p.transit v rest
      passed := vset p.passed v (if own || (vget p.own [] v).isEmpty then 0 else vget p.passed 0 v + 1)
      txSeq := p.txSeq + 1, replay := p.replay ++ [sent], credits := vset p.credits v (vget p.credits 0 v - 1), lastSlot := kind, lastCell := .data sent })
    if own then s else releaseCredit s (1 - i) v

/-- The share of a lane in cells a round (R253). -/
def laneShare (v : Nat) : Nat := if v = 1 then 15 else if v = 2 then 60 else 25

/-- The lane of the deficit round robin that sends next, with the port's counters after it: a lane that cannot send gives up its
share (R254). -/
def robin : Nat → HaloPort → Option (Nat × HaloPort)
  | 0, _ => none
  | n + 1, p =>
    let v := p.turn
    if laneReady p v && vget p.deficit 0 v != 0 then some (v, { p with deficit := vset p.deficit v (vget p.deficit 0 v - 1) })
    else
      let next := if v = 3 then 1 else v + 1
      let d := if laneReady p v then p.deficit else vset p.deficit v 0
      robin n { p with turn := next, deficit := vset d next (vget d 0 next + laneShare next) }

/-- One slot of a port that is UP filled (R250, R254): an IDLE cell where one is due, a replayed cell, a CTRL cell in one slot of 32,
the control lane within five slots of a hundred, lanes 1 to 3, else IDLE. -/
def fillSlot (s : State) (i : Nat) : State :=
  let s := modPort s i (fun p => { p with
    slot := p.slot + 1, sinceIdle := p.sinceIdle + 1, sinceCtrl := p.sinceCtrl + 1
    controlInWindow := if p.slot % 100 = 0 then 0 else p.controlInWindow })
  let p := portAt s i
  let idle := fun s => modPort s i (fun p => { p with lastSlot := 0, lastCell := .idle, sinceIdle := 0 })
  if 4096 ≤ p.sinceIdle then idle s
  else if !p.resend.isEmpty then
    modPort s i (fun p => { p with resend := p.resend.drop 1, lastSlot := 1, lastCell := p.resend.head?.elim p.lastCell .data })
  else if 32 ≤ p.sinceCtrl then
    modPort s i (fun p => { p with lastSlot := 2, lastCell := .ctrl (ctrlNow p false), sinceCtrl := 0, nakPending := false })
  else if laneReady p 0 && p.controlInWindow < 5 then
    sendCell (modPort s i (fun p => { p with controlInWindow := p.controlInWindow + 1 })) i 0 3
  else
    match robin 7 p with
    | some (v, p') => sendCell (modPort s i (fun _ => p')) i v 4
    | none => idle s

/-! ### Transactions (R266, R267) -/

/-- Responses this node gives and receives (R266). -/
inductive HaloStatus where
  | ok | destBusy | noSession | bodyCrc | piFail | range | format | sealed_ | state | notHeld | readFail | sealMismatch | sealLimit
  | noCapacity | incomplete | badOpcode | peerUnreachable
  deriving DecidableEq, Repr

/-- The code of a status. -/
def HaloStatus.code : HaloStatus → Nat
  | .ok => 0x00
  | .destBusy => 0x01
  | .noSession => 0x02
  | .bodyCrc => 0x03
  | .piFail => 0x04
  | .range => 0x05
  | .format => 0x06
  | .sealed_ => 0x07
  | .state => 0x08
  | .notHeld => 0x09
  | .readFail => 0x0A
  | .sealMismatch => 0x0B
  | .sealLimit => 0x0C
  | .noCapacity => 0x0D
  | .incomplete => 0x0E
  | .badOpcode => 0x0F
  | .peerUnreachable => 0x10

/-- A request sent: its transaction begins (R267). -/
def request (s : State) (h : HaloHeader) (dst : Nat) (body : Bytes) : State :=
  let xid := s.halo.nextXid
  let m := ownMessage s { h with xid := xid } dst body
  let s := modHalo s (fun k => { k with nextXid := (xid + 1) % 2 ^ 32, txns := k.txns ++ [{ xid := xid, msg := m, waiting := true }] })
  sendMessage s m

/-- A response with a body: it carries the request's XID, and is remembered for ten minutes unless it is DEST_BUSY (R264, R267). -/
def respondWith (s : State) (m : HaloMessage) (st : HaloStatus) (body : Bytes) : State :=
  let r := ownMessage s { m.header with response := true, retry := false, status := st.code } m.src body
  let r := { r with vl := m.vl }
  let s := if st = .destBusy then s
    else
      let a : HaloAnswer := { serial := m.header.serial, xid := m.header.xid, response := r, atMs := s.time.opMs }
      modHalo s (fun h => { h with answers := h.answers.filter (fun a => s.time.opMs < a.atMs + 600000) ++ [a] })
  if m.src = nodeId s then s else sendMessage s r

/-- A response without a body. -/
def respond (s : State) (m : HaloMessage) (st : HaloStatus) : State := respondWith s m st []

/-- Whether the controller is still acting on a request (R267): it holds it out of order, erases for it, or wakes a node for it. -/
def actingOn (s : State) (m : HaloMessage) : Bool :=
  let same := fun (x : HaloMessage) => x.header.serial == m.header.serial && x.header.xid == m.header.xid
  s.halo.mirrors.any (fun k => k.held.any (fun p => same p.2)) || s.halo.migration.elim false (fun k => k.held.any (fun p => same p.2))
    || s.halo.securePush.any (fun p => same p.1) || s.halo.ports.toList.any (fun p => p.waking.contains (m.src, m.header.xid))

/-- A request received whole: answered again where it repeats one answered within ten minutes, not acted on again while it is being
acted on, and otherwise handed on (R267). -/
def onRequest (s : State) (m : HaloMessage) (f : State → State) : State :=
  let s := modHalo s (fun h => { h with inbox := h.inbox.erase m })
  if m.header.response then s
  else
    match s.halo.answers.find? (fun a => a.serial == m.header.serial && a.xid == m.header.xid && s.time.opMs < a.atMs + 600000) with
    | some a => sendMessage s a.response
    | none => if actingOn s m then s else f s

/-! ### Sessions (R268 to R274, R276 to R281) -/

/-- A mirror changed. -/
def modMirror (s : State) (session : Nat) (f : Mirror → Mirror) : State :=
  modHalo s (fun h => { h with mirrors := h.mirrors.map (fun m => if m.session == session then f m else m) })
/-- A mirror by its session. -/
def mirrorAt (s : State) (session : Nat) : Option Mirror := s.halo.mirrors.find? (fun m => m.session == session)
/-- The migration changed. -/
def modMig (s : State) (f : Migration → Migration) : State := modHalo s (fun h => { h with migration := h.migration.map f })
/-- The migration, if its session has a value. -/
def migAt (s : State) (session : Nat) : Option Migration := s.halo.migration.filter (fun m => m.session == session)
/-- The record of a session's change (R270, R280, R281). -/
def sessionRecord (s : State) (sev : Severity) (session : Nat) : State := record s 0x0803 sev (b4 session)

/-- A mirror's spans in flight made DIRTY again and its outstanding pushes ended (R269, R281). -/
def recallMirror (s : State) (session : Nat) : State :=
  let lost := s.halo.txns.filter (fun t => t.msg.header.opcode == 0x10 && t.msg.header.session == session)
  let s := modHalo s (fun h => { h with txns := h.txns.filter (fun t => !(t.msg.header.opcode == 0x10 && t.msg.header.session == session)) })
  modMirror s session (fun m => { m with
    dirty := unionSpans m.dirty m.inFlight, inFlight := [], part := [], unsureSeq := m.unsureSeq ++ lost.map (·.msg.header.seqno) })

/-- A mirror suspended (R270). -/
def suspend (s : State) (session : Nat) : State :=
  match mirrorAt s session with
  | none => s
  | some m =>
    if m.st ≠ .active then s
    else
      let s := recallMirror s session
      sessionRecord (modMirror s session (fun m => { m with st := .suspended })) .notice session

/-- The migration's spans in flight made DIRTY again and its outstanding pushes ended (R281). -/
def recallMig (s : State) : State :=
  match s.halo.migration with
  | none => s
  | some mig =>
    let push := fun (t : HaloTxn) => t.msg.header.opcode == 0x10 && t.msg.header.session == mig.session
    let lost := s.halo.txns.filter push
    let s := modHalo s (fun h => { h with txns := h.txns.filter (fun t => !push t) })
    modMig s (fun g => { g with dirty := unionSpans g.dirty g.inFlight, inFlight := [], unsureSeq := g.unsureSeq ++ lost.map (·.msg.header.seqno) })

/-- Bytes of the 40-byte session descriptor (R268). -/
def descBytes (d : SessionDesc) : Bytes :=
  b4 d.session ++ b1 d.type ++ b1 d.role ++ b1 d.mode ++ b1 d.state ++ b4 d.localNsid ++ b4 d.peerNsid ++ b8 d.nsze ++ b8 d.appliedSeqno
    ++ b1 d.lbaf ++ b1 d.piType ++ zeros 6

/-- STATE of a mirror as a descriptor gives it. -/
def MirrorSt.code : MirrorSt → Nat
  | .configured => 1
  | .active => 2
  | .suspended => 3

/-- A mirror's descriptor (R268). -/
def mirrorDesc (s : State) (m : Mirror) : SessionDesc :=
  let n := (nsAt s m.localNsid).getD {}
  { session := m.session, type := 1, role := if m.secondary then 1 else 0, mode := if m.synchronous then 1 else 0, state := m.st.code
    localNsid := m.localNsid, peerNsid := m.peerNsid, nsze := n.nsze, appliedSeqno := m.appliedSeqno, lbaf := n.lbaf, piType := n.piType }

/-- The migration's descriptor (R268). -/
def migDesc (g : Migration) : SessionDesc :=
  { session := g.session, type := 2, role := if g.successor then 1 else 0, state := g.st.code, appliedSeqno := g.appliedSeqno }

/-- The sessions' descriptors, mirrors first. -/
def sessionDescs (s : State) : List SessionDesc := s.halo.mirrors.map (mirrorDesc s) ++ s.halo.migration.toList.map migDesc

/-- The next SEQNO of a push: one that an answer other than OK has left free, else the next (log entry 60, DEDUCED). -/
def takeSeq (free : List Nat) (next : Nat) : Nat × List Nat × Nat :=
  match free with
  | [] => (next, [], next + 1)
  | x :: t => let m := t.foldl min x; (m, (x :: t).filter (· != m), next)

/-- What one block of a span is pushed as (R271, R277): 0 data with its content, 1 deallocated, 2 zero, 3 lost; none where a block
that is mapped cannot be read. -/
def pushBlock (s : State) (n : Namespace) (nsid lba : Nat) (r : BlockRead) : Option (Nat × BlockData) × State :=
  let lostStripe := match mapAt s.map.core nsid lba with
    | some (.mapped b o) => s.red.lostStripes.any (fun l => l.band == b && l.stripe == o / 240)
    | _ => false
  if (lineOf s.map.lines nsid lba).isSome then
    match readBlock s n nsid lba r with
    | (.ok d, s) => (some (0, d), s)
    | (_, s) => (none, s)
  else
    match mapAt s.map.core nsid lba with
    | none => (some (1, {}), s)
    | some .zero => (some (2, {}), s)
    | some .lost => (some (3, {}), s)
    | some (.mapped _ _) =>
      if lostStripe && s.red.st == .heldReadOnly then (some (3, {}), s)
      else
        match readBlock s n nsid lba r with
        | (.ok d, s) => (some (0, d), s)
        | (_, s) => (none, s)

/-- The blocks of a span of a namespace as they are pushed, each with its offset: all of them, or those named. -/
def pushSpan (s : State) (n : Namespace) (nsid span : Nat) (only : Option (List Nat)) (media : List BlockRead) :
    Option (List (Nat × Nat × BlockData)) × State :=
  let count := min 256 (n.nsze - 256 * span)
  ((List.range count).filter (fun i => only.elim true (·.contains (256 * span + i)))).foldl (fun acc i =>
    match acc with
    | (none, s) => (none, s)
    | (some l, s) =>
      match pushBlock s n nsid (256 * span + i) (media.getD i {}) with
      | (some b, s) => (some (l ++ [(i, b)]), s)
      | (none, s) => (none, s)) (some [], s)

/-- Runs of one kind among a span's blocks: first offset, kind and blocks (R271). -/
def runsOf (l : List (Nat × Nat × BlockData)) : List (Nat × Nat × List BlockData) :=
  l.foldl (fun acc p =>
    let (i, k, d) := p
    match acc.getLast? with
    | some (first, kind, bs) => if kind = k && first + bs.length = i then acc.dropLast ++ [(first, kind, bs ++ [d])] else acc ++ [(i, k, [d])]
    | none => [(i, k, [d])]) []

/-- The pushes of a mirror's span: one for each run, the DIRTY bit moved to IN_FLIGHT; a synchronous mirror pushes the blocks that its
partner lacks (R269, R271). Nothing is pushed where a block cannot be read. -/
def pushMirror (s : State) (m : Mirror) (span : Nat) (media : List BlockRead) : State :=
  match nsAt s m.localNsid with
  | none => s
  | some n =>
    match pushSpan s n m.localNsid span ((m.part.find? (fun p => p.1 == span)).map (·.2)) media with
    | (none, s) => s
    | (some l, s) =>
      let s := modMirror s m.session (fun m => { m with
        dirty := m.dirty.filter (· != span), part := m.part.filter (fun p => p.1 != span), inFlight := unionSpans m.inFlight [span] })
      (runsOf l).foldl (fun s r =>
        match mirrorAt s m.session with
        | none => s
        | some m =>
          let (seq, free, next) := takeSeq m.freeSeq m.nextSeqno
          let s := modMirror s m.session (fun m => { m with freeSeq := free, nextSeqno := next })
          let h : HaloHeader := { opcode := 0x10, session := m.session, seqno := seq, nsid := m.peerNsid, kind := r.2.1, lbaf := n.lbaf
                                  count := r.2.2.length, lba := 256 * span + r.1, secure := r.2.1 == 1 && m.secureSpans.contains span }
          request s h m.peer (if r.2.1 = 0 then blockBody (mdSize n.lbaf) r.2.2 else [])) s

/-- The pushes of a migration's span (R277). -/
def pushMig (s : State) (nsid span : Nat) (media : List BlockRead) : State :=
  match nsAt s nsid with
  | none => modMig s (fun g => { g with todo := g.todo.filter (· != (nsid, span)), dirty := g.dirty.filter (· != (nsid, span)) })
  | some n =>
    match pushSpan s n nsid span none media with
    | (none, s) => s
    | (some l, s) =>
      let x := (nsid, span)
      let s := modMig s (fun g => { g with todo := g.todo.filter (· != x), dirty := g.dirty.filter (· != x), inFlight := unionSpans g.inFlight [x]
                                           posNsid := nsid, posSpan := span })
      (runsOf l).foldl (fun s r =>
        match s.halo.migration with
        | none => s
        | some g =>
          let (seq, free, next) := takeSeq g.freeSeq g.nextSeqno
          let s := modMig s (fun g => { g with freeSeq := free, nextSeqno := next })
          let h : HaloHeader := { opcode := 0x10, session := g.session, seqno := seq, nsid := nsid, kind := r.2.1, lbaf := n.lbaf
                                  count := r.2.2.length, lba := 256 * span + r.1, secure := r.2.1 == 1 && g.secureSpans.contains x }
          request s h g.peer (if r.2.1 = 0 then blockBody (mdSize n.lbaf) r.2.2 else [])) s

/-- Whether a transaction of an opcode and session is outstanding. -/
def outstandingOf (s : State) (opcode session : Nat) : Bool :=
  s.halo.txns.any (fun t => t.msg.header.opcode == opcode && t.msg.header.session == session)

/-! ### Seals sent (R271, R275, R277) -/

/-- Whether a seal may travel: it stands, and its spans are neither DIRTY, in flight nor to be pushed. -/
def sealSpansOf (x : Seal) : List Nat := (List.range x.spans).map (· + x.slba / 256)

/-- A SEAL_XFER's body (R275): the custody count, the record, the custody records, and each signer's chain with its length. -/
def sealBody (x : Seal) : Bytes :=
  let key := fun r off => (BitVec.ofNat 256 (ofBE (slice r off 32)) : Digest)
  let chain := fun d => leBytes 4 (Config.certChain d).length ++ Config.certChain d
  b4 x.custody.length ++ x.record ++ x.custody.flatMap id ++ chain (key x.record 0x80) ++ x.custody.flatMap (fun c => chain (key c 0x84))

/-- A seal's transfer begun: SEQNO names the pushes that must have been applied before it (log entry 61, DEDUCED). -/
def sendSeal (s : State) (x : Seal) (session seqno peer nsid : Nat) : State :=
  request (modSeal s x.id (fun y => { y with busy := true })) { opcode := 0x13, session := session, seqno := seqno, nsid := nsid, lba := x.slba }
    peer (sealBody x)

/-- The seals of the active mirrors and of a passing migration whose ranges the peer holds, each sent once (R271, R277). -/
def sendReadySeals (s : State) : State :=
  let ready := fun (x : Seal) => (x.st == .issued || x.st == .received) && !x.busy
  let s := s.halo.mirrors.foldl (fun s m =>
    if m.secondary || m.st != .active || m.resumeDue || outstandingOf s 0x13 m.session then s
    else
      match s.sealing.seals.find? (fun x => ready x && x.nsid == m.localNsid && !m.sealsDone.contains x.id && !m.sealRefused.contains x.id
          && (sealSpansOf x).all (fun sp => !m.dirty.contains sp && !m.inFlight.contains sp)) with
      | none => s
      | some x => sendSeal s x m.session (m.nextSeqno - 1) m.peer m.peerNsid) s
  match s.halo.migration with
  | none => s
  | some g =>
    if g.successor || g.st != .passing || g.beginWaiter.isSome || g.resumeDue || outstandingOf s 0x13 g.session then s
    else
      match s.sealing.seals.find? (fun x => ready x && !g.sealsDone.contains x.id && !g.sealRefused.contains x.id
          && (sealSpansOf x).all (fun sp => !g.dirty.contains (x.nsid, sp) && !g.inFlight.contains (x.nsid, sp) && !g.todo.contains (x.nsid, sp))) with
      | none => s
      | some x => sendSeal s x g.session (g.nextSeqno - 1) g.peer x.nsid

/-! ### How transactions end -/

/-- Whether pushes of a span of a session are still outstanding. -/
def spanOutstanding (s : State) (session nsid span : Nat) : Bool :=
  s.halo.txns.any (fun t => t.msg.header.opcode == 0x10 && t.msg.header.session == session && t.msg.header.nsid == nsid && t.msg.header.lba / 256 == span)

/-- A push of a mirror ends (R269, R270, R272). -/
def endMirrorPush (s : State) (m : Mirror) (h : HaloHeader) (st : Nat) : State :=
  let span := h.lba / 256
  if st = HaloStatus.ok.code then
    let s := if spanOutstanding s m.session h.nsid span then s
      else modMirror s m.session (fun m => { m with
        inFlight := m.inFlight.filter (· != span), piFailed := m.piFailed.filter (· != span), piSkipped := m.piSkipped.filter (· != span)
        secureSpans := if m.dirty.contains span then m.secureSpans else m.secureSpans.filter (· != span) })
    sendReadySeals s
  else
    let s := modMirror s m.session (fun m => { m with
      inFlight := m.inFlight.filter (· != span), dirty := unionSpans m.dirty [span], part := m.part.filter (fun p => p.1 != span)
      freeSeq := if st = 0x10 then m.freeSeq else m.freeSeq ++ [h.seqno], unsureSeq := if st = 0x10 then m.unsureSeq ++ [h.seqno] else m.unsureSeq })
    if st = HaloStatus.piFail.code then
      let s := record s 0x0804 .fault (b4 m.session ++ b8 span)
      modMirror s m.session (fun m => if m.piFailed.contains span
        then { m with piFailed := m.piFailed.filter (· != span), piSkipped := unionSpans m.piSkipped [span] }
        else { m with piFailed := m.piFailed ++ [span] })
    else if st = HaloStatus.sealed_.code then suspend s m.session
    else s

/-- The highest SEQNO of a migration before which every one is acknowledged (R278). -/
def ackedSeqno (s : State) (g : Migration) : Nat :=
  let open_ := (s.halo.txns.filter (fun t => t.msg.header.opcode == 0x10 && t.msg.header.session == g.session)).map (·.msg.header.seqno)
    ++ g.freeSeq ++ g.unsureSeq
  (open_.foldl min g.nextSeqno) - 1

/-- MIGRATE_CHECKPOINT sent (R278). -/
def sendCheckpoint (s : State) : State :=
  match s.halo.migration with
  | none => s
  | some g =>
    let body := b4 g.pass ++ b4 g.posNsid ++ b8 g.posSpan ++ b8 (g.dirty.length + g.inFlight.length) ++ b8 g.sealsDone.length ++ zeros 32
    request (modMig s (fun g => { g with sinceCheckpoint := 0 })) { opcode := 0x21, session := g.session, seqno := ackedSeqno s g } g.peer body

/-- A push of the migration ends (R277, R278). -/
def endMigPush (s : State) (g : Migration) (h : HaloHeader) (st : Nat) : State :=
  let x := (h.nsid, h.lba / 256)
  if st = HaloStatus.ok.code then
    if spanOutstanding s g.session h.nsid x.2 then s
    else
      let s := modMig s (fun g => { g with
        inFlight := g.inFlight.filter (· != x), sinceCheckpoint := g.sinceCheckpoint + 1, piFailed := g.piFailed.filter (· != x)
        piSkipped := g.piSkipped.filter (· != x), secureSpans := if g.dirty.contains x then g.secureSpans else g.secureSpans.filter (· != x) })
      let s := modMig s (fun g => { g with acked := ackedSeqno s g })
      if setting s 0x07 9 ≤ g.sinceCheckpoint + 1 then sendCheckpoint s else s
  else
    let s := modMig s (fun g => { g with
      inFlight := g.inFlight.filter (· != x), dirty := unionSpans g.dirty [x]
      freeSeq := if st = 0x10 then g.freeSeq else g.freeSeq ++ [h.seqno], unsureSeq := if st = 0x10 then g.unsureSeq ++ [h.seqno] else g.unsureSeq })
    if st = HaloStatus.piFail.code then
      let s := record s 0x0804 .fault (b4 g.session ++ b8 x.2)
      modMig s (fun g => if g.piFailed.contains x then { g with piFailed := g.piFailed.filter (· != x), piSkipped := unionSpans g.piSkipped [x] }
        else { g with piFailed := g.piFailed ++ [x], todo := unionSpans g.todo [x] })
    else s

/-- A SEAL_XFER ends (R275, R281). -/
def endSealXfer (s : State) (h : HaloHeader) (st : Nat) : State :=
  let mine := fun (x : Seal) => x.busy && x.slba == h.lba && (match mirrorAt s h.session with
    | some m => x.nsid == m.localNsid
    | none => x.nsid == h.nsid)
  match s.sealing.seals.find? mine with
  | none => s
  | some x =>
    let s := modSeal s x.id (fun y => { y with busy := false })
    let done := fun s => modMig (modMirror s h.session (fun m => { m with sealsDone := unionSpans m.sealsDone [x.id] }))
      (fun g => if g.session = h.session then { g with sealsDone := unionSpans g.sealsDone [x.id] } else g)
    let refuse := fun s => modMig (modMirror s h.session (fun m => { m with sealRefused := unionSpans m.sealRefused [x.id] }))
      (fun g => if g.session = h.session then { g with sealRefused := unionSpans g.sealRefused [x.id] } else g)
    if st = HaloStatus.ok.code || st = HaloStatus.sealed_.code then done s
    else if st = HaloStatus.sealMismatch.code then record (refuse s) 0x0804 .critical (b4 h.session ++ b8 (x.slba / 256))
    else if st = HaloStatus.sealLimit.code then refuse s
    else if st = HaloStatus.peerUnreachable.code then sessionRecord s .notice h.session
    else s

/-- MIGRATE_BEGIN with KIND 0 answered (R276, R280): OK makes the migration record, anything else ends the attempt. -/
def endMigrateBegin (s : State) (st : Nat) : State :=
  match s.halo.migration with
  | none => s
  | some g =>
    if g.beginWaiter.isNone then s
    else if st = HaloStatus.ok.code then
      sessionRecord (endWaiter (modMig s (fun g => { g with beginWaiter := none })) g.beginWaiter .success 0 []) .notice g.session
    else endWaiter (modHalo s (fun h => { h with migration := none })) g.beginWaiter .peerRefused st []

/-- MIGRATE_COMMIT answered (R279, R280). -/
def endMigrateCommit (s : State) (session st : Nat) : State :=
  match migAt s session with
  | none => s
  | some g =>
    if g.st ≠ .committing then s
    else if st = HaloStatus.ok.code then
      let s := modMig s (fun g => { g with st := .committed })
      let s := { s with nvme := { s.nvme with namespaces := s.nvme.namespaces.map (fun p => (p.1, { p.2 with protectedAfterCommit := true })) } }
      sessionRecord s .notice session
    else if st = HaloStatus.incomplete.code then
      modMig s (fun g => { g with st := .passing, pass := g.pass + 1, todo := g.dirty, sealRefused := [], piSkipped := [] })
    else s

/-- The migration record written with the position of a checkpoint (R278). -/
def recordPosition (s : State) (m : HaloMessage) : State :=
  modMig s (fun g => if g.session = m.header.session
    then { g with recPass := field m.body 0 4, recNsid := field m.body 4 4, recSpan := field m.body 8 8 } else g)

/-- A WAKE answered (R283): the mailbox that waits for it ends; a node that did not wake is recorded. -/
def endWake (s : State) (xid dst st : Nat) : State :=
  let w := (s.halo.wakeWaiter.find? (fun p => p.1 == xid)).map (·.2)
  let s := modHalo s (fun h => { h with wakeWaiter := h.wakeWaiter.filter (fun p => p.1 != xid) })
  let s := if st = HaloStatus.state.code then record s 0x0802 .notice (b1 0 ++ b1 dst) else s
  endWaiter s w (if st = HaloStatus.ok.code then .success else .peerRefused) (if st = HaloStatus.ok.code then 0 else st) []

/-- A transaction ends with a status (R266, R267). -/
def endTxn (s : State) (t : HaloTxn) (st : Nat) : State :=
  let s := modHalo s (fun h => { h with txns := h.txns.filter (fun u => u.xid != t.xid) })
  let h := t.msg.header
  if h.opcode = 0x10 then
    match mirrorAt s h.session, migAt s h.session with
    | some m, _ => endMirrorPush s m h st
    | none, some g => endMigPush s g h st
    | none, none => s
  else if h.opcode = 0x13 then endSealXfer s h st
  else if h.opcode = 0x20 && h.kind = 0 then endMigrateBegin s st
  else if h.opcode = 0x21 then (if st = HaloStatus.ok.code then recordPosition s t.msg else s)
  else if h.opcode = 0x22 then endMigrateCommit s h.session st
  else if h.opcode = 0x03 then endWake s t.xid t.msg.dst st
  else s

/-! ### Waking (R283) -/

/-- A WAKE sent to a sleeping node: a sleeping neighbour is woken from here (R283). -/
def sendWake (s : State) (node : Nat) (waiter : Option (Nat × Nat)) : State :=
  let xid := s.halo.nextXid
  let s := match waiter with
    | none => s
    | some w => modHalo s (fun h => { h with wakeWaiter := h.wakeWaiter ++ [(xid, w)] })
  let beside := (List.range 2).find? (fun i => ((portAt s i).st == .asleep || (portAt s i).st == .waking) && (portAt s i).neighbour == node)
  match beside with
  | none => request s { opcode := 0x03 } node []
  | some i =>
    let m := ownMessage s { opcode := 0x03, xid := xid } node []
    let s := modHalo s (fun h => { h with nextXid := (xid + 1) % 2 ^ 32, txns := h.txns ++ [{ xid := xid, msg := m, waiting := true }] })
    setPort (modPort s i (fun p => { p with waking := p.waking ++ [(nodeId s, xid)] })) i .waking

/-- What a port answers for its wake pattern: each originator is told, and the node's own transaction ends (R283). -/
def answerWake (s : State) (i : Nat) (st : HaloStatus) : State :=
  let dst := (portAt s i).neighbour
  let l := (portAt s i).waking
  l.foldl (fun s w =>
    if w.1 = nodeId s then
      match s.halo.txns.find? (fun t => t.xid == w.2) with
      | none => s
      | some t => endTxn s t st.code
    else respond s { header := { opcode := 0x03, xid := w.2 }, src := w.1, dst := dst, vl := 0 } st) (modPort s i (fun p => { p with waking := [] }))

/-- Whether a wake of a node is under way from here. -/
def wakingNode (s : State) (node : Nat) : Bool := s.halo.txns.any (fun t => t.msg.header.opcode == 0x03 && t.msg.dst == node)

end Sys2Proof.Machine
end

