-- ==== Sys2Proof/Machine/SleepOps.lean ====
section
/-! DEFINITION. Sleep: entry, isolation, wake events and exit; PWRFAIL_N (14_power_states_and_ageing R431 to R436, R447, R448; 07 R282;
08 R301; 09 R336 to R338). -/
namespace Sys2Proof.Machine

/-- The state a target names (R431). -/
def sleepOf : SleepTarget → SleepSt
  | .dusk => .dusk
  | .night => .night
  | .eclipse => .eclipse

/-- The target of a power state or setting number: 1 Dusk, 2 Night, 3 Eclipse (R336, R452). -/
def targetOf (n : Nat) : Option SleepTarget :=
  match n with
  | 1 => some .dusk
  | 2 => some .night
  | 3 => some .eclipse
  | _ => none

/-- Depth of a sleep state. -/
def depth : SleepSt → Nat
  | .zenith => 0
  | .dusk => 1
  | .night => 2
  | .eclipse => 3

/-- Whether a state is Night or Eclipse. -/
def isDeep (st : SleepSt) : Bool := st == .night || st == .eclipse

/-- The sleep state that the host's commands name: D3cold, D3hot, or the power state selected (R301, R337). -/
def commandedTarget (s : State) : Option SleepTarget :=
  match (funcAt s 0).d with
  | .d3cold => targetOf (setting s 0x09 2)
  | .d3hot => targetOf (setting s 0x09 1)
  | .d0 => if 4 ≤ s.nvme.powerSelected then targetOf (s.nvme.powerSelected - 3) else none

/-- The number of the power state that the device is in (R336). -/
def powerState (s : State) : Nat := if s.pwr.sleep = .zenith then min 3 s.nvme.powerSelected else 3 + depth s.pwr.sleep

/-- The autonomous transition that falls due after an idle period in ms (R338). -/
def autonomousTarget (s : State) (idleMs : Nat) : Option SleepTarget :=
  let e := s.nvme.apst.getD (powerState s) (0, 0)
  if s.nvme.apstEnable && e.2 != 0 && 4 ≤ e.1 && e.2 ≤ idleMs then targetOf (e.1 - 3) else none

/-- Whether a mirror is in step: ACTIVE, no bit set, no push outstanding (R269). -/
def inStep (s : State) (m : Mirror) : Bool :=
  m.st == .active && m.dirty.isEmpty && m.inFlight.isEmpty && !outstandingOf s 0x10 m.session

/-- What keeps an autonomous transition out of Night and Eclipse (R282, R432). -/
def deepForbidden (s : State) : Bool :=
  s.red.rebuildRunning || s.red.reshape.isSome || s.ret.car.any (fun c => c.scanning)
    || s.map.core.bands.any (fun p => 1000 ≤ bandRisk s p.2) || s.halo.migration.elim false (fun m => m.st != .committed)
    || s.halo.mirrors.any (fun m => !inStep s m)

/-- Entry to a sleep state begins (R432, R433): the device is idle and the target lies deeper than the state it is in. An autonomous
transition that may not go deeper stops at Dusk. -/
def beginSleep (s : State) (t : SleepTarget) (commanded : Bool) : State :=
  let t := if !commanded && isDeep (sleepOf t) && deepForbidden s then .dusk else t
  if s.pwr.phase = .steady && depth s.pwr.sleep < depth (sleepOf t) && deviceIdle s && s.boot.phase = .complete && !s.pwr.pwrfail && !s.dram.frozen
      && s.fw.handover == .none then
    { s with pwr := { s.pwr with phase := .entering, target := sleepOf t, commanded := commanded } }
  else s

/-- An entry aborted before isolation commits: the state left (R433). -/
def abortSleep (s : State) : State := { s with pwr := { s.pwr with phase := .steady, target := s.pwr.sleep } }

/-- Whether a level wake event stands at the commit of a target (R434, R435). -/
def levelPresent (s : State) (t : SleepSt) : Bool :=
  !deviceIdle s || s.pwr.pwrfail || (isDeep t && thresholdTemp s 0 ≤ s.cool.tj)
    || (t == .night && (List.range 4).any (fun m => (motorAt s m).enable && !s.pins.cdFaultN.getLsbD m))

/-- Whether the target's own condition holds: Eclipse needs the cache empty, the tail buffer durable and the carriers' queues drained (R59,
R432). -/
def eclipseReady (s : State) (t : SleepSt) : Bool :=
  t != .eclipse || ((dirtyLines s.map.lines).isEmpty && s.map.tail.isEmpty && (List.range 16).all (carrierIdle s))

/-- The pads held in a state (R436): bits 0 to 5 are HALO_ENG, CARRIER_SB, MEDIA, DRAM, COOLING and SHELF; in Night the Cooling Drive
drives its own. -/
def heldPads (t : SleepSt) : BitVec 6 :=
  match t with
  | .night => 0x2F
  | .eclipse => 0x3F
  | _ => 0

/-- SLEEPING sent in a CTRL cell on both ports before they power down (R282). -/
def tellSleeping (s : State) : State :=
  let tell := fun (p : HaloPort) => if p.st == .up then { p with lastSlot := 2, lastCell := .ctrl (ctrlNow p true) } else p
  modPort (modPort s 0 tell) 1 tell

/-- The Halo ports powered down for Night or Eclipse; the pins fall only with NIGHT_BYPASS at 1 (R258, R282). -/
def sleepPorts (s : State) : State :=
  let s := tellSleeping s
  if setting s 0x07 4 = 1 then setEngaged s false
  else startToken (modPort (modPort (portDown (portDown s 0) 1) 0 (fun p => { p with powered := false })) 1 (fun p => { p with powered := false }))

/-- Isolation commits (R431, R433, R435, R436). -/
def commitSleep (s : State) : State :=
  let t := s.pwr.target
  let s := { s with pwr := { s.pwr with
    sleep := t, phase := .steady, sleepSince := s.time.opMs, padHold := heldPads t, wakeStatus := 0, domainsOff := isDeep t } }
  let s := requestRow s (3 + depth t)
  let s := if isDeep t then sleepPorts s else s
  if t = .eclipse then motorsOff ((List.range 16).foldl powerDownCarrier s) else settleSetpoints s

/-- Whether a wake source acts in a state (R434). -/
def wakeEffective (s : State) (src : WakeSource) (st : SleepSt) : Bool :=
  match src with
  | .doorbell => st != .zenith
  | .mailbox => st != .zenith
  | .perst => isDeep st
  | .pwrfail => true
  | .overTemp => isDeep st
  | .cdFault => st == .night
  | .timer => isDeep st
  | .haloE => isDeep st && setting s 0x07 4 == 0
  | .haloW => isDeep st && setting s 0x07 4 == 0
  | .carrier _ _ => isDeep st

/-- The bit of PWR_WAKE_STATUS that a source sets (R440); PWRFAIL_N has none. -/
def wakeBit : WakeSource → BitVec 9
  | .doorbell => 1
  | .mailbox => 2
  | .perst => 4
  | .haloE => 8
  | .haloW => 16
  | .carrier _ _ => 32
  | .timer => 64
  | .overTemp => 128
  | .cdFault => 256
  | .pwrfail => 0

/-- Whether a source is an edge event (R434). -/
def isEdge : WakeSource → Bool
  | .haloE => true
  | .haloW => true
  | .carrier _ _ => true
  | _ => false

/-- Exit begins (R433): domains and blocks are restored; carriers and motors come back at once, the rest by the exit's end. -/
def beginExit (s : State) : State :=
  let deep := isDeep s.pwr.sleep
  let eclipse := s.pwr.sleep == .eclipse
  let s := requestRow s s.pwr.level
  let s := { s with pwr := { s.pwr with phase := .exiting, domainsOff := false }
                    nvme := { s.nvme with powerSelected := if 4 ≤ s.nvme.powerSelected then s.nvme.powerReturn else s.nvme.powerSelected } }
  let s := if deep then (List.range 16).foldl (fun s c => wakeCarrier (accrueSleep s c (s.time.opMs - s.pwr.sleepSince)) c) s else s
  if eclipse then startMotors s else s

/-- A wake event recognised (R434, R435): it aborts an entry whose target it is effective in, or starts the exit. -/
def wake (s : State) (src : WakeSource) (lostWindow : Bool) : State :=
  match s.pwr.phase with
  | .entering =>
    if !wakeEffective s src s.pwr.target || (lostWindow && isEdge src) then s
    else
      let s := abortSleep s
      if s.pwr.sleep != .zenith && wakeEffective s src s.pwr.sleep then beginExit { s with pwr := { s.pwr with wakeStatus := s.pwr.wakeStatus ||| wakeBit src } }
      else { s with nvme := { s.nvme with powerSelected := if 4 ≤ s.nvme.powerSelected then s.nvme.powerReturn else s.nvme.powerSelected } }
  | .steady =>
    if s.pwr.sleep = .zenith || !wakeEffective s src s.pwr.sleep then s
    else beginExit { s with pwr := { s.pwr with wakeStatus := s.pwr.wakeStatus ||| wakeBit src } }
  | .exiting => s

/-- A block that fails its restore (R433). -/
def restoreFail (s : State) (f : RestoreFail) : State :=
  match f with
  | .dram ch => freeze (modDram s ch (fun c => { c with st := .failed })) 2 ch 0
  | .carrier c => failCarrier s c 8 true

/-- Whether a carrier is still resuming from Eclipse. -/
def carriersResuming (s : State) : Bool := s.media.carriers.any (fun c => c.st == .resuming)

/-- The pads that a failed block leaves held (R433, R436). -/
def stillHeld (f : RestoreFail) : BitVec 6 :=
  match f with
  | .dram _ => 8
  | .carrier _ => 4

/-- Exit done (R104, R258, R433): every block restored or failed; pads released but those of the blocks that failed, the ports engaged, sweeps due
after the dark. -/
def endExit (s : State) (fails : List RestoreFail) : State :=
  let deep := isDeep s.pwr.sleep
  let cause := s.pwr.wakeStatus
  let s := { s with pwr := { s.pwr with sleep := .zenith, phase := .steady, target := .zenith, padHold := s.pwr.padHold &&& fails.foldl (fun v f => v ||| stillHeld f) 0, wakeLast := cause }
                    host := { s.host with configReady := true } }
  let s := record s 0x0B07 .notice (b2 cause.toNat)
  let s := fails.foldl restoreFail s
  let s := if deep then engage ((List.range 16).foldl sweepAfterSleep s) else s
  let s := settleHoldup (settleSetpoints s)
  if s.pwr.measureDue && !s.pwr.pwrfail then startMeasure s else s

/-- The sleep that a D3 state asks for, begun where the device is idle (R301). -/
def sleepIfAsked (s : State) : State :=
  match commandedTarget s with
  | some t => beginSleep s t true
  | none => s

/-! ### PWRFAIL_N (R41, R388, R409, R447, R448, R513) -/

/-- The running boot step's end mark with RESULT 0x04, provided the hold-up energy allows it (R388), which is free (log entry 1, DESIGN CHOICE). -/
def interruptStep (s : State) : State :=
  if s.boot.phase = .running then
    let (enough, s) := drawBool s
    if enough then endMark s s.boot.step 4 else s
  else s

/-- The response to PWRFAIL_N, or to what acts as it (R438, R447, R459): pins fall, intake stops for good, a handover is abandoned, sleep
exits, and the dirty cache is flushed; one flush continues where the freeze's runs. -/
def powerFail (s : State) : State :=
  if s.pwr.pwrfail then s
  else
    let s := setEngaged { s with alm := closeOpen s.alm } false
    let s := motorsCoast { s with pins := { s.pins with holdupTest := false }, pwr := { s.pwr with pwrfail := true, measuring := false } }
    let s := interruptStep (runDeferred (abandonHandover s))
    let s := if s.pwr.phase = .entering then abortSleep s else s
    let s := if s.pwr.phase = .steady && (s.pwr.sleep = .dusk || s.pwr.sleep = .night) then beginExit s else s
    let mayDirty := !(s.boot.phase == .running && s.boot.step ≤ 13)
    let dirty := !((dirtyLines s.map.lines).isEmpty && s.map.tail.isEmpty)
    let s := if s.dram.flushState = 0 && mayDirty && dirty && s.pwr.sleep != .eclipse then emergencyFlush s 1 else s
    let s := if s.pwr.sleep = .eclipse then record s 0x0304 .critical (b2 1 ++ b8 0) else s
    { s with pwr := { s.pwr with flush := 1 } }

/-- The flush complete (R166, R408, R447), with the lines that failed when it read them and whether both copies did: LOST lines show in FLUSH_STATE; after PWRFAIL_N every switched domain is off. -/
def flushComplete (s : State) (bad : List (Nat × Nat × Bool)) : State :=
  let s := if s.dram.flushState = 1 || s.pwr.flush = 1 then spoilFlush s bad else s
  let s := if s.dram.flushState = 1 then
      modDramState s (fun d => { d with flushState := if s.map.emergency.any (fun f => !f.applied && f.slots.any (·.lost)) then 3 else 2 })
    else s
  if s.pwr.flush = 1 then
    let s := { s with pwr := { s.pwr with flush := 2, allOff := true } }
    if s.pwr.risenAfterFlush then fatalAll (record s 0x0B07 .notice (b2 0)) else s
  else s

/-- PWRFAIL_N high again (R448): the flush runs to its end, then every controller is fatal with a Notice record. -/
def powerBack (s : State) : State :=
  let s := { s with pins := { s.pins with pwrfailN := true } }
  if !s.pwr.pwrfail || s.pwr.risenAfterFlush then s
  else
    let s := { s with pwr := { s.pwr with risenAfterFlush := true } }
    if s.pwr.flush = 2 then fatalAll (record s 0x0B07 .notice (b2 0)) else s

end Sys2Proof.Machine
end

