-- ==== Sys2Proof/Machine/ResetOps.lean ====
section
/-! DEFINITION. What SYS_RST_N low, an internal restart and a loss of power leave of the device: every register and volatile memory at its
reset value, what the Config Store and the dies hold as it was (12_start_and_boot_ledger R380, R383; 17 R529). -/
namespace Sys2Proof.Machine

/-! ### What is durable of work in progress -/

/-- A flush under way that power or SYS_RST_N cuts: how many of its records and slots reached the media is free (log entry 1, DESIGN CHOICE, R529). -/
def cutFlush (s : State) : State :=
  if s.pwr.flush = 1 || s.dram.flushState = 1 then
    match s.map.emergency.reverse with
    | f :: t =>
      if f.applied then s
      else
        let (n, s) := drawNat s
        let k := n % (f.journal.length + f.slots.length + 1)
        let g := { f with journal := f.journal.take k, slots := f.slots.take (k - f.journal.length), lastWritten := decide (k = f.journal.length + f.slots.length) }
        let s := s.map.emergencyBlocks.foldl (fun s key => modBlock (erasePages s key) key (fun b => { b with wp := some 0 })) s
        putFlush { s with map := { s.map with emergency := t.reverse ++ [g] } } g
    | [] => s
  else s

/-- The Secure Deallocates begun and not ended, with the bands each has marked (R162). -/
def secureRunning (s : State) : List Fetched :=
  s.nvme.ctrl.toList.flatMap (fun k => k.sqs.flatMap (fun p =>
    if p.1 = 0 then [] else p.2.cmds.filter (fun f => f.sqe.opc == 0x85 && f.begun && f.done.isNone)))

/-- Whether the DEALLOC record of a Secure Deallocate is durable (R162): it no longer waits in the tail. -/
def secureDurable (s : State) (f : Fetched) : Bool :=
  !(s.map.tail.any (fun r => r.type == .dealloc && r.secure && r.nsid == f.sqe.nsid && r.lba == slbaOf f.sqe && r.count == vendorNlb f.sqe))

/-- The ranges whose erasure goes on after a start: those of commands whose DEALLOC record is durable, and those already without a command
(R162). -/
def secureLeft (s : State) : List (Nat × Nat × Nat) :=
  s.map.secureJobs ++ ((secureRunning s).filter (secureDurable s)).map (fun f => (f.sqe.nsid, slbaOf f.sqe, vendorNlb f.sqe))

/-- The bands that stay marked SECURE over a start: those that a lasting erasure still needs; marks whose command left no durable record
are released (R162). -/
def secureMarks (s : State) : List Nat :=
  let (kept, gone) := (secureRunning s).partition (secureDurable s)
  (s.map.core.bands.filter (fun p => p.2.secure &&
    (!s.map.secureJobs.isEmpty || kept.any (fun f => f.bands.contains p.1) || !gone.any (fun f => f.bands.contains p.1)))).map (·.1)

/-- The namespaces whose creation is not durable: their segments still wait in the tail (R151, R333). -/
def undurableNs (s : State) : List Nat :=
  (s.map.tail.filter (fun r => r.type == .nsSegment && r.count != 0)).map (·.nsid)

/-! ### Each subsystem after a reset -/

/-- The Almanac: what is programmed stays; what was staged is lost but over an internal restart, whose records step 6 programs (R382, R492). -/
def resetAlm (a : AlmState) (internal : Bool) : AlmState :=
  { records := a.records, writeSector := a.writeSector, spareSector := a.spareSector, writeSlot := a.writeSlot
    nextSequence := a.nextSequence, lastChain := a.lastChain, drops := if internal then a.drops else a.dropsSaved, dropsSaved := a.dropsSaved
    staged := if internal then modifyLast (fun p => (p.1, p.2.or (some (0, 1)))) a.staged else [], uart := a.uart }

/-- The firmware's slots, record, counter and policy (R502, R503). -/
def resetFw (f : FwState) : FwState :=
  { slots := f.slots, activeSlot := f.activeSlot, namedSlot := f.namedSlot, antiRollback := f.antiRollback, policy := f.policy }

/-- A carrier slot: power off and pads isolated, its pin and what its dies and the controller records keep (R58). -/
def resetCarrier (k : CarrierState) : CarrierState :=
  { pin := k.pin, lastSerial := k.lastSerial, lastRate := k.lastRate, mdTouched := k.mdTouched, erasedSinceClear := k.erasedSinceClear
    servicedBefore := k.servicedBefore }

/-- The block of a program or erase that a reset interrupts is left with an undefined write pointer (R61, R85). -/
def interruptDies (s : State) : State :=
  s.media.luns.foldl (fun s p =>
    let cut := fun (s : State) (r : RunningOp) =>
      if r.entry.desc.opcode == 2 || r.entry.desc.opcode == 3 then
        modBlock s (descKey (p.1 / 128) r.entry.desc) (fun b => { b with wp := none })
      else s
    p.2.suspended.elim (p.2.running.elim s (cut s)) (cut (p.2.running.elim s (cut s)))) s

/-- The pages left partly programmed: those of the programs that a reset or a power loss cuts join them (R75). -/
def partlyLeft (m : MediaState) : List (Nat × PageContent) :=
  m.luns.foldl (fun acc p =>
    [p.2.running, p.2.suspended].foldl (fun acc r => match r with
      | some r => if r.entry.desc.opcode = 2 then insert acc (pageKey (descKey (p.1 / 128) r.entry.desc) r.entry.desc.page) r.entry.payload else acc
      | none => acc) acc) m.partly

/-- What the dies themselves hold of the block entries, which DRAM loses: how far each block is written, and the factory marks (R72, R110). -/
def onDies (l : List (Nat × BlockStatus)) : List (Nat × BlockStatus) :=
  (l.map (fun p => (p.1, ({ wp := p.2.wp, health := if p.2.health = .factoryBad then .factoryBad else .good } : BlockStatus)))).filter (fun p => p.2 != {})

/-- The Media Controller and the Config Store: queues, rings and readings are gone; an erase of a sector that is cut leaves it as it reads,
which is free (log entry 1, DESIGN CHOICE). -/
def resetMedia (m : MediaState) : MediaState :=
  { carriers := m.carriers.map resetCarrier
    luns := (m.luns.map (fun p => (p.1, ({ failed := p.2.failed } : LunState)))).filter (fun p => p.2 != {})
    nextOrder := m.nextOrder, blocks := onDies m.blocks, pages := m.pages, partly := partlyLeft m, cs := m.cs, csFailedSectors := m.csFailedSectors
    csShadow := m.csShadow }

/-- The words of a Config Store sector whose erase is cut: what each reads as is free (log entry 1, DESIGN CHOICE). -/
def cutErase (s : State) : State :=
  match s.media.csErase with
  | none => s
  | some (addr, _) =>
    let (x, s) := drawNat s
    { s with media := { s.media with cs := s.media.cs.map (fun p =>
        if p.1 * 8 / csSector = addr / csSector then (p.1, { p.2 with value := p.2.value ||| BitVec.ofNat 64 (Config.freeNat (x + p.1)) }) else p) } }

/-- The Translation Engine: checkpoints, the durable journal, the flushes on media and the clean-stop record. The map is empty until
step 12 rebuilds it. -/
def resetMap (s : State) : MapState :=
  let m := s.map
  { msn := m.msn, nextBand := m.nextBand, journal := m.journal, pages := m.pages, primary := m.primary, secondary := m.secondary
    cycleStartMs := m.cycleStartMs, emergency := m.emergency, nextEpoch := m.nextEpoch, emergencyBand := m.emergencyBand
    emergencyBlocks := m.emergencyBlocks, emergencyPlan := m.emergencyPlan, metaNext := m.metaNext, spanWritten := m.spanWritten
    cleanStop := m.cleanStop, openCounts := m.openCounts, secureJobs := secureLeft s
    secureBands := secureMarks s, stripeJournal := m.stripeJournal, undurable := undurableNs s }

/-- Carrier Redundancy: the array record and the controller records. -/
def resetRed (r : RedState) : RedState :=
  { r with returned := [], waiting := [], offeringOpen := false, resyncRunning := false, resyncFirst := []
           resyncRead := if r.resyncRunning && r.resyncFirst.isEmpty then r.resyncRead else []
           resyncSaved := if r.resyncRunning && r.resyncFirst.isEmpty then some r.resyncPos else none }

/-- Retention: T_c never decreases (R97); the scans, the sweeps and the preparation that ran are gone. -/
def resetRet (r : RetState) : RetState :=
  { r with car := r.car.map (fun x => { x with sweepDue := false, scanning := false, scanDone := false, powerUpSweepDone := false })
           prepareState := 0, prepareTarget := 0, prepareBands := [], prepareShort := false, prepareStuck := [], prepareInto := [], dawnTotal := 0 }

/-- Whether a generation's reprogram may be under way: due, and nothing keeps it back (R102, R103). -/
def mayReprogram (s : State) (c gen : Nat) : Bool :=
  (starAt s c).reprogramDue.contains gen && (starAt s c).powerUpSweepDone && (carrierAt s c).st == .inService && !isHeld s
    && (polestarLuns c).all (insideWindow s)

/-- A reprogram that power or SYS_RST_N cuts leaves its copies without a header; whether one was under way is free (R103, log entry 1, DESIGN
CHOICE). -/
def cutReprogram (s : State) (c : Nat) : State :=
  match (carrierAt s c).lomril, (starAt s c).reprogramDue.find? (mayReprogram s c) with
  | some l, some gen =>
    let (cut, s) := drawBool s
    if cut then
      [0, 1, 2, 3].foldl (fun s ch =>
        let key := polestarKey l c gen ch
        modStar (modBlock (erasePages s key) key (fun b => { b with wp := none })) c (fun x => { x with
          copies := vset x.copies (4 * gen + ch) { vget x.copies {} (4 * gen + ch) with valid := false } })) s
    else s
  | _, _ => s

/-- The Seal Engine: the key unit loses its keys (R224); a seal that was being made stays SEALING until step 12 settles it. -/
def resetSeal (x : SealState) : SealState := { x with keyUnit := [], seals := x.seals.map (fun y => { y with busy := false }) }

/-- The Halo ring: the sessions' records stay (R270, R280), ports, topology and transactions are gone. -/
def resetHalo (h : HaloState) : HaloState :=
  { mirrors := h.mirrors.map (fun m => { m with
      peerLists := false, peerReachable := false, held := [], freeSeq := [], unsureSeq := [], part := [], resumeDue := !m.secondary })
    migration := h.migration.bind (fun g => if g.beginWaiter.isSome && !g.successor then none
      else some { g with held := [], freeSeq := [], unsureSeq := [], beginWaiter := none, pass := g.recPass, posNsid := g.recNsid
                         posSpan := g.recSpan, todo := [], sinceCheckpoint := 0, resumeDue := !g.successor })
    nextXid := h.nextXid, nextSession := h.nextSession, pushedLost := h.pushedLost }

/-- The Host Port: every function at its reset values; PERST# is an input; the identity and, with power kept, the counters stay
(R294, R371). -/
def resetHost (h : HostState) (power : Bool) : HostState :=
  { perst := h.perst, serial := h.serial, lot := h.lot, dateCode := h.dateCode, counters := if power then {} else h.counters }

/-- NVMe: the namespaces, the SMART counters, the self-test results and an interrupted Sanitize stay (R335). -/
def resetNvme (n : NvmeState) : NvmeState :=
  { namespaces := n.namespaces.map (fun p => (p.1, { p.2 with keyUnusable := false })), nextOrder := n.nextOrder, holdRuns := n.holdRuns
    hctmCounts := n.hctmCounts, selfTest := { results := n.selfTest.results }, sanitize := { n.sanitize with grants := [] }
    blocksRead := n.blocksRead, blocksWritten := n.blocksWritten, cmdsRead := n.cmdsRead, cmdsWritten := n.cmdsWritten
    unsafeShutdowns := n.unsafeShutdowns }

/-- A VF's configuration and locked namespaces (R348, R354). -/
def resetVf (v : VfState) : VfState :=
  { readLimit := v.readLimit, writeLimit := v.writeLimit, configured := v.configured, savedNs := v.savedNs }

/-- The mailboxes at reset; the Custodian's key and the irreversible bits stay, and so does the account of failed authorisations. -/
def resetMbx (m : MbxState) : MbxState := { m with boxes := [], orphans := [] }

/-- The start and the ledger: phase and step are the caller's. -/
def resetBoot (b : BootState) : BootState := { ledger := b.ledger, carry := b.carry, carryBad := b.carryBad || b.carryNext.isSome, startCount := b.startCount, hadPower := b.hadPower }

/-- The DRAM Controller: the repair list stays (R424), and with power kept the counters since power-up (R412). -/
def resetDram (d : DramState) (power : Bool) : DramState :=
  let d' : DramState := { repairs := d.repairs }
  if power then d'
  else { d' with
    ch := d.ch.map (fun c => { parityEvents := c.parityEvents, ce := c.ce, ue := c.ue, replaysMax := c.replaysMax })
    msramCe := d.msramCe, msramUe := d.msramUe, sramCe := d.sramCe, sramUe := d.sramUe, codeReloads := d.codeReloads
    lostLines := d.lostLines }

/-- Power and Health: the ageing, hold-up and Calibration records stay; the monitors follow the rails. -/
def resetPwr (p : PwrState) : PwrState :=
  { ageingLimit := p.ageingLimit, mon := p.mon, pmon := p.pmon, offset := p.offset, p0Freq := p.p0Freq, slowdown := p.slowdown
    lastReplan := p.lastReplan, ddrMargin := p.ddrMargin, mediaMargin := p.mediaMargin, pcieMargin := p.pcieMargin, haloMargin := p.haloMargin
    lastC := p.lastC, v0 := p.v0, holdupHours := p.holdupHours, eUsable := p.eUsable, measured := p.measured, effective := p.effective
    periodicMs := p.periodicMs, cal := p.cal }

/-- Thermal manager and Cooling Drive: motors off, the stored slot set kept; with power kept the counts since power-up (R485). -/
def resetCool (c : CoolState) (power : Bool) : CoolState :=
  if power then { saved := c.saved }
  else { saved := c.saved, holds := c.holds, motor := c.motor.map (fun m => { starts := m.starts, lossesTotal := m.lossesTotal }) }

/-! ### The whole device -/

/-- The device with every register and volatile memory at its reset value. `power`: power was lost; `internal`: an internal restart. -/
def resetDevice (s : State) (power internal : Bool) : State :=
  let s := (List.range 16).foldl cutReprogram (cutErase (interruptDies (cutFlush s)))
  { s with
    time := if power then { s.time with calendar := 0 } else s.time
    alm := resetAlm s.alm internal, fw := resetFw s.fw, media := resetMedia s.media, map := resetMap s, red := resetRed s.red
    ret := resetRet s.ret, sealing := resetSeal s.sealing, halo := resetHalo s.halo, host := resetHost s.host power, nvme := resetNvme s.nvme
    vf := s.vf.map resetVf, mbx := resetMbx s.mbx, boot := resetBoot s.boot, dram := resetDram s.dram power, pwr := resetPwr s.pwr
    cool := resetCool s.cool power
    pins := { supplies := s.pins.supplies, sysRstN := s.pins.sysRstN, pwrfailN := s.pins.pwrfailN, cdFaultN := s.pins.cdFaultN
              jtag := s.pins.jtag, extest := s.pins.extest, jtagAuthenticated := s.pins.jtagAuthenticated } }

end Sys2Proof.Machine
end

