-- ==== Sys2Proof/Machine/BootOps.lean ====
section
/-! DEFINITION. The work of the boot steps (12_start_and_boot_ledger R381 to R397; 04 R169 to R172; 05 R187, R188; 06 R225; 13 R398 to
R400). -/
namespace Sys2Proof.Machine

/-! ### Step 5 and step 6 -/

/-- Whether a slot can be loaded (R381, R502): COMMITTED, its ROLLBACK not below the counter, and its image reads back and passes its
checks. -/
def slotUsable (s : State) (r : StepResult) (i : Nat) : Bool :=
  (slotAt s.fw i).state == .committed && s.fw.antiRollback ≤ (slotAt s.fw i).rollback && r.slots.getD i false

/-- Step 5 (R381, R396): the slot that the record names, else the other; the other alone when the step runs by its alternative. -/
def loadFirmware (s : State) (r : StepResult) : Option State :=
  let named := s.fw.namedSlot.val
  let load := fun (s : State) (i : Nat) => { s with fw := { s.fw with activeSlot := slotIndex i, firstStartDone := false } }
  if modeOf s 5 = .alternative then (if slotUsable s r (1 - named) then some (load s (1 - named)) else none)
  else if slotUsable s r named then some (load s named)
  else if slotUsable s r (1 - named) then some (load (record s 0x0A0B .notice (b1 named)) (1 - named))
  else none

/-- Staged records programmed one after another, compacting where the write sector is full and the die is free (R492, R494). -/
def programAll : Nat → State → State
  | 0, s => s
  | n + 1, s =>
    let s := compactNow s
    programAll n { s with alm := programStaged s.alm s.pwr.pwrfail }

/-- Every staged record programmed. -/
def programWaiting (s : State) : State := programAll s.alm.staged.length s

/-- The Almanac's work of step 6 (R490, R495): the newest record found open is closed, and the records that the boot ROM staged are programmed. -/
def startAlmanac (s : State) : State := programWaiting { s with alm := { closeFound s.alm with stampLoaded := true } }

/-- Step 6 (R381, R384, R396, R425): Calibration Set, settings and identifiers loaded, configuration space complete, staged records
programmed. -/
def loadIdentity (s : State) (r : StepResult) : Option State :=
  if !r.calOk then none
  else
    let s := if r.settingsOk then s else record { s with settings := [] } 0x0A04 .fault (b1 6 ++ b1 (failsOf s 6))
    let s := recordIf (!calErased s 0x11000 64 && !calCrcOk s 0x11000 64) s 0x0B06 .fault (b2 3)
    let s := { s with host := { s.host with configReady := true }
                      dram := { s.dram with interleave := setting s 0x01 10, dirtyLimit := setting s 0x01 14 } }
    some (startAlmanac s)

/-! ### Step 7 (R398 to R400) -/

/-- A DIMM of a list. -/
def dimmAt (r : StepResult) (i : Nat) : Dimm := r.dimms.getD i {}

/-- How many DIMMs share the capacity and organisation of one. -/
def alike (r : StepResult) (d : Dimm) : Nat :=
  (List.range 8).countP (fun i => (dimmAt r i).present && (dimmAt r i).gib == d.gib && (dimmAt r i).org == d.org)

/-- The capacity and organisation held by the most DIMMs, the lower capacity on a tie (R399). -/
def commonDimm (r : StepResult) : Dimm :=
  (List.range 8).foldl (fun best i =>
    let d := dimmAt r i
    if !d.present then best
    else if !best.present || alike r best < alike r d || (alike r best == alike r d && d.gib < best.gib) then d else best) {}

/-- The state of a channel by its own DIMM (R399): training failed already where an alert has failed it (R407). -/
def ownDram (s : State) (r : StepResult) (i : Nat) : DramSt :=
  let d := dimmAt r i
  if !d.present then .absent
  else if d.rated = 3 || d.gib != (commonDimm r).gib || d.org != (commonDimm r).org then .leftMismatch
  else if !d.trains || (dramAt s i).st == .leftTraining then .leftTraining
  else .inUse

/-- The state of a channel with its partner's (R399). -/
def pairedDram (s : State) (r : StepResult) (i : Nat) : DramSt :=
  if ownDram s r i = .inUse && ownDram s r (partnerOf i) ≠ .inUse then .leftPartner else ownDram s r i

/-- Bytes that the namespaces total. -/
def namespaceBytes (s : State) : Nat := (s.nvme.namespaces.map (fun p => p.2.nsze * 4096)).sum

/-- Whether the DRAM in use suffices (R400). -/
def dramSuffices (s : State) : Bool :=
  4 ≤ channelsInUse s && dramHolds s 0 && !(dramBytes s < 256 * gib && 2 ^ 51 < namespaceBytes s)

/-- The configured dirty limit lowered, for this start, to the largest multiple of 256 MiB that the DRAM in use holds beside the other
allocations, with a Notice record (R425). -/
def fitDirtyLimit (s : State) : State :=
  let others := dramDemand s (finePool s) 0 (segmentsUsed s) s.map.openCounts.toList.sum + redReserve s.red.geometry
  let fits := (dramBytes s - others) / (512 * mib) * (256 * mib)
  if s.dram.dirtyLimit ≤ fits then s
  else record { s with dram := { s.dram with dirtyLimit := fits } } 0x0B02 .notice (b4 (fits / mib))

/-- Step 7 (R139, R144, R398 to R400, R406, R425): the open-band counts fixed for this start, channels trained at one rate, others left out
with a Notice record each. -/
def trainDram (s : State) (r : StepResult) : Option State :=
  let states := (List.range 8).map (pairedDram s r)
  let put := fun (s : State) (i : Nat) => modDram s i (fun c =>
    { c with st := states.getD i .absent, dimmGib := if (dimmAt r i).present then (dimmAt r i).gib else 0, rated := (dimmAt r i).rated })
  let left := (List.range 8).filter (fun i => states.getD i .absent != .inUse && (dramAt s i).st == .absent)
  let s := left.foldl (fun s i => record s 0x0903 .notice (b1 i ++ b1 (states.getD i .absent).code)) ((List.range 8).foldl put s)
  let used := (List.range 8).filter (fun i => states.getD i .absent == .inUse)
  let s := { s with dram := { s.dram with
    rate := used.foldl (fun m i => max m (dimmAt r i).rated) 0, dimmGib := (commonDimm r).gib, trained := true, granules := 0 } }
  let s := fitDirtyLimit (fixOpenCounts s)
  if dramSuffices s then some s else none

/-! ### Steps 9 to 11 -/

/-- The members of the array record, or 16 where there is none (R445). -/
def recordedMembers (s : State) : Nat := if s.red.st = .none then 16 else s.red.roles.toList.countP (· == .member)

/-- Step 9 skipped (R381, R444): half the last stored measurement counts. -/
def skipHoldup (s : State) : State :=
  recomputeLimit { s with pwr := { s.pwr with halved := true }, boot := { s.boot with step9Skipped := true } } (recordedMembers s) false

/-- Whether step 10 has done its work for a carrier (R381): READY, FAILED, or in first service with its factory marks still to be read. -/
def carrierBrought (k : CarrierState) : Bool :=
  match k.st with
  | .ready | .inService | .outOfService | .failed | .emptyPending | .empty => true
  | .training => k.trained && !k.servicedBefore
  | _ => false

/-- Whether step 10 has done its work: every carrier present is brought up, and the rest are not. -/
def mediaBrought (s : State) : Bool :=
  s.media.carriers.all (fun k => carrierBrought k && !(k.pin && k.st == .empty))

/-- Whether a carrier ended step 10 FAILED or below its declared rate (R387). -/
def mediaDegraded (s : State) : Bool :=
  s.media.carriers.any (fun k => k.st == .failed || (k.trained && k.lomril.elim false (fun l => k.rate < l.maxRate)))

/-- Step 10 begins: every slot whose pin is low starts its debounce (R59). -/
def bringCarriers (s : State) : State :=
  (List.range 16).foldl (fun s c => if (carrierAt s c).pin then presenceFall s c else s) s

/-- Step 11 (R59, R174 to R177, R191, R208): every READY carrier is offered; a member whose slot then holds none of its carrier fails. -/
def matchArray (s : State) : State :=
  let s := { s with red := { s.red with offeringOpen := true } }
  let s := (List.range 16).foldl offerCarrier s
  let s := (List.range 16).foldl (fun s c =>
    let missing := (carrierAt s c).st != .inService && (roleOf s c == .member || roleOf s c == .retiring || roleOf s c == .replacement || roleOf s c == .outOfService)
    if s.red.st ≠ .none && !isHeld s && missing then memberFail s c (if (carrierAt s c).st == .failed then 2 else 1) else s) s
  settleHoldup s

/-! ### Step 12: the map (R169 to R172) -/

/-- The stripes of a band that hold a programmed unit, counted up to the highest. -/
def stripesOnMedia (s : State) (band : Nat) (b : Band) : Nat :=
  (List.range (bandStripes s.red.geometry)).foldl (fun m st =>
    if (List.range 16).any (fun d => (unitOnMedia s band b st d).isSome) then st + 1 else m) 0

/-- The inner XOR pages of a band that are programmed. -/
def xorOnMedia (s : State) (b : Band) (stripes : Nat) : List Nat :=
  let g := s.red.geometry
  (List.range (divCeil stripes 31)).flatMap (fun grp => (List.range 16).filterMap (fun slot =>
    let (pos, page) := placeXor (bpc g) grp
    if (lookup s.media.pages (pageKey (bandBlock g b slot pos) page)).isSome then some (16 * grp + slot) else none))

/-- Whether every unit of every stripe of a band is on media. -/
def stripesWhole (s : State) (band : Nat) (b : Band) (stripes : Nat) : Bool :=
  (List.range stripes).all (fun st => (List.range 16).all (fun d => (unitOnMedia s band b st d).isSome))

/-- An open or closing band as a start finds it (R142, R169 step 6, R172): its place from its blocks' write pointers; ABANDONED after an
unclean stop, resumed after a clean one. -/
def reviveBand (s : State) (clean : Bool) (n : Nat) (b : Band) : Band :=
  let b := { b with retQueued := 0, retHead := false, passRunning := false, passTc := [], passDone := [], passPage := 0, passMargin := 3 }
  if b.stream == .emergency then b
  else if b.st == .relocating then { b with st := .closed, scheduled := b.scheduled }
  else if b.st == .opened || b.st == .closing then
    let k := max b.nextStripe (stripesOnMedia s n b)
    let decl := (s.map.stripeJournal.find? (fun e => e.1 == n)).elim (b.doneGroup, b.declDurable) (·.2)
    let b := { b with nextStripe := k, written := 240 * k, xorDone := xorOnMedia s b k, doneGroup := decl.1, declGroup := decl.2, declDurable := decl.2 }
    if !clean then { b with st := .closing, abandoned := true }
    else if b.st == .opened && !stripesWhole s n b k then
      { b with st := .closing, short := true, summaryStripe := k, summaryBytes := 64 + 16 * b.extents.length }
    else b
  else b

/-- The inner XOR that open bands had accumulated for their partly written group, from the units on media. -/
def resumedXor (s : State) (c : MapCore) : List (Nat × Bytes) :=
  c.bands.foldl (fun acc p =>
    if p.2.st == .opened && p.2.nextStripe % 31 ≠ 0 then
      let g := p.2.nextStripe / 31
      (List.range 16).foldl (fun acc slot =>
        let bytes := ((List.range 31).map (fun i => 31 * g + i)).foldl (fun x st =>
          match unitOnMedia s p.1 p.2 st (unitInSlot p.1 st slot) with
          | some u => xorBytes x (unitBytes u)
          | none => x) []
        insert acc (accKey p.1 g slot) bytes) acc
    else acc) []

/-- The blocks of a band that the open-band summary lists and the loaded map does not know, erased (R187). -/
def eraseOrphans (s : State) : State :=
  let held := heldBlocks s
  let orphans := (s.media.pages.map (fun p => p.1 / 4096)).eraseDups.filter (fun key =>
    erasable s key && !held.contains key && !isReserved s.red.geometry (lunOfKey key) (blockOfKey key))
  orphans.foldl eraseBlock s

/-- The spans that records touch, for the mirrors and the migration to send again (R269). -/
def touchedSpans (rs : List JrnRecord) : List (Nat × Nat) :=
  ((rs.filter (fun r => match r.type with
    | .map | .dealloc | .zero | .relocate | .lost => true
    | _ => false)).flatMap (fun r => (spansOf r.lba r.count).map (fun sp => (r.nsid, sp)))).eraseDups

/-- The mirrors' and the migration's bits after a start (R269, R281): as they stood at a clean stop, else those of the checkpoint with every
span that a record has touched since. A mirror that the checkpoint does not hold is activated as at first (log entry 263, DEDUCED). -/
def sessionsAfterStart (s : State) (unclean : Bool) (cp : Checkpoint) (rs : List JrnRecord) : State :=
  let spans := touchedSpans rs
  let mirror := fun (m : Mirror) =>
    if m.secondary then m
    else if !unclean then { m with dirty := unionSpans m.dirty m.inFlight, inFlight := [] }
    else
      let (d, f) := ((cp.mirrorBits.find? (fun b => b.1 == m.session)).map (·.2)).getD ([], [])
      { m with dirty := unionSpans (unionSpans d f) ((spans.filter (fun x => x.1 == m.localNsid)).map (·.2)), inFlight := []
               activatedOnce := m.activatedOnce && cp.mirrorBits.any (fun b => b.1 == m.session)
               st := if m.st = .active && !cp.mirrorBits.any (fun b => b.1 == m.session) then .configured else m.st }
  let migration := fun (g : Migration) =>
    if g.successor then g
    else if !unclean then { g with dirty := unionSpans g.dirty g.inFlight, inFlight := [] }
    else
      let (d, f) := ((cp.migBits.filter (fun b => b.1 == g.session)).map (·.2)).getD ([], [])
      { g with dirty := unionSpans (unionSpans d f) spans, inFlight := [] }
  modHalo s (fun h => { h with mirrors := h.mirrors.map mirror, migration := h.migration.map migration })

/-- The seals after the map is loaded: one that was being made is issued where its SEAL record is durable, and goes where it is not
(R230, R231). -/
def settleSeals (s : State) : State :=
  { s with sealing := { s.sealing with seals := s.sealing.seals.filterMap (fun x =>
      if x.st != .sealing then some x
      else if spanSealed s.map.core x.nsid (x.slba / 256) then some { x with st := .issued } else none) } }

/-- The namespaces after the map is loaded: one whose creation was not durable is gone, one whose deletion is durable ends with its key
destroyed (R225, R333). -/
def settleNamespaces (s : State) : State :=
  let s := s.map.undurable.foldl (fun s nsid =>
    { destroyKey s nsid with nvme := { s.nvme with namespaces := remove s.nvme.namespaces nsid } }) s
  let last := fun nsid => (s.map.journal.reverse.find? (fun r => r.type == .nsSegment && r.nsid == nsid)).map (·.count)
  ((s.nvme.namespaces.map (·.1)).filter (fun nsid => last nsid == some 0)).foldl endDelete s

/-- Step 12 (R152, R153, R165, R169 to R171): the map from the primary checkpoint, or from the secondary where the primary does not read or
the step runs by its alternative, then the journal, the emergency band of the highest EPOCH not yet applied, the bands' states, and a new
emergency band. -/
def loadMap (s : State) (r : StepResult) : State :=
  let m := s.map
  let cp := if r.primaryOk && modeOf s 12 ≠ .alternative then m.primary else m.secondary
  let journal := r.journalReadable.elim m.journal (fun n => m.journal.take n)
  let reached := (journal.getLast?).elim cp.msn (·.msn)
  let s := recordIf r.journalReadable.isSome s 0x0305 .critical (b8 reached)
  let flush := pendingFlush s
  let (core, made) := rebuildCore cp journal flush r.lostSlots
  let s := match flush with
    | none => s
    | some f => ((r.lostSlots.map (slotPage f)).eraseDups).foldl (fun s seq => record s 0x0306 .critical (b4 f.epoch ++ b4 seq)) s
  let s := recordIf (!r.summaryOk) s 0x0604 .notice (b4 0xFFFFFFFF)
  let both := r.lastPageLost = 2 || r.journalReadable.isSome
  let s := recordIf (both || r.lastPageLost = 1) s 0x0604 (if both then .fault else .notice) (b4 0xFFFFFFFF)
  let emergency := m.emergency.map (fun f => if flush.any (fun g => g.epoch == f.epoch) then { f with applied := true } else f)
  let next := flush.elim m.nextEpoch (fun f => f.epoch + 1)
  let s := { s with map := { m with core := core, journal := journal ++ made, emergency := emergency, nextEpoch := next } }
  let core := bandsMap core (fun n b => reviveBand s m.cleanStop n { b with secure := b.secure || m.secureBands.contains n })
  -- The former emergency band's blocks go with the flush that used it.
  let core := match flush with
    | none => core
    | some f => bandMod core f.band (fun b => { b with blocks := m.emergencyBlocks })
  let s := { s with map := { s.map with core := core, xorAcc := resumedXor s core } }
  let s := if r.summaryOk then s else { s with red := { s.red with openSummary := [] } }
  let s := sessionsAfterStart s (!m.cleanStop) cp (journal.drop cp.journalFrom ++ made)
  let s := settleNamespaces (settleSeals s)
  let s := eraseOrphans s
  let s := (core.bands.filter (fun p => p.2.st == .closed && bandValid core p.1 == 0)).foldl (fun s p => bandRelease s p.1 []) s
  let s := { s with map := { s.map with secureBands := [], undurable := [] } }
  let table := tableBytes s (segmentsUsed s) s.map.openCounts.toList.sum + finePool s + redReserve s.red.geometry
  let s := { s with dram := { s.dram with tableSize := table, cacheBase := table, cacheSize := 2 * s.dram.dirtyLimit } }
  if anyInService s then formEmergency s else s

/-! ### Step 13 (R188, R225, R335, R397) -/

/-- The groups treated as in flight after an unclean stop (R187): those the stripe journal lists; every written group of every open band
where the last page is lost in both copies. -/
def groupsInFlight (s : State) (r : StepResult) : List (Nat × Nat) :=
  let all := allGroups s.map.core
  if r.lastPageLost = 2 || r.journalReadable.isSome then
    all.filter (fun x => (bandAt s.map.core x.1).elim false (fun b => b.abandoned) || s.red.openSummary.contains x.1)
  else all.filter (fun x => (s.map.stripeJournal.find? (fun e => e.1 == x.1)).elim false (fun e => e.2.1 ≤ x.2 + 1 && x.2 < e.2.2))

/-- The key table at a start (R225, R226): keys that match no namespace are destroyed, a copy that fails is rewritten with a Notice
record, a namespace whose key verifies in neither becomes unusable with a Critical record; the rest are loaded in the key unit. -/
def checkKeys (s : State) (r : StepResult) : State :=
  let s := (s.sealing.keys.filter (fun p => (nsAt s p.1).all (fun n => n.keyGen != p.2.gen))).foldl (fun s p => destroyKey s p.1) s
  s.sealing.keys.foldl (fun s p =>
    let bad := (r.badKeys.find? (fun b => b.1 == p.1)).map (·.2)
    let one := p.2.copy1 && !(bad.elim false (·.1))
    let two := p.2.copy2 && !(bad.elim false (·.2))
    if !one && !two then record (modNs s p.1 (fun n => { n with keyUnusable := true })) 0x0502 .critical (b4 p.1)
    else
      let s := recordIf (one != two) s 0x0503 .notice (b4 p.1)
      { s with sealing := { s.sealing with
          keys := insert s.sealing.keys p.1 { p.2 with copy1 := true, copy2 := true }, keyUnit := insert s.sealing.keyUnit p.1 p.2.key } }) s

/-- Step 13 begins (R188, R225, R335, R397): the key table is checked, an interrupted Sanitize shows in progress, and after an unclean
stop the first phase of resynchronisation begins. -/
def openBegin (s : State) (r : StepResult) : State :=
  let s := checkKeys s r
  let s := if s.nvme.sanitize.running = 0 then s else { s with nvme := { s.nvme with sanitize := { s.nvme.sanitize with sstat := 2 } } }
  if s.red.st = .none || isHeld s then s
  else if s.map.cleanStop then
    match s.red.resyncSaved with
    | none => s
    | some pos => { s with red := { s.red with resyncRunning := true, resyncPos := pos, resyncSaved := none } }
  else
    let first := groupsInFlight s r
    let s := resyncNotice s 1
    let s := { s with red := { s.red with resyncRunning := true, resyncFirst := first, resyncRead := [], resyncPos := (0, 0), resyncSaved := none } }
    if first.isEmpty then resyncNotice s 1 else s

/-- Step 13 ends (R385, R397, R503): the clean-stop record is cleared, the counter is raised for the image that runs for the first time,
intake opens, and every controller that waits becomes ready. -/
def openIntake (s : State) : State :=
  let s := { s with
    map := { s.map with cleanStop := false }
    fw := { s.fw with antiRollback := max s.fw.antiRollback (slotAt s.fw s.fw.activeSlot.val).rollback, firstStartDone := true }
    boot := { s.boot with intake := true } }
  (List.range 128).foldl settleReady s

/-! ### Steps 15 and 16 -/

/-- Whether a replan is due in step 15 (R441). -/
def replanNow (s : State) : Bool := s.pwr.replanDue || s.pwr.lastReplan + 720 ≤ opHours s

/-- Step 16 (R381, R390, R397): the background activities start; a ledger with 24 slots in use is erased. -/
def startBackground (s : State) : State :=
  let s := { s with boot := { s.boot with bgStarted := true } }
  let s := if s.red.resyncRunning && s.red.resyncFirst.isEmpty then resyncNotice s 2 else s
  let s := if s.red.resyncRunning && s.red.resyncFirst.isEmpty && (nextResync s).isNone then
      resyncNotice { s with red := { s.red with resyncRunning := false } } 2 else s
  if 24 ≤ (usedSlots s.boot).length && s.boot.slot.isSome then
    submitLedgerErase { s with boot := { s.boot with slot := none } } (eraseLedger s.boot (s.boot.startCount + 1)).carry
  else s

end Sys2Proof.Machine
end

