-- ==== Sys2Proof/Machine/Boot.lean ====
section
/-! DEFINITION. A start: its causes, its steps one after another, their failures, Safe Start and the retries (12_start_and_boot_ledger R380
to R396; 17 R526 to R529). -/
namespace Sys2Proof.Machine

/-! ### Entering steps (R381, R388, R392 to R395) -/

/-- A line of the console (R535). -/
def uartStep (s : State) (k : Nat) (ended : Bool) : State := { s with alm := { s.alm with uart := s.alm.uart ++ [.step k ended] } }

/-- The work that a step begins with. -/
def stepBegins (s : State) (k : Nat) (r : StepResult) : State :=
  match k with
  | 8 => startCooling s
  | 9 => startMeasure s
  | 10 => bringCarriers s
  | 13 => openBegin s r
  | 14 => modPort (modPort s 0 (fun p => { p with powered := true })) 1 (fun p => { p with powered := true })
  | _ => s

/-- What a skipped step leaves (R381): step 9 the limit from half the last measurement, step 14 the bypass, step 15 the stored offsets. -/
def stepSkipped (s : State) (k : Nat) : State := if k = 9 then skipHoldup s else s

/-- Safe Start for a step (R393, R394): MODE 0x04 in the words of the steps not run, a Critical record; the Host Port answers. With the
Calibration Set loaded the motors run at their start-up speed. -/
def enterSafeStart (s : State) (k : Nat) : State :=
  let s := (List.range 16).foldl (fun s i => if k ≤ i + 1 then setLedger s (i + 1) (fun w => { w with mode := 4 }) else s) s
  let s := { s with boot := { s.boot with phase := .safeStart, step := k, safeStep := k }
                    host := { s.host with configReady := true } }
  let s := record s 0x0A06 .critical (b1 k ++ b1 (failsOf s k))
  let s := if s.alm.stampLoaded then programWaiting s else if 6 ≤ k then startAlmanac s else s
  if 7 ≤ k then startCooling s else s

/-- The next step begun, from step `k` on: skipped steps take both marks in succession; the last one's end completes the start. -/
def enterStep : Nat → Nat → StepResult → State → State
  | 0, _, _, s => s
  | fuel + 1, k, r, s =>
    if 16 < k then { s with boot := { s.boot with phase := .complete, step := 0 } }
    else if s.boot.safeStep = k then enterSafeStart s k
    else if 2 ≤ k && k ≤ 4 && 3 ≤ failsOf s k then { s with boot := { s.boot with phase := .stopped, step := k } }
    else
      let s := { s with boot := { s.boot with step := k } }
      let s := if r.nextMarkFails then beginMarkFailed s k else beginMark s k (modeOf s k).code
      let s := recordIf (modeOf s k != .normal) s 0x0A05 .notice (b1 k ++ b1 (failsOf s k))
      if modeOf s k = .skipped then enterStep fuel (k + 1) r (endMark (stepSkipped s k) k 2)
      else stepBegins (uartStep s k false) k r

/-- Step 1 begun on a ledger that reads (R387, R390 to R392): the slot, f[k], the mode of every step and the decision. -/
def beginStart (s : State) (useLedger : Bool) : State :=
  let b := { s.boot with startCount := s.boot.startCount + 1 }
  let f := if useLedger then failCounts b else Vector.replicate 16 0
  let (safe, trial) := if useLedger then decideStart b f else (0, false)
  let modes := Vector.ofFn (fun i : Fin 16 => if safe ≠ 0 && safe ≤ i.val + 1 then StepMode.notRun else decideMode (vget f 0 i.val) (i.val + 1))
  let full := (usedSlots b).length = 32
  let b := if useLedger && full then eraseLedger b b.startCount else b
  let slot := if useLedger then some (((usedSlots b).getLast?).elim 0 (· + 1)) else none
  let s := { s with boot := { b with
    phase := .running, step := 1, f := f, modes := modes, safeStep := safe, trial := trial, slot := slot, carryBad := b.carryBad && !useLedger } }
  uartStep (beginMark s 1 b.cause.code) 1 false

/-! ### Causes of a start (R380, R383, R527, R529) -/

/-- SYS_RST_N_FALL (R383, R529): every pin and subsystem at its reset value. -/
def execSysRstNFall (s : State) : Result :=
  .next (let s := resetDevice s false false
         { s with pins := { s.pins with sysRstN := false } })

/-- SYS_RST_N_RISE (R380): a start begins, and waits for the monitors and PWRFAIL_N (R527); the first one after a power-up counts a power
cycle (R42). -/
def execSysRstNRise (s : State) : Result :=
  .next (if s.boot.phase ≠ .held || s.pins.sysRstN then s
    else
      let fresh := !s.boot.hadPower
      { s with
        pins := { s.pins with sysRstN := true }
        time := if fresh then { s.time with powerCycles := s.time.powerCycles + 1 } else s.time
        boot := { s.boot with phase := .waitPower, cause := if fresh then .powerUp else .sysRst, hadPower := true, riseMs := s.time.opMs } })

/-- POWER_GOOD (R387, R391, R392, R396, R527): every monitor inside its band and PWRFAIL_N high for 10 ms release step 1, which reads the
identity area and the Boot Ledger as the environment answers. -/
def execPowerGood (identityOk ledgerOk eraseOk : Bool) (s : State) : Result :=
  .next (if s.boot.phase ≠ .waitPower || !s.pins.pwrfailN || s.pwr.mon.any (fun m => m.st != .inside) then s
    else
      let s := { s with pins := { s.pins with supplies := true } }
      if !identityOk then
        record { s with boot := { s.boot with phase := .noStore, step := 1, linkArmed := true }
                        host := { s.host with configReady := true, training := !s.host.perst } } 0x0A04 .fault (b1 1 ++ b1 0)
      else if !ledgerOk || s.boot.carryBad then
        if eraseOk then
          let erased := { s.boot with ledger := [], carry := { firstStart := s.boot.startCount + 1 } }
          record (beginStart { s with boot := erased } true) 0x0A04 .fault (b1 1 ++ b1 0)
        else record (beginStart s false) 0x0A04 .critical (b1 1 ++ b1 0)
      else if (usedSlots s.boot).length = 32 && !eraseOk then record (beginStart s false) 0x0A04 .critical (b1 1 ++ b1 0)
      else beginStart s true)

/-- INTERNAL_RESTART (R380, R382, R395, R396): where one is due, the device acts as on SYS_RST_N low and starts again. -/
def execInternalRestart (s : State) : Result :=
  .next (if s.boot.phase ≠ .restarting then s
    else
      let s := resetDevice s false true
      { s with boot := { s.boot with phase := .waitPower, cause := .internalRestart, riseMs := s.time.opMs } })

/-- POWER_LOSS (R42, R528, R529): the supplies are gone; without a clean stop it counts as unsafe. -/
def execPowerLoss (s : State) : Result :=
  .next (let dirty := s.boot.intake && !s.map.cleanStop
         let s := resetDevice s true false
         { s with
           pins := { cdFaultN := s.pins.cdFaultN }
           boot := { s.boot with hadPower := false }
           nvme := { s.nvme with unsafeShutdowns := if dirty then s.nvme.unsafeShutdowns + 1 else s.nvme.unsafeShutdowns } })

/-! ### The end of a step (R381, R382, R387, R388) -/

/-- The work that a step ends with; none where the step cannot finish. -/
def stepWork (s : State) (k : Nat) (r : StepResult) : Option State :=
  match k with
  | 2 => some (s.dram.repairs.foldl repairFault s)
  | 3 => some (requestRow s 3)
  | 4 => some { s with boot := { s.boot with linkArmed := true }, host := { s.host with training := !s.host.perst } }
  | 5 => loadFirmware s r
  | 6 => loadIdentity s r
  | 7 => trainDram s r
  | 8 => some { s with pwr := { s.pwr with levelFree := true } }
  | 9 => some (if s.pwr.measuring then endMeasure s r.holdup (recordedMembers s) else s)
  | 11 => some (matchArray s)
  | 12 => some (loadMap s r)
  | 13 => some (openIntake s)
  | 14 => some (engage (modHalo s (fun h => { h with stepDone := true, loopbackOk := r.loopbackOk })))
  | 15 => some (if replanNow s then replan s r.replan else s)
  | _ => some s

/-- Whether a step's work that other events carry out is done: step 10's carriers, step 13's first phase of resynchronisation, and before step 12
gives DRAM to the map its initialisation (R406). -/
def stepReady (s : State) (k : Nat) : Bool :=
  if k = 10 then mediaBrought s else if k = 12 then decide (dramBytes s ≤ s.dram.granules * gib) else if k = 13 then s.red.resyncFirst.isEmpty else true

/-- RESULT of a step that has ended (R387). -/
def stepResult (s : State) (k : Nat) (r : StepResult) : Nat :=
  if k = 1 then (if s.boot.safeStep ≠ 0 then 3 else if s.boot.trial then 5 else 0)
  else if r.degraded || (k = 7 && channelsInUse s < 8) || (k = 10 && mediaDegraded s) then 1 else 0

/-- A step ended: its end mark, its line, and the next step; with step 16 the background activities start. -/
def stepEnded (s : State) (k : Nat) (r : StepResult) : State :=
  let s := if r.markFails then endMarkFailed s k else endMark s k (stepResult s k r)
  let s := uartStep s k true
  let s := if k = 16 then startBackground s else s
  let s := enterStep 17 (k + 1) r s
  if s.boot.intake && !s.pwr.pwrfail then settleHoldup s else s

/-- A step failed (R382): its end mark stays unwritten and a Fault record names it. Steps 1 to 13 bring an internal restart; a later one is
abandoned and the start goes on. -/
def stepFailed (s : State) (k : Nat) : State :=
  let s := record s 0x0A04 .fault (b1 k ++ b1 (failsOf s k))
  if k ≤ 13 then
    let s := if s.alm.stampLoaded then programWaiting s else s
    { s with boot := { s.boot with phase := .restarting } }
  else enterStep 17 (k + 1) {} s

/-- BOOT_STEP_END (R381, R382): the running step ends with what the environment gave it, or detects that it cannot finish. -/
def execBootStepEnd (r : StepResult) (s : State) : Result :=
  .next (if s.boot.phase ≠ .running || s.pwr.pwrfail then s
    else
      let k := s.boot.step
      if !r.ok then stepFailed s k
      else if !stepReady s k then s
      else match stepWork s k r with
        | none => stepFailed s k
        | some s => stepEnded s k r)

/-- BOOT_STEP_WATCHDOG (R382): the running step's watchdog expires. -/
def execBootStepWatchdog (s : State) : Result :=
  .next (if s.boot.phase ≠ .running || s.pwr.pwrfail then s else stepFailed s s.boot.step)

/-- SAFE_START_RETRY (R395): the step that the controller has stopped at is tried again; a success marks it as ended and brings an
internal restart. -/
def execSafeStartRetry (ok : Bool) (s : State) : Result :=
  .next (if s.boot.phase ≠ .stopped || !ok then s
    else
      let s := endMark (beginMark s s.boot.step (modeOf s s.boot.step).code) s.boot.step 0
      { s with boot := { s.boot with phase := .restarting } })

/-- CONFIG_STORE_RETRY (R396): the identity area is read again; a success brings an internal restart. -/
def execConfigStoreRetry (ok : Bool) (s : State) : Result :=
  .next (if s.boot.phase ≠ .noStore || !ok then s else { s with boot := { s.boot with phase := .restarting } })

end Sys2Proof.Machine
end

