-- ==== Sys2Proof/Machine/Carriers.lean ====
section
/-! DEFINITION. The events of the carrier slots (02_carriers_and_media_channels R58 to R63). -/
namespace Sys2Proof.Machine

/-- CARRIER_PRESENCE_FALL (R58, R59, R302): with the switched domains off only the pin changes (R435). -/
def execCarrierPresenceFall (c : Carrier) (s : State) : Result :=
  .next (let s := signalPme (modCarrier s c (fun k => { k with pin := true }))
         if s.pwr.domainsOff || s.boot.phase = .held then s else presenceFall s c)

/-- CARRIER_PRESENCE_RISE (R59, R61, R302). -/
def execCarrierPresenceRise (c : Carrier) (s : State) : Result :=
  .next (let s := signalPme (modCarrier s c (fun k => { k with pin := false }))
         if s.pwr.domainsOff || s.boot.phase = .held then s else presenceRise s c)

/-- CARRIER_DEBOUNCE_EXPIRY (R59): presence has been low for 100 ms; the carrier powers up where fewer than four are powering. -/
def execCarrierDebounceExpiry (c : Carrier) (s : State) : Result :=
  .next (if (carrierAt s c).st = .debounce then powerUp (modCarrier s c (fun k => { k with debounced := true })) c else s)

/-- CARRIER_POWER_UP (R59): a carrier that waits for its turn. -/
def execCarrierPowerUp (c : Carrier) (s : State) : Result := .next (powerUp s c)

/-- CARRIER_POWER_SETTLE_EXPIRY (R59): the descriptor read begins. -/
def execCarrierPowerSettleExpiry (c : Carrier) (s : State) : Result :=
  .next (let k := carrierAt s c
         if k.st = .powering then modCarrier s c (fun k => { k with st := .identifying, settled := true })
         else if k.st = .resuming && k.pwrEn then modCarrier s c (fun k => { k with settled := true })
         else s)

/-- CARRIER_DESCRIPTOR_READ_DONE (R47, R54 to R57, R59). -/
def execCarrierDescriptorReadDone (c : Carrier) (primary secondary : Bytes) (legacyI2c : Bool) (s : State) : Result :=
  .next (if (carrierAt s c).st ≠ .identifying then s
    else
      let s := modCarrier s c (fun k => { k with legacyI2c := legacyI2c })
      match chooseCopy primary secondary with
      | .error check => failCarrier s c check false
      | .ok (copy, l, differ) =>
        let s := if differ then carrierNotice s c else s
        identified (modCarrier s c (fun k => { k with st := .training, trained := false })) c copy l)

/-- CARRIER_TRAINING_DONE (R59, R62, R63, R443): the first training of a carrier, or the one a replan has asked for. -/
def execCarrierTrainingDone (c : Carrier) (rates : List (Option Nat)) (s : State) : Result :=
  .next (let k := carrierAt s c
    if k.st = .training && !k.trained then
      match commonRate rates with
      | none => failCarrier s c 7 false
      | some r => trainedAt s c r
    else if s.pwr.retrain.head? = some c.val && carrierLive s c then
      let s := { s with pwr := { s.pwr with retrain := s.pwr.retrain.drop 1 } }
      match commonRate rates with
      | none => failCarrier s c 7 true
      | some r => trainedAt s c r
    else s)

/-- BLOCK_STATUS_LOAD_DONE (R59, R72): block status is loaded, or on first service the factory marks are taken; the carrier is READY and
offered. -/
def execBlockStatusLoadDone (c : Carrier) (factoryBad : List Nat) (s : State) : Result :=
  .next (let k := carrierAt s c
    if k.st = .training && k.trained then
      let marks := factoryBad.filter (fun key => carrierOf (channelOfKey key) == c.val)
      makeReady (if k.servicedBefore then loadEntries s c
        else marks.foldl (fun s key => modBlock s key (fun b => { b with health := .factoryBad })) s) c
    else s)

/-- CARRIER_RESUME_DONE (R59, R208): the carrier of the recorded SERIAL goes back to the state it left; another is a newly inserted one;
none that can be used fails. -/
def execCarrierResumeDone (c : Carrier) (primary secondary : Bytes) (rates : List (Option Nat)) (s : State) : Result :=
  .next (let k := carrierAt s c
    if !(k.st = .resuming && k.settled) then s
    else
      match chooseCopy primary secondary, commonRate rates with
      | .error check, _ => failCarrier s c check true
      | .ok _, none => failCarrier s c 7 true
      | .ok (copy, l, differ), some r =>
        let s := if differ then carrierNotice s c else s
        if l.serial = k.serialLeft then
          let s := loadEntries (trainedAt (identified s c copy l) c r) c
          sweepAfterSleep (modCarrier s c (fun x => { x with st := k.stateLeft })) c
        else
          let s := reportFailed s c 1
          let s := identified (modCarrier s c (fun x => { x with st := .training, trained := false })) c copy l
          carrierNotice s c)

end Sys2Proof.Machine
end

