-- ==== Sys2Proof/Machine/Retention.lean ====
section
/-! DEFINITION. The retention commands (03_retention_starlight_and_recharge): Polestar sweeps and reprograms, Recharge
passes, margin patrols and the Dawn scan. -/
namespace Sys2Proof.Machine

/-- POLESTAR_DAILY_TIMER (R104): a daily sweep falls due on every carrier in service whose power-up sweep is not due. -/
def execPolestarDailyTimer (s : State) : Result :=
  .next ((List.range 16).foldl (fun s c =>
    if (carrierAt s c).st == .inService then
      modStar s c (fun x => if x.sweepDue then x else { x with sweepDue := true, sweepDaily := true })
    else s) s)

/-- Whether the sweep of a carrier may run: due, in service, the dies of its channels inside the window (R104). -/
def sweepMayRun (s : State) (c : Nat) : Bool :=
  (starAt s c).sweepDue && (carrierAt s c).st == .inService && (carrierLuns s c).all (insideWindow s)

/-- POLESTAR_SWEEP (R104 to R109): the due sweep of a carrier; it waits while the window is closed. -/
def execPolestarSweep (c : Carrier) (sweeps : List PageSweep) (s : State) : Result :=
  .next (afterStart s (fun s =>
    if sweepMayRun s c.val then applySweep s c.val sweeps else s))

/-! ### Reprograms (R100 to R103) -/

/-- STAMP_EQH of a generation programmed now: T_c, or 0 on first service (R101, R103). -/
def newStamp (s : State) (c gen : Nat) : Nat := if (starAt s c).firstDue.contains gen then 0 else tcOf s c

/-- A copy after its reprogram (R101, R103): bad where its erase or program failed. -/
def reprogrammedCopy (s : State) (c gen ch seed : Nat) (temp base : Int) (bad : Bool) (rotation : Nat) : PolestarCopy :=
  let l := (carrierAt s c).lomril.getD {}
  { valid := !bad, bad := bad, rotation := rotation, stampEqh := newStamp s c gen, calendar := s.time.calendar.toNat
    opHours := opHours s, progTemp := temp, baseShift := base, seed := seed, peCount := (blockAt s (polestarKey l c gen ch)).pe + 1
    serial := l.serial, valley := base }

/-- The 256 bytes of a generation header (R101). -/
def generationHeader (gen ch : Nat) (p : PolestarCopy) : Bytes :=
  let head := ascii "PLST" ++ b2 1 ++ b1 gen ++ b1 ch ++ padTo 16 p.serial ++ b4 p.rotation ++ b4 p.stampEqh
    ++ b8 p.calendar ++ b4 p.opHours ++ leInt 1 p.progTemp ++ b1 16 ++ leInt 2 p.baseShift ++ b4 p.seed ++ b4 p.peCount
    ++ zeros 196
  head ++ leBytes 4 (crc32c head).toNat

/-- A controller page as sixteen codewords with TAG zero and without encryption (R100, R213). -/
def controllerPage (b : Bytes) : PageContent :=
  .codewords ((List.range 16).map (fun i => sealCodeword { data := slice (padTo 65536 b) (4096 * i) 4096 }))

/-- The block of a generation copy erased and programmed: the pattern on pages 0 to 15 and the header on page 16 (R100, R103). -/
def programCopy (s : State) (key seed : Nat) (head : Bytes) (tc : Nat) : State :=
  let s := modBlock (erasePages s key) key (fun b => { b with wp := some 17, pe := b.pe + 1, stamp := tc })
  let pages := (List.range 16).foldl (fun m page => insert m (pageKey key page) (.raw (Config.polestarPattern seed page))) s.media.pages
  { s with media := { s.media with pages := insert pages (pageKey key 16) (controllerPage head) } }

/-- BASE_SHIFT of a generation: the median of its baseline results; where no page gave one the spec states none, and it is free (R103, log
entry 250, DESIGN CHOICE). -/
def baseShiftOf (s : State) (gen : Nat) (baseline : List PageSweep) : Int × State :=
  match [0, 1, 2, 3].flatMap (fun ch => copyValleys baseline (4 * gen + ch) (-32)) with
  | [] => let (x, s) := drawNat s; ((x % 65536 : Nat) - 32768, s)
  | v => (median v, s)

/-- A generation reprogrammed on all four channels (R103). -/
def reprogram (s : State) (c gen seed : Nat) (temp : Int) (failed : List Nat) (baseline : List PageSweep) : State :=
  let l := (carrierAt s c).lomril.getD {}
  let x := starAt s c
  let (base, s) := baseShiftOf s gen baseline
  let rotation := (x.copies.toList.map (·.rotation)).foldl max 0 + 1
  let isBad := fun ch => failed.contains ch || (vget x.copies {} (4 * gen + ch)).bad
  let copies := Vector.ofFn (fun i : Fin 32 =>
    if i.val / 4 = gen then reprogrammedCopy s c gen (i.val % 4) seed temp base (isBad (i.val % 4)) rotation else x.copies[i])
  let s := [0, 1, 2, 3].foldl (fun s ch =>
    let key := polestarKey l c gen ch
    if failed.contains ch then record (markGrownBad s key 0x02) 0x0411 .notice (b1 c ++ b1 gen ++ b1 5)
    else if (vget x.copies {} (4 * gen + ch)).bad then s
    else programCopy (issueSweeps l c baseline (4 * gen + ch) (-32) s) key seed (generationHeader gen ch (vget copies {} (4 * gen + ch))) (tcOf s c)) s
  let lost := [0, 1, 2, 3].all isBad
  let s := recordIf (lost && !genLost x gen) s 0x0412 .fault (b1 c ++ b4 (tcOf s c))
  modStar s c (fun x => { x with
    copies := copies, reprogramDue := x.reprogramDue.filter (· != gen), firstDue := x.firstDue.filter (· != gen)
    usable := x.usable.filter (· != gen) ++ (if lost then [] else [gen])
    youngest := if lost then x.youngest else some gen })

/-- POLESTAR_REPROGRAM (R102, R103): a due generation, once the power-up sweep has finished and the window is open on the dies it programs;
nothing is programmed while the array is Held (R200). -/
def execPolestarReprogram (c : Carrier) (gen : Fin 8) (seed : Nat) (temp : Int) (failed : List Nat)
    (baseline : List PageSweep) (s : State) : Result :=
  .next (afterStart s (fun s =>
    if (starAt s c.val).reprogramDue.contains gen.val && (starAt s c.val).powerUpSweepDone && !isHeld s
        && (carrierAt s c.val).st == .inService && (polestarLuns c.val).all (insideWindow s) then
      reprogram s c.val gen.val seed temp failed baseline
    else s))

/-! ### The Recharge pass (R117 to R119) -/

/-- How a page, or what a command gives of a pass, leaves the pass: it goes on, waits for the window, or stops with a status. -/
inductive PassEnd where
  | more | waits | stopped (status : Nat)
  deriving DecidableEq, Repr

/-- One page of a pass (R84, R117): its pre-read, which counts for the margin class (R112), then its RECHARGE, which waits for the window; the
first page of a block raises the block's Recharge count before its pulse. -/
def rechargePage (s : State) (key page : Nat) (p : PassPage) : State × PassEnd :=
  if p.decodeStep = 0 then (s, .stopped 0x01)
  else if 3 ≤ p.decodeStep then
    (record s 0x0401 .notice (b1 (channelOfKey key) ++ b1 (lunOfKey key) ++ b4 (blockOfKey key) ++ b1 3), .stopped 0)
  else
    let s := noteRead s key p.decodeStep p.corrected
    if !insideWindow s (key / 65536) then (s, .waits)
    else if (blockAt s key).failFlag then (s, .stopped 0x08)
    else if page = 0 && 4 ≤ (blockAt s key).rch then (s, .stopped 0x09)
    else
      let pulsed := p.status = 0 || p.status = 0x02 || p.status = 0x08
      let s := if page = 0 && pulsed then rebudget (modBlock s key (fun b => { b with rch := b.rch + 1 })) key else s
      if p.status = 0 then (s, .more) else (s, .stopped p.status)

/-- The pages of one block of a pass, from the one it stands at on. -/
def passPages (band key : Nat) : State → List PassPage → State × PassEnd
  | s, [] => (s, .more)
  | s, p :: t =>
    match bandAt s.map.core band with
    | none => (s, .more)
    | some b =>
      if (blockAt s key).wp.getD 0 ≤ b.passPage then (s, .more)
      else
        match rechargePage s key b.passPage p with
        | (s, .more) => passPages band key (setCore s (bandMod s.map.core band (fun b =>
            { b with passPage := b.passPage + 1, passMargin := worseMargin b.passMargin (marginOf p.decodeStep p.corrected) }))) t
        | r => r

/-- The block that a running pass takes next. -/
def nextPassBlock (s : State) (b : Band) : Option Nat := (bandKeys s b).find? (fun k => !(b.passDone.any (fun d => d.1 == k)))

/-- The blocks of a pass in order, each done when every page below its write pointer is. -/
def passBlocks (band : Nat) : State → List PassBlock → State × PassEnd
  | s, [] => (s, .more)
  | s, x :: t =>
    if (bandAt s.map.core band).elim none (nextPassBlock s) != some x.key then (s, .more)
    else
      match passPages band x.key s x.pages with
      | (s, .more) =>
        if (blockAt s x.key).wp.getD 0 ≤ ((bandAt s.map.core band).elim 0 (·.passPage)) then
          passBlocks band (setCore s (bandMod s.map.core band (fun b =>
            { b with passDone := b.passDone ++ [(x.key, b.passMargin)], passPage := 0, passMargin := 3 }))) t
        else (s, .more)
      | r => r

/-- What a status that stops a pass does beside it (R70, R118): a grown-bad block, a fail flag, a LUN that was not ready. -/
def passStatus (s : State) (band key status : Nat) : State :=
  match status with
  | 0x02 => markGrownBad s key 0x02
  | 0x07 | 0x0A => record s 0x0414 .fault (b4 band ++ b2 status)
  | 0x08 => record (modBlock s key (fun b => { b with failFlag := true })) 0x0402 .notice (blockParams key 0x08)
  | 0x10 =>
    let lun := key / 65536
    let n := (lunAt s lun).timeouts + 1
    let s := modLun s lun (fun x => { x with timeouts := n, features := [] })
    if n = 3 then lunFail s lun else s
  | _ => s

/-- A pass stopped by a status at a block: the band is queued for relocation (R117, R118). -/
def stopPass (s : State) (band key status : Nat) : State := queueRelocation (passStatus s band key status) band

/-- The end of a complete pass: stamps at the T_c of its beginning, margins from the pre-reads, budgets anew, an Info record (R117). -/
def endPass (s : State) (band : Nat) (b : Band) : State :=
  let risk := bandRisk s b
  let s := b.passDone.foldl (fun s p =>
    rebudget (modBlock s p.1 (fun x => { x with
      stamp := b.passTc.getD (carrierOf (channelOfKey p.1)) x.stamp, margin := p.2, queued := 0 })) p.1) s
  let s := b.passDone.foldl (fun s p => modStar s (carrierOf (channelOfKey p.1)) (fun x => { x with recharged := x.recharged + 1 })) s
  let s := setCore s (bandMod s.map.core band (fun b => { b with
    retQueued := 0, retHead := false, passRunning := false, passTc := [], passDone := [], passPage := 0, passMargin := 3 }))
  record { s with ret := { s.ret with passesDone := s.ret.passesDone + 1 } } 0x0413 .info (b4 band ++ b4 risk ++ b1 1)

/-- A pass begun at the T_c of now (R117). -/
def beginPass (s : State) (band : Nat) : State :=
  setCore s (bandMod s.map.core band (fun b => { b with
    passRunning := true, passTc := (List.range 16).map (tcOf s), passDone := [], passPage := 0, passMargin := 3 }))

/-- A running pass carried on with what its next pages answer (R117 to R119). -/
def runPass (s : State) (band : Nat) (blocks : List PassBlock) : State :=
  let (s, e) := passBlocks band s blocks
  match bandAt s.map.core band with
  | none => s
  | some b =>
    match e, nextPassBlock s b with
    | .stopped st, some key => stopPass s band key st
    | .stopped st, none => stopPass s band 0 st
    | _, none => endPass s band b
    | _, some _ => s

/-- RECHARGE_PASS (R77, R114 to R119): the pass of a queued closed band in its turn, begun or carried on with as many pages as the command
answers for; a band that no longer qualifies, or that Secure Deallocate has selected, gets no RECHARGE. -/
def execRechargePass (band : Nat) (blocks : List PassBlock) (s : State) : Result :=
  .next (afterStart s (fun s =>
    match bandAt s.map.core band with
    | none => s
    | some b =>
      if b.st != .closed || b.retQueued != 1 || isHeld s || b.secure then s
      else if b.passRunning then runPass s band blocks
      else if !servedNext s band b then s
      else if bandQualifies s b then runPass (beginPass s band) band blocks
      else queueRelocation s band))

/-! ### Margin patrol and the Dawn scan (R112, R113, R122, R123) -/

/-- A background read noted on its block and band: its margin class, or, where it needed read-retry or more, a Notice record and the band
queued for relocation (R26, R112, R123). -/
def noteScan (s : State) (band : Option Nat) (key step corrected : Nat) : State :=
  if step = 1 || step = 2 then noteRead s key step corrected
  else
    let s := record s 0x0401 .notice (b1 (channelOfKey key) ++ b1 (lunOfKey key) ++ b4 (blockOfKey key) ++ b1 step)
    band.elim s (queueRelocation s)

/-- Whether a margin patrol of a block is due: T_c has advanced 2,048 EqH since the one PATROL records (R110, R113). -/
def patrolDue (s : State) (key : Nat) : Bool :=
  8 ≤ (tcOf s (carrierOf (channelOfKey key)) / 256 + 2048 - (blockAt s key).patrol) % 2048

/-- MARGIN_PATROL (R112, R113): the four reads of a block of a closed band, of page 0, of the last programmed page and of those at one and
two thirds of the written range. -/
def execMarginPatrol (key : Nat) (steps corrected : List Nat) (s : State) : Result :=
  .next (afterStart s (fun s =>
    match bandOfBlock s.map.core key with
    | none => s
    | some n =>
      if ((bandAt s.map.core n).elim false (fun b => b.st == .closed)) && patrolDue s key && !isHeld s then
        let s := modBlock s key (fun b => { b with patrol := tcOf s (carrierOf (channelOfKey key)) / 256 % 2048 })
        evaluateBand ((List.range 4).foldl (fun s i => noteScan s (some n) key (steps.getD i 1) (corrected.getD i 0)) s) n
      else s))

/-- Whether no pending block of a carrier comes before a block: descending risk, then the worse margin class (R122). -/
def firstInScan (s : State) (c key : Nat) : Bool :=
  (dawnBlocks s c).all (fun k => blockRisk s k < blockRisk s key ||
    (blockRisk s k == blockRisk s key && (blockAt s k).margin ≤ (blockAt s key).margin))

/-- A block scanned (R122, R123): its reads noted, its band evaluated, and the end of the carrier's scan with its last block. -/
def scanBlock (s : State) (key decodeStep corrected : Nat) : State :=
  let band := bandOfBlock s.map.core key
  let s := modBlock (noteScan s band key decodeStep corrected) key (fun b => { b with dawnPending := false })
  settleScan (band.elim s (evaluateBand s)) (carrierOf (channelOfKey key))

/-- DAWN_SCAN (R122, R123): the scan's next block of a carrier that is scanned. -/
def execDawnScan (key decodeStep corrected : Nat) (s : State) : Result :=
  .next (afterStart s (fun s =>
    if (starAt s (carrierOf (channelOfKey key))).scanning && (blockAt s key).dawnPending && !isHeld s
        && firstInScan s (carrierOf (channelOfKey key)) key then
      scanBlock s key decodeStep corrected
    else s))

end Sys2Proof.Machine
end

