-- ==== Sys2Proof/Machine/Cooling.lean ====
section
/-! DEFINITION. The commands of thermal management, the Control Engine, the Cooling Drive and the trace buffers
(15_thermal_and_cooling_drive). -/
namespace Sys2Proof.Machine

/-! ### The junction and the housekeeping round -/

/-- DIODE_READING (R453, R454, R457, R458, R339, R340): every 1 ms. Above the over-temperature threshold it wakes a deep sleep (R434, R457). -/
def execDiodeReading (raw : Int) (s : State) : Result :=
  let s := takeReading s raw
  let s := (List.range 4).foldl judgeThreshold s
  let s := noteHealth (judgeHctm (judgeRate (settleDemand s)))
  .next (if (vget s.cool.thr {} 0).reached then wake s .overTemp false else s)

/-- THERMAL_DEMAND_FALLBACK (R457). -/
def execThermalDemandFallback (s : State) : Result := .next (fallBack s)

/-- RATE_DEMAND_LIFT (R458): after 10 s below half of TJ_RATE. -/
def execRateDemandLift (s : State) : Result :=
  .next (if s.cool.rateDemand.isSome && s.cool.rateBelow.elim false (fun b => b + 10000 ≤ s.time.opMs) then
    noteDemand (managerDemand s) { s with cool := { s.cool with rateDemand := none, rateBelow := none } }
  else s)

/-- Whether a value read from a die is a temperature (R456). -/
def plausibleTemp (t : Option Int) : Option Int := t.filter (fun v => -40 ≤ v && v ≤ 125)

/-- One die's answer in a round (R456). -/
def noteTemp (s : State) (lun : Nat) (t : Option Int) : State :=
  let l := lunAt s lun
  match plausibleTemp t with
  | some v => modLun s lun (fun l => { l with temp := some v, inside := readingInside s (carrierOf (lun / 128)) (some v), missed := 0, noticed := false })
  | none =>
    let first := l.temp.isSome && !l.noticed
    let s := recordIf first s 0x0C05 .notice (b1 (lun / 128) ++ b1 (lun % 128))
    modLun s lun (fun l => { l with inside := false, missed := l.missed + 1, noticed := l.noticed || first })

/-- What a carrier's dies tell of it in a round: Starlight's accrual and evaluation, or its silence, recorded once (R98, R114, R456). -/
def noteCarrier (s : State) (c : Nat) (temps : List (Nat × Option Int)) : State :=
  let own := temps.filter (fun p => carrierOf (p.1 / 128) == c)
  let good := own.filterMap (fun p => plausibleTemp p.2)
  match good with
  | t :: rest =>
    let s := { s with cool := { s.cool with silent := s.cool.silent.filter (· != c) } }
    rotationDue (evaluateCarrier (accrueReading s c (rest.foldl max t)) c) c
  | [] =>
    if own.isEmpty || s.cool.silent.contains c then s
    else record { s with cool := { s.cool with silent := s.cool.silent ++ [c] } } 0x0C05 .fault (b1 (4 * c) ++ b1 0)

/-- The hottest, or coolest, of readings with its place. -/
def extremeOf (better : Int → Int → Bool) (l : List (Nat × Int)) : Option (Nat × Nat × Int) :=
  l.foldl (fun best p => match best with
    | none => some (p.1 / 128, p.1 % 128, p.2)
    | some b => if better p.2 b.2.2 then some (p.1 / 128, p.1 % 128, p.2) else some b) none

/-- The LUNs of the live carriers, by channel. -/
def liveLuns (s : State) : List Nat :=
  ((List.range 16).filter (carrierLive s)).flatMap (fun c =>
    let g := (carrierAt s c).lomril.elim 0 (fun l => l.volumes * l.lunsPerVolume)
    let k := (carrierAt s c).lomril.elim 1 (·.lunsPerVolume)
    (channelsOf c).flatMap (fun ch => (List.range g).map (fun i => lunIndex ch (8 * (i / k) + i % k))))

/-- LUNs of live carriers outside their effective window. -/
def lunsOutside (s : State) : Nat := (liveLuns s).countP (fun l => !insideWindow s l)

/-- The latest readings of the live carriers' LUNs; one that failed its last read takes no part (R455, R456). -/
def latestTemps (s : State) : List (Nat × Int) :=
  (liveLuns s).filterMap (fun l => if (lunAt s l).missed = 0 then (lunAt s l).temp.map (fun t => (l, t)) else none)

/-- The dies that a round reads: of live carriers, on the 32 channels of its half (R455). -/
def roundTemps (s : State) (temps : List (Nat × Option Int)) : List (Nat × Option Int) :=
  temps.filter (fun p => p.1 / 128 / 32 == s.cool.round.toNat % 2 && p.1 < 8192 && carrierLive s (carrierOf (p.1 / 128)))

/-- HOUSEKEEPING_ROUND (R33, R77, R98, R428, R455, R456, R460): half the channels' dies are read, monitors are copied, held descriptors
are tested again. No round runs in Night or Eclipse. -/
def execHousekeepingRound (temps : List (Nat × Option Int)) (s : State) : Result :=
  .next (if s.pwr.sleep == .night || s.pwr.sleep == .eclipse then s
  else
    let l := roundTemps s temps
    let s := l.foldl (fun s p => noteTemp s p.1 p.2) s
    let s := (List.range 16).foldl (fun s c => noteCarrier s c l) s
    let good := latestTemps s
    let p := s.pwr
    let free := p.levelFree || s.boot.phase == .complete || (s.boot.phase == .running && 8 ≤ s.boot.step)
    let s := { s with
      cool := { s.cool with round := s.cool.round + 1, hot := extremeOf (fun a b => b < a) good, cold := extremeOf (fun a b => a < b) good
                            lunsClosed := lunsOutside s }
      pwr := { p with mon := p.mon.map (fun m => { m with regStatus := m.st, regMv := m.mv }), pmonReg := p.pmon, levelFree := free } }
    noteHealth ((List.range 64).foldl (fun s ch => dispatchAll s ch (ranNow s)) s))

/-! ### The Control Engine -/

/-- LOOP_SLOT_UPDATE (R477 to R479). -/
def execLoopSlotUpdate (n : LoopSlot) (meas : Int) (s : State) : Result :=
  .next (if slotRuns s n then noteUpdate (updateSlot s n meas) n meas else s)

/-- A slot's COMMIT written (R479): the shadow set is loaded at the next update, or at the one after while the slot is updating. -/
def commitSlot (s : State) (n : Nat) (updating : Bool) : State :=
  modLoop s n (fun l => { l with commitPending := true, commitNext := updating })

/-- CTL_SLOT_COMMIT (R479). -/
def execCtlSlotCommit (n : LoopSlot) (updating : Bool) (s : State) : Result := .next (commitSlot s n updating)

/-! ### The motors -/

/-- MOTOR_ENABLE (R469, R474). -/
def execMotorEnable (m : Motor) (on : Bool) (s : State) : Result := .next (enableMotor s m on)

/-- RESTART of a motor written (R469, R481): in FAULT only; the motor goes OFF with its losses cleared and, being enabled, starts again. -/
def restartMotor (s : State) (m : Nat) : State :=
  if (motorAt s m).st = .fault then
    startMotor (modMotor (motorTo s m .off) m (fun x => { x with losses := [] })) m
  else s

/-- MOTOR_RESTART (R469, R481). -/
def execMotorRestart (m : Motor) (s : State) : Result := .next (restartMotor s m)

/-- MOTOR_DETECT_DONE (R469, R470): a speed known only from its amplitude is never caught. -/
def execMotorDetectDone (m : Motor) (crossings : Nat) (speed : Int) (ke : Nat) (s : State) : Result :=
  .next (if (motorAt s m).st ≠ .detect then s
  else
    let s := modMotor s m (fun x => { x with reversed := decide (2 ≤ crossings ∧ speed < 0) })
    if 2 ≤ crossings && 300 < speed then judgeKe s m ke
    else if 100 < speed.natAbs then motorTo (modMotor s m (fun x => { x with gatesOff := false })) m .brake
    else motorTo (modMotor s m (fun x => { x with gatesOff := false })) m .align)

/-- BRAKE_END (R471). -/
def execBrakeEnd (m : Motor) (s : State) : Result := .next (if (motorAt s m).st = .brake then motorTo s m .align else s)

/-- BRAKE_TIMEOUT (R469). -/
def execBrakeTimeout (m : Motor) (s : State) : Result := .next (if (motorAt s m).st = .brake then faultMotor s m 3 else s)

/-- ALIGN_DONE (R472). -/
def execAlignDone (m : Motor) (s : State) : Result := .next (if (motorAt s m).st = .align then motorTo s m .ramp else s)

/-- RAMP_DONE (R472). -/
def execRampDone (m : Motor) (s : State) : Result :=
  .next (if (motorAt s m).st = .ramp then modMotor (motorTo s m .keCheck) m (fun x => { x with gatesOff := true }) else s)

/-- KE_CHECK_DONE (R472): the peak induced voltage in µV over the electrical speed in rad/s. -/
def execKeCheckDone (m : Motor) (peakUv radPerS : Nat) (s : State) : Result :=
  .next (if (motorAt s m).st = .keCheck then judgeKe s m (peakUv / radPerS) else s)

/-- OBSERVER_LOCK (R469, R478): CATCH ends in RUN; the slots' histories are zero and the speed slot takes the setpoint. -/
def execObserverLock (m : Motor) (angle : BitVec 16) (s : State) : Result :=
  .next (if (motorAt s m).st = .catching then
    let s := modMotor (motorTo s m .run) m (fun x => { x with angle := angle, gatesOff := false, overPeriods := 0 })
    let s := [4 + m.val, 8 + 2 * m.val, 9 + 2 * m.val].foldl (fun s n => modLoop s n (fun l => { clearHistory l with out := 0 })) s
    modMotor s m (fun x => { x with setpoint := setpointOf s m })
  else s)

/-- ROTOR_LOSS (R473, R474): the armed plausibility check has found the estimate apart from the model for 20 ms. -/
def execRotorLoss (m : Motor) (s : State) : Result := .next (if implausible s m then loseRotor s m else s)

/-- A period's conversions taken into the drive (R465). -/
def takeSample (s : State) (m free : Nat) (c : ConverterSample) : State :=
  modMotor s m (fun x => { x with
    currents := reconstructed (x.duty.map (sampleValid x.param)) (c.isense.map (phaseCurrent x.param free))
    volts := c.vsense.map (phaseVoltage x.param) })

/-- Whether a current conversion of a period exceeds a limit in mA (R466, R471). -/
def exceeds (p : MotorParam) (free limit : Nat) (c : ConverterSample) : Bool :=
  c.isense.toList.any (fun i => limit < (phaseCurrent p free i).natAbs)

/-- OVERCURRENT (R465, R466, R471): a period's conversions. One beyond I_LIMIT turns the gates off until the next valley, and ten such periods in
succession are a loss; in BRAKE one beyond BRAKE_LIMIT opens the low sides, which close again at the next period's valley. -/
def execOvercurrent (m : Motor) (sample : ConverterSample) (s : State) : Result :=
  .next (
    let (free, s) := drawNat s
    let x := motorAt s m
    let s := takeSample s m free sample
    let braking := x.st == .brake
    let opened := exceeds x.param free (if braking then min x.param.brakeLimit x.param.iLimit else x.param.iLimit) sample
    if braking then modMotor s m (fun x => { x with gatesOff := opened })
    else if x.gatesOff || !opened then s
    else
      let s := modMotor s m (fun x => { x with gatesOff := true, overPeriods := x.overPeriods + 1 })
      if 10 ≤ x.overPeriods + 1 then loseRotor s m else s)

/-- CD_FAULT_N_FALL (R434, R475): the gates go off, a loss is counted, and on an enabled motor it wakes Night. -/
def execCdFaultNFall (m : Motor) (s : State) : Result :=
  .next (let s := loseRotor (modMotor (setFaultPin s m false) m (fun x => { x with gatesOff := true })) m
         if (motorAt s m).enable then wake s .cdFault false else s)

/-- COAST_DONE (R469, R474, R475): 100 ms have passed, with CD_FAULT_N high. -/
def execCoastDone (m : Motor) (s : State) : Result :=
  .next (if (motorAt s m).st ≠ .coast then s
  else
    let s := modMotor (setFaultPin s m true) m (fun x => { x with losses := recentLosses s x })
    if 3 ≤ (motorAt s m).losses.length then countFault (faultMotor s m 1) m else motorTo s m .detect)

/-- MOTOR_FAULT_DEMAND_LIFT (R474): every enabled motor has been in RUN for 60 s. -/
def execMotorFaultDemandLift (s : State) : Result :=
  .next (if s.cool.motor.all (fun x => !x.enable || (x.st == .run && x.since + 60000 ≤ s.time.opMs)) then
    noteDemand (managerDemand s) { s with cool := { s.cool with
      motorFault := false, motor := s.cool.motor.map (fun x => { x with counted := false }) } }
  else s)

/-! ### Trace buffers -/

/-- TRC_ARM (R484). -/
def execTrcArm (b : TraceBuf) (s : State) : Result := .next (modTrace s b armTrace)

/-- TRIGGER of a buffer written (R484): when TRIG_SRC is 0. -/
def triggerTrace (s : State) (b : Nat) : State :=
  modTrace s b (fun t => if t.armed && !t.continuous && t.trigSrc == 0 then { t with triggered := true } else t)

/-- TRC_TRIGGER (R484). -/
def execTrcTrigger (b : TraceBuf) (s : State) : Result := .next (triggerTrace s b)

/-- TRACE_TRIGGER_EVENT (R483, R484): a condition of TRIG_SRC 1 to 5. -/
def execTraceTriggerEvent (b : TraceBuf) (s : State) : Result :=
  .next (modTrace s b (fun t => if t.armed && !t.continuous && t.trigSrc != 0 then { t with triggered := true } else t))

/-- TRACE_SAMPLE (R483). -/
def execTraceSample (b : TraceBuf) (value : Int) (time : Word32) (s : State) : Result :=
  .next (modTrace s b (fun t => traceUpdate t value time))

end Sys2Proof.Machine
end

