-- ==== Sys2Proof/Machine/ReportOps.lean ====
section
/-! DEFINITION. What several reports share: the settings as they are exported, the Calibration Set and its digest, the measured images
(11_management_mailboxes R371, R372; 08 R315; 14 R449). -/
namespace Sys2Proof.Machine

/-- The settings families that the mailboxes serve, in rising order (R371). -/
def settingFamilies : List Nat := [0x01, 0x04, 0x05, 0x07, 0x08, 0x09, 0x0A]

/-- Whether a setting is kept for each namespace: the stream policy (R143, R173). -/
def perNamespace (fam idx : Nat) : Bool := fam == 0x01 && idx == 9

/-- The NSIDs of the entries of a setting in an export. -/
def exportNsids (s : State) (fam idx : Nat) : List Nat := if perNamespace fam idx then s.nvme.namespaces.map (·.1) else [0]

/-- An entry of EXPORT_SETTINGS (R372). -/
def exportEntry (s : State) (fam idx nsid : Nat) : Bytes := b1 fam ++ b1 0 ++ b2 idx ++ b4 nsid ++ leBytes 32 (setting s fam idx nsid)

/-- Every setting, by family, index and NSID (R371, R372). -/
def exportEntries (s : State) : List Bytes :=
  settingFamilies.flatMap (fun fam => (List.range 16).flatMap (fun i =>
    if (settingInfo s fam (i + 1)).isSome then (exportNsids s fam (i + 1)).map (exportEntry s fam (i + 1)) else []))

/-- The bytes of the Calibration Set (R449). -/
def calSize : Nat := 262144
/-- SM3 of the Calibration Set (R315, R371). -/
def calDigest (s : State) : Digest := Config.sm3 (calBytes s 0 calSize)

/-- The image that runs on the active Meridian set, and the one in the other slot. -/
def activeImage (s : State) : Bytes := (slotAt s.fw s.fw.activeSlot.val).image
/-- The image in the inactive slot. -/
def otherImage (s : State) : Bytes := (slotAt s.fw (inactiveSlot s.fw)).image
/-- The channel-core microcode of an image (R501). -/
def microcodeOf (i : Bytes) : Bytes := slice i (field i 0x20 4) (field i 0x24 4)

/-- A public key's octets, x then y. -/
def keyBytes (k : PubKey) : Bytes := octets64 k
/-- KEY_ID of a public key: SM3 of x then y (R375). -/
def keyId (k : PubKey) : Digest := Config.sm3 (keyBytes k)

end Sys2Proof.Machine
end

