-- ==== Sys2Proof/Machine/MbxDevice.lean ====
section
/-! DEFINITION. The Device, Calibration and Carrier families of the mailboxes, and the settings of every family
(11_management_mailboxes R371 to R373; 02 R59; 05 R209; 08 R287; 14 R449, R450). -/
namespace Sys2Proof.Machine

/-! ### Settings (R372) -/

/-- The first argument of a settings request that is not allowed: an unknown index, a non-zero reserved field, or an NSID that its
setting does not take. -/
def settingBad (s : State) (fam : Nat) (r : Bytes) : Option Nat :=
  let idx := field r 0 2
  let nsid := field r 4 4
  if (settingInfo s fam idx).isNone then some 0
  else if field r 2 2 ≠ 0 then some 2
  else if perNamespace fam idx then (if (nsAt s nsid).isSome then none else some 4)
  else if nsid ≠ 0 then some 4 else none

/-- GET_SETTING of a family (R372): VALUE, MIN, MAX and DEFAULT. -/
def getSetting (fam : Nat) (x : MbxCtx) (r : Bytes) (s : State) : State :=
  match settingBad s fam r with
  | some o => mbxBad x o s
  | none =>
    let i := (settingInfo s fam (field r 0 2)).getD { dflt := 0, lo := 0, hi := 0 }
    mbxOk x (leBytes 32 (setting s fam (field r 0 2) (field r 4 4)) ++ leBytes 32 i.lo ++ leBytes 32 i.hi ++ leBytes 32 i.dflt) 0 s

/-- SET_SETTING of a family (R372): a value outside the bounds in force is VALUE_RANGE; `after` is what a change of the index does at
once. -/
def putSetting (fam : Nat) (after : Nat → State → State) (x : MbxCtx) (r : Bytes) (s : State) : State :=
  match settingBad s fam r with
  | some o => mbxBad x o s
  | none =>
    if ((settingInfo s fam (field r 0 2)).elim false (fun i => i.allows (field r 8 32))) then
      mbxDone x (after (field r 0 2) (setSetting s fam (field r 0 2) (field r 4 4) (field r 8 32)))
    else mbxFail x .valueRange 0 s

/-! ### The Device family -/

/-- Saturating 32-bit counter. -/
def sat4 (n : Nat) : Bytes := b4 (min n 0xFFFFFFFF)

/-- The IDENTIFY result (R373). -/
def identifyResult (s : State) : Bytes :=
  serialText s ++ spacePad 16 (ascii "SHL-8064-B1") ++ spacePad 16 s.host.lot ++ padTo 4 s.host.dateCode ++ fwVersionNow s
    ++ b4 (opHours s) ++ b4 s.time.powerCycles ++ b1 0x11 ++ b1 1 ++ b1 0
    ++ b1 (bitsOf [s.mbx.custodianKey.isSome, s.mbx.mediaEncrypt, s.boot.phase == .safeStart, s.dram.frozen])
    ++ b4 (installedGib s) ++ b8 s.time.calendar.toNat ++ zeros 40

/-- IDENTIFY (R371, R373). -/
def execIdentify (fn : Func) (m : Fin 16) (s : State) : Result :=
  .next (runMbx fn m 0x0101 (size 0) (fun x _ s => mbxOk x (identifyResult s) 0 s) s)

/-- CALENDAR_SET (R43, R371). -/
def execCalendarSet (fn : Func) (m : Fin 16) (s : State) : Result :=
  .next (runMbx fn m 0x0102 (size 8) (fun x r s =>
    if field r 6 2 ≠ 0 then mbxBad x 6 s else mbxDone x (setCalendar s (BitVec.ofNat 48 (field r 0 6)))) s)

/-- CALENDAR_GET (R371). -/
def execCalendarGet (fn : Func) (m : Fin 16) (s : State) : Result :=
  .next (runMbx fn m 0x0103 (size 0) (fun x _ s => mbxOk x (b8 s.time.calendar.toNat) 0 s) s)

/-- PORT_COUNTERS (R371): ten saturating counters. -/
def execPortCounters (fn : Func) (m : Fin 16) (s : State) : Result :=
  .next (runMbx fn m 0x0104 (size 0) (fun x _ s =>
    let k := s.host.counters
    mbxOk x ([k.unexpectedCompletion, k.completionTimeout, k.poisonedTlp, k.ecrcError, k.unsupportedRequest, k.discardedAfterReset,
      k.linkRetrains, k.rateWidthChanges, k.bmeFatal, k.flr].flatMap sat4 ++ zeros 24) 0 s) s)

/-- EXPORT_SETTINGS (R371, R372). -/
def execExportSettings (fn : Func) (m : Fin 16) (s : State) : Result :=
  .next (runMbx fn m 0x0105 (size 0) (fun x _ s => mbxOk x (exportEntries s).flatten (exportEntries s).length s) s)

/-- DEVICE_GET_SETTING (R173, R372, R425). -/
def execDeviceGetSetting (fn : Func) (m : Fin 16) (s : State) : Result := .next (runMbx fn m 0x01F0 (size 8) (getSetting 0x01) s)

/-- DEVICE_SET_SETTING (R173, R372, R425). -/
def execDeviceSetSetting (fn : Func) (m : Fin 16) (s : State) : Result :=
  .next (runMbx fn m 0x01F1 (size 40) (putSetting 0x01 (fun _ s => s)) s)

/-! ### The Calibration family (R287, R449, R450) -/

/-- CAL_EXPORT (R371, R450): one 64 KiB part. -/
def execCalExport (fn : Func) (m : Fin 16) (s : State) : Result :=
  .next (runMbx fn m 0x0201 (size 4) (fun x r s =>
    let off := field r 0 4
    if off % 65536 ≠ 0 || calSize ≤ off then mbxBad x 0 s else mbxOk x (calBytes s off 65536) 0 s) s)

/-- CAL_DIGEST (R371). -/
def execCalDigest (fn : Func) (m : Fin 16) (s : State) : Result :=
  .next (runMbx fn m 0x0202 (size 0) (fun x _ s => mbxOk x (digestBytes (calDigest s)) 0 s) s)

/-- Bytes written into the Calibration Set. -/
def calWrite (s : State) (off : Nat) (b : Bytes) : State :=
  { s with pwr := { s.pwr with cal := b.zipIdx.foldl (fun l p => writeAt 0xFF l (off + p.2) p.1) s.pwr.cal } }

/-- Whether laying bytes over the set only clears bits, so that no sector is erased (R450). -/
def onlyClears (s : State) (off : Nat) (b : Bytes) : Bool :=
  (b.zip (calBytes s off b.length)).all (fun p => p.1 &&& p.2 == p.1)

/-- An overwrite whose program or erase fails (R70, R370): what the range, or the erased sectors, hold is free (log entry 1, DESIGN CHOICE). -/
def calWriteFails (s : State) (off : Nat) (b : Bytes) : Nat × State :=
  let addr := 0x3000000 + off
  let (n, s) := drawNat s
  if onlyClears s off b then
    (0x20, record (calWrite s off (b.zipIdx.map (fun p => Config.freeByte (n + p.2)))) 0x0407 .fault (b8 addr))
  else
    let base := off / 65536 * 65536
    let s := calWrite s base ((List.range 65536).map (fun i => Config.freeByte (n + i)))
    (0x24, record { s with media := { s.media with csFailedSectors := s.media.csFailedSectors ++ [addr / csSector] } } 0x0407 .critical (b8 addr))

/-- CAL_OVERWRITE (R371, R450): `storeOk` is whether the Config Store takes it. -/
def execCalOverwrite (fn : Func) (m : Fin 16) (storeOk : Bool) (s : State) : Result :=
  .next (runMbx fn m 0x0203 (fun n => 17 ≤ n && n ≤ 16 + 32768) (fun x r s =>
    let off := field r 0 4
    let len := field r 4 4
    let data := r.drop 16
    if calSize < off + len then mbxBad x 0 s
    else if len = 0 || 32768 < len then mbxBad x 4 s
    else if !allZero (slice r 8 8) then mbxBad x 8 s
    else if data.length ≠ len then mbxFail x .lenRange 0 s
    else if off < 0x110 && 0x100 < off + len then mbxFail x .notPermitted 0 s
    else if storeOk then mbxDone x (calWrite s off data)
    else
      let (st, s) := calWriteFails s off data
      mbxFail x .csFail st s) s)

/-- SUBSYSTEM_SET (R287, R371): accepted once. -/
def execSubsystemSet (fn : Func) (m : Fin 16) (s : State) : Result :=
  .next (runMbx fn m 0x0204 (size 4) (fun x r s =>
    if s.mbx.subsystem.isSome then mbxFail x .notPermitted 0 s
    else mbxDone x (calWrite { s with mbx := { s.mbx with subsystem := some (field r 0 2, field r 2 2) } } 0x100 (r.take 4))) s)

/-! ### The Carrier family (R59, R209, R373) -/

/-- The LUNs of a carrier's channels with their state. -/
def lunsOfCarrier (s : State) (c : Nat) : List LunState := (s.media.luns.filter (fun p => carrierOf (p.1 / 128) == c)).map (·.2)

/-- A signed byte of a temperature; a carrier without a reading has no stated value: a free one (log entry 1, DESIGN CHOICE). -/
def tempByte (l : List Int) (better : Int → Int → Bool) (free : Nat) : Bytes :=
  match l with
  | [] => [Config.freeByte free]
  | t :: r => leInt 1 (r.foldl (fun a b => if better b a then b else a) t)

/-- A carrier status entry (R373). -/
def carrierEntry (s : State) (free c : Nat) : Bytes :=
  let k := carrierAt s c
  let temps := (lunsOfCarrier s c).filterMap (·.temp)
  let grown := s.media.blocks.countP (fun p => carrierOf (channelOfKey p.1) == c && p.2.health == .grownBad)
  b1 c ++ b1 k.st.code ++ b1 (carrierRate k) ++ b1 (if k.lomril.isSome then k.copyUsed else 0xFF) ++ padTo 16 (k.lomril.elim [] (·.serial))
    ++ b2 (failedLuns s c) ++ tempByte temps (fun a b => b < a) (free + 2 * c) ++ tempByte temps (fun a b => a < b) (free + 2 * c + 1) ++ b4 grown ++ zeros 4

/-- CARRIER_STATUS (R371, R373). -/
def execCarrierStatus (fn : Func) (m : Fin 16) (s : State) : Result :=
  .next (runMbx fn m 0x0301 (size 0) (fun x _ s =>
    let (n, s) := drawNat s
    mbxOk x ((List.range 16).flatMap (carrierEntry s n)) 0 s) s)

/-- CARRIER_DESCRIPTOR (R54, R371). -/
def execCarrierDescriptor (fn : Func) (m : Fin 16) (s : State) : Result :=
  .next (runMbx fn m 0x0302 (size 1) (fun x r s =>
    if 16 ≤ field r 0 1 then mbxBad x 0 s
    else match (carrierAt s (field r 0 1)).lomril with
      | none => mbxFail x .carrierState 0 s
      | some l => mbxOk x (padTo 1024 l.bytes) 0 s) s)

/-- Whether Carrier Redundancy lets a carrier be removed (R209): a non-member, a failed member, or a vacated one. -/
def mayRemove (s : State) (c : Nat) : Bool :=
  [SlotRole.empty, .nonMember, .failed, .vacated].contains (roleOf s c) || s.red.st == .none

/-- CARRIER_REMOVE (R59, R209): its queues end, its pads are isolated and its power goes. -/
def execCarrierRemove (fn : Func) (m : Fin 16) (s : State) : Result :=
  .next (runMbx fn m 0x0303 (size 1) (fun x r s =>
    let c := field r 0 1
    if 16 ≤ c then mbxBad x 0 s
    else if (carrierAt s c).st ≠ .inService then mbxFail x .carrierState 0 s
    else if !mayRemove s c then mbxFail x .arrayState 0 s
    else if carrierIdle s c then mbxDone x (endRemoval s c)
    else mbxWait x (modCarrier s c (fun k => { k with drain := 1 }))) s)

/-- A carrier taken out of service: it stops accepting descriptors of the controller's own, its queues drain, and a member's slot counts as
absent from now on (R59, R191, R209). -/
def takeOut (s : State) (c : Nat) : State :=
  let s := if roleOf s c = .member then
      let s := setCore s (closeOpenShort s.map.core c)
      { s with red := { setRole s.red c .outOfService with
        st := .degraded, failedSlot := some c, rebuildDeferred := true, rebuildRunning := false, absentFrom := s.map.nextBand } }
    else s
  if carrierIdle s c then endOut s c else modCarrier s c (fun k => { k with drain := 2 })

/-- CARRIER_OUT (R59, R204, R209): a member only while the array is NORMAL and no reshape runs. -/
def execCarrierOut (fn : Func) (m : Fin 16) (s : State) : Result :=
  .next (runMbx fn m 0x0304 (size 1) (fun x r s =>
    let c := field r 0 1
    if 16 ≤ c then mbxBad x 0 s
    else if (carrierAt s c).st ≠ .inService then mbxFail x .carrierState 0 s
    else if s.red.st ≠ .normal || s.red.reshape.isSome then mbxFail x .arrayState 0 s
    else
      let t := takeOut s c
      if (carrierAt t c).drain = 0 then mbxDone x t else mbxWait x t) s)

/-- CARRIER_RETURN (R59, R96, R208): the carrier is READY and offered; a Notice record says where Media Direct has changed it. -/
def execCarrierReturn (fn : Func) (m : Fin 16) (s : State) : Result :=
  .next (runMbx fn m 0x0305 (size 1) (fun x r s =>
    let c := field r 0 1
    if 16 ≤ c then mbxBad x 0 s
    else if (carrierAt s c).st ≠ .outOfService then mbxFail x .carrierState 0 s
    else mbxDone x (makeReady s c)) s)

end Sys2Proof.Machine
end

