-- ==== Sys2Proof/Machine/Sanitize.lean ====
section
/-! DEFINITION. Sanitize by block erase and by crypto erase (09_command_queues R334, R335; 06 R227, R239). A Sanitize completes its
command when it is accepted; a second call of its row does the erase and key work and ends the operation. -/
namespace Sys2Proof.Machine

/-- Whether a grant for an action is valid (R334): given, and given within 60 s. -/
def grantValid (s : State) (action : Nat) : Bool :=
  s.nvme.sanitize.grants.any (fun g => g.1 == action && s.time.opMs < g.2 + 60000)

/-- The grant for an action consumed. -/
def consumeGrant (s : State) (action : Nat) : State :=
  { s with nvme := { s.nvme with sanitize := { s.nvme.sanitize with grants := s.nvme.sanitize.grants.filter (fun g => g.1 != action) } } }

/-- A mirror session, or a migration session that is not COMMITTED, exists (R334). -/
def sessionsForbidSanitize (s : State) : Bool :=
  !s.halo.mirrors.isEmpty || s.halo.migration.any (fun g => g.st != .committed)

/-- Every running command but one completes with Sanitize In Progress (R334 step 2): the I/O commands, and the administrative ones that
have begun work. -/
def endRunning (s : State) (c : CmdRef) : State :=
  let all := (List.finRange 128).flatMap (fun (fn : Func) => (ctrlAt s fn.val).sqs.flatMap (fun p =>
    (p.2.cmds.filter (fun f => f.done.isNone && (p.1 != 0 || f.begun))).map (fun f => (({ fn := fn, sq := p.1, cid := f.sqe.cid } : CmdRef), f))))
  (all.filter (fun p => p.1 != c)).foldl (fun s p => endCmd (terminate s p.1 p.2) p.1 sanitizing) s

/-- The write cache discarded, unstarted work of Q1 and Q2 aborted, and the background activities stopped (R334 step 3). -/
def stopForSanitize (s : State) : State :=
  let s := { s with map := { s.map with
    lines := [], stripes := [], xorAcc := [], gather := [], secureJobs := [], consolidating := false, journalFull := false }
                    red := { s.red with
    rebuildRunning := false, rebuildDeferred := false, resyncRunning := false, resyncFirst := [], resyncRead := [], resyncSaved := none, lunRebuilds := [], reshape := none }
                    ret := { s.ret with
    car := s.ret.car.map (fun x => { x with scanning := false }), prepareState := if s.ret.prepareState = 1 then 0 else s.ret.prepareState }
                    media := { s.media with blocks := s.media.blocks.map (fun p => (p.1, { p.2 with queued := 0 })) } }
  (List.range 64).foldl (fun s ch => abortWaiting (abortWaiting s ch 1 (fun _ => true)) ch 2 (fun _ => true)) s

/-- The highest SEAL_ID of the seal table. -/
def highestSeal (s : State) : Nat := s.sealing.seals.foldl (fun m x => max m x.id) 0

/-- The seal table and the seal store cleared, with the Critical record (R239, R334 step 4). -/
def clearSeals (s : State) : State :=
  let s := recordIf (!s.sealing.seals.isEmpty) s 0x0706 .critical (b8 (highestSeal s))
  { s with sealing := { s.sealing with seals := [], storeNext := gib } }

/-- A Sanitize accepted (R334 steps 1 to 4 and 8). -/
def beginSanitize (s : State) (c : CmdRef) (kind : Nat) : State :=
  let s := { s with nvme := { s.nvme with sanitize := { s.nvme.sanitize with running := kind, sstat := 2, progress := 0 } } }
  let s := record s 0x0A0A .critical (b1 kind ++ b1 0)
  let s := takeEffect s c cplOk
  let s := endSelfTest s 9 s.nvme.selfTest.segment
  clearSeals (stopForSanitize (endRunning s c))

/-- A Sanitize command of an action: refused, or accepted (R331, R334). -/
def sanitizeCommand (s : State) (c : CmdRef) (f : Fetched) (kind : Nat) : State :=
  if sanitizeRuns s then endCmd s c sanitizing
  else if !grantValid s kind then endCmd s c { sct := 0, sc := 0x15, dnr := some true, dw0 := 0xD01 }
  else
    let s := consumeGrant s kind
    if kind = 2 && !s.mbx.mediaEncrypt then endCmd s c invalidField
    else if f.sqe.cdw10.testBit 9 then endCmd s c invalidField
    else if sessionsForbidSanitize s then endCmd s c sequenceError
    else beginSanitize s c kind

/-- Every key destroyed and a new one drawn for each namespace, its GEN raised by one (R227). -/
def redrawKeys (s : State) : State :=
  let old := s.sealing.keys
  let s := { s with sealing := { s.sealing with keys := [], keyUnit := [], keyEntriesUsed := 0 } }
  s.nvme.namespaces.foldl (fun s p =>
    modNs (makeKey s p.1 ((lookup old p.1).elim 0 (·.gen + 1))) p.1 (fun n => { n with keyUnusable := false })) s

/-- Every block of the carriers in service erased, the map metadata blocks too (R334 step 5); a block that fails is grown-bad and keeps what it holds (R335). -/
def eraseInService (s : State) (slots : List Nat) (unerased : List Nat) : State :=
  let kept := s.media.pages.filter (fun p => unerased.contains (p.1 / 4096))
  let s : State := slots.foldl eraseCarrier s
  let ofMap : Nat → Bool := fun key => slots.contains (carrierOf (channelOfKey key)) && isMetadataBlock s.red.geometry (blockOfKey key)
  let s := { s with media := { s.media with
    pages := s.media.pages.filter (fun p => !ofMap (p.1 / 4096))
    blocks := s.media.blocks.map (fun (p : Nat × BlockStatus) => if ofMap p.1 then (p.1, { p.2 with wp := some 0, pe := p.2.pe + 1 }) else p) } }
  let s := { s with media := { s.media with pages := kept.foldl (fun l p => insert l p.1 p.2) s.media.pages } }
  (unerased.filter (fun k => slots.contains (carrierOf (channelOfKey k)) && !isReserved s.red.geometry (lunOfKey k) (blockOfKey k))).foldl
    (fun s k => markGrownBad s k 0x03) s

/-- Every block of every namespace deallocated: the map, its journal and its checkpoints hold only the segment tables of the namespaces, which stay
(R131), and no flush is left to apply (R334 steps 5 and 6). -/
def clearMap (m : MapState) : MapState :=
  let core : MapCore := { segs := m.core.segs }
  { m with core := core, tail := [], journal := [], primary := { core := core, msn := m.msn }, secondary := { core := core, msn := m.msn }, emergency := [], emergencyReady := false
           emergencyBlocks := [], emergencyPlan := [], wholes := [], spanWritten := [], secureBands := [], stripeJournal := [], undurable := [] }

/-- The array record cleared (R334 step 7): the members are READY carriers again. -/
def clearArray (s : State) (slots : List Nat) (erased : Bool) : State :=
  let s := (List.range 16).foldl (fun s i => modCarrier s i (fun k =>
    if slots.contains i then { k with st := .ready, erasedSinceClear := erased } else { k with erasedSinceClear := false })) s
  { s with red := { offeringOpen := s.red.offeringOpen } }

/-- The erase and key work, the new formation and the end of a Sanitize (R334 steps 5 to 8). -/
def endSanitize (s : State) (unerased : List Nat) : State :=
  let kind := s.nvme.sanitize.running
  let slots := (List.range 16).filter (fun i => (carrierAt s i).st == .inService)
  let s := if kind = 1 then eraseInService s slots unerased else s
  let s := if kind = 2 || s.mbx.mediaEncrypt then redrawKeys s else s
  let s := { s with map := clearMap s.map }
  let s := formArray (clearArray s slots (kind == 1))
  let s := { s with nvme := { s.nvme with sanitize := { s.nvme.sanitize with running := 0, sstat := 1, progress := 0xFFFF } } }
  record s 0x0A0A .critical (b1 kind ++ b1 1)

/-- A Sanitize row: its command where it is fetched and has not ended, else the work of the operation that runs, once intake is open. -/
def sanitizeRow (s : State) (c : CmdRef) (action kind : Nat) (unerased : List Nat) : State :=
  match cmdAt s c with
  | some f =>
    if f.done.isNone then
      onTurn s c true 0x84 (fun f s => if f.sqe.cdw10 % 8 = action then sanitizeCommand s c f kind else s)
    else if s.nvme.sanitize.running = kind && s.boot.intake then endSanitize s unerased else s
  | none => if s.nvme.sanitize.running = kind && s.boot.intake then endSanitize s unerased else s

/-- SANITIZE_BLOCK_ERASE (R334, R335). -/
def execSanitizeBlockErase (c : CmdRef) (unerased : List Nat) (s : State) : Result := .next (sanitizeRow s c 2 1 unerased)

/-- SANITIZE_CRYPTO_ERASE (R227, R334, R335). -/
def execSanitizeCryptoErase (c : CmdRef) (s : State) : Result := .next (sanitizeRow s c 4 2 [])

end Sys2Proof.Machine
end

