-- ==== Sys2Proof/Machine/Custodian.lean ====
section
/-! DEFINITION. The Security family of the mailboxes: the Custodian's key and challenges, the sanitize grant and MEDIA_ENCRYPT
(11_management_mailboxes R374 to R379; 06 R221; 09 R334). -/
namespace Sys2Proof.Machine

/-! ### The grant and MEDIA_ENCRYPT -/

/-- SANITIZE_GRANT (R334): a grant for one action, for 60 s. -/
def execSanitizeGrant (fn : Func) (m : Fin 16) (s : State) : Result :=
  .next (runMbx fn m 0x0D01 (size 1) (fun x r s =>
    if field r 0 1 ≠ 1 && field r 0 1 ≠ 2 then mbxBad x 0 s
    else
      let s := consumeGrant s (field r 0 1)
      mbxDone x { s with nvme := { s.nvme with sanitize := { s.nvme.sanitize with grants := s.nvme.sanitize.grants ++ [(field r 0 1, s.time.opMs)] } } }) s)

/-- SANITIZE_GRANT_EXPIRY (R334): the grant given first has not been used within 60 s. -/
def execSanitizeGrantExpiry (s : State) : Result :=
  .next { s with nvme := { s.nvme with sanitize := { s.nvme.sanitize with grants := s.nvme.sanitize.grants.drop 1 } } }

/-- MEDIA_ENCRYPT_SET (R221): only while no namespace exists. -/
def execMediaEncryptSet (fn : Func) (m : Fin 16) (s : State) : Result :=
  .next (runMbx fn m 0x0D02 (size 1) (fun x r s =>
    if 1 < field r 0 1 then mbxBad x 0 s
    else if !s.nvme.namespaces.isEmpty then mbxFail x .nsPresent 0 s
    else mbxDone x { s with mbx := { s.mbx with mediaEncrypt := field r 0 1 == 1 } }) s)

/-! ### Challenges (R374, R376) -/

/-- CHALLENGE (R374): a fresh nonce replaces the mailbox's earlier one; in a lockout none is given. -/
def execChallenge (fn : Func) (m : Fin 16) (s : State) : Result :=
  .next (runMbx fn m 0x0D10 (size 0) (fun x _ s =>
    if s.mbx.lockout then mbxFail x .authLockout 0 s
    else
      let (nonce, s) := drawRandom s
      let s := modBox s x.key (fun b => { b with challenge := some (nonce, s.time.opMs) })
      mbxOk x (digestBytes nonce ++ serialText s ++ b4 60000 ++ b4 (keyIndexNow s) ++ zeros 4) 0 s) s)

/-- CHALLENGE_EXPIRY (R374): the nonce of a mailbox is no longer valid. -/
def execChallengeExpiry (fn : Func) (m : Fin 16) (s : State) : Result := .next (consumeChallenge s (boxKey fn m))

/-- AUTH_LOCKOUT_EXPIRY (R376). -/
def execAuthLockoutExpiry (s : State) : Result := .next { s with mbx := { s.mbx with lockout := false } }

/-! ### The Custodian's key (R377 to R379) -/

/-- A key record of the identity area (R379). -/
def keyRecord (index : Nat) (k : PubKey) : Bytes :=
  let head := ascii "CKEY" ++ b2 1 ++ b2 index ++ zeros 8 ++ keyBytes k ++ digestBytes (keyId k) ++ zeros 12
  head ++ b4 (crc32c head).toNat

/-- A public key read from its octets. -/
def pubKeyAt (b : Bytes) (off : Nat) : PubKey := BitVec.ofNat 512 (ofBE (slice b off 64))

/-- A key enrolled under an index: its record is programmed (R379). -/
def installKey (s : State) (index : Nat) (k : PubKey) : State :=
  { s with mbx := { s.mbx with custodianKey := some k, keyIndex := index, keyRecords := s.mbx.keyRecords ++ [keyRecord index k] } }

/-- The work of CUSTODIAN_ENROL (R377): the nonce as R376 checks it, then the proof by the new key. -/
def enrol (x : MbxCtx) (r : Bytes) (s : State) : State :=
  if s.mbx.custodianKey.isSome then mbxFail x .notPermitted 0 s
  else if !challengeLive s x.key (slice r 0x40 32) then mbxFail x .authStale 0 s
  else
    let s := consumeChallenge s x.key
    let k := pubKeyAt r 0
    if !Config.sm2Verify k (slice r 0 0x60) (signatureAt r 0x60) then mbxFail x .authFailed 0 (noteAuthFailed s x.e.opcode.toNat)
    else mbxDone x (installKey s 0 k)

/-- CUSTODIAN_ENROL (R377): only on the PF; a VF's mailbox answers NOT_PERMITTED. -/
def execCustodianEnrol (fn : Func) (m : Fin 16) (s : State) : Result :=
  .next (match fn, begunCommand s (boxKey fn m) 0x0D11 with
    | ⟨0, _⟩, _ => runMbx fn m 0x0D11 (size 160) enrol s
    | _, none => s
    | _, some e =>
      if s.fw.intakeStalled || s.pwr.sleep != .zenith || s.pwr.phase != .steady then s
      else mbxFail { fn := fn, key := boxKey fn m, e := e } .notPermitted 0 s)

/-- Every mailbox's challenge discarded (R378). -/
def dropChallenges (s : State) : State :=
  { s with mbx := { s.mbx with boxes := s.mbx.boxes.map (fun p => (p.1, { p.2 with challenge := none })) } }

/-- CUSTODIAN_ROTATE (R378, R379): the identity area holds 256 key records. -/
def execCustodianRotate (fn : Func) (m : Fin 16) (s : State) : Result :=
  .next (runMbx fn m 0x0D12 (size 128) (fun x r s =>
    let k := pubKeyAt r 0
    let nonce := slice x.e.request 0x10 32
    if 256 ≤ s.mbx.keyRecords.length then mbxFail x .csFull 0 s
    else if !Config.sm2Verify k (slice r 0 64 ++ nonce) (signatureAt r 64) then mbxFail x .authFailed 0 (noteAuthFailed s x.e.opcode.toNat)
    else mbxDone x (dropChallenges (installKey s (s.mbx.keyIndex + 1) k))) s)

/-- CUSTODIAN_KEY (R371). -/
def execCustodianKey (fn : Func) (m : Fin 16) (s : State) : Result :=
  .next (runMbx fn m 0x0D13 (size 0) (fun x _ s =>
    mbxOk x (s.mbx.custodianKey.elim (zeros 96) (fun k => keyBytes k ++ digestBytes (keyId k)) ++ b4 (keyIndexNow s)) 0 s) s)

end Sys2Proof.Machine
end

