-- ==== Sys2Proof/Machine/Diagnostics.lean ====
section
/-! DEFINITION. The Diagnostics family of the mailboxes and the diagnostic window (13_memory_protection R410 to R412). -/
namespace Sys2Proof.Machine

/-- CHANNELS_IN_USE (R411): set at the end of step 7. -/
def channelBits (s : State) : Nat := if s.dram.trained then bitsOf (s.dram.ch.toList.map (fun c => c.st == .inUse)) else 0

/-- The header of DGN_STATUS (R412). -/
def dgnHeader (s : State) : Bytes :=
  let d := s.dram
  b1 d.freezeCause ++ b1 (if 8 ≤ d.freezeChannel then 0xFF else d.freezeChannel) ++ b1 d.flushState ++ b1 d.rate ++ b2 d.dimmGib
    ++ b1 (channelBits s) ++ b1 d.interleave ++ b8 d.freezeAddr ++ b8 0 ++ b8 d.tableSize ++ b8 d.cacheBase ++ b8 d.cacheSize
    ++ b4 d.freezeHours ++ sat4 d.lostLines ++ sat4 d.msramCe ++ sat4 d.msramUe ++ sat4 d.sramCe ++ sat4 d.sramUe ++ sat4 d.codeReloads
    ++ b1 d.spareFrames ++ b1 (min 255 d.repairs.length) ++ zeros 2

/-- A channel entry of DGN_STATUS (R412). -/
def dgnChannel (c : DramChan) : Bytes :=
  b1 c.st.code ++ zeros 1 ++ b2 (min 65535 c.parityEvents) ++ sat4 c.ce ++ sat4 c.ue ++ b1 (min 255 c.replaysMax) ++ zeros 3

/-- DGN_STATUS (R412). -/
def execDgnStatus (fn : Func) (m : Fin 16) (s : State) : Result :=
  .next (runMbx fn m 0x0F01 (size 0) (fun x _ s => mbxOk x (dgnHeader s ++ s.dram.ch.toList.flatMap dgnChannel) 0 s) s)

/-- DGN_WINDOW (R410): only while frozen. -/
def execDgnWindow (fn : Func) (m : Fin 16) (s : State) : Result :=
  .next (runMbx fn m 0x0F02 (size 8) (fun x r s =>
    if field r 0 8 % (16 * mib) ≠ 0 then mbxBad x 0 s
    else if !s.dram.frozen then mbxFail x .notPermitted 0 s
    else mbxDone x { s with dram := { s.dram with windowBase := field r 0 8, windowValid := true, windowUe := 0 } }) s)

/-- The 64-byte units that a run of bytes touches. -/
def unitsIn (off len : Nat) : Nat := if len = 0 then 0 else (off + len - 1) / 64 - off / 64 + 1

/-- DIAGNOSTIC_WINDOW_READ (R404, R410): `stored` is what the diagnostic read port delivers, in which `ueUnits` units are uncorrectable.
Beyond the DRAM in use, while not frozen, and before the first DGN_WINDOW the window reads zero. -/
def execDiagnosticWindowRead (off len : Nat) (stored : Bytes) (ueUnits : Nat) (s : State) : Result :=
  .next (if !barReached s 0 || 16 * mib < off + len then s
    else if !s.dram.frozen || !s.dram.windowValid then { s with dram := { s.dram with windowData := zeros len } }
    else
      let inUse := min len (dramBytes s - (s.dram.windowBase + off))
      let s := dramPort s false (s.dram.windowBase + off) inUse
      { s with dram := { s.dram with
        windowData := padTo len (stored.take inUse)
        windowUe := min 0xFFFFFFFF (s.dram.windowUe + min ueUnits (unitsIn off inUse)) } })

end Sys2Proof.Machine
end

