-- ==== Sys2Proof/Machine/Dram.lean ====
section
/-! DEFINITION. The events of DRAM and on-die memory (13_memory_protection R406 to R424). -/
namespace Sys2Proof.Machine

/-- DRAM_INIT_GRANULE (R406): the next granule of 1 GiB is zero and may be given out. -/
def execDramInitGranule (s : State) : Result :=
  .next (if s.dram.trained && s.dram.granules * gib < dramBytes s then modDramState s (fun d => { d with granules := d.granules + 1 }) else s)

/-- One location that the patrol scrub meets (R403, R406, R408, R413). -/
def patrolHit (s : State) (h : PatrolHit) : State :=
  let s := dramAccess s false (h.addr / 64 * 64) 64
  if !h.uncorrectable then countCorrected s h.ch h.addr
  else
    let inFrame := !h.freeBuffer && (frameLine s h.addr).isSome
    let s := if inFrame then s else modDram s h.ch (fun c => { c with ue := min (c.ue + 1) 0xFFFFFFFF })
    if h.freeBuffer then s
    else if h.addr < s.dram.tableSize then freeze s 1 h.ch h.addr
    else match frameLine s h.addr with
      | some (l, copy) => copyError s l copy false
      | none => record s 0x0904 .info (b1 h.ch ++ b8 h.addr)

/-- DRAM_PATROL_SCRUB (R406): one pass over every address. -/
def execDramPatrolScrub (hits : List PatrolHit) (s : State) : Result :=
  .next (if s.dram.frozen || !s.dram.trained then s
    else modDramState (hits.foldl patrolHit s) (fun d => { d with patrolPasses := d.patrolPasses + 1 }))

/-- DRAM_ALERT (R407): an event that completes its replay loses nothing; one whose eighth attempt fails fails the channel. -/
def execDramAlert (ch : DramChannel) (attempts : Nat) (ok : Bool) (s : State) : Result :=
  .next (if (dramAt s ch).st ≠ .inUse then s
    else
      let s := modDram s ch (fun c => { c with
        parityEvents := min (c.parityEvents + 1) 0xFFFF, replaysMax := max c.replaysMax (min attempts 8) })
      if ok then record s 0x0902 .info (b1 ch ++ b1 (min attempts 8)) else failChannel s ch)

/-- DRAM_FREEZE (R408): an uncorrectable Table-class read, or another cause of the freeze. -/
def execDramFreeze (cause : Nat) (ch : DramChannel) (addr : Nat) (s : State) : Result :=
  .next (if cause = 1 then freeze (modDram s ch (fun c => { c with ue := min (c.ue + 1) 0xFFFFFFFF })) 1 ch addr
    else if cause = 2 then freeze (modDram s ch (fun c => { c with st := .failed })) 2 ch 0
    else if cause = 3 then freeze s 3 0xF 0
    else s)

/-- BUFFER_CLASS_ERROR (R413, R414). -/
def execBufferClassError (loc : BufferLoc) (s : State) : Result := .next (if s.dram.frozen then s else bufferError s loc)

/-- MSRAM_SCRUB (R421 to R424): one pass of the management SRAM's scrubber. -/
def execMsramScrub (corrected : Nat) (codePages : List (Nat × Bool × Bool)) (others : List MsramUse) (hardFaults : List (Nat × Nat)) (s : State) : Result :=
  .next (let s := modDramState s (fun d => { d with msramCe := min (d.msramCe + corrected) 0xFFFFFFFF, msramPasses := d.msramPasses + 1 })
         let s := codePages.foldl (fun s a => codeError s a.1 a.2.1 a.2.2) s
         hardFaults.foldl listFault (others.foldl dataError s))

/-- SRAM_SCRUB (R423, R424): one pass of the other SRAMs' scrubber. -/
def execSramScrub (corrected uncorrectable : Nat) (hardFaults : List (Nat × Nat)) (s : State) : Result :=
  .next (let s := modDramState s (fun d => { d with
           sramCe := min (d.sramCe + corrected) 0xFFFFFFFF, sramUe := min (d.sramUe + uncorrectable) 0xFFFFFFFF, sramPasses := d.sramPasses + 1 })
         hardFaults.foldl listFault s)

/-- CODE_FETCH_ERROR (R421). -/
def execCodeFetchError (addr : Nat) (storeOk frameOk : Bool) (s : State) : Result := .next (codeError s addr storeOk frameOk)

/-- MSRAM_DATA_ERROR (R422). -/
def execMsramDataError (use : MsramUse) (s : State) : Result := .next (dataError s use)

/-- INTERNAL_DMA_HALT (R420). -/
def execInternalDmaHalt (user : DmaUser) (s : State) : Result := .next (dmaHalt s user)

end Sys2Proof.Machine
end

