-- ==== Sys2Proof/Machine/Firmware.lean ====
section
/-! DEFINITION. The hot handover's events (01 R39; 16_almanac_and_firmware_handover R509 to R513) and the JTAG port (17 R534). -/
namespace Sys2Proof.Machine

/-- The image that a handover brings in: that of the inactive slot. -/
def incomingImage (s : State) : Bytes := (slotAt s.fw (inactiveSlot s.fw)).image

/-- STANDBY_SET_LOAD (R509, R510, R512): the load, the page check and the self-check, then the conditions of R509. -/
def execStandbySetLoad (loadOk : Bool) (s : State) : Result :=
  .next (if s.fw.handover ≠ .loading then s
  else if !loadOk || !pageCrcsHold (incomingImage s) then revertImage s
  else if !compatible s then revertIncompatible s
  else { s with fw := { s.fw with handover := .rolling, microcodeRolled := 0 } })

/-- MICROCODE_ROLL (R511): the channels in turn, 0 to 63. -/
def execMicrocodeRoll (ch : Channel) (s : State) : Result :=
  .next (if s.fw.handover = .rolling && s.fw.microcodeRolled = ch.val then
    { s with fw := { s.fw with microcodeRolled := s.fw.microcodeRolled + 1 } }
  else s)

/-- INTAKE_STALL (R39, R510): at the end of the roll fetching stops. -/
def execIntakeStall (s : State) : Result :=
  .next (if s.fw.handover = .rolling && s.fw.microcodeRolled = 64 then
    { s with fw := { s.fw with handover := .stalled, intakeStalled := true } }
  else s)

/-- HANDOVER_READY (R510, R513): the sets change over; the resets that came in the stall follow. -/
def execHandoverReady (s : State) : Result := .next (if s.fw.handover = .stalled then runDeferred (handoverReady s) else s)

/-- HANDOVER_READY_TIMEOUT (R512): without READY within 45 ms the handover reverts. -/
def execHandoverReadyTimeout (s : State) : Result := .next (if s.fw.handover = .stalled then runDeferred (revertImage s) else s)

/-! ### JTAG (R534) -/

/-- The instructions that are always available, in the model's numbering, the spec giving no codes (log entry 47, PRESUMED): BYPASS, IDCODE,
SAMPLE/PRELOAD, EXTEST, EXTEST_PULSE, EXTEST_TRAIN. -/
def jtagAvailable (ir : Nat) : Bool := ir ≤ 5
/-- IDCODE (R534). -/
def jtagIdcode : Nat := 0x2584033F
/-- Whether an instruction is one of the EXTEST family. -/
def isExtest (ir : Nat) : Bool := 3 ≤ ir && ir ≤ 5
/-- Whether EXTEST holds the pins: only while SYS_RST_N is low (R534). -/
def extestHolds (s : State) : Bool := s.pins.extest && !s.pins.sysRstN

/-- JTAG_INSTRUCTION (R534): an instruction that is not available is refused by the port unless it has been authenticated. -/
def execJtagInstruction (ir : Nat) (s : State) : Result :=
  .next (if jtagAvailable ir || s.pins.jtagAuthenticated then { s with pins := { s.pins with jtag := ir, extest := isExtest ir } } else s)

end Sys2Proof.Machine
end

