-- ==== Sys2Proof/Machine/HaloSession.lean ====
section
/-! DEFINITION. What a node does with the requests of its peers, and how it serves its own sessions (07_halo_ring R268 to R283; 06 R245). -/
namespace Sys2Proof.Machine

/-! ### Tokens (R260 to R262) -/

/-- The kind of topology that entries show: a ring where every node has both ports UP, else a line (R260). -/
def topologyOf (l : List TokenEntry) : Nat := if l.all (fun e => e.ports % 4 == 3) then 1 else 2

/-- Whether entries show this node's NODE_ID under another SERIAL while this node was not yet known on the ring (R262). -/
def conflicts (s : State) (l : List TokenEntry) : Bool :=
  l.any (fun e => e.nodeId == nodeId s && e.serial != serialText s)
    && !((s.halo.topology == 1 || s.halo.topology == 2) && s.halo.entries.any (fun e => e.nodeId == nodeId s && e.serial == serialText s))

/-- A final token's topology installed, or the node leaves the ring for a conflict (R260, R262). -/
def installFinal (s : State) (t : Token) : State :=
  if conflicts s t.entries then
    setEngaged (record (modHalo s (fun h => { h with conflict := true })) 0x0802 .fault (b1 0 ++ b1 (nodeId s))) false
  else installTopology s (topologyOf t.entries) t.epoch t.entries

/-- A token passed out of the port it did not arrive on, or back where that port is not UP (R260). -/
def passToken (s : State) (i : Nat) (t : Token) : State :=
  if portUp s (1 - i) then sendToken s (1 - i) t else sendToken s i { t with turns := min 3 (t.turns + 1) }

/-- The port this node's own token leaves by (R260). -/
def departure (s : State) : Nat := if portUp s 0 then 0 else 1

/-- This node's own token back (R260): out of the unused port where it has turned, otherwise complete; its completion sends the final
token over the same route. -/
def ownTokenBack (s : State) (i : Nat) (t : Token) : State :=
  if 1 ≤ t.turns && i = departure s && portUp s (1 - i) then sendToken s (1 - i) t
  else if t.final then modHalo s (fun h => { h with ownToken := none })
  else
    let f : Token := { t with final := true, turns := 0 }
    let s := installFinal s f
    if s.halo.eng then sendToken s (departure s) f else s

/-- A token received on a port (R260). -/
def tokenReceived (s : State) (i : Nat) (t : Token) : State :=
  if !portUp s i then s
  else if t.originator = nodeId s then (if s.halo.ownToken = some t.epoch then ownTokenBack s i t else s)
  else if t.epoch < s.halo.bestEpoch || (t.epoch = s.halo.bestEpoch && s.halo.bestOriginator < t.originator) then s
  else
    let s := modHalo s (fun h => { h with bestEpoch := t.epoch, bestOriginator := t.originator, ownToken := none })
    if t.final then
      let s := installFinal s t
      if s.halo.eng then passToken s i t else s
    else passToken s i { t with entries := writeEntry t.entries (ownEntry s) }

/-! ### Pushes received (R272, R274) -/

/-- APPLIED_SEQNO of a session that accepts pushes here: a secondary's mirror that is ACTIVE, or a migration before its commit. -/
def appliedOf (s : State) (session : Nat) : Option Nat :=
  match mirrorAt s session with
  | some m => if m.secondary && m.st = .active then some m.appliedSeqno else none
  | none => (migAt s session).bind (fun g => if g.successor && g.st = .passing then some g.appliedSeqno else none)

/-- APPLIED_SEQNO advanced (R272 step 9). -/
def setApplied (s : State) (session n : Nat) : State :=
  modMig (modMirror s session (fun m => { m with appliedSeqno := n })) (fun g => if g.session = session then { g with appliedSeqno := n } else g)

/-- The messages a session holds out of order. -/
def heldOf (s : State) (session : Nat) : List (Nat × HaloMessage) :=
  match mirrorAt s session with
  | some m => m.held
  | none => (migAt s session).elim [] (·.held)

/-- The messages held, changed. -/
def setHeldMsgs (s : State) (session : Nat) (l : List (Nat × HaloMessage)) : State :=
  modMig (modMirror s session (fun m => { m with held := l })) (fun g => if g.session = session then { g with held := l } else g)

/-- Whether a session's pushes may name a namespace here. -/
def sessionNs (s : State) (session nsid : Nat) : Bool :=
  match mirrorAt s session with
  | some m => m.localNsid == nsid
  | none => (migAt s session).elim false (fun g => g.created.contains nsid)

/-- Whether the node accepts work of its peers at all (R266, R408). -/
def accepting (s : State) : Bool := s.boot.intake && !s.dram.frozen && !s.pwr.pwrfail

/-- The checks 4 to 7 of a push, in order (R272). -/
def pushCheck (s : State) (m : HaloMessage) : Option HaloStatus :=
  let h := m.header
  match nsAt s h.nsid with
  | none => some .range
  | some n =>
    let bs := bodyBlocks (mdSize n.lbaf) h.count m.body
    if !sessionNs s h.session h.nsid || h.count = 0 || 256 < h.count % 65536 || h.lba / 256 != (h.lba + h.count - 1) / 256
        || n.nsze < h.lba + h.count || 3 < h.kind then some .range
    else if h.lbaf ≠ n.lbaf then some .format
    else if !m.crcOk || (h.kind = 0 && m.body.length ≠ (4096 + mdSize n.lbaf) * h.count) then some .bodyCrc
    else if h.kind = 0 && (firstPiFailure n (sealAsk n h.lba) bs).isSome then some .piFail
    else if isHeld s || !accepting s then some .state
    else if rangeSealed s.map.core h.nsid h.lba h.count then some .sealed_
    else if h.kind = 0 && !mayAdmit s h.count then some .destBusy
    else if h.kind ≠ 0 && (journalHolds s 1 || poolHolds s h.nsid h.lba h.count) then some .destBusy
    else none

/-- A block set LOST by a push (R134, R272 step 8). -/
def setLost (s : State) (nsid lba : Nat) : State :=
  let (msn, s) := takeMsn s 1
  let s := setCore s (mapSet s.map.core nsid lba (some .lost))
  addRecords { s with map := { s.map with lines := cacheDrop s.map.lines nsid lba 1 } } [rangeRecord .lost false nsid lba 1 msn]

/-- SPAN_PULL sent for a span (R274). -/
def sendPull (s : State) (session peer nsid span : Nat) : State :=
  request s { opcode := 0x11, session := session, nsid := nsid, lba := 256 * span, count := 1 } peer []

/-- A PI_FAIL answered: the second for a span has it pulled again (R272, R274). -/
def notePiFail (s : State) (session nsid span : Nat) : State :=
  match mirrorAt s session with
  | none =>
    match migAt s session with
    | none => s
    | some g =>
      let x := (nsid, span)
      if g.piFailed.contains x then sendPull (modMig s (fun g => { g with piFailed := g.piFailed.filter (· != x) })) session g.peer nsid span
      else modMig s (fun g => { g with piFailed := g.piFailed ++ [x] })
  | some m =>
    if m.piFailed.contains span then sendPull (modMirror s session (fun m => { m with piFailed := m.piFailed.filter (· != span) })) session m.peer m.peerNsid span
    else modMirror s session (fun m => { m with piFailed := m.piFailed ++ [span] })

/-- The blocks that a push has set LOST are known to be lost at the sender; those of another push are not (R272, R274). -/
def notePushedLost (s : State) (h : HaloHeader) : State :=
  let keys := (List.range h.count).map (fun i => h.nsid * 2 ^ 48 + h.lba + i)
  modHalo s (fun k => { k with pushedLost := if h.kind = 3 then unionSpans k.pushedLost keys else k.pushedLost.filter (fun x => !keys.contains x) })

/-- A push whose turn it is, applied or refused (R272 steps 4 to 9). A secure one is answered when its erasure is done. -/
def applyPush (s : State) (m : HaloMessage) : State :=
  let h := m.header
  match pushCheck s m with
  | some st =>
    let s := respond s m st
    if st = .piFail then notePiFail s h.session h.nsid (h.lba / 256) else s
  | none =>
    let md := (nsAt s h.nsid).elim 0 (fun n => mdSize n.lbaf)
    if h.kind = 1 && h.secure then
      let (marked, s) := secureBegin s h.nsid h.lba h.count
      let s := noteSecure { s with map := { s.map with secureJobs := s.map.secureJobs ++ [(h.nsid, h.lba, h.count)] } } h.nsid h.lba h.count
      modHalo s (fun k => { k with securePush := k.securePush ++ [(m, marked)] })
    else
      let s := match h.kind with
        | 0 => cacheWrite s h.nsid h.lba (bodyBlocks md h.count m.body) none true
        | 1 => deallocRange s h.nsid h.lba h.count false
        | 2 => zeroRange s h.nsid h.lba h.count
        | _ => (List.range h.count).foldl (fun s i => setLost s h.nsid (h.lba + i)) s
      let s := notePushedLost s h
      respond (setApplied (noteChange s h.nsid h.lba h.count) h.session h.seqno) m .ok

/-- The messages held that a session may now apply, at most `fuel` of them (R272 step 3). -/
def drainHeld : Nat → State → Nat → State
  | 0, s, _ => s
  | fuel + 1, s, session =>
    match appliedOf s session with
    | none => s
    | some a =>
      match (heldOf s session).find? (fun p => p.1 == a + 1) with
      | none => s
      | some p =>
        let s := applyPush (setHeldMsgs s session ((heldOf s session).filter (fun q => q.1 != a + 1))) p.2
        if appliedOf s session = some (a + 1) then drainHeld fuel s session else s

/-- A SPAN_PUSH received (R272). -/
def pushReceived (s : State) (m : HaloMessage) : State :=
  let h := m.header
  match appliedOf s h.session with
  | none => respond s m .noSession
  | some a =>
    if h.seqno ≤ a then respond s m .ok
    else if a + 1 < h.seqno then
      if 256 ≤ (heldOf s h.session).length then respond s m .destBusy else setHeldMsgs s h.session (heldOf s h.session ++ [(h.seqno, m)])
    else drainHeld 257 (applyPush s m) h.session

/-- Secure pushes whose erasure is done: applied and answered (R272 step 8). -/
def settleSecurePushes (s : State) : State :=
  s.halo.securePush.foldl (fun s p =>
    if secureDone s p.2 then
      let s := modHalo s (fun h => { h with securePush := h.securePush.filter (· != p) })
      drainHeld 257 (respond (setApplied s p.1.header.session p.1.header.seqno) p.1 .ok) p.1.header.session
    else s) s

/-- Spans of a namespace of which this node has lost a block that it once held (R274). -/
def lostSpans (s : State) (nsid : Nat) : List Nat :=
  (s.map.core.entries.filter (fun e => e.1 / 2 ^ 48 == nsid && e.2 == .lost && !s.halo.pushedLost.contains e.1)).foldl (fun l e => unionSpans l [spanOf (e.1 % 2 ^ 48)]) []

/-- The pulls that secondaries and a successor send for spans they have lost, one of a session at a time (R274). -/
def sendPulls (s : State) : State :=
  let s : State := match s.halo.migration with
    | none => s
    | some g =>
      if g.successor && g.st = .passing && !outstandingOf s 0x11 g.session then
        match g.created.findSome? (fun nsid => (lostSpans s nsid).head?.map (fun sp => (nsid, sp))) with
        | some x => sendPull s g.session g.peer x.1 x.2
        | none => s
      else s
  s.halo.mirrors.foldl (fun s m =>
    if m.secondary && m.st = .active && !outstandingOf s 0x11 m.session then
      match (lostSpans s m.localNsid).head? with
      | some sp => sendPull s m.session m.peer m.peerNsid sp
      | none => s
    else s) s

/-! ### Other requests received -/

/-- SPAN_PULL (R274): the named spans are DIRTY again; seals that the peer had refused may travel again (R275). -/
def pullReceived (s : State) (m : HaloMessage) : State :=
  let h := m.header
  let first := h.lba / 256
  let spans := (List.range h.count).map (· + first)
  let inside := fun nsid => (nsAt s nsid).elim false (fun n => h.count != 0 && 256 * (first + h.count) ≤ 256 * divCeil n.nsze 256)
  match mirrorAt s h.session, migAt s h.session with
  | some k, _ =>
    if k.secondary then respond s m .noSession
    else if h.nsid ≠ k.localNsid || !inside k.localNsid then respond s m .range
    else respond (modMirror s h.session (fun k => { k with dirty := unionSpans k.dirty spans, sealRefused := [] })) m .ok
  | none, some g =>
    if g.successor || g.st = .committed then respond s m .noSession
    else if !inside h.nsid then respond s m .range
    else respond (modMig s (fun g => { g with dirty := unionSpans g.dirty (spans.map (fun sp => (h.nsid, sp))), sealRefused := [] })) m .ok
  | none, none => respond s m .noSession

/-- A read step that stays on this node: step 6 does not serve a repair (R273). -/
def localRead (r : BlockRead) : BlockRead := { r with here := true }

/-- REPAIR_REQ (R273): answered by a primary or a migration's source, for spans the partner holds. -/
def repairReceived (s : State) (m : HaloMessage) (media : List BlockRead) : State :=
  let h := m.header
  let span := h.lba / 256
  let serves : Option Bool := match mirrorAt s h.session, migAt s h.session with
    | some k, _ => if k.secondary || k.localNsid != h.nsid then none else some (!k.dirty.contains span && !k.inFlight.contains span)
    | none, some g => if g.successor || g.st = .committed then none
        else some (!g.dirty.contains (h.nsid, span) && !g.inFlight.contains (h.nsid, span) && !g.todo.contains (h.nsid, span))
    | none, none => none
  match serves, nsAt s h.nsid with
  | none, _ => respond s m .noSession
  | some _, none => respond s m .range
  | some held, some n =>
    if h.count = 0 || 256 < h.count || span != (h.lba + h.count - 1) / 256 || n.nsze < h.lba + h.count then respond s m .range
    else if !held then respond s m .notHeld
    else if s.red.st = .held || !accepting s then respond s m .state
    else
      let (rs, s) := readBlocks s n h.nsid h.lba h.count (media.map localRead)
      if anyUnrecovered rs || anyGuard rs then respond s m .readFail
      else respondWith s m .ok (blockBody (mdSize n.lbaf) (okBlocks rs))

/-- A chain of custody whose records each point to the one before (R246), at the Seal Record's digest. -/
def custodyLinks (record : Bytes) : List Bytes → Bool
  | l => (l.zipIdx.all (fun p => slice p.1 0 4 == ascii "CSTD" && field p.1 6 1 == p.2 + 1
      && slice p.1 0x10 32 == digestBytes (Config.sm3 (if p.2 = 0 then record else l.getD (p.2 - 1) []))))

/-- Whether every signature of a transferred seal verifies (R245 step 1). -/
def xferVerifies (x : SealXfer) : Bool :=
  x.chainsOk && slice x.record 0 4 == ascii "SEAL" && custodyLinks x.record x.custody && x.keys.length == x.custody.length + 1
    && Config.sm2Verify (x.keys.getD 0 0) (slice x.record 0 0xA0) (signatureAt x.record 0xA0)
    && x.custody.zipIdx.all (fun p => Config.sm2Verify (x.keys.getD (p.2 + 1) 0) (slice p.1 0 0xC0) (signatureAt p.1 0xC0))

/-- A seal entered as RECEIVED (R245 step 3): its levels stored, a custody record signed, SEALED set on its spans, a Notice record. -/
def enterReceived (s : State) (m : HaloMessage) (n : Namespace) (x : SealXfer) (levels : List (List Digest)) (spans : Nat) : State :=
  let h := m.header
  let prev := (Config.sm3 (x.custody.getLastD x.record)).toNat
  let (rec, s) := makeCustody s (x.custody.length + 1) (field x.record 8 8) prev (n.piType != 0) (rootOf levels) h.nsid h.lba
  let id := s.sealing.nextId
  let loc := s.sealing.storeNext
  let treeBytes := 32 * (levels.map List.length).sum
  let y : Seal := { id := id, nsid := h.nsid, st := .received, slba := h.lba, spans := spans, levels := levels, record := x.record
                    custody := x.custody ++ [rec], treeLoc := loc, recordLoc := loc + treeBytes }
  let s := { s with sealing := { s.sealing with
    nextId := id + 1, storeNext := loc + treeBytes + 224 + 256 * y.custody.length, seals := s.sealing.seals ++ [y] } }
  let s := modMig (journalSeal (writeSeal s y) y true) (fun g => if g.session = h.session then { g with sealsReceived := g.sealsReceived + 1 } else g)
  respondWith (record s 0x0705 .notice (b8 id)) m .ok rec

/-- SEAL_XFER (R245, R275): only once every push before it has been applied (log entry 61, DEDUCED). -/
def sealReceived (s : State) (m : HaloMessage) (x : SealXfer) (media : List BlockRead) : State :=
  let h := m.header
  let spans := field x.record 0x20 8 / 256
  let sealId := field x.record 8 8
  match appliedOf s h.session, nsAt s h.nsid with
  | none, _ => respond s m .noSession
  | some _, none => respond s m .range
  | some a, some n =>
    if a < h.seqno then respond s m .noSession
    else if !sessionNs s h.session h.nsid || h.lba % 256 ≠ 0 || spans = 0 || n.nsze < h.lba + 256 * spans then respond s m .range
    else if isHeld s || !accepting s then respond s m .state
    else if rangeLocked s h.nsid h.lba (256 * spans) then respond s m .sealed_
    else if 32 ≤ x.custody.length then record (respond s m .sealLimit) 0x0705 .fault (b8 sealId)
    else
      let (rs, s) := readBlocks s n h.nsid h.lba (256 * spans) (media.map localRead)
      let bs := okBlocks rs
      let levels := sealLevels bs
      let good := !anyUnrecovered rs && !anyGuard rs && (firstPiFailure n (sealAsk n h.lba) bs).isNone && rootOf levels == recordRoot x.record
      if !xferVerifies x || !good then record (respond s m .sealMismatch) 0x0705 .critical (b8 sealId)
      else if sealStoreSize s < sealStoreUsed s + sealBytes levels + 256 * (x.custody.length + 1) || sealLimit ≤ s.sealing.seals.length then
        respond s m .sealLimit
      else enterReceived s m n x levels spans

/-! ### Migration at the successor (R276 to R280) -/

/-- The namespace entries of a MIGRATE_BEGIN body (R276). -/
def migrateEntries (b : Bytes) : List MigrateNs :=
  (List.range (b.length / 32)).map (fun i =>
    let e := slice b (32 * i) 32
    { nsid := field e 0 4, nsze := field e 8 8, lbaf := field e 16 1, piType := field e 17 1, streamPolicy := field e 18 1 })

/-- MIGRATE_BEGIN with KIND 0 (R276). -/
def beginReceived (s : State) (m : HaloMessage) : State :=
  let l := migrateEntries m.body
  let accept := setting s 0x07 13
  if accept = 0 || accept != ofLE (padTo 20 m.header.serial) || !s.nvme.namespaces.isEmpty || s.red.st != .normal || s.halo.migration.isSome
      || !accepting s || sanitizeRuns s then respond s m .state
  else if exportableNow s < 8 * gib * (l.map (fun e => segmentsOf e.nsze)).sum then respond s m .noCapacity
  else
    let s := l.foldl (fun s e =>
      setSetting (createNamespace s e.nsid { nsze := e.nsze, lbaf := e.lbaf, piType := e.piType, notReady := true }) 0x01 9 e.nsid e.streamPolicy) s
    let g : Migration := { session := m.header.session, successor := true, peer := m.src, peerSerial := m.header.serial, created := l.map (·.nsid) }
    respond (modHalo s (fun h => { h with migration := some g })) m .ok

/-- A namespace of an abandoned migration deleted with the seals it received. -/
def dropMigrated (s : State) (nsid : Nat) : State :=
  match nsAt s nsid with
  | none => s
  | some n =>
    let s := { s with sealing := { s.sealing with seals := s.sealing.seals.filter (fun x => x.nsid != nsid) }
                      map := { s.map with core := { s.map.core with sealed := s.map.core.sealed.filter (fun p => p.1 / 2 ^ 40 != nsid) } } }
    endDelete (beginDelete s nsid n) nsid

/-- MIGRATE_BEGIN with KIND 1 (R276). -/
def cancelReceived (s : State) (m : HaloMessage) : State :=
  match migAt s m.header.session with
  | none => respond s m .ok
  | some g =>
    if !g.successor then respond s m .noSession
    else if g.st = .committed then respond s m .state
    else respond (modHalo (g.created.foldl dropMigrated s) (fun h => { h with migration := none })) m .ok

/-- MIGRATE_CHECKPOINT (R278): the successor writes its migration record. -/
def checkpointReceived (s : State) (m : HaloMessage) : State :=
  let s := if (migAt s m.header.session).elim false (fun g => g.successor && g.st != .committed) then recordPosition s m else s
  match migAt s m.header.session with
  | none => respond s m .noSession
  | some g =>
    if !g.successor || g.st = .committed then respond s m .noSession
    else
      let b := m.body
      respond (modMig s (fun g => { g with pass := field b 0 4, posNsid := field b 4 4, posSpan := field b 8 8, acked := m.header.seqno })) m .ok

/-- MIGRATE_COMMIT (R279): INCOMPLETE while a push or a seal is missing; otherwise the namespaces become ready. -/
def commitReceived (s : State) (m : HaloMessage) (seals : Nat) : State :=
  match migAt s m.header.session with
  | none => respond s m .noSession
  | some g =>
    if !g.successor then respond s m .noSession
    else if g.st = .committed then respond s m .ok
    else if g.appliedSeqno < m.header.seqno || g.sealsReceived < seals then respond s m .incomplete
    else
      let s := g.created.foldl (fun s n => modNs s n (fun x => { x with notReady := false })) s
      sessionRecord (respond (modMig s (fun g => { g with st := .committed })) m .ok) .notice g.session

/-! ### Heartbeats (R268, R270, R278, R281) -/

/-- Whether a peer's descriptor gives a mirror's namespace as it is here (R270). -/
def descAgrees (s : State) (m : Mirror) (d : SessionDesc) : Bool :=
  let n := (nsAt s m.localNsid).getD {}
  d.nsze == n.nsze && d.lbaf == n.lbaf && d.piType == n.piType

/-- Whether a peer's descriptor matches a mirror (R270): the opposite ROLE and the same namespace. -/
def descMatches (s : State) (m : Mirror) (d : SessionDesc) : Bool := (d.role == 1) != m.secondary && descAgrees s m d

/-- The numbers of unanswered pushes settled by the peer's APPLIED_SEQNO (log entry 60, DEDUCED). -/
def settleSeq (m : Mirror) (applied : Nat) : Mirror :=
  { m with freeSeq := (m.freeSeq ++ m.unsureSeq).filter (applied < ·), unsureSeq := [] }

/-- A primary's numbering as its pushes resume (R278): at the partner's APPLIED_SEQNO + 1. -/
def resumeSeq (m : Mirror) (applied : Nat) : Mirror :=
  { m with freeSeq := [], unsureSeq := [], nextSeqno := applied + 1, resumeDue := false }

/-- Spans of a namespace that are not DEALLOCATED (R270, R277): those with an entry or a cache line. -/
def liveSpans (s : State) (nsid : Nat) : List Nat :=
  let fromMap := (s.map.core.entries.filter (fun e => e.1 / 2 ^ 48 == nsid)).foldl (fun l e => unionSpans l [spanOf (e.1 % 2 ^ 48)]) []
  (s.map.lines.filter (fun l => l.nsid == nsid)).foldl (fun a l => unionSpans a [spanOf l.lba]) fromMap

/-- A span entered in rising order of namespace and span. -/
def insertSpan (x : Nat × Nat) : List (Nat × Nat) → List (Nat × Nat)
  | [] => [x]
  | y :: t => if x.1 < y.1 || (x.1 == y.1 && x.2 ≤ y.2) then x :: y :: t else y :: insertSpan x t

/-- Every span that the first pass has to push (R277), in rising order. -/
def firstPass (s : State) : List (Nat × Nat) :=
  (s.nvme.namespaces.flatMap (fun p => (liveSpans s p.1).map (fun i => (p.1, i)))).foldr insertSpan []

/-- A mirror that hears its peer (R270, R281). -/
def mirrorHears (s : State) (m : Mirror) (serial : Bytes) (descs : List SessionDesc) : State :=
  if m.peerSerial ≠ [] && m.peerSerial ≠ serial then
    recordIf (!m.peerReachable) (modMirror s m.session (fun m => { m with peerReachable := true, peerLists := false })) 0x0803 .fault (b4 m.session)
  else
    let d? := descs.find? (fun d => d.session == m.session && d.type == 1)
    let s := modMirror s m.session (fun m => { m with peerReachable := true, peerSerial := serial, peerLists := d?.isSome })
    match d? with
    | none => s
    | some d =>
      if !descMatches s m d then recordIf (m.st == .configured && !descAgrees s m d) s 0x0803 .fault (b4 m.session)
      else
        match m.st with
        | .active => modMirror s m.session (fun m => if m.resumeDue then resumeSeq m d.appliedSeqno else settleSeq m d.appliedSeqno)
        | .configured =>
          let first := !m.secondary && !m.activatedOnce
          let s := modMirror s m.session (fun k => { k with
            st := .active, activatedOnce := true, resumeDue := false, dirty := if first then unionSpans k.dirty (liveSpans s m.localNsid) else k.dirty })
          sessionRecord s .notice m.session
        | .suspended =>
          let s := modMirror s m.session (fun k => if k.secondary then { k with st := .active }
            else { resumeSeq k d.appliedSeqno with st := .active, sealRefused := [] })
          sessionRecord s .notice m.session

/-- The migration that hears its peer (R278, R280, R281). -/
def migHears (s : State) (g : Migration) (serial : Bytes) (descs : List SessionDesc) : State :=
  if g.peerSerial ≠ [] && g.peerSerial ≠ serial then recordIf (g.st == .interrupted) s 0x0803 .fault (b4 g.session)
  else
    let s := modMig s (fun g => { g with peerSerial := serial })
    match descs.find? (fun d => d.session == g.session && d.type == 2) with
    | none => s
    | some d =>
      if g.successor then s
      else if g.st = .interrupted || g.resumeDue then
        let rest := if g.pass = 0 then (firstPass s).filter (fun x => g.recNsid < x.1 || (x.1 = g.recNsid && g.recSpan < x.2)) else []
        let s := modMig s (fun g => { g with
          st := if g.st = .interrupted then .passing else g.st, nextSeqno := d.appliedSeqno + 1, freeSeq := [], unsureSeq := [], resumeDue := false
          todo := if g.resumeDue then unionSpans rest g.dirty else unionSpans g.todo g.dirty })
        recordIf (g.st == .interrupted) s 0x0803 .notice (b4 g.session)
      else modMig s (fun g => { g with freeSeq := (g.freeSeq ++ g.unsureSeq).filter (d.appliedSeqno < ·), unsureSeq := [] })

/-- A HEARTBEAT received from a node (R268, R270). -/
def heartbeatReceived (s : State) (node : Nat) (serial : Bytes) (descs : List SessionDesc) : State :=
  let s := s.halo.mirrors.foldl (fun s m => if m.peer = node then mirrorHears s m serial descs else s) s
  match s.halo.migration with
  | none => s
  | some g => if g.peer = node then migHears s g serial descs else s

/-- The HEARTBEAT of every 100 ms to each session's peer, and the session work that has waited for a moment of its own: secure pushes
erased, lost spans pulled, seals sent (R268, R271, R274). -/
def heartbeatTimer (s : State) : State :=
  let peers := unionSpans (s.halo.mirrors.foldl (fun l m => unionSpans l [m.peer]) []) (s.halo.migration.toList.map (·.peer))
  let s := peers.foldl (fun s p =>
    let l := (s.halo.mirrors.filter (fun m => m.peer == p)).map (mirrorDesc s) ++ (s.halo.migration.toList.filter (fun g => g.peer == p)).map migDesc
    sendMessage s (ownMessage s { opcode := 0x01 } p (l.flatMap descBytes))) s
  sendReadySeals (sendPulls (settleSecurePushes s))

/-- A peer silent for PEER_TIMEOUT (R270, R280, R281); one recorded as asleep is not unreachable (R268). -/
def peerSilent (s : State) (node : Nat) : State :=
  if (asleepNodes s).contains node then s
  else
    let s := s.halo.mirrors.foldl (fun s m =>
      if m.peer = node then suspend (modMirror s m.session (fun m => { m with peerReachable := false, peerLists := false })) m.session else s) s
    match s.halo.migration with
    | none => s
    | some g =>
      if g.peer ≠ node || g.successor then s
      else
        match g.st with
        | .passing => if g.beginWaiter.isSome then s else sessionRecord (modMig (recallMig s) (fun g => { g with st := .interrupted })) .notice g.session
        | .final => recallMig s
        | .committing => if g.criticalWritten then s else sessionRecord (modMig s (fun g => { g with criticalWritten := true })) .critical g.session
        | _ => s

/-! ### Pushing (R271, R277 to R279) -/

/-- The least of a list of spans. -/
def leastSpan (l : List Nat) : Option Nat :=
  match l with
  | [] => none
  | x :: t => some (t.foldl min x)

/-- A span of an active mirror pushed (R271, R283): an asynchronous mirror takes them in ascending order, and leaves those answered
PI_FAIL twice until the others are done; a sleeping secondary is woken first. -/
def mirrorPush (s : State) (session span : Nat) (media : List BlockRead) : State :=
  match mirrorAt s session with
  | none => s
  | some m =>
    if m.secondary || m.st ≠ .active || m.resumeDue || !m.dirty.contains span then s
    else if (asleepNodes s).contains m.peer then (if wakingNode s m.peer then s else sendWake s m.peer none)
    else
      let rest := m.dirty.filter (fun x => !m.piSkipped.contains x)
      if m.synchronous || leastSpan rest = some span then pushMirror s m span media
      else if rest.isEmpty then pushMirror (modMirror s session (fun m => { m with piSkipped := [] })) { m with piSkipped := [] } span media
      else s

/-- The next pass of a migration, or its final phase (R277, R279). -/
def endMigPass (s : State) (g : Migration) : State :=
  let s := sendCheckpoint s
  let sealsDone := s.sealing.seals.all (fun x => (x.st != .issued && x.st != .received) || g.sealsDone.contains x.id)
  if g.dirty.length * mib ≤ setting s 0x07 10 && sealsDone then modMig s (fun g => { g with st := .final })
  else modMig s (fun g => { g with pass := g.pass + 1, todo := g.dirty, sealRefused := [], piSkipped := [] })

/-- MIGRATE_COMMIT sent (R279). -/
def sendCommit (s : State) (g : Migration) : State :=
  request (modMig s (fun g => { g with st := .committing })) { opcode := 0x22, session := g.session, seqno := g.nextSeqno - 1 } g.peer []

/-- One piece of a migration's work at the source (R277 to R279): a span of the pass, the end of the pass, a span of the final phase,
or MIGRATE_COMMIT. -/
def migrationWork (s : State) (media : List BlockRead) : State :=
  match s.halo.migration with
  | none => s
  | some g =>
    if g.successor || g.beginWaiter.isSome || g.resumeDue then s
    else if (asleepNodes s).contains g.peer then (if wakingNode s g.peer then s else sendWake s g.peer none)
    else
      let busy := outstandingOf s 0x10 g.session || outstandingOf s 0x13 g.session
      match g.st with
      | .passing =>
        match g.todo.head? with
        | some x => pushMig s x.1 x.2 media
        | none =>
          let s := sendReadySeals s
          if busy || outstandingOf s 0x13 g.session || !g.inFlight.isEmpty then s else endMigPass s g
      | .final =>
        match g.dirty.head? with
        | some x => pushMig s x.1 x.2 media
        | none => if busy || !g.inFlight.isEmpty then s else sendCommit s g
      | _ => s

/-- The write-type commands that wait for a migration's commit end (R279 step 4). -/
def endWaitingWrites (s : State) : State :=
  let waiting := (List.range 128).flatMap (fun fn => (ctrlAt s fn).sqs.flatMap (fun p =>
    if p.1 = 0 then [] else (p.2.cmds.filter (fun f => f.done.isNone && !f.effect
      && ([0x01, 0x08, 0x81, 0x85].contains f.sqe.opc || (f.sqe.opc == 0x09 && f.sqe.cdw11 / 4 % 2 == 1)))).map
        (fun f => ({ fn := toFunc fn, sq := p.1, cid := f.sqe.cid } : CmdRef))))
  waiting.foldl (fun s c => endCmd (leaveLine s c) c writeProtected) s

/-- COMMIT_STALL_LIMIT reached (R279 steps 2 and 4). -/
def stallLimit (s : State) : State :=
  match s.halo.migration with
  | none => s
  | some g =>
    if g.successor then s
    else
      match g.st with
      | .final => sessionRecord (modMig s (fun g => { g with st := .passing, pass := g.pass + 1, todo := g.dirty, sealRefused := [], piSkipped := [] })) .notice g.session
      | .committing => endWaitingWrites s
      | _ => s

end Sys2Proof.Machine
end

