-- ==== Sys2Proof/Machine/VfOps.lean ====
section
/-! DEFINITION. The state blob of a VF, its save and what a restored blob must be (10_virtual_functions R353 to R356). -/
namespace Sys2Proof.Machine

/-! ### Building the blob (R355) -/

/-- The highest number below a next one that is not among some others. -/
def lastAcked : Nat → Nat → List Nat → Nat
  | 0, n, _ => n
  | fuel + 1, n, free => if free.contains n then lastAcked fuel (n - 1) free else n

/-- The primary mirror of a namespace. -/
def primaryMirror (s : State) (nsid : Nat) : Option Mirror := s.halo.mirrors.find? (fun m => m.localNsid == nsid && !m.secondary)

/-- Namespace entry of the blob. -/
def blobNs (s : State) (nsid : Nat) : Bytes :=
  match nsAt s nsid, primaryMirror s nsid with
  | some n, some m =>
    let free := m.freeSeq ++ m.unsureSeq
    b4 nsid ++ b4 m.session ++ b8 n.nsze ++ b8 (lastAcked free.length (m.nextSeqno - 1) free) ++ b1 n.lbaf ++ b1 n.piType ++ zeros 6
  | _, _ => zeros 32

/-- Queue entry of the blob: the admin queues, or the queues of an identifier. -/
def blobQueue (c : Ctrl) (q : Nat) : Bytes :=
  let sq := lookup c.sqs q
  let cq := lookup c.cqs q
  let ofS := fun (f : SubQueue → Nat) => sq.elim 0 f
  let ofC := fun (f : CplQueue → Nat) => cq.elim 0 f
  b2 (bitsOf [sq.isSome, cq.isSome, cq.elim false (·.ien), cq.elim false (·.phase)]) ++ b2 (ofS (·.cqid)) ++ b2 (ofC (·.iv)) ++ zeros 2
    ++ b8 (ofS (·.base)) ++ b8 (ofC (·.base)) ++ b4 (ofS (·.size)) ++ b4 (ofC (·.size)) ++ b4 (ofS (·.head)) ++ b4 (ofS (·.tail))
    ++ b4 (ofC (·.tail)) ++ b4 (ofC (·.head)) ++ zeros 16

/-- Controller state of the blob. -/
def blobCtrl (c : Ctrl) : Bytes :=
  let g := c.granted.getD (31, 31)
  b4 c.cc.toNat ++ b4 c.aqa.toNat ++ b8 c.asq.toNat ++ b8 c.acq.toNat ++ b2 g.1 ++ b2 g.2 ++ b4 c.arbitration ++ b4 c.intCoal ++ b4 c.aec
    ++ b8 ((List.range 64).map (fun v => if c.coalDisabled.contains v then 2 ^ v else 0)).sum ++ padTo 8 (c.aers.flatMap b2)
    ++ b8 (bitsOf [c.events.any (fun e => e.1 == 1), c.events.any (fun e => e.1 == 2)]) ++ b8 c.errorCount ++ zeros 56

/-- The MSI-X table of a VF: 64 entries of four dwords. -/
def blobMsix (f : PciFunc) : Bytes := (List.range 256).flatMap (fun i => b4 (readAt (if i % 4 = 3 then 1#32 else 0) f.msixTable i).toNat)

/-- The pending bits of a VF. -/
def blobPba (f : PciFunc) : Bytes := b8 ((List.range 64).map (fun v => if f.pba.contains v then 2 ^ v else 0)).sum

/-- What the blob's CRC covers: every byte but its own field. -/
def blobCrc (b : Bytes) : Nat := (crc32c (b.take 0x3C ++ b.drop 0x40)).toNat

/-- The state blob of a VF (R355), with the doorbells recorded while quiescing in its queues. -/
def stateBlob (s : State) (n : Nat) : Bytes :=
  let c := ctrlAt (replayDoorbells s n) n
  let ns := attachedNs s n
  let head := ascii "VFST" ++ b2 1 ++ b2 (bitsOf [c.cc &&& 1 == 1, c.cfs]) ++ b4 9536 ++ b2 n ++ b2 (cntlid n) ++ serialText s ++ b1 ns.length
    ++ b1 c.aers.length ++ zeros 2 ++ b8 s.time.calendar.toNat ++ padTo 8 (fwVersionNow s) ++ zeros 4
  let body := blobCtrl c ++ (List.range 33).flatMap (blobQueue c) ++ blobMsix (funcAt s n) ++ blobPba (funcAt s n) ++ zeros 56
    ++ padTo 2048 (ns.flatMap (blobNs s)) ++ padTo 4096 (c.errorLog.flatMap errorBytes)
  head ++ b4 (blobCrc (head ++ zeros 4 ++ body)) ++ body

/-! ### Saving (R353, R354) -/

/-- Whether a namespace is attached to a VF alone. -/
def aloneOn (s : State) (n nsid : Nat) : Bool := (nsAt s nsid).elim false (fun x => x.attached.all (· == n))

/-- Whether a namespace is the primary of an ACTIVE mirror. -/
def mirrorActive (s : State) (nsid : Nat) : Bool := (primaryMirror s nsid).elim false (fun m => m.st == .active)

/-- Whether every mirror of a VF's namespaces is in step (R269). -/
def vfInStep (s : State) (n : Nat) : Bool := (attachedNs s n).all (fun nsid => (primaryMirror s nsid).elim false (inStep s))

/-- A VF saved (R354): its namespaces are locked, a Notice record is written; the blob as it was built comes with it. -/
def saveVf (s : State) (n : Nat) : Bytes × State :=
  let blob := stateBlob s n
  let ns := attachedNs s n
  let s := modVf s n (fun v => { v with st := .saved, savedNs := ns, waiter := none })
  let s := { s with nvme := { s.nvme with
    namespaces := s.nvme.namespaces.map (fun p => if ns.contains p.1 then (p.1, { p.2 with locked := true }) else p) } }
  (blob, vfRecord s .notice n .saved 0)

/-- A VF_SAVE that waits completed once its mirrors are in step (R353). -/
def settleSave (s : State) (n : Nat) : State :=
  let v := vfAt s n
  if v.st = .quiesced && v.waiter.isSome && vfInStep s n then
    let (blob, s) := saveVf s n
    endWaiter s v.waiter .success 0 blob
  else s

/-- Every VF_SAVE that waits. -/
def settleSaves (s : State) : State := (List.range 127).foldl (fun s i => settleSave s (i + 1)) s

/-! ### Reading a blob (R355, R356) -/

/-- Queue entry q of a blob. -/
def blobQueueAt (b : Bytes) (q : Nat) : Bytes := slice b (0xC0 + 64 * q) 64

/-- Whether a queue entry's fields lie in their ranges: the fields of a queue that is not valid are zero. -/
def queueHolds (b : Bytes) (q : Nat) : Bool :=
  let e := blobQueueAt b q
  let flags := field e 0 2
  let sq := flags % 2 == 1
  let cq := flags / 2 % 2 == 1
  let size := fun o => field e o 4
  decide (flags < 16) && field e 6 2 == 0 && allZero (slice e 0x30 16)
    && (if sq then
          decide (2 ≤ size 0x18) && decide (size 0x18 ≤ 65536) && decide (field e 0x20 4 < size 0x18) && decide (field e 0x24 4 < size 0x18)
            && decide (field e 2 2 < 33) && field (blobQueueAt b (field e 2 2)) 0 2 / 2 % 2 == 1
        else field e 2 2 == 0 && field e 8 8 == 0 && size 0x18 == 0 && field e 0x20 4 == 0 && field e 0x24 4 == 0)
    && (if cq then
          decide (2 ≤ size 0x1C) && decide (size 0x1C ≤ 65536) && decide (field e 0x28 4 < size 0x1C) && decide (field e 0x2C 4 < size 0x1C)
            && decide (field e 4 2 < 64)
        else decide (flags < 4) && field e 4 2 == 0 && field e 0x10 8 == 0 && size 0x1C == 0 && field e 0x28 4 == 0 && field e 0x2C 4 == 0)

/-- Namespace entry i of a blob. -/
def blobNsAt (b : Bytes) (i : Nat) : Bytes := slice b (0xD40 + 32 * i) 32

/-- Namespace entries that a blob uses. -/
def blobNsList (b : Bytes) : List Bytes := (List.range (field b 0x24 1)).map (blobNsAt b)

/-- Whether a blob is valid (R356): its identification, its CRC, and every field in its range. -/
def blobHolds (b : Bytes) : Bool :=
  let k := slice b 0x40 128
  slice b 0 4 == ascii "VFST" && field b 4 2 == 1 && field b 8 4 == 9536 && field b 0x3C 4 == blobCrc b && decide (field b 6 2 < 4)
    && decide (1 ≤ field b 0xC 2) && decide (field b 0xC 2 ≤ 127) && decide (field b 0x24 1 ≤ 64) && decide (field b 0x25 1 ≤ 4)
    && field b 0x26 2 == 0 && decide (field b 0x28 8 < 2 ^ 48) && field b 0x38 4 == 0
    && decide (field k 0x18 2 < 32) && decide (field k 0x1A 2 < 32) && decide (field k 0x38 8 < 4) && allZero (slice k 0x48 56)
    && allZero (slice k (0x30 + 2 * field b 0x25 1) (8 - 2 * field b 0x25 1))
    && (List.range 33).all (queueHolds b) && allZero (slice b 0xD08 56)
    && (blobNsList b).all (fun e => decide (field e 0x18 1 ≤ 2) && decide (field e 0x19 1 ≤ 3) && allZero (slice e 0x1A 6))
    && allZero (slice b (0xD40 + 32 * field b 0x24 1) (2048 - 32 * field b 0x24 1))

/-- Whether a namespace entry's namespace exists here with its size, format and protection type. -/
def nsMatches (s : State) (e : Bytes) : Bool :=
  (nsAt s (field e 0 4)).elim false (fun n => n.nsze == field e 8 8 && n.lbaf == field e 0x18 1 && n.piType == field e 0x19 1)

/-- The secondary mirror that a namespace entry names, under the blob's SERIAL. -/
def entryMirror (s : State) (b e : Bytes) : Option Mirror :=
  s.halo.mirrors.find? (fun m => m.secondary && m.session == field e 4 4 && m.localNsid == field e 0 4 && padTo 20 m.peerSerial == slice b 0x10 20)

/-- Why a valid blob is refused (R356), in the order of its table. -/
def restoreRefusal (s : State) (b : Bytes) : Option MbxStatus :=
  let l := blobNsList b
  if !blobHolds b then some .blobInvalid
  else if !l.all (nsMatches s) then some .nsMismatch
  else if !l.all (fun e => (nsAt s (field e 0 4)).elim false (fun n => n.attached.isEmpty)) then some .nsShared
  else if !l.all (fun e => (entryMirror s b e).isSome) then some .nsMismatch
  else if !l.all (fun e => (entryMirror s b e).elim false (fun m => decide (field e 0x10 8 ≤ m.appliedSeqno))) then some .notInStep
  else none

/-- The submission queue of a blob's queue entry; the admin queue holds the outstanding Asynchronous Event Requests. -/
def loadedSq (aers : List Nat) (e : Bytes) (q : Nat) : SubQueue :=
  { base := field e 8 8, size := field e 0x18 4, cqid := field e 2 2, head := field e 0x20 4, tail := field e 0x24 4
    cmds := if q = 0 then aers.map (fun cid => { sqe := { opc := 0x0C, cid := cid } }) else [] }

/-- The completion queue of a blob's queue entry. -/
def loadedCq (e : Bytes) : CplQueue :=
  { base := field e 0x10 8, size := field e 0x1C 4, head := field e 0x2C 4, tail := field e 0x28 4, phase := field e 0 2 / 8 % 2 == 1
    iv := field e 4 2, ien := field e 0 2 / 4 % 2 == 1 }

/-- An Error Information entry read back. -/
def loadedError (e : Bytes) : ErrorEntry :=
  { count := field e 0 8, sq := field e 8 2, cid := field e 10 2, status := field e 12 2 / 2, lba := field e 16 8, nsid := field e 24 4 }

/-- The controller that a blob carries (R356 steps 3 and 4). -/
def loadedCtrl (b : Bytes) : Ctrl :=
  let k := slice b 0x40 128
  let aers := (List.range (field b 0x25 1)).map (fun i => field k (0x30 + 2 * i) 2)
  let at_ := fun q => blobQueueAt b q
  let has := fun (bit : Nat) => (List.range 33).filter (fun q => field (at_ q) 0 2 / bit % 2 == 1)
  let pending := field k 0x38 8
  { cc := BitVec.ofNat 32 (field k 0 4), rdy := field b 6 2 % 2 == 1, cfs := field b 6 2 / 2 == 1, aqa := BitVec.ofNat 32 (field k 4 4)
    asq := BitVec.ofNat 64 (field k 8 8), acq := BitVec.ofNat 64 (field k 0x10 8), sqs := (has 1).map (fun q => (q, loadedSq aers (at_ q) q))
    cqs := (has 2).map (fun q => (q, loadedCq (at_ q))), granted := some (field k 0x18 2, field k 0x1A 2), arbitration := field k 0x1C 4
    intCoal := field k 0x20 4, coalDisabled := (List.range 64).filter (fun v => (field k 0x28 8).testBit v), aec := field k 0x24 4, aers := aers
    events := (if pending % 2 = 1 then [(1, 0, 2)] else []) ++ (if 2 ≤ pending then [(2, 0, 4)] else [])
    errorLog := ((List.range 64).map (fun i => loadedError (slice b (0x1540 + 64 * i) 64))).filter (fun e => e.count != 0)
    errorCount := field k 0x40 8 }

/-- The MSI-X table and pending bits that a blob carries. -/
def loadMsix (f : PciFunc) (b : Bytes) : PciFunc :=
  { f with
    msixTable := (List.range 256).map (fun i => (i, BitVec.ofNat 32 (field b (0x900 + 4 * i) 4)))
    pba := (List.range 64).filter (fun v => (field b 0xD00 8).testBit v) }

end Sys2Proof.Machine
end

