-- ==== Sys2Proof/Machine/Halo.lean ====
section
/-! DEFINITION. The events of the Halo ring (07_halo_ring R252 to R285). -/
namespace Sys2Proof.Machine

/-! ### Ports and cells -/

/-- PORT_TRAINING_START (R256, R258): 10 ms after the pins rose. -/
def execPortTrainingStart (p : Port) (s : State) : Result :=
  .next (let x := portAt s (pIdx p)
         if x.st = .down && x.powered && s.halo.eng && ringId s ≠ 0 then retrain s (pIdx p) else s)

/-- PORT_TRAINING_DONE (R249, R256): at a rate that MAX_LANE_RATE and a step-down allow, on 8 lanes or one half. -/
def execPortTrainingDone (p : Port) (rate : Nat) (lanes : BitVec 8) (s : State) : Result :=
  .next (let i := pIdx p
         let x := portAt s i
         if x.st = .training && !x.retryWait && max (setting s 0x07 3) x.maxRate ≤ rate && rate ≤ 2 && (lanes = 0xFF || lanes = 0x0F || lanes = 0xF0) then
           setPort (modPort s i (fun x => { x with
             rate := rate, lanes := lanes, failures := 0, maxRate := 0, initSent := 1, lastSlot := 5, lastCell := .init (initNow s i) })) i .init
         else s)

/-- PORT_TRAINING_TIMEOUT (R256): a Notice record on every tenth failure in succession. -/
def execPortTrainingTimeout (p : Port) (s : State) : Result :=
  .next (let i := pIdx p
         let x := portAt s i
         if x.st = .training && !x.retryWait then
           recordIf ((x.failures + 1) % 10 == 0) (modPort s i (fun x => { x with failures := x.failures + 1, retryWait := true })) 0x0802 .notice
             (b1 i ++ b1 (nodeId s))
         else s)

/-- PORT_TRAINING_RETRY (R256). -/
def execPortTrainingRetry (p : Port) (s : State) : Result := .next (modPort s (pIdx p) (fun x => { x with retryWait := false }))

/-- INIT_CELL_TIMER (R252, R256). -/
def execInitCellTimer (p : Port) (s : State) : Result :=
  .next (modPort s (pIdx p) (fun x => if x.st = .init then
    { x with initSent := x.initSent + 1, lastSlot := 5, lastCell := .init (initNow s (pIdx p)) } else x))

/-- INIT_CELL_RECEIVE (R252, R256): an acceptable INIT brings the port UP with the neighbour's credits; another is refused. -/
def execInitCellReceive (p : Port) (cell : InitCell) (s : State) : Result :=
  .next (let i := pIdx p
         if (portAt s i).st ≠ .init then s
         else
           let s := modPort s i (fun x => { x with neighbour := cell.nodeId, neighbourSerial := cell.serial, nbValid := true })
           if cell.ringId = ringId s && cell.nodeId ≠ nodeId s && cell.protocol = 1 then
             setPort (modPort s i (fun x => { x with credits := cell.credits, refused := false, initSent := max 3 x.initSent })) i .up
           else
             let refused := (portAt s i).refused
             recordIf (!refused) (modPort s i (fun x => { x with refused := true })) 0x0802 .fault (b1 i ++ b1 cell.nodeId))

/-- DATA_CELL_RECEIVE (R252, R255, R263): a failing cell or one out of sequence is discarded, with one NAK for each run; eight failing
cells in succession are a loss of delineation. -/
def execDataCellReceive (p : Port) (cell : DataCell) (s : State) : Result :=
  .next (let i := pIdx p
         let x := portAt s i
         let discard := fun (x : HaloPort) => { x with nakPending := x.nakPending || !x.inDiscard, inDiscard := true }
         if x.st ≠ .up then s
         else if !cell.crcOk then
           let s := modPort s i (fun x => { discard x with crcErrors := min (x.crcErrors + 1) 65535, crcRun := x.crcRun + 1 })
           if 8 ≤ x.crcRun + 1 then retrain s i else s
         else if cell.seq ≠ x.rxSeq then modPort s i (fun x => { discard x with crcRun := 0 })
         else acceptCell (modPort s i (fun x => { x with crcRun := 0, rxSeq := x.rxSeq + 1, inDiscard := false })) i cell)

/-- CTRL_CELL_RECEIVE (R252, R255, R256): acknowledgement, credits, a replay where NAK is set, SLEEPING noted. -/
def execCtrlCellReceive (p : Port) (cell : CtrlCell) (s : State) : Result :=
  .next (let i := pIdx p
         if (portAt s i).st ≠ .up then s
         else
           let s := modPort s i (fun x =>
             let x := acknowledge x cell.ackSeq
             { x with credits := Vector.ofFn (n := 4) (fun v => x.credits[v] + (cell.credit[v] - x.returned[v]).toNat), returned := cell.credit
                      sleepingSeen := x.sleepingSeen || cell.sleeping, crcRun := 0 })
           if cell.nak then replayFrom s i else s)

/-- REPLAY_TIMER_EXPIRY (R255): 20 µs without an advance while cells are outstanding. -/
def execReplayTimerExpiry (p : Port) (s : State) : Result :=
  .next (if (portAt s (pIdx p)).st = .up && !(portAt s (pIdx p)).replay.isEmpty then replayFrom s (pIdx p) else s)

/-- LOSS_OF_SIGNAL (R256): after SLEEPING the neighbour is recorded as asleep, otherwise the port retrains. -/
def execLossOfSignal (p : Port) (s : State) : Result :=
  .next (let i := pIdx p
         let x := portAt s i
         if x.st ≠ .up then s
         else if x.sleepingSeen then
           let s := modPort s i (fun y => { freshLink y with neighbour := x.neighbour, nbValid := true })
           let s := modHalo s (fun h => if i = 0 then { h with sleepEast := unionSpans h.sleepEast [x.neighbour] }
             else { h with sleepWest := unionSpans h.sleepWest [x.neighbour] })
           setPort s i .asleep
         else retrain s i)

/-- LOSS_OF_DELINEATION (R252, R256). -/
def execLossOfDelineation (p : Port) (s : State) : Result :=
  .next (if (portAt s (pIdx p)).st = .up then retrain s (pIdx p) else s)

/-- FEC_ERROR_LIMIT (R256, R284): the codewords of one second are counted; more than 1,000 retrain at the next lower rate. -/
def execFecErrorLimit (p : Port) (codewords : Nat) (s : State) : Result :=
  .next (let i := pIdx p
         let x := portAt s i
         if x.st = .down then s
         else
           let s := modPort s i (fun x => { x with fecUncorr := min (x.fecUncorr + codewords) 0xFFFFFFFF })
           if x.st = .up && 1000 < codewords then
             record (retrain (modPort s i (fun x => { x with maxRate := min 2 (x.rate + 1) })) i) 0x0802 .notice (b1 i ++ b1 x.neighbour)
           else s)

/-- TRAINING_FRAMES_RECEIVED (R256, R283): the pattern stops, a node that was being woken is answered for. -/
def execTrainingFramesReceived (p : Port) (s : State) : Result :=
  .next (let i := pIdx p
         if (portAt s i).st = .asleep || (portAt s i).st = .waking then retrain (answerWake s i .ok) i else s)

/-- CELL_SLOT_TRANSMIT (R250, R254). -/
def execCellSlotTransmit (p : Port) (s : State) : Result :=
  .next (let i := pIdx p
         if (portAt s i).st = .up then fillSlot s i
         else modPort s i (fun x => if x.st = .init then { x with lastSlot := 0, lastCell := .idle } else x))

/-- CLEAR_COUNTERS of a port written (R284). -/
def clearPortCounters (s : State) (p : Nat) : State := modPort s p (fun x => { x with replays := 0, crcErrors := 0, fecUncorr := 0 })

/-- HAL_PORT_CLEAR_COUNTERS (R284). -/
def execHalPortClearCounters (p : Port) (s : State) : Result := .next (clearPortCounters s (pIdx p))

/-! ### Tokens and heartbeats -/

/-- TOKEN_RECEIVE (R260 to R262). -/
def execTokenReceive (p : Port) (token : Token) (s : State) : Result := .next (tokenReceived s (pIdx p) token)

/-- TOKEN_TIMEOUT (R260): a token not complete within 100 ms is abandoned and another started. -/
def execTokenTimeout (s : State) : Result := .next (if s.halo.ownToken.isSome then startToken s else s)

/-- HEARTBEAT_TIMER (R268). -/
def execHeartbeatTimer (s : State) : Result := .next (if accepting s && !isDeep s.pwr.sleep then heartbeatTimer s else s)

/-- HEARTBEAT_RECEIVE (R268, R270, R278). -/
def execHeartbeatReceive (node : Nat) (serial : Bytes) (descs : List SessionDesc) (s : State) : Result :=
  .next (settleSaves (heartbeatReceived s node serial descs))

/-- PEER_TIMEOUT_EXPIRY (R270, R280, R281). -/
def execPeerTimeoutExpiry (node : Nat) (s : State) : Result := .next (peerSilent s node)

/-! ### Requests received -/

/-- A request that needs media: in Dusk the node first returns to the operational state it left (R282). -/
def needsMedia (s : State) : State := if s.pwr.sleep = .dusk && s.pwr.phase = .steady then beginExit s else s

/-- SPAN_PUSH_RECEIVE (R272). -/
def execSpanPushReceive (msg : HaloMessage) (s : State) : Result := .next (onRequest s msg (fun s => pushReceived (needsMedia s) msg))

/-- SPAN_PULL_RECEIVE (R274). -/
def execSpanPullReceive (msg : HaloMessage) (s : State) : Result :=
  .next (onRequest s msg (fun s => if accepting s then pullReceived s msg else respond s msg .state))

/-- REPAIR_REQ_RECEIVE (R273). -/
def execRepairReqReceive (msg : HaloMessage) (media : List BlockRead) (s : State) : Result :=
  .next (onRequest s msg (fun s => repairReceived (needsMedia s) msg media))

/-- SEAL_XFER_RECEIVE (R245, R275). -/
def execSealXferReceive (msg : HaloMessage) (x : SealXfer) (media : List BlockRead) (s : State) : Result :=
  .next (onRequest s msg (fun s => sealReceived (needsMedia s) msg x media))

/-- MIGRATE_BEGIN_RECEIVE (R276). -/
def execMigrateBeginReceive (msg : HaloMessage) (s : State) : Result := .next (onRequest s msg (fun s => beginReceived s msg))

/-- MIGRATE_BEGIN_CANCEL_RECEIVE (R276). -/
def execMigrateBeginCancelReceive (msg : HaloMessage) (s : State) : Result := .next (onRequest s msg (fun s => cancelReceived s msg))

/-- MIGRATE_CHECKPOINT_RECEIVE (R278). -/
def execMigrateCheckpointReceive (msg : HaloMessage) (s : State) : Result := .next (onRequest s msg (fun s => checkpointReceived s msg))

/-- MIGRATE_COMMIT_RECEIVE (R279). -/
def execMigrateCommitReceive (msg : HaloMessage) (seals : Nat) (s : State) : Result :=
  .next (onRequest s msg (fun s => commitReceived s msg seals))

/-- WAKE_RECEIVE (R283): the last node awake on the path sends the pattern; a node that is awake itself answers OK. -/
def execWakeReceive (msg : HaloMessage) (s : State) : Result :=
  .next (onRequest s msg (fun s =>
    if msg.dst = nodeId s then respond s msg .ok
    else
      match (List.range 2).find? (fun i => ((portAt s i).st == .asleep || (portAt s i).st == .waking) && (portAt s i).neighbour == msg.dst) with
      | none => s
      | some i => setPort (modPort s i (fun p => { p with waking := p.waking ++ [(msg.src, msg.header.xid)] })) i .waking))

/-- WAKE_DETECT (R283, R302, R434): an edge wake event of the sleeping node. -/
def execWakeDetect (p : Port) (s : State) : Result :=
  .next (let src : WakeSource := if pIdx p = 0 then .haloE else .haloW
         if s.pwr.phase = .steady && wakeEffective s src s.pwr.sleep then signalPme (wake s src false) else wake s src false)

/-- WAKE_GIVEUP_EXPIRY (R283). -/
def execWakeGiveupExpiry (p : Port) (s : State) : Result :=
  .next (let i := pIdx p
         if (portAt s i).st = .waking then setPort (answerWake s i .state) i .asleep else s)

/-- UNKNOWN_OPCODE_RECEIVE (R265). -/
def execUnknownOpcodeReceive (msg : HaloMessage) (s : State) : Result :=
  .next (if haloOpcodes.contains msg.header.opcode then s else onRequest s msg (fun s => respond s msg .badOpcode))

/-! ### This node's own transactions -/

/-- A transaction outstanding. -/
def txnAt (s : State) (xid : Nat) : Option HaloTxn := s.halo.txns.find? (fun t => t.xid == xid)
/-- A transaction changed. -/
def modTxn (s : State) (xid : Nat) (f : HaloTxn → HaloTxn) : State :=
  modHalo s (fun h => { h with txns := h.txns.map (fun t => if t.xid == xid then f t else t) })

/-- HALO_RESPONSE_RECEIVE (R266, R267): DEST_BUSY sets a wait that doubles from 1 ms to 100 ms; anything else ends the transaction. -/
def execHaloResponseReceive (msg : HaloMessage) (s : State) : Result :=
  .next (let s := modHalo s (fun h => { h with inbox := h.inbox.erase msg })
         match txnAt s msg.header.xid with
         | none => s
         | some t =>
           if !msg.header.response || msg.header.opcode ≠ t.msg.header.opcode then s
           else if msg.header.status = 1 then
             modTxn s t.xid (fun t => { t with backoff := if t.backoff = 0 then 1 else min 100 (2 * t.backoff), waiting := false })
           else settleSaves (endTxn s t msg.header.status))

/-- HALO_REQUEST_TIMEOUT (R267): repeated once with RETRY by the path current now, then ended with PEER_UNREACHABLE. -/
def execHaloRequestTimeout (xid : Nat) (s : State) : Result :=
  .next (match txnAt s xid with
    | none => s
    | some t =>
      if !t.waiting then s
      else if t.repeated then endTxn s t 0x10
      else
        let m : HaloMessage := { t.msg with header := { t.msg.header with retry := true } }
        sendMessage (modTxn s xid (fun t => { t with repeated := true })) m)

/-- DEST_BUSY_RETRY (R267). -/
def execDestBusyRetry (xid : Nat) (s : State) : Result :=
  .next (match txnAt s xid with
    | none => s
    | some t => if t.backoff = 0 || t.waiting then s else sendMessage (modTxn s xid (fun t => { t with waiting := true })) t.msg)

/-- MIRROR_PUSH (R269, R271). -/
def execMirrorPush (session span : Nat) (media : List BlockRead) (s : State) : Result :=
  .next (if workRuns s then mirrorPush s session span media else s)

/-- MIRROR_TIMEOUT_EXPIRY (R270): a synchronous push has waited MIRROR_TIMEOUT. -/
def execMirrorTimeoutExpiry (session : Nat) (s : State) : Result :=
  .next (match mirrorAt s session with
    | none => s
    | some m => if m.synchronous && !m.secondary && (!m.inFlight.isEmpty || !m.dirty.isEmpty) then suspend s session else s)

/-- MIGRATION_PASS (R277 to R279). -/
def execMigrationPass (media : List BlockRead) (s : State) : Result := .next (if workRuns s then migrationWork s media else s)

/-- COMMIT_STALL_LIMIT_EXPIRY (R279). -/
def execCommitStallLimitExpiry (s : State) : Result := .next (stallLimit s)

/-- MIGRATE_COMMIT_REPEAT (R279): while COMMITTING and unanswered. -/
def execMigrateCommitRepeat (s : State) : Result :=
  .next (match s.halo.migration with
    | none => s
    | some g => if g.st = .committing && !g.successor && !outstandingOf s 0x22 g.session then sendCommit s g else s)

end Sys2Proof.Machine
end

