-- ==== Sys2Proof/Machine/MbxArray.lean ====
section
/-! DEFINITION. The Redundancy and Retention families of the mailboxes (05_carrier_redundancy R202, R203, R205, R209 to R211;
03_retention_starlight_and_recharge R126 to R129). -/
namespace Sys2Proof.Machine

/-- A percentage of work done, rounded down; where there is no work the spec states none: a free value within its range (log entry 1, DESIGN CHOICE). -/
def percentOf (free done total : Nat) : Nat :=
  if total = 0 then (Config.freeByte free).toNat % 101 else min 100 (100 * done / total)

/-! ### ARRAY_STATUS (R210) -/

/-- RESYNC_PERCENT: the groups that the running resynchronisation has read. -/
def resyncPercent (s : State) (free : Nat) : Nat :=
  let all := if s.red.resyncRunning then allGroups s.map.core else []
  percentOf free (all.filter (groupRead s)).length all.length

/-- REBUILD_PERCENT: the bands that the running rebuild no longer has to take. -/
def rebuildPercent (s : State) (free : Nat) : Nat :=
  let all := if s.red.rebuildRunning then (s.map.core.bands.filter (fun p => p.2.st != .eraseList)).length else 0
  percentOf free (all - (rebuildBands s).length) all

/-- RESHAPE_PERCENT: the bands that the running reshape no longer has to move. -/
def reshapePercent (s : State) (free : Nat) : Nat :=
  match s.red.reshape with
  | none => percentOf free 0 0
  | some r =>
    let all := s.map.core.bands.filter (fun p => p.2.stream != .emergency)
    percentOf free (all.countP (fun p => !needsReshape r p.2)) all.length

/-- Exceptions of a kind over all bands (R194). -/
def exceptionsOf (s : State) (kind : Nat) : Nat := (s.map.core.bands.map (fun p => p.2.exceptions.countP (fun e => e.kind == kind))).sum

/-- The header of ARRAY_STATUS (R210). -/
def arrayHeader (s : State) (free : Nat) : Bytes :=
  let r := s.red
  b2 1 ++ b1 r.st.code ++ b1 (bitsOf [r.resyncRunning, r.rebuildRunning, r.rebuildDeferred, r.reshape.isSome])
    ++ b1 (r.failedSlot.getD 0xFF) ++ b1 (if isHeld s then r.heldCause else 0) ++ b1 (resyncPercent s free)
    ++ b1 (rebuildPercent s (free + 1)) ++ b1 (reshapePercent s (free + 2)) ++ zeros 3 ++ b4 r.lostStripes.length
    ++ b4 (exceptionsOf s 1) ++ b4 (exceptionsOf s 2) ++ b4 (spareFree s) ++ zeros 36

/-- A slot entry of ARRAY_STATUS (R210). -/
def slotEntry (s : State) (slot : Nat) : Bytes :=
  let present := (carrierAt s slot).lomril.elim [] (·.serial)
  let role := if roleOf s slot = .empty && (carrierAt s slot).present then SlotRole.nonMember else roleOf s slot
  let serial := if s.red.st = .none || (serialOf s slot).isEmpty then present else serialOf s slot
  let hosted := (s.map.core.bands.map (fun p => p.2.substs.countP (fun x => x.host == slot && x.slot != slot))).sum
  b1 slot ++ b1 role.code ++ b1 (failedLuns s slot) ++ zeros 1 ++ padTo 16 serial ++ b4 hosted ++ zeros 8

/-- ARRAY_STATUS (R210). -/
def execArrayStatus (fn : Func) (m : Fin 16) (s : State) : Result :=
  .next (runMbx fn m 0x0401 (size 0) (fun x _ s =>
    let (n, s) := drawNat s
    mbxOk x (arrayHeader s n ++ (List.range 16).flatMap (slotEntry s)) 0 s) s)

/-- A lost-stripe list entry (R202). -/
def lostStripeEntry (l : LostStripe) : Bytes :=
  b4 l.band ++ b4 l.stripe ++ b2 l.lostSlots.toNat ++ b1 l.flags ++ zeros 1 ++ b4 l.blocks

/-- LOST_STRIPES (R202, R210): up to 4,096 entries from the cursor. -/
def execLostStripes (fn : Func) (m : Fin 16) (s : State) : Result :=
  .next (runMbx fn m 0x0402 (size 4) (fun x r s =>
    let l := (s.red.lostStripes.drop (field r 0 4)).take 4096
    mbxOk x (l.flatMap lostStripeEntry) l.length s) s)

/-! ### Held recovery (R202, R203) -/

/-- Whether a unit of a stripe is lost as far as its carrier goes: it cannot be read where it lies, and inner XOR does not yield it (R202). -/
def unitMissing (s : State) (band : Nat) (b : Band) (stripe d : Nat) : Bool :=
  let slot := (place (bpc s.red.geometry) band stripe d).1
  (readableUnit s band b stripe slot).isNone && (innerUnit s band b stripe slot).isNone

/-- The lost-stripe entry of a stripe, where it is lost (R202): more units fail than its one parity restores, and some of them hold
referenced blocks that peer repair has not supplied. `findings` answers for units that do not decode and that inner XOR does not
yield, and whether peer repair supplied their blocks. -/
def lostStripeOf (s : State) (findings : List (Nat × ResyncFinding)) (band : Nat) (b : Band) (stripe : Nat) : Option LostStripe :=
  let f := ((findings.find? (fun f => f.1 == band && f.2.stripe == stripe)).map (·.2)).getD { recovered := false }
  let slotOf := fun d => (place (bpc s.red.geometry) band stripe d).1
  let units := (List.range 16).filter (fun d => unitMissing s band b stripe d || f.bad.contains (slotOf d))
  let slots := (units.map slotOf).filter (· < 16)
  let blocks := slots.flatMap (unitBlocks s.map.core band stripe)
  let mirrored := blocks.any (fun p => s.halo.mirrors.any (fun m => m.localNsid == p.1))
  if units.length ≤ 1 || blocks.isEmpty || (mirrored && f.recovered) then none
  else some { band := band, stripe := stripe, lostSlots := slots.foldl (fun v n => v ||| (1#16 <<< n)) 0
              flags := bitsOf [mirrored, b.summaryLost], blocks := blocks.length }

/-- The stripes of a band that hold referenced blocks. -/
def referencedStripes (s : State) (band : Nat) : List Nat := ((bandBlocks s.map.core band).map (fun p => p.2.2 / 240)).eraseDups

/-- The lost-stripe list (R202). -/
def lostStripeList (s : State) (findings : List (Nat × ResyncFinding)) : List LostStripe :=
  (s.map.core.bands.filter (fun p => p.2.stream != .emergency)).flatMap (fun p =>
    (referencedStripes s p.1).filterMap (lostStripeOf s findings p.1 p.2))

/-- HELD_RECOVER with MODE 1 (R202): from Held, the lost-stripe list is built and the namespaces come up read-only. -/
def execHeldRecoverReadOnly (fn : Func) (m : Fin 16) (findings : List (Nat × ResyncFinding)) (s : State) : Result :=
  .next (match begunCommand s (boxKey fn m) 0x0403 with
    | none => s
    | some e =>
      if slice e.request 256 1 = [2#8] then s
      else runMbx fn m 0x0403 (size 1) (fun x r s =>
        if field r 0 1 ≠ 1 then mbxBad x 0 s
        else if s.red.st ≠ .held then mbxFail x .arrayState 0 s
        else mbxDone x { s with red := { s.red with st := .heldReadOnly, lostStripes := lostStripeList s findings } }) s)

/-- Whether a slot's member allows resumption (R203): it had failed before, is still in service, or has come back READY without a
Media Direct change. -/
def slotResumes (s : State) (slot : Nat) : Bool :=
  let c := carrierAt s slot
  s.red.failedBeforeHeld == some slot || [SlotRole.empty, .failed, .vacated, .nonMember].contains (roleOf s slot)
    || (c.st == .inService && roleOf s slot != .outOfService)
    || (c.st == .ready && c.lomril.elim false (fun l => l.serial == serialOf s slot) && s.red.returned.contains slot && !c.mdTouched)

/-- The array resumed (R203, R188, R208): members that have come back enter service, the state before Held is back with its activities,
a full resynchronisation runs, and carriers that waited are offered again. -/
def resumeArray (s : State) : State :=
  let back := s.red.returned.filter (fun c => roleOf s c != .outOfService)
  let again := s.red.returned.filter (fun c => roleOf s c == .outOfService)
  let rebuilding := s.red.before == .degraded && s.red.failedSlot.elim false (fun c => roleOf s c == .failed)
  let s := { s with
    red := { s.red with st := s.red.before, heldCause := 0, failedBeforeHeld := none, returned := [], lostStripes := []
                        rebuildRunning := rebuilding }
    ret := { s.ret with car := s.ret.car.map (fun c => { c with scanning := c.dawnPending && c.powerUpSweepDone }) } }
  let s := back.foldl (fun s c => offerRecord (enterService s c) c 1) s
  let s := { s with
    red := { s.red with resyncRunning := true, resyncFirst := [], resyncRead := [], resyncPos := (0, 0), resyncSaved := none }
    map := { s.map with core := bandsMap s.map.core (fun _ b => { b with resyncDone := false, resyncGroup := 0 }) } }
  let s := resyncNotice s 2
  let s := if (nextResync s).isNone then resyncNotice { s with red := { s.red with resyncRunning := false } } 2 else s
  again.foldl offerCarrier (offerWaiting s)

/-- HELD_RECOVER with MODE 2 (R203): resumption, where every member that must be there is. -/
def execHeldRecoverResume (fn : Func) (m : Fin 16) (s : State) : Result :=
  .next (match begunCommand s (boxKey fn m) 0x0403 with
    | none => s
    | some e =>
      if slice e.request 256 1 ≠ [2#8] then s
      else runMbx fn m 0x0403 (size 1) (fun x _ s =>
        if !isHeld s || !(List.range 16).all (slotResumes s) then mbxFail x .arrayState 0 s
        else mbxDone x (resumeArray s)) s)

/-! ### Retirement and copyback (R204, R205, R209) -/

/-- Evacuation of a member begins (R204, R205). -/
def startEvacuation (s : State) (slot : Nat) : State :=
  let s := record s 0x0602 .notice (b1 3 ++ b1 slot)
  { s with
    red := { setRole s.red slot .retiring with
      st := .evacuating, reshape := some { kind := 1, slot := slot, serial := serialOf s slot, startHours := opHours s } }
    map := { s.map with core := bandsMap s.map.core (fun _ b => { b with reshaped := false }) } }

/-- RETIRE (R204, R209): only while the array is NORMAL. -/
def execRetire (fn : Func) (m : Fin 16) (s : State) : Result :=
  .next (runMbx fn m 0x0404 (size 1) (fun x r s =>
    let c := field r 0 1
    if 16 ≤ c then mbxBad x 0 s
    else if s.red.st ≠ .normal || s.red.reshape.isSome || roleOf s c ≠ .member then mbxFail x .arrayState 0 s
    else mbxDone x (startEvacuation s c)) s)

/-- COPYBACK (R204, R205, R211): onto a replacement that waits because AUTO_COPYBACK is 0. -/
def execCopyback (fn : Func) (m : Fin 16) (s : State) : Result :=
  .next (runMbx fn m 0x0405 (size 1) (fun x r s =>
    let c := field r 0 1
    if 16 ≤ c then mbxBad x 0 s
    else if s.red.st ≠ .spared || s.red.reshape.isSome || roleOf s c ≠ .replacement || setting s 0x04 9 ≠ 0 then mbxFail x .arrayState 0 s
    else mbxDone x (startCopyback s c false)) s)

/-- REDUNDANCY_GET_SETTING (R211, R372). -/
def execRedundancyGetSetting (fn : Func) (m : Fin 16) (s : State) : Result := .next (runMbx fn m 0x04F0 (size 8) (getSetting 0x04) s)

/-- REDUNDANCY_SET_SETTING (R211, R372): it takes effect at the next decision that uses it. -/
def execRedundancySetSetting (fn : Func) (m : Fin 16) (s : State) : Result :=
  .next (runMbx fn m 0x04F1 (size 40) (putSetting 0x04 (fun _ s => s)) s)

/-! ### The Starlight report (R126, R129) -/

/-- DARK_REMAINING as the report gives it: without a programmed block nothing bounds it and the spec states no value: a free one. -/
def darkField (s : State) (free : Nat) (carriers : List Nat) : Bytes :=
  match (carriers.filter (fun c => !(carrierBlocks s c).isEmpty)).map (darkRemaining s) with
  | [] => (List.range 4).map (fun i => Config.freeByte (free + i))
  | x :: t => b4 (t.foldl min x)

/-- The bands of a preparation that still wait for their pass or their relocation. -/
def prepareLeft (s : State) : List Nat := s.ret.prepareBands.filter (fun n => (bandAt s.map.core n).elim false (fun b => b.retQueued != 0))

/-- PREPARE_STATE (R127, R129). -/
def prepareNow (s : State) : Nat :=
  if s.ret.prepareState ≠ 1 then s.ret.prepareState
  else if !(prepareLeft s).isEmpty then 1 else if s.ret.prepareShort then 3 else 2

/-- DAWN_STATE (R129). -/
def dawnState (s : State) : Nat :=
  let l := s.ret.car.toList
  if l.any (·.scanning) then 2 else if l.any (·.dawnPending) then 1 else if l.any (·.scanDone) then 3 else 0

/-- The header of the Starlight report (R129). -/
def starlightHeader (s : State) (free : Nat) : Bytes :=
  let inService := (List.range 16).filter (fun c => (carrierAt s c).st == .inService)
  let waiting := (((List.range 16).filter (fun c => (starAt s c).scanning)).map (fun c => (dawnBlocks s c).length)).sum
  let queued := s.map.core.bands.countP (fun p => p.2.retQueued != 0)
  b2 1 ++ b2 16 ++ darkField s free inService ++ b1 (dawnState s)
    ++ b1 (percentOf (free + 4) (s.ret.dawnTotal - waiting) s.ret.dawnTotal) ++ b1 (prepareNow s)
    ++ b1 (percentOf (free + 5) (s.ret.prepareBands.length - (prepareLeft s).length) s.ret.prepareBands.length)
    ++ b4 s.ret.prepareTarget ++ b4 ((s.ret.car.toList.map (·.darkAccrual)).foldl max 0) ++ b8 s.time.calendar.toNat ++ b4 (opHours s)
    ++ b4 queued ++ b4 s.ret.passesDone ++ b4 s.ret.relocationsDone ++ zeros 20

/-- A carrier entry of the Starlight report (R129): zero but for CARRIER where the carrier is absent. -/
def starlightEntry (s : State) (free c : Nat) : Bytes :=
  match if (carrierAt s c).present then (carrierAt s c).lomril else none with
  | none => b1 c ++ zeros 63
  | some l =>
    let x := starAt s c
    let keys := carrierBlocks s c
    let ofClass := fun (p : Nat → Bool) => b4 (keys.countP (fun k => p (blockAt s k).margin))
    let risks := (s.map.core.bands.filter (fun p => p.2.blocks.any (fun k => carrierOf (channelOfKey k) == c))).map (fun p => bandRisk s p.2)
    b1 c ++ b1 (bitsOf [(carrierAt s c).st == .inService, x.dawnPending, x.fallback, x.disagreement, l.caps % 2 == 1]) ++ b1 x.usableGens
      ++ b1 (x.youngest.getD 0xFF) ++ b4 x.tc.toNat ++ b4 x.uncertainty ++ b4 x.darkAccrual ++ darkField s (free + 8 + 4 * c) [c]
      ++ b4 (risks.foldl max 0) ++ b4 x.lastSweepHours ++ ofClass (· == 0) ++ ofClass (fun m => m == 1 || m == 3) ++ ofClass (· == 2)
      ++ b4 x.recharged ++ b4 x.relocated ++ zeros 16

/-- The histogram of a carrier (R129). -/
def starlightBins (s : State) (c : Nat) : Bytes :=
  let bins := (carrierBlocks s c).map (fun k => min 10 (blockRisk s k / 100))
  (List.range 16).flatMap (fun i => b4 (bins.count i))

/-- STARLIGHT_REPORT (R129). -/
def execStarlightReport (fn : Func) (m : Fin 16) (s : State) : Result :=
  .next (runMbx fn m 0x0501 (size 0) (fun x _ s =>
    let (n, s) := drawNat s
    mbxOk x (starlightHeader s n ++ (List.range 16).flatMap (starlightEntry s n) ++ (List.range 16).flatMap (starlightBins s)) 0 s) s)

/-! ### Preparation for dark storage (R127) -/

/-- A band taken into the preparation (R127): queued with its risk treated as 0.70, for a Recharge pass if it qualifies and a fresh stamp
reaches the target, else for relocation; a pass queued before that cannot reach the target gives way to relocation. -/
def prepareBand (target : Nat) (s : State) (n : Nat) : State :=
  match bandAt s.map.core n with
  | none => s
  | some b =>
    if !isEvaluated b || !darkShort s target b then s
    else
      let stuck := (bandKeys s b).any (fun k => freshShort s target (budgetOf s k))
      let choice := if bandQualifies s b && !stuck then 1 else 2
      let s := { s with ret := { s.ret with prepareBands := s.ret.prepareBands ++ [n]
                                            prepareStuck := s.ret.prepareStuck ++ (if stuck then [n] else []) } }
      if b.retQueued = 0 || (b.retQueued = 1 && stuck) then queueBand s n choice 700 else s

/-- A running preparation stopped (R127): the bands it queued and that no pass has begun on are queued no more. -/
def stopPrepare (s : State) : State :=
  let s := (prepareLeft s).foldl (fun s n =>
    if (bandAt s.map.core n).elim true (fun b => b.retHead || b.passRunning) then s
    else setCore (markQueued s n 0) (bandMod s.map.core n (fun b => { b with retQueued := 0 }))) s
  { s with ret := { s.ret with prepareState := 0, prepareTarget := 0, prepareBands := [], prepareShort := false, prepareStuck := [], prepareInto := [] } }

/-- A preparation begun for a target (R127). -/
def beginPrepare (s : State) (target : Nat) : State :=
  let s := { s with ret := { s.ret with prepareState := 1, prepareTarget := target, prepareBands := [], prepareShort := false
                                        prepareStuck := [], prepareInto := [] } }
  (s.map.core.bands.map (·.1)).foldl (prepareBand target) s

/-- DARK_PREPARE (R127). -/
def execDarkPrepare (fn : Func) (m : Fin 16) (s : State) : Result :=
  .next (runMbx fn m 0x0502 (size 4) (fun x r s =>
    if field r 0 4 = 0 then mbxDone x (if prepareNow s = 1 then stopPrepare s else s)
    else if isHeld s then mbxFail x .arrayState 0 s
    else mbxDone x (beginPrepare s (field r 0 4))) s)

/-- RETENTION_GET_SETTING (R128, R372). -/
def execRetentionGetSetting (fn : Func) (m : Fin 16) (s : State) : Result := .next (runMbx fn m 0x05F0 (size 8) (getSetting 0x05) s)

/-- RETENTION_SET_SETTING (R128, R372): it takes effect at the next evaluation. -/
def execRetentionSetSetting (fn : Func) (m : Fin 16) (s : State) : Result :=
  .next (runMbx fn m 0x05F1 (size 40) (putSetting 0x05 (fun _ s => s)) s)

end Sys2Proof.Machine
end

