-- ==== Sys2Proof/Machine/MbxHalo.lean ====
section
/-! DEFINITION. The Seal and Halo families of the mailboxes (06_integrity_and_seals R235 to R247; 07_halo_ring R261 to R285). -/
namespace Sys2Proof.Machine

/-! ### Seals (R235 to R237, R240, R247) -/

/-- Whether a function sees a seal: a VF sees only those of namespaces attached to it (R371). -/
def sealVisible (s : State) (fn : Nat) (x : Seal) : Bool := fn == 0 || (nsAt s x.nsid).elim false (fun n => n.attached.contains fn)

/-- A seal list entered in rising SEAL_ID order. -/
def insertSeal (x : Seal) : List Seal → List Seal
  | [] => [x]
  | y :: t => if x.id ≤ y.id then x :: y :: t else y :: insertSeal x t

/-- SEAL_LIST (R235). -/
def execSealList (fn : Func) (m : Fin 16) (s : State) : Result :=
  .next (runMbx fn m 0x0601 (size 8) (fun x r s =>
    let l := (s.sealing.seals.filter (fun y => field r 0 8 ≤ y.id && sealVisible s x.fn y)).foldr insertSeal []
    let l := l.take 1024
    mbxOk x (l.flatMap sealEntry) l.length s) s)

/-- A command on a seal that its function sees and whose Seal has ended (R371). -/
def onSeal (x : MbxCtx) (r : Bytes) (s : State) (f : Seal → State) : State :=
  match (sealById s (field r 0 8)).filter (sealVisible s x.fn) with
  | none => mbxFail x .sealUnknown 0 s
  | some y => if y.st = .sealing then mbxFail x .sealBusy 0 s else f y

/-- SEAL_RECORD (R236, R246, R371). -/
def execSealRecord (fn : Func) (m : Fin 16) (s : State) : Result :=
  .next (runMbx fn m 0x0602 (size 8) (fun x r s => onSeal x r s (fun y =>
    mbxOk x (y.record ++ y.custody.flatten) y.custody.length s)) s)

/-- SEAL_TREE (R233, R247): the stored levels' nodes from the cursor. -/
def execSealTree (fn : Func) (m : Fin 16) (s : State) : Result :=
  .next (runMbx fn m 0x0603 (size 12) (fun x r s => onSeal x r s (fun y =>
    if y.st = .unsealed then mbxFail x .notPermitted 0 s
    else
      let l := (y.levels.flatten.drop (field r 8 4)).take 2048
      mbxOk x (l.flatMap digestBytes) l.length s)) s)

/-- SEAL_IDENTITY (R237): the chain of the seal key's certificate, with its length. -/
def execSealIdentity (fn : Func) (m : Fin 16) (s : State) : Result :=
  .next (runMbx fn m 0x0604 (size 0) (fun x _ s =>
    let chain := Config.certChain sealKeyId
    mbxOk x (b4 chain.length ++ chain) 0 s) s)

/-- The map journal made durable as far as it stands: page after page of the tail buffer is written, in its two copies (R151). -/
def journalDurable : Nat → State → State
  | 0, s => s
  | n + 1, s =>
    if s.map.tail.isEmpty then s
    else journalDurable n (pageDurable ((journalSlot s).elim s (fun c => programJournal s c true true)))

/-- Whether a seal counts as having work running on it (R240, R276): its own, or that of a source's migration session. -/
def sealAtWork (s : State) (y : Seal) : Bool :=
  y.busy || s.halo.migration.elim false (fun g => !g.successor && g.st != .committed)

/-- A seal unsealed (R240): UNSEAL journalled and made durable, the entry's state, its stored levels freed, a Notice record. -/
def unsealRange (s : State) (y : Seal) : State :=
  let s := journalSeal s y false
  let s := journalDurable (s.map.tail.length + 1) s
  let s := writeSealEntry (modSeal s y.id (fun y => { y with st := .unsealed, levels := [] })) y.id
  record s 0x0702 .notice (b8 y.id)

/-- UNSEAL (R240): in Held, in which nothing but recovery state is written (R200), the array's state refuses it. -/
def execUnseal (fn : Func) (m : Fin 16) (s : State) : Result :=
  .next (runMbx fn m 0x0605 (size 8) (fun x r s => onSeal x r s (fun y =>
    if y.st = .unsealed then mbxDone x s
    else if sealAtWork s y then mbxFail x .sealBusy 0 s
    else if isHeld s then mbxFail x .arrayState 0 s
    else mbxDone x (unsealRange s y))) s)

/-! ### Topology and mirror sessions (R261, R268 to R270) -/

/-- HALO_TOPOLOGY (R261, R371). -/
def execHaloTopology (fn : Func) (m : Fin 16) (s : State) : Result :=
  .next (runMbx fn m 0x0701 (size 0) (fun x _ s => mbxOk x (tokenBody s.halo.entries) s.halo.entries.length s) s)

/-- A new SESSION value (R268): this node in [31:27] and a number it has not used in [26:0]. -/
def newSession (s : State) : Nat := nodeId s * 2 ^ 27 + s.halo.nextSession % 2 ^ 27

/-- The number of the next session taken. -/
def takeSession (s : State) : State := modHalo s (fun h => { h with nextSession := h.nextSession + 1 })

/-- The first field of a SESSION_CREATE request that is not allowed: the primary's value on the secondary names the primary's node. -/
def sessionBad (s : State) (r : Bytes) : Option Nat :=
  let session := field r 0 4
  let secondary := field r 4 1 == 1
  if 1 < field r 4 1 then some 4
  else if (if secondary then session / 2 ^ 27 != field r 6 1 || session % 2 ^ 27 == 0 else session != 0) then some 0
  else if 1 < field r 5 1 then some 5
  else if 32 ≤ field r 6 1 || field r 6 1 == nodeId s then some 6
  else if field r 7 1 ≠ 0 then some 7
  else if (nsAt s (field r 8 4)).isNone then some 8
  else if field r 12 4 = 0 then some 12
  else if field r 16 8 ≠ 0 then some 16 else none

/-- The mirror of a SESSION_CREATE request (R268, R270). -/
def newMirror (s : State) (r : Bytes) : Mirror :=
  let secondary := field r 4 1 == 1
  { session := if secondary then field r 0 4 else newSession s, secondary := secondary, synchronous := field r 5 1 == 1
    peer := field r 6 1, localNsid := field r 8 4, peerNsid := field r 12 4 }

/-- SESSION_CREATE (R268, R371): at most 64 mirror sessions. -/
def execSessionCreate (fn : Func) (m : Fin 16) (s : State) : Result :=
  .next (runMbx fn m 0x0702 (size 24) (fun x r s =>
    match sessionBad s r with
    | some o => mbxBad x o s
    | none =>
      let k := newMirror s r
      if 64 ≤ s.halo.mirrors.length || (mirrorAt s k.session).isSome then mbxFail x .sessionState 0 s
      else
        let s := modHalo s (fun h => { h with mirrors := h.mirrors ++ [k] })
        mbxOk x (b4 k.session) 0 (if k.secondary then s else takeSession s)) s)

/-- A mirror removed (R270, R354): its pushes end and its bitmaps go with it; a secondary's namespace becomes writable, and a primary's
lock of VF_SAVE is released. -/
def removeMirror (s : State) (session : Nat) : State :=
  let nsid := (mirrorAt s session).elim 0 (·.localNsid)
  let s := recallMirror s session
  let s := { s with nvme := { s.nvme with namespaces := s.nvme.namespaces.map (fun p => if p.1 = nsid then (p.1, { p.2 with locked := false }) else p) } }
  sessionRecord (modHalo s (fun h => { h with mirrors := h.mirrors.filter (fun k => k.session != session) })) .notice session

/-- SESSION_REMOVE (R270). -/
def execSessionRemove (fn : Func) (m : Fin 16) (s : State) : Result :=
  .next (runMbx fn m 0x0703 (size 4) (fun x r s =>
    if (mirrorAt s (field r 0 4)).isNone then mbxFail x .sessionState 0 s else mbxDone x (removeMirror s (field r 0 4))) s)

/-- SESSION_LIST (R268). -/
def execSessionList (fn : Func) (m : Fin 16) (s : State) : Result :=
  .next (runMbx fn m 0x0704 (size 0) (fun x _ s =>
    let l := sessionDescs s
    mbxOk x (l.flatMap descBytes) l.length s) s)

/-! ### Migration (R276, R277, R280) -/

/-- The body of MIGRATE_BEGIN: an entry for each namespace (R276). -/
def beginBody (s : State) : Bytes :=
  s.nvme.namespaces.flatMap (fun p =>
    b4 p.1 ++ zeros 4 ++ b8 p.2.nsze ++ b1 p.2.lbaf ++ b1 p.2.piType ++ b1 (streamPolicy s p.1) ++ zeros 13)

/-- MIGRATE_BEGIN sent to a successor (R276): the mailbox waits for its answer. -/
def beginMigration (x : MbxCtx) (s : State) (peer : Nat) : State :=
  let session := newSession s
  let g : Migration := { session := session, peer := peer, todo := firstPass s, beginWaiter := some x.ref }
  let s := takeSession (modHalo s (fun h => { h with migration := some g }))
  mbxWait x (request s { opcode := 0x20, session := session } peer (beginBody s))

/-- MIGRATE_START (R276). -/
def execMigrateStart (fn : Func) (m : Fin 16) (s : State) : Result :=
  .next (runMbx fn m 0x0705 (size 1) (fun x r s =>
    if 32 ≤ field r 0 1 || field r 0 1 = nodeId s then mbxBad x 0 s
    else if s.red.st = .held then mbxFail x .arrayState 0 s
    else if s.halo.migration.isSome then mbxFail x .sessionState 0 s
    else beginMigration x s (field r 0 1)) s)

/-- A migration given up by its source (R280): what is in flight ends, the successor is told where it can be reached, the record goes. -/
def cancelMigration (s : State) (g : Migration) : State :=
  let s := recallMig s
  let s := if g.st = .interrupted then s else request s { opcode := 0x20, kind := 1, session := g.session } g.peer []
  sessionRecord (modHalo s (fun h => { h with migration := none })) .notice g.session

/-- MIGRATE_CANCEL (R280): once COMMITTING, only with FORCE. -/
def execMigrateCancel (fn : Func) (m : Fin 16) (s : State) : Result :=
  .next (runMbx fn m 0x0706 (size 1) (fun x r s =>
    if 1 < field r 0 1 then mbxBad x 0 s
    else match s.halo.migration with
      | none => mbxFail x .sessionState 0 s
      | some g =>
        if g.successor || g.st = .committed || (g.st = .committing && field r 0 1 = 0) then mbxFail x .sessionState 0 s
        else if g.st = .committing then
          mbxDone x (sessionRecord (modHalo (recallMig s) (fun h => { h with migration := none })) .critical g.session)
        else mbxDone x (cancelMigration s g)) s)

/-- The result of MIGRATE_STATUS (R371). -/
def migrateResult (s : State) : Bytes :=
  match s.halo.migration.filter (fun g => g.beginWaiter.isNone) with
  | none => zeros 64
  | some g =>
    b1 g.st.code ++ b1 (if g.successor then 1 else 0) ++ b1 g.peer ++ zeros 1 ++ b4 g.pass ++ b4 g.posNsid ++ zeros 4 ++ b8 g.posSpan
      ++ b8 g.dirty.length ++ b8 (if g.successor then g.sealsReceived else g.sealsDone.length)
      ++ b8 (if g.successor then g.appliedSeqno else g.acked) ++ zeros 16

/-- MIGRATE_STATUS (R371). -/
def execMigrateStatus (fn : Func) (m : Fin 16) (s : State) : Result :=
  .next (runMbx fn m 0x0707 (size 0) (fun x _ s => mbxOk x (migrateResult s) 0 s) s)

/-! ### Waking, and the Halo settings (R283, R285) -/

/-- WAKE_NODE (R283): done once WAKE is answered OK. -/
def execWakeNode (fn : Func) (m : Fin 16) (s : State) : Result :=
  .next (runMbx fn m 0x0708 (size 1) (fun x r s =>
    if 32 ≤ field r 0 1 || field r 0 1 = nodeId s then mbxBad x 0 s else mbxWait x (sendWake s (field r 0 1) (some x.ref))) s)

/-- HALO_GET_SETTING (R285, R372). -/
def execHaloGetSetting (fn : Func) (m : Fin 16) (s : State) : Result := .next (runMbx fn m 0x07F0 (size 8) (getSetting 0x07) s)

/-- HALO_SET_SETTING (R285, R372): RING_ID, NODE_ID and MAX_LANE_RATE act at once. -/
def execHaloSetSetting (fn : Func) (m : Fin 16) (s : State) : Result :=
  .next (runMbx fn m 0x07F1 (size 40) (putSetting 0x07 (fun i s => if i ≤ 3 then haloChanged s i else s)) s)

end Sys2Proof.Machine
end

