-- ==== Sys2Proof/Machine/MbxHealth.lean ====
section
/-! DEFINITION. The Almanac, Power/Health, Cooling and Firmware families of the mailboxes (16 R498, R499, R508, R512; 14 R441, R444, R451,
R452; 15 R479, R485, R486). -/
namespace Sys2Proof.Machine

/-! ### The Almanac family (R371, R498, R499) -/

/-- ALM_CLEAR (R498): the command completes when the last sector has been erased. -/
def execAlmClear (fn : Func) (m : Fin 16) (s : State) : Result :=
  .next (runMbx fn m 0x0801 (size 0) (fun x _ s =>
    let s := clearAlmanac s s.mbx.keyIndex
    mbxWait x { s with alm := { s.alm with clearWaiter := some x.ref } }) s)

/-- ALM_INFO (R371): without a record there is no oldest or newest SEQUENCE to state. -/
def execAlmInfo (fn : Func) (m : Fin 16) (s : State) : Result :=
  .next (runMbx fn m 0x0802 (size 0) (fun x _ s =>
    let (n, s) := drawNat s
    let l := liveRecords s.alm
    let seq := fun (r : Option AlmRecord) (free : Nat) => r.elim (freeBytes free 8) (fun r => b8 r.sequence)
    mbxOk x (b4 l.length ++ zeros 4 ++ seq l.head? n ++ seq l.getLast? (n + 8) ++ s.alm.drops.toList.flatMap b4 ++ b4 s.alm.lastChain.toNat
      ++ b1 (setting s 0x08 1) ++ zeros 19) 0 s) s)

/-- ALMANAC_GET_SETTING (R372, R499). -/
def execAlmanacGetSetting (fn : Func) (m : Fin 16) (s : State) : Result := .next (runMbx fn m 0x08F0 (size 8) (getSetting 0x08) s)

/-- ALMANAC_SET_SETTING (R372, R499): a change of STAMP closes the open record. -/
def execAlmanacSetSetting (fn : Func) (m : Fin 16) (s : State) : Result :=
  .next (runMbx fn m 0x08F1 (size 40)
    (putSetting 0x08 (fun i t => if setting t 0x08 i = setting s 0x08 i then t else { t with alm := closeOpen t.alm })) s)

/-! ### The Power/Health family (R441, R444, R451, R452) -/

/-- SLEEP_STATE (R440). -/
def SleepSt.code : SleepSt → Nat
  | .zenith => 0
  | .dusk => 1
  | .night => 2
  | .eclipse => 3

/-- The junction temperature in 0.1 °C, rounded down. -/
def tjTenths (s : State) : Int := s.cool.tj * 10 / 16

/-- HK_VMON of a monitor (R440). -/
def vmonWord (v : VoltMon) : Nat := v.regStatus.code * 2 ^ 28 + v.regMv

/-- The result of HEALTH_REPORT (R451). -/
def healthResult (s : State) : Bytes :=
  let p := s.pwr
  b2 1 ++ b1 p.level ++ b1 (selectedLevel s) ++ b2 (limitCause s) ++ b1 p.sleep.code
    ++ b1 (bitsOf [p.writeThrough, p.holdupInvalid, s.boot.step9Skipped]) ++ leInt 2 (tjTenths s) ++ b2 p.p0Freq
    ++ p.offset.toList.flatMap b1 ++ b2 p.slowdown ++ zeros 2 ++ b4 p.lastReplan ++ b4 (p.lastC.getD 0 / 1000) ++ b4 p.eUsable
    ++ b8 p.effective ++ b4 p.holdupHours ++ b4 p.wakeLast.toNat ++ zeros 16 ++ p.mon.toList.flatMap (fun v => b4 (vmonWord v))
    ++ p.ddrMargin.toList.flatMap b1 ++ p.mediaMargin.toList.flatMap b1 ++ b2 p.pcieMargin ++ b1 p.haloMargin.1 ++ b1 p.haloMargin.2
    ++ zeros 68

/-- HEALTH_REPORT (R451). -/
def execHealthReport (fn : Func) (m : Fin 16) (s : State) : Result :=
  .next (runMbx fn m 0x0901 (size 0) (fun x _ s => mbxOk x (healthResult s) 0 s) s)

/-- HOLDUP_MEASURE (R35, R444): the command waits for the measurement's end; one that already runs serves it. -/
def execHoldupMeasure (fn : Func) (m : Fin 16) (s : State) : Result :=
  .next (runMbx fn m 0x0902 (size 0) (fun x _ s =>
    let s := if s.pwr.measuring then s else startMeasure s
    mbxWait x { s with pwr := { s.pwr with measureWaiter := some x.ref } }) s)

/-- Whether the replan that falls due every 720 operating hours may run now (R441). -/
def replanMayRun (s : State) : Bool :=
  s.pwr.replanDue && s.boot.phase == .complete && s.pwr.sleep == .zenith && s.pwr.phase == .steady && !s.pwr.pwrfail && !s.dram.frozen

/-- AGEING_REPLAN (R441 to R443): for the command that asks for it, else for the replan that has fallen due; `sample` is what it measures. -/
def execAgeingReplan (fn : Func) (m : Fin 16) (sample : ReplanSample) (s : State) : Result :=
  .next (if (begunCommand s (boxKey fn m) 0x0903).isNone && replanMayRun s then replan s sample
    else runMbx fn m 0x0903 (size 0) (fun x _ s => mbxDone x (replan s sample)) s)

/-- POWER_HEALTH_GET_SETTING (R372, R452). -/
def execPowerHealthGetSetting (fn : Func) (m : Fin 16) (s : State) : Result := .next (runMbx fn m 0x09F0 (size 8) (getSetting 0x09) s)

/-- POWER_HEALTH_SET_SETTING (R372, R452): a change takes effect at the next decision that uses it. -/
def execPowerHealthSetSetting (fn : Func) (m : Fin 16) (s : State) : Result :=
  .next (runMbx fn m 0x09F1 (size 40) (putSetting 0x09 (fun _ s => s)) s)

/-! ### The Cooling family (R479, R485, R486) -/

/-- STATE of CDR_MOTOR_STATUS (R481). -/
def MotorSt.code : MotorSt → Nat
  | .off => 0
  | .detect => 1
  | .brake => 2
  | .align => 3
  | .ramp => 4
  | .keCheck => 5
  | .catching => 6
  | .run => 7
  | .coast => 8
  | .fault => 9

/-- The readings of a carrier's dies. -/
def carrierTemps (s : State) (c : Nat) : List Int := (lunsOfCarrier s c).filterMap (fun l => if l.missed = 0 then l.temp else none)

/-- The header of COOLING_STATUS (R485): a carrier, or a device, without a reading has no stated temperature. -/
def coolingHeader (s : State) (free : Nat) : Bytes :=
  let k := s.cool
  let hotter := fun (a b : Int) => decide (b < a)
  let colder := fun (a b : Int) => decide (a < b)
  b2 1 ++ b1 (managerDemand s) ++ b1 (bitsOf [k.lunsClosed != 0, k.fault, k.rateDemand.isSome, k.motorFault]) ++ leInt 2 (tjTenths s)
    ++ tempByte (k.hot.toList.map (·.2.2)) hotter free ++ tempByte (k.cold.toList.map (·.2.2)) colder (free + 1) ++ b4 k.lunsClosed
    ++ b4 k.holds ++ (List.range 16).flatMap (fun c => tempByte (carrierTemps s c) hotter (free + 2 + c))
    ++ (List.range 16).flatMap (fun c => tempByte (carrierTemps s c) colder (free + 18 + c)) ++ zeros 16

/-- A motor entry of COOLING_STATUS (R485). -/
def motorEntry (s : State) (x : MotorState) : Bytes :=
  b1 x.st.code ++ b1 (recentLosses s x).length ++ zeros 2 ++ leInt 4 (x.speed * 100 / 65536) ++ b4 x.setpoint ++ leInt 4 (x.iq * 1000 / 65536)
    ++ b4 x.keMeas ++ b4 x.starts ++ b4 x.lossesTotal ++ zeros 4

/-- COOLING_STATUS (R485). -/
def execCoolingStatus (fn : Func) (m : Fin 16) (s : State) : Result :=
  .next (runMbx fn m 0x0A01 (size 0) (fun x _ s =>
    let (n, s) := drawNat s
    mbxOk x (coolingHeader s n ++ s.cool.motor.toList.flatMap (motorEntry s)) 0 s) s)

/-- A slot as LOOP_SAVE stores it: active coefficients, limits, setpoint and configuration (R479). -/
def savedLoop (l : LoopState) : LoopState :=
  { enable := l.enable, order := l.order, ceiling := l.ceiling, input := l.input, rateDiv := l.rateDiv, spOffset := l.spOffset
    spSource := l.spSource, motorMask := l.motorMask, sp := l.sp, shadow := l.active, active := l.active, outMin := l.outMin
    outMax := l.outMax }

/-- LOOP_SAVE (R479). -/
def execLoopSave (fn : Func) (m : Fin 16) (s : State) : Result :=
  .next (runMbx fn m 0x0A02 (size 0) (fun x _ s => mbxDone x { s with cool := { s.cool with saved := some (s.cool.slot.map savedLoop) } }) s)

/-- COOLING_GET_SETTING (R372, R486). -/
def execCoolingGetSetting (fn : Func) (m : Fin 16) (s : State) : Result := .next (runMbx fn m 0x0AF0 (size 8) (getSetting 0x0A) s)

/-- COOLING_SET_SETTING (R372, R486): a change takes effect at the next decision that uses it. -/
def execCoolingSetSetting (fn : Func) (m : Fin 16) (s : State) : Result :=
  .next (runMbx fn m 0x0AF1 (size 40) (putSetting 0x0A (fun i s => if i = 1 || i = 2 then refreshWindows s else s)) s)

/-! ### The Firmware family (R371, R502, R508, R512) -/

/-- FW_STATUS (R371). -/
def execFwStatus (fn : Func) (m : Fin 16) (s : State) : Result :=
  .next (runMbx fn m 0x0B01 (size 0) (fun x _ s =>
    mbxOk x (b1 s.fw.activeSlot.val ++ b1 (bitsOf [s.fw.setB]) ++ b1 (bitsOf [s.fw.policy]) ++ b1 s.fw.lastActivation ++ b4 s.fw.antiRollback
      ++ padTo 8 (slotAt s.fw 0).fwVersion ++ padTo 8 (slotAt s.fw 1).fwVersion ++ zeros 40) 0 s) s)

/-- FW_COUNTERSIGN (R508): the countersignature enters the inactive slot's record. -/
def execFwCountersign (fn : Func) (m : Fin 16) (s : State) : Result :=
  .next (runMbx fn m 0x0B02 (size 96) (fun x r s =>
    match s.mbx.custodianKey with
    | none => mbxFail x .authRequired 0 s
    | some pub =>
      let i := inactiveSlot s.fw
      let slot := slotAt s.fw i
      if slot.state ≠ .committed || slice r 0 32 != digestBytes slot.digest then mbxFail x .notPermitted 0 s
      else if !Config.sm2Verify pub (slice r 0 32) (signatureAt r 32) then mbxFail x .authFailed 0 (noteAuthFailed s x.e.opcode.toNat)
      else mbxDone x { s with fw := setSlot s.fw i { slot with countersignature := some (signatureAt r 32), keyIndex := s.mbx.keyIndex } }) s)

/-- FW_POLICY (R371, R508): never set back. -/
def execFwPolicy (fn : Func) (m : Fin 16) (s : State) : Result :=
  .next (runMbx fn m 0x0B03 (size 0) (fun x _ s =>
    if s.mbx.custodianKey.isNone then mbxFail x .notPermitted 0 s else mbxDone x { s with fw := { s.fw with policy := true } }) s)

end Sys2Proof.Machine
end

