-- ==== Sys2Proof/Machine/Media.lean ====
section
/-! DEFINITION. The commands of the media channels and the Media Direct rings (02_carriers_and_media_channels R49, R64 to R85, R91 to
R96). -/
namespace Sys2Proof.Machine

/-! ### Descriptors submitted by the controller's own producers (R64 to R66) -/

/-- A descriptor with an opcode submitted to Q0, Q1 or Q2 of a channel, and the channel served. Q3 is fed by the rings alone, and a
carrier that drains or is out of service takes no descriptor of the controller's own (R59, R64). -/
def submitDirect (s : State) (ch : Channel) (q : Fin 4) (d : MediaDesc) (opcode : Nat) (payload : PageContent) (ranUs : Nat) : State :=
  if q = 3 || !acceptsOwn s (carrierOf ch) then s
  else dispatchAll (submit s ch q { d with opcode := opcode } payload .plain) ch ranUs

/-- MEDIA_READ (R66, R73, R80): `ranUs` is how long the LUN's present operation has run. -/
def execMediaRead (ch : Channel) (q : Fin 4) (d : MediaDesc) (ranUs : Nat) (s : State) : Result :=
  .next (submitDirect s ch q d 1 (.raw []) ranUs)

/-- PROGRAM (R66, R75, R77, R78). -/
def execProgram (ch : Channel) (q : Fin 4) (d : MediaDesc) (payload : PageContent) (s : State) : Result :=
  .next (submitDirect s ch q d 2 payload (ranNow s))

/-- ERASE (R66, R75). -/
def execErase (ch : Channel) (q : Fin 4) (d : MediaDesc) (s : State) : Result := .next (submitDirect s ch q d 3 (.raw []) (ranNow s))

/-- RECHARGE (R66, R82 to R84). -/
def execRecharge (ch : Channel) (q : Fin 4) (d : MediaDesc) (payload : PageContent) (s : State) : Result :=
  .next (submitDirect s ch q d 4 payload (ranNow s))

/-- SWEEP (R66, R67). -/
def execSweep (ch : Channel) (q : Fin 4) (d : MediaDesc) (s : State) : Result := .next (submitDirect s ch q d 5 (.raw []) (ranNow s))

/-- GET_FEATURES (R66). -/
def execMediaGetFeatures (ch : Channel) (q : Fin 4) (d : MediaDesc) (s : State) : Result :=
  .next (submitDirect s ch q d 6 (.raw []) (ranNow s))

/-- SET_FEATURES (R66). -/
def execMediaSetFeatures (ch : Channel) (q : Fin 4) (d : MediaDesc) (s : State) : Result :=
  .next (submitDirect s ch q d 7 (.raw []) (ranNow s))

/-- READ_STATUS (R66). -/
def execReadStatus (ch : Channel) (q : Fin 4) (d : MediaDesc) (s : State) : Result := .next (submitDirect s ch q d 8 (.raw []) (ranNow s))

/-- LUN_RESET (R66). -/
def execLunReset (ch : Channel) (q : Fin 4) (d : MediaDesc) (s : State) : Result := .next (submitDirect s ch q d 9 (.raw []) (ranNow s))

/-- ZQ_CAL (R66). -/
def execZqCal (ch : Channel) (q : Fin 4) (d : MediaDesc) (s : State) : Result := .next (submitDirect s ch q d 10 (.raw []) (ranNow s))

/-- ZQ_CALIBRATION_TIMER (R49): a channel of a carrier that answers is calibrated every 30 s. -/
def execZqCalibrationTimer (ch : Channel) (s : State) : Result :=
  .next (if carrierLive s (carrierOf ch) then modChannel s ch (fun c => { c with zqCount := c.zqCount + 1 }) else s)

/-! ### Ends (R69, R70, R90) -/

/-- DIE_OPERATION_DONE (R69, R70, R90). -/
def execDieOperationDone (t : DieTarget) (o : DieOutcome) (s : State) : Result :=
  .next (match t with
    | .lun ch l => settleCarrier (endOperation s ch l o) (carrierOf ch)
    | .configStore => csEraseEnd s o.ok)

/-- DIE_TIMEOUT (R70). -/
def execDieTimeout (ch : Channel) (l : Lun) (s : State) : Result := .next (settleCarrier (dieTimeout s ch l) (carrierOf ch))

/-- MEDIA_QUEUE_RESET (R71): a halted queue's unstarted descriptors are aborted and it runs again; the rings reset by R93. -/
def execMediaQueueReset (ch : Channel) (q : Fin 4) (s : State) : Result :=
  .next (if q = 3 then s
         else
           let s := abortWaiting s ch q (fun _ => true)
           dispatchAll (modChannel s ch (fun c => { c with halted := c.halted.set q false })) ch (ranNow s))

/-! ### Rings (R92, R93) -/

/-- Descriptors a ring holds (R92). -/
def ringSlots : Nat := 4096

/-- A submission slot's 64 bytes read as a descriptor (R66). -/
def parseDesc (b : Bytes) : MediaDesc :=
  let flag := fun i => field b 1 1 / 2 ^ i % 2 == 1
  { opcode := field b 0 1, irq := flag 0, fence := flag 1, decode := flag 2, autoRetry := flag 3, shift := flag 4, raw := flag 5
    first := flag 6, pslc := flag 7, tag := BitVec.ofNat 16 (field b 2 2), volume := field b 4 1 % 16, lun := field b 5 1 % 8
    planeMask := field b 6 1, retryEntry := field b 7 1, block := field b 8 4, page := field b 0xC 2, buffer := field b 0x10 8
    length := field b 0x18 4, featureAddr := field b 0x1C 1, featureData := slice b 0x20 4, sweepStart := fieldInt b 0x24 2
    sweepStep := field b 0x26 1, sweepCount := field b 0x27 1, sweepLevel := field b 0x28 1
    reservedZero := field b 4 1 < 16 && field b 5 1 < 8 && allZero (slice b 0xE 2) && allZero (slice b 0x1D 3) && allZero (slice b 0x29 23) }

/-- A doorbell write (R93). -/
def ringDoorbell (s : State) (n : Fin 4) (count : Nat) : State :=
  let r := s.media.rings[n]
  if !s.media.mdEnabled || s.media.mdDisabling then s
  else if count = 0 || ringSlots < count then modRing s n (fun r => { r with err := true, lastErr := 1 })
  else if ringSlots - r.pending < count then modRing s n (fun r => { r with err := true, lastErr := 2 })
  else modRing s n (fun r => { r with tail := (r.tail + count) % ringSlots, pending := r.pending + count })

/-- MDR_SQ_DOORBELL (R93): COUNT is 13 bits. -/
def execMdrSqDoorbell (n : Fin 4) (count : Nat) (s : State) : Result := .next (ringDoorbell s n (count % 8192))

/-- One accepted descriptor copied from its slot into Q3, as Q3 has room (R93); an uncorrectable one completes with BUFFER_ECC and halts
the ring (R419), under a TAG that cannot be read (free, log entry 1, DESIGN CHOICE). -/
def copyDescriptor (s : State) (n : Fin 4) : State :=
  let r := s.media.rings[n]
  let off := 0x300000 + n.val * 0x40000 + 64 * r.head
  if !s.media.mdEnabled || s.media.mdDisabling || r.pending = 0 || !queueRoom s r.channel 3 false then s
  else
    let s := modRing s n (fun r => { r with head := (r.head + 1) % ringSlots, pending := r.pending - 1, inQ3 := r.inQ3 + 1 })
    if mdRunOk s.media off 64 then
      dispatchAll (submit s r.channel 3 (parseDesc (mdBytes s.media off 64)) (.raw []) (.ring n)) r.channel (ranNow s)
    else
      let (tag, s) := drawNat s
      let (c, s) := unrun s (lunIndex r.channel 0) 0x13
      finish s r.channel 3 { desc := { tag := BitVec.ofNat 16 tag }, owner := .ring n } c

/-- MD_RING_COPY (R93, R419). -/
def execMdRingCopy (n : Fin 4) (s : State) : Result := .next (copyDescriptor s n)

/-- The slots of a ring between its head and its tail complete with ABORTED, each under the TAG its slot holds (R93). A completion ring that
is full is written on, over entries not consumed (log entry 246, DEDUCED). -/
def abortSlots (n : Fin 4) : Nat → State → State
  | 0, s => s
  | k + 1, s =>
    let r := s.media.rings[n]
    let off := 0x300000 + n.val * 0x40000 + 64 * r.head
    let s := modRing s n (fun r => { r with head := (r.head + 1) % ringSlots, pending := r.pending - 1, inQ3 := r.inQ3 + 1 })
    let b := mdBytes s.media off 64
    let desc : MediaDesc := { tag := BitVec.ofNat 16 (field b 2 2) }
    let (c, s) := unrun s (lunIndex r.channel (8 * (field b 4 1 % 16) + field b 5 1 % 8)) 0x12
    abortSlots n k (finish s r.channel 3 { desc := desc, owner := .ring n } c)

/-- Every unstarted descriptor of a ring ends with ABORTED: first those in Q3, then those still in the ring (R93, R94). -/
def abortRing (s : State) (n : Fin 4) : State :=
  let r := s.media.rings[n]
  abortSlots n r.pending (abortWaiting s r.channel 3 (fun e => e.owner == .ring n))

/-- A ring reset (R93). -/
def resetRing (s : State) (n : Fin 4) : State :=
  let s := abortRing s n
  modRing s n (fun r => { r with halted := false, head := r.tail, pending := 0 })

/-- MDR_RING_RESET (R93). -/
def execMdrRingReset (n : Fin 4) (s : State) : Result := .next (if s.media.mdEnabled then resetRing s n else s)

/-- A write of MDR_RING_CTRL (R92): ignored while the ring holds unfinished descriptors. -/
def writeRingCtrl (s : State) (n : Fin 4) (value : Nat) : State :=
  let r := s.media.rings[n]
  if r.pending = 0 && r.inQ3 = 0 then modRing s n (fun r => { r with channel := ⟨value % 64, Nat.mod_lt _ (by decide)⟩ }) else s

/-- MDR_RING_CTRL_WRITE (R92). -/
def execMdrRingCtrlWrite (n : Fin 4) (value : Word32) (s : State) : Result :=
  .next (if s.media.mdEnabled then writeRingCtrl s n value.toNat else s)

/-- A write of MDR_CQ_HEAD (R92, R94): a ring that waited for room starts again. -/
def writeCqHead (s : State) (n : Fin 4) (value : Nat) : State :=
  dispatchAll (modRing s n (fun r => { r with cqHead := value % 4096 })) (s.media.rings[n]).channel (ranNow s)

/-- MDR_CQ_HEAD_WRITE (R92, R94). -/
def execMdrCqHeadWrite (n : Fin 4) (value : Word32) (s : State) : Result :=
  .next (if s.media.mdEnabled then writeCqHead s n value.toNat else s)

/-- A write of MDR_RING_STATUS: ERR is cleared by writing one, with LAST_ERR staying as it was; RESET resets the ring (R92, R93). -/
def writeRingStatus (s : State) (n : Fin 4) (value : Nat) : State :=
  let s := if value / 2 ^ 16 % 2 = 1 then modRing s n (fun r => { r with err := false }) else s
  if value / 2 ^ 17 % 2 = 1 then resetRing s n else s

/-! ### Enable and disable (R91, R94) -/

/-- MD_ENABLE (R91, R371): the ring memory and the buffer area are powered and uninitialised; enabled already, they are untouched. SHARE
sets the Media Direct share (R64). -/
def execMdEnable (fn : Func) (m : Fin 16) (s : State) : Result :=
  .next (runMbx fn m 0x0E01 (size 1) (fun x r s =>
    let share := field r 0 1
    if 60 < share then mbxBad x 0 s
    else
      let s := if s.media.mdEnabled then s
        else { s with media := { s.media with mdEnabled := true, mdPowered := true, mdMem := [], mdBadWords := [], rings := Vector.replicate 4 {} } }
      mbxDone x { s with media := { s.media with mdShare := if share = 0 then 10 else share } }) s)

/-- MD_DISABLE (R94): unstarted descriptors are aborted; it completes when the started ones have. -/
def execMdDisable (fn : Func) (m : Fin 16) (s : State) : Result :=
  .next (runMbx fn m 0x0E02 (size 0) (fun x _ s =>
    if !s.media.mdEnabled then mbxDone x s
    else
      let s := ([0, 1, 2, 3] : List (Fin 4)).foldl abortRing s
      settleDisable (mbxWait x { s with media := { s.media with mdDisabling := true } })) s)

end Sys2Proof.Machine
end

