-- ==== Sys2Proof/Machine/Spdm.lean ====
section
/-! DEFINITION. Attestation: DOE Discovery and the SPDM responder over DOE and over Security Send and Receive (08_host_endpoint R312 to
R315). The byte layouts of the messages are those of the SPDM 1.2 and DOE specifications (log entry 45, PRESUMED). -/
namespace Sys2Proof.Machine

/-! ### The responder's connection and answers -/

/-- Whether a transport reaches the responder: DOE over configuration requests, Security Send and Receive over the admin queue. -/
def spdmReached (s : State) (t : Fin 2) : Bool := t != 0 || (s.host.configReady && !s.host.perst && !(funcAt s 0).flrWait)

/-- The state of a transport's connection. -/
def spdmConn (s : State) (t : Fin 2) : SpdmSt := s.host.spdm.conn[t]

/-- The DOE interrupt of an answer that is ready, where DOE Interrupt Enable is set: message 2,047 (R288, R292, R312). -/
def doeInterrupt (s : State) (t : Fin 2) : State :=
  if t = 0 && readAt 0 (funcAt s 0).cfg 0x308 &&& 2 != 0#32 then
    sendMsix { s with host := { s.host with spdm := { s.host.spdm with intStatus := true } } } 0 2047
  else s

/-- An answer given on a transport, which moves to a connection state; request and answer lengthen its transcript. -/
def spdmAnswer (s : State) (t : Fin 2) (st : SpdmSt) (fresh : Bool) (request response : Bytes) : State :=
  let x := s.host.spdm
  doeInterrupt { s with host := { s.host with spdm := { x with
      conn := x.conn.set t st, answer := x.answer.set t response
      transcript := x.transcript.set t ((if fresh then [] else x.transcript[t]) ++ request ++ response) } } } t

/-- An ERROR answer: the connection stays as it is. -/
def spdmError (s : State) (t : Fin 2) (code : Nat) : State :=
  doeInterrupt { s with host := { s.host with spdm := { s.host.spdm with
    answer := s.host.spdm.answer.set t (b1 0x12 ++ b1 0x7F ++ b1 code ++ b1 0) } } } t

/-- A request answered where its transport reaches the responder and its connection has come far enough, else refused as unexpected. -/
def spdmServe (s : State) (t : Fin 2) (allowed : SpdmSt → Bool) (k : State → State) : State :=
  if !spdmReached s t then s else if allowed (spdmConn s t) then k s else spdmError s t 0x04

/-- The header of a message: version, code and two parameters. -/
def spdmHead (version code p1 p2 : Nat) : Bytes := b1 version ++ b1 code ++ b1 p1 ++ b1 p2

/-! ### Its identity (R314) -/

/-- The public attestation key, distinct from the seal key (R314). -/
def attestationKey : PubKey := Config.devicePublicKey 1
/-- The certificate chain of slot 0 as the responder returns it (R314). -/
def attestationChain : Bytes := Config.certChain (keyId attestationKey)
/-- A signature with the attestation key at the next draw. -/
def signAttestation (s : State) (b : Bytes) : Signature × State := (Config.sm2Sign 1 s.freeCtr b, { s with freeCtr := s.freeCtr + 1 })

/-! ### Measurements (R315) -/

/-- A measurement block: index, DMTF measurement, its type, and its value. -/
def measurementBlock (index type : Nat) (value : Bytes) : Bytes :=
  b1 index ++ b1 1 ++ b2 (value.length + 3) ++ b1 type ++ b2 value.length ++ value

/-- The value of a measurement block: digests, but block 6 a raw bit stream (R315). -/
def measurementValue (s : State) (index : Nat) : Bytes :=
  match index with
  | 1 => digestBytes (Config.sm3 (activeImage s))
  | 2 => if (slotAt s.fw (inactiveSlot s.fw)).state = .empty then zeros 32 else digestBytes (Config.sm3 (otherImage s))
  | 3 => digestBytes (Config.sm3 (microcodeOf (activeImage s)))
  | 4 => digestBytes (calDigest s)
  | 5 => digestBytes (Config.sm3 (exportEntries s).flatten)
  | 6 => b4 s.fw.antiRollback ++ fwVersionNow s
  | _ => s.mbx.custodianKey.elim (zeros 32) (fun k => digestBytes (keyId k))

/-- One measurement block by its index. -/
def measurement (s : State) (index : Nat) : Bytes :=
  measurementBlock index (if index = 6 then 0x84 else if index ≤ 3 then 0x01 else 0x03) (measurementValue s index)

/-- The indices that a request names: all seven for 0xFF, none for 0, which asks for their number. -/
def measurementIndices (index : Nat) : Option (List Nat) :=
  if index = 0xFF then some [1, 2, 3, 4, 5, 6, 7] else if index = 0 then some [] else if index ≤ 7 then some [index] else none

/-! ### The requests -/

/-- The answer to a DOE Discovery of an index: vendor, type and the next index; vendor FFFFh beyond the last (R312). -/
def doeEntry (index : Nat) : Bytes :=
  match index with
  | 0 => b2 0x0001 ++ b1 0 ++ b1 1
  | 1 => b2 0x0001 ++ b1 1 ++ b1 0
  | _ => b2 0xFFFF ++ b1 0 ++ b1 0

/-- The answer that waits in the DOE mailbox, set. -/
def setDoeAnswer (s : State) (b : Bytes) : State :=
  { s with host := { s.host with spdm := { s.host.spdm with answer := s.host.spdm.answer.set 0 b } } }

/-- DOE_DISCOVERY (R312). -/
def execDoeDiscovery (index : Nat) (s : State) : Result :=
  .next (if spdmReached s 0 then doeInterrupt (setDoeAnswer s (doeEntry index)) 0 else s)

/-- DOE_ABORT: the answer that waits is dropped (R312). -/
def execDoeAbort (s : State) : Result := .next (if spdmReached s 0 then setDoeAnswer s [] else s)

/-- SPDM_GET_VERSION (R313): versions 1.0, 1.1 and 1.2; the connection begins anew. -/
def execSpdmGetVersion (t : Fin 2) (s : State) : Result :=
  .next (spdmServe s t (fun _ => true) (fun s =>
    spdmAnswer s t .version true (spdmHead 0x10 0x84 0 0)
      (spdmHead 0x10 0x04 0 0 ++ b1 0 ++ b1 3 ++ b2 0x1000 ++ b2 0x1100 ++ b2 0x1200)))

/-- SPDM_GET_CAPABILITIES (R313). -/
def execSpdmGetCapabilities (t : Fin 2) (s : State) : Result :=
  .next (spdmServe s t (· == .version) (fun s =>
    spdmAnswer s t .capabilities false (spdmHead 0x12 0xE1 0 0)
      (spdmHead 0x12 0x61 0 0 ++ b1 0 ++ b1 20 ++ b2 0 ++ b4 0x16 ++ b4 65536 ++ b4 65536)))

/-- SPDM_NEGOTIATE_ALGORITHMS (R313): SM2 and SM3 among what the requester offers, and nothing else. -/
def execSpdmNegotiateAlgorithms (t : Fin 2) (asym hash : Nat) (s : State) : Result :=
  .next (spdmServe s t (· == .capabilities) (fun s =>
    if asym.testBit 9 && hash.testBit 6 then
      spdmAnswer s t .negotiated false (spdmHead 0x12 0xE3 0 0 ++ b2 32 ++ b1 1 ++ b1 2 ++ b4 asym ++ b4 hash ++ zeros 16)
        (spdmHead 0x12 0x63 0 0 ++ b2 36 ++ b1 1 ++ b1 2 ++ b4 0x80 ++ b4 0x200 ++ b4 0x40 ++ zeros 16)
    else spdmError s t 0x01))

/-- SPDM_GET_DIGESTS (R314): slot 0 alone holds a chain. -/
def execSpdmGetDigests (t : Fin 2) (s : State) : Result :=
  .next (spdmServe s t (· == .negotiated) (fun s =>
    spdmAnswer s t .negotiated false (spdmHead 0x12 0x81 0 0) (spdmHead 0x12 0x01 0 1 ++ digestBytes (Config.sm3 attestationChain))))

/-- SPDM_GET_CERTIFICATE (R314): a portion of slot 0's chain; slots 1 to 7 are empty. -/
def execSpdmGetCertificate (t : Fin 2) (slot off len : Nat) (s : State) : Result :=
  .next (spdmServe s t (· == .negotiated) (fun s =>
    if slot ≠ 0 || attestationChain.length ≤ off then spdmError s t 0x01
    else
      let part := (attestationChain.drop off).take (min len 65528)
      spdmAnswer s t .negotiated false (spdmHead 0x12 0x82 0 0 ++ b2 off ++ b2 len)
        (spdmHead 0x12 0x02 0 0 ++ b2 part.length ++ b2 (attestationChain.length - off - part.length) ++ part)))

/-- SPDM_CHALLENGE (R313, R314): signed with the attestation key over the transcript. -/
def execSpdmChallenge (t : Fin 2) (slot : Nat) (nonce : Bytes) (s : State) : Result :=
  .next (spdmServe s t (· == .negotiated) (fun s =>
    if slot ≠ 0 then spdmError s t 0x01
    else
      let (r, s) := drawRandom s
      let request := spdmHead 0x12 0x83 0 0 ++ padTo 32 nonce
      let head := spdmHead 0x12 0x03 0 1 ++ digestBytes (Config.sm3 attestationChain) ++ digestBytes r ++ b2 0
      let (sig, s) := signAttestation s (s.host.spdm.transcript[t] ++ request ++ head)
      spdmAnswer s t .negotiated false request (head ++ octets64 sig)))

/-- SPDM_GET_MEASUREMENTS (R313, R315): the blocks of an index, signed. -/
def execSpdmGetMeasurements (t : Fin 2) (index : Nat) (nonce : Bytes) (s : State) : Result :=
  .next (spdmServe s t (· == .negotiated) (fun s =>
    match measurementIndices index with
    | none => spdmError s t 0x01
    | some l =>
      let blocks := l.flatMap (measurement s)
      let (r, s) := drawRandom s
      let request := spdmHead 0x12 0xE0 1 index ++ padTo 32 nonce ++ b1 0
      let head := spdmHead 0x12 0x60 (if index = 0 then 7 else 0) 0 ++ b1 l.length ++ leBytes 3 blocks.length ++ blocks ++ digestBytes r ++ b2 0
      let (sig, s) := signAttestation s (s.host.spdm.transcript[t] ++ request ++ head)
      spdmAnswer s t .negotiated false request (head ++ octets64 sig)))

/-! ### Security Send and Receive (R312, R316) -/

/-- SECURITY_SEND (R312, R316): security protocol E8h carries an SPDM request, which its own row answers; any other protocol is an
invalid field. -/
def execSecuritySend (c : CmdRef) (data : Bytes) (s : State) : Result :=
  .next (onTurn s c true 0x81 (fun f s =>
    if f.sqe.cdw10 / 2 ^ 24 % 256 ≠ 0xE8 then endCmd s c invalidField
    else if data.isEmpty || 65536 < data.length then endCmd s c invalidField
    else takeEffect s c cplOk))

/-- SECURITY_RECEIVE (R312, R316): protocol 00h lists the protocols served; E8h returns the answer of the last request. -/
def execSecurityReceive (c : CmdRef) (s : State) : Result :=
  .next (onTurn s c true 0x82 (fun f s =>
    let n := f.sqe.cdw11
    match f.sqe.cdw10 / 2 ^ 24 % 256 with
    | 0x00 => answer s c ((zeros 6 ++ b1 0 ++ b1 2 ++ b1 0x00 ++ b1 0xE8).take n)
    | 0xE8 => answer s c ((s.host.spdm.answer[(1 : Fin 2)]).take n)
    | _ => endCmd s c invalidField))

end Sys2Proof.Machine
end

