-- ==== Sys2Proof/Machine/PcieOps.lean ====
section
/-! DEFINITION. The link and the functions' configuration (08_host_endpoint R286 to R311): resets of the Host Port, power states, Bus
Master Enable, virtual functions coming and going, and errors. Register and bit places that the spec leaves to the PCI Express
specification are that specification's (log entry 46, PRESUMED). -/
namespace Sys2Proof.Machine

/-- Whether configuration requests to a function are answered (R308, R309, R384). -/
def cfgReached (s : State) (fn : Nat) : Bool := funcExists s fn && s.host.configReady && !s.host.perst && !(funcAt s fn).flrWait

/-- The Host Port's counters changed (R371). -/
def count (s : State) (f : PortCounters → PortCounters) : State := { s with host := { s.host with counters := f s.host.counters } }

/-- INTA of the PF (R288): a completion queue with interrupts holds an entry, MSI-X is disabled, and neither mask is set. -/
def intaAsserted (s : State) : Bool :=
  !(funcAt s 0).msixEnable && !(funcAt s 0).intDisable && !(ctrlAt s 0).intMask.getLsbD 0
    && (ctrlAt s 0).cqs.any (fun p => p.2.ien && p.2.head != p.2.tail)

/-! ### Bus Master Enable and D3hot (R301, R307) -/

/-- Bus Master Enable cleared (R307); in a handover's stall requests stop at once and the rest follows after it (R310). -/
def clearBusMaster (s : State) (fn : Nat) : State :=
  if !(funcAt s fn).busMaster then s
  else
    let s := modFunc s fn (fun f => { f with busMaster := false })
    if s.fw.intakeStalled then { s with fw := { s.fw with deferred := s.fw.deferred ++ [(fn, 2)] } } else stopRequests s fn

/-- A function enters D3hot (R301, R349, R351): requests stop; a VF that was not quiesced becomes OFFLINE, its controller fatal where
commands were outstanding; the PF's sleep begins where the device is idle. -/
def enterD3hot (s : State) (fn : Nat) : State :=
  if (funcAt s fn).d ≠ .d0 then s
  else
    let busy := outstanding s fn ≠ 0
    let s := modFunc (stopRequests s fn) fn (fun f => { f with d := .d3hot })
    if fn = 0 then sleepIfAsked s
    else if (vfAt s fn).st = .online || (vfAt s fn).st = .quiescing then
      modCtrl (vfOutcome s fn .d3hot) fn (fun c => { c with cfs := c.cfs || busy })
    else s

/-- A function returns from D3hot to D0 (R301): what it held is as it was; an entry to the sleep that D3hot asked for is given up. -/
def exitD3hot (s : State) (fn : Nat) : State :=
  if (funcAt s fn).d ≠ .d3hot then s
  else
    let s := modFunc s fn (fun f => { f with d := .d0 })
    if fn = 0 && s.pwr.phase = .entering && (commandedTarget s).isNone then abortSleep s else s

/-- PME_Status cleared: WAKE# is no longer asserted (R302). -/
def clearPme (s : State) (fn : Nat) : State :=
  let s := modFunc s fn (fun f => { f with pmeStatus := false })
  if fn = 0 then { s with host := { s.host with wakeAsserted := false } } else s

/-! ### PERST# (R301, R309) -/

/-- The Host Port, the queue state and the mailboxes of every function at their reset values, the link down (R309). -/
def portReset (s : State) : State :=
  let s := resetFunction (removeVfsAbove s 0) 0
  { s with host := { s.host with
             linkUp := false, training := false, l1 := false, ltrUs := 20, clkreqReleased := false
             vfEnable := false, numVfs := 0, ariHierarchy := false, pageSize := 1
             spdm := doeReset s.host.spdm }
           fw := { s.fw with deferred := [] } }

/-- PERST# asserted (R301, R309): from D3hot the PF goes to D3cold, whose sleep begins. -/
def assertPerst (s : State) : State :=
  if s.host.perst then s
  else
    let cold := (funcAt s 0).d == .d3hot
    let s := portReset { s with host := { s.host with perst := true } }
    if cold then
      let s := modFunc s 0 (fun f => { f with d := .d3cold })
      sleepIfAsked (if s.pwr.phase = .entering then abortSleep s else s)
    else s

/-- PERST# deasserted (R301, R309): the link trains once the Host Port is armed; a D3cold sleep ends, and configuration requests are
retried until its exit is done. -/
def deassertPerst (s : State) : State :=
  if !s.host.perst then s
  else
    let s := { s with host := { s.host with perst := false, training := s.boot.linkArmed } }
    if (funcAt s 0).d ≠ .d3cold then s
    else
      let s := modFunc s 0 (fun f => { f with d := .d0 })
      if s.pwr.phase = .entering then abortSleep s
      else if s.pwr.phase = .steady && s.pwr.sleep ≠ .zenith then
        beginExit { s with pwr := { s.pwr with wakeStatus := s.pwr.wakeStatus ||| wakeBit .perst }, host := { s.host with configReady := false } }
      else s

/-! ### The link (R297, R298, R311) -/

/-- Whether a rate and a width are among those the link trains at (R297). -/
def linkMode (rate width : Nat) : Bool := 1 ≤ rate && rate ≤ 6 && [1, 2, 4, 8, 16].contains width

/-- Training complete (R297, R302): a link below 64 GT/s x16, or one whose rate or width has changed, writes its Notice record. -/
def linkTrained (s : State) (rate width : Nat) : State :=
  if !s.host.training || s.host.perst || !linkMode rate width then s
  else
    let changed := s.host.rate != 0 && (s.host.rate != rate || s.host.width != width)
    let s := { s with host := { s.host with
      training := false, linkUp := true, rate := rate, width := width, wakeAsserted := false, l1 := false } }
    let s := if changed then count s (fun k => { k with rateWidthChanges := k.rateWidthChanges + 1 }) else s
    recordIf (changed || rate != 6 || width != 16) s 0x0101 .notice (b1 rate ++ b1 width)

/-- A fatal protocol error (R311): which of the four it was is free (log entry 1, DESIGN CHOICE); the link retrains and the functions act as on PERST#. -/
def fatalLink (s : State) : State :=
  if !s.host.linkUp then s
  else
    let (n, s) := drawNat s
    let s := portReset (reportUncor s 0 ([4, 13, 17, 18].getD (n % 4) 4))
    count { s with host := { s.host with training := true } } (fun k => { k with linkRetrains := k.linkRetrains + 1 })

/-- A correctable link error (R311): recovered and counted; which of the five it was is free (log entry 1, DESIGN CHOICE). -/
def correctableLink (s : State) : State :=
  if !s.host.linkUp then s
  else
    let (n, s) := drawNat s
    reportCor { s with host := { s.host with linkCorrectable := s.host.linkCorrectable + 1 } } 0 ([0, 6, 7, 8, 12].getD (n % 5) 0)

/-! ### Errors of requests and completions (R304 to R306, R311) -/

/-- A command that its transfer fails: it completes with Data Transfer Error unless it has taken effect or ended (R304, R306). -/
def failTransfer (s : State) (fn : Func) (sq cid : Nat) : State :=
  let c : CmdRef := { fn := fn, sq := sq, cid := cid }
  match cmdAt s c with
  | none => s
  | some f => if f.done.isNone && !f.effect then endCmd (terminate s c f) c transferError else s

/-- A mailbox command whose host payload cannot be read (R369): it completes with HOST_XFER in the registers only. -/
def failPayload (s : State) (fn : Nat) (m : Nat) : State :=
  let key := boxKey fn m
  match (boxAt s key).exec with
  | none => s
  | some e => if e.begun then s else mbxEnd s key { e with registersOnly := true } .hostXfer 0 []

/-- An error that the device has recovered from by failing the request's user: advisory non-fatal (R304, R305). -/
def reportAdvisory (s : State) (fn bit : Nat) : State := reportCor (reportUncor s fn bit) fn 13

/-- The number of what a timed-out request fetched, as its record gives it (the model's). -/
def FetchWhat.code : FetchWhat → Nat
  | .data _ _ => 1
  | .entry _ => 2
  | .mailbox _ => 3

/-- A fetch of a submission entry timed out: repeated once, then the controller is fatal (R304). -/
def fetchTimedOut (s : State) (fn : Nat) (q : Nat) : State :=
  if (funcAt s fn).fetchRetry.contains q then
    enterFatal (modFunc s fn (fun f => { f with fetchRetry := f.fetchRetry.filter (· != q) })) fn
  else modFunc s fn (fun f => { f with fetchRetry := f.fetchRetry ++ [q] })

/-- A read request of the device timed out (R303, R304); with Completion Timeout Disable none does, and after Bus Master Enable was
cleared it is not reported (R307). -/
def requestTimedOut (s : State) (fn : Func) (what : FetchWhat) : State :=
  if (funcAt s fn).ctoDisable || !mayRequest s fn then s
  else
    let s := count (reportAdvisory s fn 14) (fun k => { k with completionTimeout := k.completionTimeout + 1 })
    let s := modFunc s fn (fun f => { f with timedOut := f.timedOut + 1 })
    let s := record s 0x0102 .notice (b1 fn ++ b1 (FetchWhat.code what))
    match what with
    | .data sq cid => failTransfer s fn sq cid
    | .entry q => fetchTimedOut s fn q
    | .mailbox m => failPayload s fn m

/-- A completion for a request whose timeout has been reported: dropped (R305). -/
def lateCompletion (s : State) (fn : Nat) : State :=
  if !funcExists s fn || s.host.perst || (funcAt s fn).timedOut = 0 then s
  else
    let s := modFunc s fn (fun f => { f with timedOut := f.timedOut - 1 })
    let s := count (reportAdvisory s fn 16) (fun k => { k with unexpectedCompletion := k.unexpectedCompletion + 1 })
    record s 0x0103 .notice (b1 fn)

/-- A poisoned TLP (R306): its command fails, or its write is discarded. -/
def poisoned (s : State) (fn : Func) (what : PoisonWhat) : State :=
  if !funcExists s fn || s.host.perst then s
  else
    let s := count (reportUncor s fn 12) (fun k => { k with poisonedTlp := k.poisonedTlp + 1 })
    let s := record s 0x0104 .notice (b1 fn)
    match what with
    | .data sq cid => failTransfer s fn sq cid
    | .mailbox m => failPayload s fn m
    | .barWrite => s

/-! ### SR-IOV (R295, R349, R351) -/

/-- VF Enable set with NumVFs, or NumVFs changed (R295, R349, R351): without ARI Capable Hierarchy it has no effect above 7. -/
def setVfs (s : State) (n : Nat) : State :=
  let n := min n 127
  if 7 < n && !s.host.ariHierarchy then s
  else
    let s := enableVfs (removeVfsAbove s n) n
    let mse := readAt 0 (funcAt s 0).cfg 0x178 &&& 8 != 0#32
    let s := (List.range 127).foldl (fun s i => if i + 1 ≤ n then modFunc s (i + 1) (fun f => { f with memSpace := mse }) else s) s
    { s with host := { s.host with vfEnable := true, numVfs := n } }

/-- VFs above a number removed: NumVFs lowered, or with 0 VF Enable cleared (R351). -/
def lowerVfs (s : State) (n : Nat) : State :=
  if !s.host.vfEnable || s.host.numVfs ≤ n then s
  else { removeVfsAbove s n with host := { (removeVfsAbove s n).host with vfEnable := n != 0, numVfs := n } }

end Sys2Proof.Machine
end

