-- ==== Sys2Proof/Machine/Pcie.lean ====
section
/-! DEFINITION. The commands of the PCI Express endpoint (08_host_endpoint R295 to R311; 10 R349, R351). -/
namespace Sys2Proof.Machine

/-- FUNCTION_LEVEL_RESET (R308, R310). -/
def execFunctionLevelReset (fn : Func) (s : State) : Result := .next (beginFlr s fn)

/-- FLR_WAIT_END (R308): completions that come after it are discarded and counted, without a report. -/
def execFlrWaitEnd (fn : Func) (stragglers : Nat) (s : State) : Result :=
  .next (if (funcAt s fn).flrWait then
    endFlr (count s (fun k => { k with discardedAfterReset := k.discardedAfterReset + stragglers })) fn
  else s)

/-- PERST_ASSERT (R301, R309). -/
def execPerstAssert (s : State) : Result := .next (assertPerst s)

/-- PERST_DEASSERT (R301, R309). -/
def execPerstDeassert (s : State) : Result := .next (deassertPerst s)

/-- BUS_MASTER_ENABLE_CLEAR (R307, R310). -/
def execBusMasterEnableClear (fn : Func) (s : State) : Result := .next (if cfgReached s fn then clearBusMaster s fn else s)

/-- D3HOT_ENTRY (R301, R351). -/
def execD3hotEntry (fn : Func) (s : State) : Result := .next (if cfgReached s fn then enterD3hot s fn else s)

/-- D3HOT_EXIT (R301). -/
def execD3hotExit (fn : Func) (s : State) : Result := .next (if cfgReached s fn then exitD3hot s fn else s)

/-- COMPLETION_TIMEOUT (R303, R304). -/
def execCompletionTimeout (fn : Func) (what : FetchWhat) (s : State) : Result := .next (requestTimedOut s fn what)

/-- UNEXPECTED_COMPLETION (R305). -/
def execUnexpectedCompletion (fn : Func) (s : State) : Result := .next (lateCompletion s fn)

/-- POISONED_TLP_RECEIVED (R306). -/
def execPoisonedTlpReceived (fn : Func) (what : PoisonWhat) (s : State) : Result := .next (poisoned s fn what)

/-- ECRC_ERROR (R311): the request is discarded. -/
def execEcrcError (fn : Func) (s : State) : Result :=
  .next (if funcExists s fn && !s.host.perst then count (reportUncor s fn 19) (fun k => { k with ecrcError := k.ecrcError + 1 }) else s)

/-- UNSUPPORTED_REQUEST (R290, R311): a read is answered with Unsupported Request, a write discarded; both are reported, and the
counter counts the completions sent. -/
def execUnsupportedRequest (fn : Func) (isRead : Bool) (s : State) : Result :=
  .next (if s.host.perst then s
  else
    let s := reportUncor s fn 20
    if isRead then count s (fun k => { k with unsupportedRequest := k.unsupportedRequest + 1 }) else s)

/-- FATAL_LINK_ERROR (R311). -/
def execFatalLinkError (s : State) : Result := .next (fatalLink s)

/-- CORRECTABLE_LINK_ERROR (R311). -/
def execCorrectableLinkError (s : State) : Result := .next (correctableLink s)

/-- LINK_TRAINING_COMPLETE (R297). -/
def execLinkTrainingComplete (rate width : Nat) (s : State) : Result := .next (linkTrained s rate width)

/-- ASPM_L1_ENTRY (R298): with ASPM L1 enabled and no request of the device outstanding; CLKREQ# is released where an L1 substate is
enabled. -/
def execAspmL1Entry (s : State) : Result :=
  .next (if s.host.linkUp && (funcAt s 0).aspmL1 && (List.range 128).all (fun fn => outstanding s fn == 0) then
    { s with host := { s.host with l1 := true, clkreqReleased := readAt 0 (funcAt s 0).cfg 0x2D8 &&& 0xC != 0#32 } }
  else s)

/-- LTR_UPDATE (R298): with no I/O command outstanding and no entry unfetched for 1 ms, 3 ms are reported. -/
def execLtrUpdate (s : State) : Result :=
  .next (if (List.range 128).all (fun fn => (ctrlAt s fn).sqs.all (fun p => p.2.head == p.2.tail && (p.1 == 0 || p.2.cmds.isEmpty))) then
    { s with host := { s.host with ltrUs := 3000 } }
  else s)

/-- VF_ENABLE (R295, R349). -/
def execVfEnable (n : Nat) (s : State) : Result := .next (if cfgReached s 0 then setVfs s n else s)

/-- VF_DISABLE (R351): `n` VFs remain. -/
def execVfDisable (n : Nat) (s : State) : Result := .next (if cfgReached s 0 then lowerVfs s n else s)

end Sys2Proof.Machine
end

