-- ==== Sys2Proof/Machine/Power.lean ====
section
/-! DEFINITION. The events of power and health: sleep, levels, monitors, measurements, PWRFAIL_N (14_power_states_and_ageing). -/
namespace Sys2Proof.Machine

/-- SLEEP_ENTRY (R301, R337, R338, R432, R433): the state that the host's commands name, or the autonomous transition due. -/
def execSleepEntry (target : SleepTarget) (commanded : Bool) (s : State) : Result :=
  .next (if (if commanded then commandedTarget s else autonomousTarget s (s.time.opMs - s.nvme.idleSinceMs)) = some target then beginSleep s target commanded else s)

/-- APST_IDLE_TIMER (R338): the transition whose idle time has passed. -/
def execApstIdleTimer (idleMs : Nat) (s : State) : Result :=
  .next (match autonomousTarget s idleMs with
    | some t => beginSleep s t false
    | none => s)

/-- ECLIPSE_DESTAGE_TIMEOUT (R432): the entry goes to Night, with a Notice record. -/
def execEclipseDestageTimeout (s : State) : Result :=
  .next (if s.pwr.phase = .entering && s.pwr.target = .eclipse && !eclipseReady s .eclipse then
    record { s with pwr := { s.pwr with target := .night } } 0x0B07 .notice (b2 0)
  else s)

/-- ISOLATION_COMMIT (R433 to R436): a level event present aborts the entry. -/
def execIsolationCommit (s : State) : Result :=
  .next (if s.pwr.phase ≠ .entering || !eclipseReady s s.pwr.target then s
    else if levelPresent s s.pwr.target then abortSleep s
    else commitSleep s)

/-- WAKE_EVENT (R434, R435): a presence edge moves its pin whether or not it wakes the device. -/
def execWakeEvent (source : WakeSource) (lostWindow : Bool) (s : State) : Result :=
  .next (let s := match source with
           | .carrier c present => signalPme (modCarrier s c (fun k => { k with pin := present }))
           | _ => s
         if source = .pwrfail then powerFail s else wake s source lostWindow)

/-- WAKE_TIMER_EXPIRY (R434, R452): with WAKE_TIMER not 0. -/
def execWakeTimerExpiry (s : State) : Result := .next (if setting s 0x09 3 = 0 then s else wake s .timer false)

/-- SLEEP_EXIT_DONE (R433). -/
def execSleepExitDone (fails : List RestoreFail) (s : State) : Result :=
  .next (if s.pwr.phase = .exiting && !carriersResuming s then endExit s fails else s)

/-- PERF_LEVEL_CHANGE (R428, R429). -/
def execPerfLevelChange (s : State) : Result := .next (stepLevel s)

/-- AVSBUS_TIMEOUT (R429). -/
def execAvsbusTimeout (s : State) : Result := .next (avsTimeout s)

/-- VOLTAGE_MONITOR_EVENT (R437, R438): a rail at a voltage for which its 1 µs filter holds; VDD_AON and VDD_CS low act as PWRFAIL_N. -/
def execVoltageMonitorEvent (n : Fin 24) (filtered : Bool) (mv : Nat) (s : State) : Result :=
  .next (if !filtered then s
    else
      let st := railState s n mv
      let s := monitorEvent s n st mv
      if 21 ≤ n.val && st = .faultLow then powerFail s else s)

/-- CORE_FAULT_LIFT (R438): every core rail has stayed inside the warning band for 10 s. -/
def execCoreFaultLift (s : State) : Result :=
  .next (if s.pwr.coreFault && coreRailsInside s then { s with pwr := { s.pwr with coreFault := false } } else s)

/-- PERIODIC_720H_TIMER (R42, R441, R444): every 720 operating hours a measurement begins and a replan falls due. -/
def execPeriodic720hTimer (s : State) : Result :=
  .next (let s := { s with pwr := { s.pwr with periodicMs := s.time.opMs, replanDue := true } }
         if s.pwr.measuring || s.pwr.pwrfail || s.pwr.sleep ≠ .zenith then { s with pwr := { s.pwr with measureDue := true } } else startMeasure s)

/-- HOLDUP_MEASUREMENT_DONE (R444, R445): C and the limits are computed; a mailbox command that waits for it ends. -/
def execHoldupMeasurementDone (sample : HoldupSample) (s : State) : Result :=
  .next (if !s.pwr.measuring then s
    else
      let w := s.pwr.measureWaiter
      let s := endMeasure { s with pwr := { s.pwr with measureWaiter := none } } sample (carriersInService s)
      endWaiter s w .success 0 [])

/-- PWRFAIL_ASSERT (R447). -/
def execPwrfailAssert (s : State) : Result := .next (powerFail { s with pins := { s.pins with pwrfailN := false } })

/-- FLUSH_COMPLETE (R166, R408, R447). -/
def execFlushComplete (bad : List (Nat × Nat × Bool)) (s : State) : Result := .next (flushComplete s bad)

/-- PWRFAIL_DEASSERT (R448). -/
def execPwrfailDeassert (s : State) : Result := .next (powerBack s)

/-- THERMAL_SHUTDOWN (R459): the 130 °C comparator acts as PWRFAIL_N, with its Critical record. -/
def execThermalShutdown (s : State) : Result := .next (if s.pwr.pwrfail then s else powerFail (record s 0x0C06 .critical []))

end Sys2Proof.Machine
end

