-- ==== Sys2Proof/Machine/RegOps.lean ====
section
/-! DEFINITION. Register writes by address space (00_scope R11; 08 R286 to R296; 09 R317; 11 R358 to R363; 02 R92; 07 R284; 14 R440;
15 R480 to R484; 16 R496): a field without behaviour takes its value by its access type; one with behaviour acts as its own command
does. Places and access of fields that the spec leaves to the PCI Express and NVM Express specifications are theirs (log entries 41
and 46). Addresses that are not listed ignore writes (R290, R358). -/
namespace Sys2Proof.Machine

/-- The field of a written value: `n` bits from bit `lo`. -/
def bitsAt (v : Word32) (lo n : Nat) : Nat := v.toNat / 2 ^ lo % 2 ^ n

/-- A field of a register that holds `old`, overwritten by the bits of `v` that `mask` selects. -/
def merge (old v mask : Word32) : Word32 := (old &&& ~~~mask) ||| (v &&& mask)

/-! ### Configuration space (R286 to R296) -/

/-- The writable bits of the configuration registers that only hold what is written, by offset: the PF's, and those a VF has. -/
def cfgMask (fn off : Nat) : Word32 :=
  match off with
  | 0x04 => 0x140
  | 0x108 => 0x7FF030
  | 0x10C => 0x7FF030
  | 0x114 => 0xF1C1
  | 0x118 => 0x140
  | 0x88 => 0x400
  | _ =>
    if fn ≠ 0 then 0
    else
      match off with
      | 0x0C => 0xFF
      | 0x10 => 0xFFFE0000
      | 0x14 => 0xFFFFFFFF
      | 0x18 => 0xFE000000
      | 0x1C => 0xFFFFFFFF
      | 0x3C => 0xFF
      | 0x68 => 0x91F
      | 0x70 => 0x3C8
      | 0x90 => 0xFFFF
      | 0x178 => 0x8
      | 0x194 => 0xFFFFC000
      | 0x198 => 0xFFFFFFFF
      | 0x19C => 0xFFFC0000
      | 0x1A0 => 0xFFFFFFFF
      | 0x1B4 => 0x3
      | 0x228 => 0x703
      | 0x2D8 => 0xE3FF000F
      | 0x2DC => 0xFB
      | 0x2F4 => 0x1FFF1FFF
      | 0x308 => 0x2
      | _ => if 0x288 ≤ off && off < 0x2C8 then 0xFFFF else 0

/-- The reset values of those bits: the severities of R311, and otherwise the PCI Express specification's (log entry 46, PRESUMED). -/
def cfgInit (fn off : Nat) : Word32 :=
  match off with
  | 0x108 => 0x400000
  | 0x10C => 0x462010
  | 0x114 => 0xE000
  | 0x68 => if fn = 0 then 0x810 else 0
  | 0x2DC => if fn = 0 then 0x28 else 0
  | _ => 0

/-- The writable bits as the system page size makes them: VF BAR0 takes 16 KiB of each VF, or the System Page Size where that is larger (R295). -/
def cfgMaskNow (s : State) (fn off : Nat) : Word32 :=
  if fn = 0 && off = 0x194 then cfgMask 0 0x194 &&& ~~~(BitVec.ofNat 32 (4096 * s.host.pageSize - 1)) else cfgMask fn off

/-- A configuration register that holds what is written. -/
def holdCfg (s : State) (fn off : Nat) (v : Word32) : State :=
  if cfgMask fn off = 0 then s
  else modFunc s fn (fun f => { f with
    cfg := writeAt (cfgInit fn off) f.cfg off (merge (readAt (cfgInit fn off) f.cfg off) v (cfgMaskNow s fn off)) })

/-- Pending MSI-X messages that are no longer masked are sent (R300). -/
def sendPending (s : State) (fn : Nat) : State :=
  let f := funcAt s fn
  if !f.msixEnable then s
  else
    (f.pba.filter (fun v => !vectorMasked f v)).foldl (fun s v =>
      sendMsix (modFunc s fn (fun f => { f with pba := f.pba.filter (· != v) })) fn v) s

/-- The Command register (R286, R307): Memory Space Enable of the PF, Bus Master Enable, Interrupt Disable. -/
def writeCommand (s : State) (fn : Nat) (v : Word32) : State :=
  let s := if v.getLsbD 2 then modFunc s fn (fun f => { f with busMaster := true }) else clearBusMaster s fn
  if fn = 0 then modFunc s 0 (fun f => { f with memSpace := v.getLsbD 1, intDisable := v.getLsbD 10 }) else s

/-- Power Management control and status (R292, R301, R302): D0 and D3hot are supported; PME_En; PME_Status is cleared by writing one. -/
def writePower (s : State) (fn : Nat) (v : Word32) : State :=
  let s := modFunc s fn (fun f => { f with pmeEn := v.getLsbD 8 })
  let s := if v.getLsbD 15 then clearPme s fn else s
  if bitsAt v 0 2 = 3 then enterD3hot s fn else if bitsAt v 0 2 = 0 then exitD3hot s fn else s

/-- Device Control (R292, R299, R308): Initiate Function Level Reset begins the reset. -/
def writeDeviceControl (s : State) (fn : Nat) (v : Word32) : State :=
  let s := if fn = 0 then modFunc s 0 (fun f => { f with mps := bitsAt v 5 3, mrrs := bitsAt v 12 3 }) else s
  if v.getLsbD 15 then beginFlr s fn else s

/-- The SR-IOV Control register (R295, R349, R351): VF Enable, VF Memory Space Enable, ARI Capable Hierarchy. -/
def writeSriov (s : State) (v : Word32) : State :=
  let s := if s.host.vfEnable then s else { s with host := { s.host with ariHierarchy := v.getLsbD 4 } }
  let s := (List.range 127).foldl (fun s i =>
    if (vfAt s (i + 1)).st = .none then s else modFunc s (i + 1) (fun f => { f with memSpace := v.getLsbD 3 })) s
  if v.getLsbD 0 && !s.host.vfEnable then setVfs s s.host.numVfs else if !v.getLsbD 0 then lowerVfs s 0 else s

/-- NumVFs (R295, R349, R351): a value above 127 is 127; while VF Enable is set, VFs come and go with it. -/
def writeNumVfs (s : State) (v : Word32) : State :=
  let n := min 127 (bitsAt v 0 16)
  if !s.host.vfEnable then { s with host := { s.host with numVfs := n } }
  else if n < s.host.numVfs then lowerVfs s n
  else setVfs s n

/-- A write of a configuration register. -/
def writeConfig (s : State) (fn off : Nat) (v : Word32) : State :=
  let s := holdCfg s fn off v
  match off with
  | 0x04 => writeCommand s fn v
  | 0x44 => writePower s fn v
  | 0x50 => sendPending (modFunc s fn (fun f => { f with msixEnable := v.getLsbD 31, msixMask := v.getLsbD 30 })) fn
  | 0x68 => writeDeviceControl s fn v
  | 0x70 => if fn = 0 then modFunc s 0 (fun f => { f with aspmL1 := v.getLsbD 1 }) else s
  | 0x88 => modFunc s fn (fun f => { f with
      ctoValue := bitsAt v 0 4, ctoDisable := v.getLsbD 4, tag10 := if fn = 0 then v.getLsbD 12 else f.tag10 })
  | 0x104 => modFunc s fn (fun f => { f with aerUncor := f.aerUncor &&& ~~~v })
  | 0x110 => modFunc s fn (fun f => { f with aerCor := f.aerCor &&& ~~~v })
  | 0x178 => if fn = 0 then writeSriov s v else s
  | 0x180 => if fn = 0 then writeNumVfs s v else s
  | 0x190 => if fn = 0 && [1, 2, 16, 64, 256, 1024].contains v.toNat && !s.host.vfEnable then
      { s with host := { s.host with pageSize := v.toNat } } else s
  | 0x308 => if fn = 0 && v.getLsbD 0 then setDoeAnswer s [] else s
  | 0x30C => if fn = 0 && v.getLsbD 1 then { s with host := { s.host with spdm := { s.host.spdm with intStatus := false } } } else s
  | 0x314 => if fn = 0 then setDoeAnswer s (s.host.spdm.answer[0].drop 4) else s
  | _ => s

/-! ### Doorbells and GO as wake sources (R337, R434) -/

/-- A doorbell write: acted on, and a wake event of every sleep state (R319, R434). -/
def hostDoorbell (s : State) (fn : Nat) (cq : Bool) (q value : Nat) : State :=
  let t := doorbell s fn cq q value
  if (funcAt s fn).memSpace && funcExists s fn && !s.host.perst then wake t .doorbell false else t

/-- A write of 1 to GO: acted on, and a wake event of every sleep state (R362, R434). -/
def hostGo (s : State) (fn m : Nat) : State :=
  let t := writeGo s fn m
  if barReached s fn && m < boxesOf fn && !s.pwr.pwrfail then wake t .mailbox false else t

/-! ### BAR0: NVMe registers, doorbells and the MSI-X table (R289, R296, R317) -/

/-- Controller Configuration (R172, R320): the other fields are held; EN and SHN act. -/
def writeCc (s : State) (fn : Nat) (v : Word32) : State :=
  let old := (ctrlAt s fn).cc
  let s := modCtrl s fn (fun c => { c with cc := merge c.cc v 0x00FF3FF0 })
  let s := if v.getLsbD 0 && !old.getLsbD 0 then ccEnSet s fn else if !v.getLsbD 0 && old.getLsbD 0 then ccEnClear s fn else s
  if bitsAt v 14 2 ≠ 0 && bitsAt old 14 2 = 0 then shutdownNotify s fn else s

/-- Half of a 64-bit register. -/
def setHalf (old : Word64) (high : Bool) (v : Word32) : Word64 :=
  if high then (old &&& 0xFFFFFFFF#64) ||| (v.setWidth 64 <<< 32) else (old &&& 0xFFFFFFFF00000000#64) ||| v.setWidth 64

/-- A dword of the MSI-X table: reserved bits keep zero; a message that waited is sent once its vector is unmasked (R292, R300). -/
def writeMsix (s : State) (fn i : Nat) (v : Word32) : State :=
  let v := if i % 4 = 0 then v &&& 0xFFFFFFFC else if i % 4 = 3 then v &&& 1 else v
  sendPending (modFunc s fn (fun f => { f with msixTable := insert f.msixTable i v })) fn

/-- Where a function's MSI-X table lies in its BAR0 (R289, R296). -/
def msixBase (fn : Nat) : Nat := if fn = 0 then 0x10000 else 0x2000

/-- A write of an NVMe controller register. -/
def writeNvmeReg (s : State) (fn off : Nat) (v : Word32) : State :=
  match off with
  | 0x0C => modCtrl s fn (fun c => { c with intMask := c.intMask ||| v })
  | 0x10 => modCtrl s fn (fun c => { c with intMask := c.intMask &&& ~~~v })
  | 0x14 => writeCc s fn v
  | 0x24 => modCtrl s fn (fun c => { c with aqa := v &&& 0x0FFF0FFF })
  | 0x28 => modCtrl s fn (fun c => { c with asq := setHalf c.asq false (v &&& 0xFFFFF000) })
  | 0x2C => modCtrl s fn (fun c => { c with asq := setHalf c.asq true v })
  | 0x30 => modCtrl s fn (fun c => { c with acq := setHalf c.acq false (v &&& 0xFFFFF000) })
  | 0x34 => modCtrl s fn (fun c => { c with acq := setHalf c.acq true v })
  | _ => s

/-- A write in BAR0. -/
def writeBar0 (s : State) (fn off : Nat) (v : Word32) : State :=
  if off < 0x1000 then writeNvmeReg s fn off v
  else if off < 0x1000 + 8 * (queuePairs fn + 1) then hostDoorbell s fn ((off - 0x1000) / 4 % 2 == 1) ((off - 0x1000) / 8) (bitsAt v 0 16)
  else if msixBase fn ≤ off && off < msixBase fn + 16 * vectorsOf fn then writeMsix s fn ((off - msixBase fn) / 4) v
  else s

/-! ### BAR2: the Management Aperture (R358 to R363) -/

/-- A write of a mailbox register (R361, R363): while BUSY is 1 only the RW1C bits of MBX_STATUS act. -/
def writeMailbox (s : State) (fn m reg : Nat) (v : Word32) : State :=
  let key := boxKey fn m
  let set := fun (f : Mailbox → Mailbox) => if (boxAt s key).busy then s else modBox s key f
  match reg with
  | 0x00 => set (fun b => { b with opcode := v.setWidth 16 })
  | 0x04 => set (fun b => { b with len := v })
  | 0x08 => set (fun b => { b with seq := v.setWidth 16 })
  | 0x0C => set (fun b => { b with
      vector := if bitsAt v 16 11 < vectorsOf fn then bitsAt v 16 11 else b.vector, hostPayload := v.getLsbD 1, irqEn := v.getLsbD 0 })
  | 0x10 => if v.getLsbD 0 then hostGo s fn m else s
  | 0x14 => modBox s key (fun b => { b with overrun := b.overrun && !v.getLsbD 2, done := b.done && !v.getLsbD 1 })
  | 0x20 => set (fun b => { b with payloadAddr := setHalf b.payloadAddr false (v &&& 0xFFFFFFFC) })
  | 0x24 => set (fun b => { b with payloadAddr := setHalf b.payloadAddr true v })
  | 0x28 => set (fun b => { b with cplAddr := setHalf b.cplAddr false (v &&& 0xFFFFFFF0) })
  | 0x2C => set (fun b => { b with cplAddr := setHalf b.cplAddr true v })
  | _ => s

/-- CTL_SLOT_CFG (R479, R480): COMMIT loads the shadow set; which fields a slot has depends on its loop. -/
def writeLoopCfg (s : State) (n : Nat) (v : Word32) : State :=
  let thermal := n < 4
  let s := modLoop s n (fun l =>
    let l := { l with order := v.getLsbD 4, rateDiv := if n < 8 && bitsAt v 8 8 != 0 then bitsAt v 8 8 else l.rateDiv }
    if thermal then
      let l' := { l with motorMask := BitVec.ofNat 4 (bitsAt v 24 4), spSource := bitsAt v 22 2, spOffset := bitsAt v 16 6
                         input := bitsAt v 6 2, ceiling := v.getLsbD 5, enable := v.getLsbD 0 }
      if v.getLsbD 0 && !l.enable then clearHistory l' else l'
    else l)
  let s := settleSetpoints s
  if v.getLsbD 31 then
    let (updating, s) := drawBool s
    commitSlot s n updating
  else s

/-- A shadow coefficient set by its register's index, 0 for B0 to 6 for A3. -/
def setCoef (c : Coefs) (i : Nat) (v : Int) : Coefs :=
  match i with
  | 0 => { c with b0 := v }
  | 1 => { c with b1 := v }
  | 2 => { c with b2 := v }
  | 3 => { c with b3 := v }
  | 4 => { c with a1 := v }
  | 5 => { c with a2 := v }
  | _ => { c with a3 := v }

/-- Whether CTL_SLOT_SP of a slot is writable (R480): a d slot's, and a thermal slot's with SP_SOURCE zero. -/
def spWritable (s : State) (n : Nat) : Bool := if n < 4 then (loopAt s n).spSource == 0 else 8 ≤ n && n % 2 == 1

/-- A write of a loop slot's register (R480). -/
def writeLoop (s : State) (n reg : Nat) (v : Word32) : State :=
  match reg with
  | 0x00 => writeLoopCfg s n v
  | 0x04 => if spWritable s n then modLoop s n (fun l => { l with sp := v.toInt }) else s
  | 0x24 => modLoop s n (fun l => { l with outMin := v.toInt })
  | 0x28 => modLoop s n (fun l => { l with outMax := v.toInt })
  | 0x34 => modLoop s n (fun l => { l with satHigh := l.satHigh && !v.getLsbD 1, satLow := l.satLow && !v.getLsbD 0 })
  | _ => if 0x08 ≤ reg && reg < 0x24 then modLoop s n (fun l => { l with shadow := setCoef l.shadow ((reg - 8) / 4) v.toInt }) else s

/-- A write of a motor's register (R474, R481): ENABLE acts when it changes. -/
def writeMotor (s : State) (m reg : Nat) (v : Word32) : State :=
  match reg with
  | 0x00 =>
    let s := if v.getLsbD 1 then restartMotor s m else s
    if v.getLsbD 0 == (motorAt s m).enable then s else enableMotor s m (v.getLsbD 0)
  | 0x04 => modMotor s m (fun x => { x with loss := x.loss && !v.getLsbD 1 })
  | _ => s

/-- A write of a trace buffer's register (R484). -/
def writeTrace (s : State) (b reg : Nat) (v : Word32) : State :=
  match reg with
  | 0x00 =>
    let s := modTrace s b (fun t => { t with
      continuous := v.getLsbD 29, trigSrc := bitsAt v 26 3, trigMotor := bitsAt v 24 2, preTrigger := bitsAt v 0 13 })
    let s := if v.getLsbD 31 then modTrace s b armTrace else s
    if v.getLsbD 30 then triggerTrace s b else s
  | 0x04 => modTrace s b (fun t => { t with decimation := bitsAt v 16 16, index := bitsAt v 8 4, signal := bitsAt v 0 8 })
  | 0x08 => modTrace s b (fun t => { t with level := v })
  | _ => s

/-- A write of a Media Direct register (R92, R93): ignored while Media Direct is disabled. -/
def writeMdr (s : State) (off : Nat) (v : Word32) : State :=
  if !s.media.mdEnabled || off < 0x10 || 0x50 ≤ off then s
  else
    let n : Fin 4 := ⟨(off - 0x10) / 16 % 4, Nat.mod_lt _ (by decide)⟩
    match off % 16 with
    | 0x0 => writeRingCtrl s n v.toNat
    | 0x4 => ringDoorbell s n (bitsAt v 0 13)
    | 0x8 => writeCqHead s n v.toNat
    | 0xC => writeRingStatus s n v.toNat
    | _ => s

/-- A write of a port's HAL_PORT_STATUS (R284). -/
def writeHalPort (s : State) (p : Nat) (v : Word32) : State :=
  let s := if v.getLsbD 2 then clearPortCounters s p else s
  if v.getLsbD 0 then modPort s p (fun x => { x with linkChange := false }) else s

/-- A write of a register of the PF's Management Aperture (R358). -/
def writePfAperture (s : State) (off : Nat) (v : Word32) : State :=
  if 0x10000 ≤ off && off < 0x20000 then writeMailbox s 0 ((off - 0x10000) / 0x1000) (off % 0x1000) v
  else if off = 0x20F000 then writeCursor s v
  else if off = 0x20F004 then { s with alm := { s.alm with cursor := setHalf s.alm.cursor true v } }
  else if off = 0x20F00C then { s with alm := { s.alm with event := s.alm.event &&& ~~~(v.setWidth 4) } }
  else if off = 0x210004 then { s with pwr := { s.pwr with wakeStatus := s.pwr.wakeStatus &&& ~~~(v.setWidth 9) } }
  else if off = 0x210400 then (if v.getLsbD 16 then { s with cool := { s.cool with thresholdChange := false } } else s)
  else if 0x220000 ≤ off && off < 0x220400 then writeMotor s ((off - 0x220000) / 0x100) (off % 0x100) v
  else if 0x221000 ≤ off && off < 0x221400 then writeLoop s ((off - 0x221000) / 0x40) (off % 0x40) v
  else if 0x222000 ≤ off && off < 0x222800 then
    let i := (off - 0x222000) / 2
    { s with cool := { s.cool with sine := insert (insert s.cool.sine i (v.setWidth 16)) (i + 1) ((v >>> 16).setWidth 16) } }
  else if 0x23F000 ≤ off && off < 0x23F080 then writeTrace s ((off - 0x23F000) / 0x20) (off % 0x20) v
  else if off = 0x280010 then writeHalPort s 0 v
  else if off = 0x280020 then writeHalPort s 1 v
  else if 0x4F0000 ≤ off && off < 0x4F0100 then writeMdr s (off - 0x4F0000) v
  else s

/-- Whether the PF's BAR2 answers at an offset: the boot ROM, where it serves alone, has the GBL_ registers, the mailboxes and the Almanac
window (R394, R396). -/
def apertureAnswers (s : State) (off : Nat) : Bool :=
  !(s.boot.phase == .noStore || (s.boot.phase == .safeStart && s.boot.safeStep == 5)) || off < 0x1000
    || (0x10000 ≤ off && off < 0x20000) || (0x100000 ≤ off && off < 0x210000)

/-- A write of a register of a VF's Management Aperture (R359). -/
def writeVfAperture (s : State) (fn off : Nat) (v : Word32) : State :=
  if 0x1000 ≤ off && off < 0x3000 then writeMailbox s fn ((off - 0x1000) / 0x1000) (off % 0x1000) v else s

/-- Whether a memory request can arrive at a function at all: the Host Port answers for it. -/
def memArrives (s : State) (fn : Nat) : Bool := funcExists s fn && s.host.configReady && !s.host.perst

/-- A memory write that is not one of R290's: discarded with an Unsupported Request error (R290, R311). -/
def unsupportedWrite (s : State) (fn : Nat) : State := if memArrives s fn then reportUncor s fn 20 else s

/-- A write of one register by its address space: a memory write that is not aligned, or while Memory Space Enable is 0, is an Unsupported
Request (R290). -/
def writeRegister (s : State) (fn : Nat) (space : RegSpace) (off : Nat) (v : Word32) : State :=
  match space with
  | .config => if off % 4 = 0 && cfgReached s fn then writeConfig s fn off v else s
  | .bar0 => if barReached s fn && off % 4 = 0 then writeBar0 (leaveL1 s) fn off v else unsupportedWrite s fn
  | .bar2 =>
    if !barReached s fn || off % 4 ≠ 0 then unsupportedWrite s fn
    else if fn = 0 then (if apertureAnswers s off then writePfAperture (leaveL1 s) off v else leaveL1 s) else writeVfAperture (leaveL1 s) fn off v

/-! ### The word-ECC buffers and the windows (R290, R358, R417, R418) -/

/-- Where a range of a function's aperture lies whole in a payload buffer: the mailbox and the offset (R358, R359). -/
def payloadAt (fn off n : Nat) : Option (Nat × Nat) :=
  let base := if fn = 0 then 0x100000 else 0x10000
  if base ≤ off && off + n ≤ base + 0x10000 * boxesOf fn && (off - base) / 0x10000 = (off + n - 1 - base) / 0x10000 then
    some ((off - base) / 0x10000, (off - base) % 0x10000)
  else none

/-- Whether a range lies in the ring memory or the buffer area of Media Direct (R92). -/
def mdRange (off n : Nat) : Bool := (0x300000 ≤ off && off + n ≤ 0x440000) || (0x500000 ≤ off && off + n ≤ 0x900000)

/-- Whether an access is one that the buffers and windows accept: one byte or more, within one 4 KiB page (R290). -/
def withinPage (off n : Nat) : Bool := n != 0 && off / 4096 == (off + n - 1) / 4096

/-- Bytes written to Media Direct memory: a word they cover in part and that is uncorrectable stays as it was (R417). -/
def mdMerge (m : MediaState) (off : Nat) (data : Bytes) : MediaState :=
  let whole := fun w => off ≤ 8 * w && 8 * w + 8 ≤ off + data.length
  { m with mdMem := data.zipIdx.foldl (fun mem p =>
             let a := off + p.2
             if whole (a / 8) || mdWordOk m a then insert mem a p.1 else mem) m.mdMem
           mdBadWords := m.mdBadWords.filter (fun w => !whole w) }

/-- Whether an access is one that the buffers and windows accept (R290): within one page and no longer than the Max Payload Size. -/
def bufferAccess (s : State) (off n : Nat) : Bool := withinPage off n && n ≤ maxPayload s

/-- Whether a range of the PF's aperture lies in the Almanac window or the trace window (R358). -/
def logWindow (off n : Nat) : Bool := (0x200000 ≤ off && off + n ≤ 0x20F000) || (0x240000 ≤ off && off + n ≤ 0x280000)

/-- Whether a range of the PF's aperture lies in the diagnostic window (R358), whose reads have a row of their own. -/
def diagWindow (off : Nat) : Bool := 0x1000000 ≤ off && off < 0x2000000

/-- The aligned dwords of a write to a register area. -/
def writeDwords : Nat → State → Nat → Nat → Bytes → State
  | 0, s, _, _, _ => s
  | n + 1, s, fn, off, b =>
    writeDwords n (writeRegister s fn .bar2 off (BitVec.ofNat 32 (field b 0 4))) fn (off + 4) (b.drop 4)

/-- A host write to an aperture buffer (R363, R417): a payload buffer while its mailbox is not busy, or Media Direct memory while it is
powered. Writes to the windows are discarded; an aligned write of 4 or 8 bytes elsewhere writes registers, any other is an Unsupported
Request (R290). -/
def writeAperture (s : State) (fn off : Nat) (data : Bytes) : State :=
  let n := data.length
  if n = 0 then s
  else if !barReached s fn then unsupportedWrite s fn
  else
    let s := leaveL1 s
    match payloadAt fn off n with
    | some (m, o) =>
      if !bufferAccess s off n then unsupportedWrite s fn
      else if (boxAt s (boxKey fn m)).busy then s else modBox s (boxKey fn m) (fun b => bufferWrite b o data)
    | none =>
      if fn = 0 && mdRange off n then
        if !bufferAccess s off n then unsupportedWrite s fn else if s.media.mdPowered then { s with media := mdMerge s.media off data } else s
      else if fn = 0 && (logWindow off n || diagWindow off) then s
      else if (n = 4 || n = 8) && off % n = 0 then writeDwords (n / 4) s fn off data
      else unsupportedWrite s fn

/-- What a host read returned, as host software sees it. -/
def returned (s : State) (data : Bytes) : State :=
  { noteCompletion s data.length with host := { (noteCompletion s data.length).host with readData := data, readPoisoned := false } }

/-- A read that met an uncorrectable word: a poisoned completion, counted, with a Notice record (R418). -/
def returnedPoisoned (s : State) (off : Nat) : State :=
  let s := { s with host := { s.host with readData := [], readPoisoned := true }, dram := { s.dram with sramUe := s.dram.sramUe + 1 } }
  record s 0x0A07 .notice (b8 off)

/-- A byte of the Almanac window (R497). -/
def almWindowByte (s : State) (i : Nat) : Byte := (windowSlot s.alm (i / 64)).getD (i % 64) 0

/-- A byte of the trace window (R483): value, then time, of a sample. -/
def traceWindowByte (s : State) (i : Nat) : Byte :=
  let x := readAt (0, 0) (traceAt s (i / 0x10000)).samples (i % 0x10000 / 8)
  (leBytes 4 x.1.toNat ++ leBytes 4 x.2.toNat).getD (i % 8) 0

end Sys2Proof.Machine
end

