-- ==== Sys2Proof/Machine/RegRead.lean ====
section
/-! DEFINITION. What a read of a register returns, by address space (00_scope R11; 02 R92; 07 R284; 08 R286 to R296; 09 R317, R320; 11 R358 to
R361; 13 R411; 14 R440; 15 R480 to R484; 16 R496): RO and RW1C fields their current value, RW fields the last value written, WO, RsvdP and
RsvdZ fields zero. Places of fields that the spec leaves to the PCI Express and NVM Express specifications are theirs (log entries 41 and 46). -/
namespace Sys2Proof.Machine

/-- Numbers placed in a register: each with the bit it begins at. -/
def packed (l : List (Nat × Nat)) : Nat := (l.map (fun p => p.2 * 2 ^ p.1)).sum

/-- A flag placed at a bit. -/
def flagAt (bit : Nat) (b : Bool) : Nat × Nat := (bit, if b then 1 else 0)

/-- The 32 bits of a signed value. -/
def word32 (v : Int) : Nat := (BitVec.ofInt 32 v).toNat

/-- Half of a 64-bit register. -/
def halfOf (v : Nat) (high : Bool) : Nat := if high then v / 2 ^ 32 % 2 ^ 32 else v % 2 ^ 32

/-! ### Configuration space (R286 to R296) -/

/-- A conventional capability's header: ID, next pointer, and the half dword that follows. -/
def capHead (id next upper : Nat) : Nat := packed [(0, id), (8, next), (16, upper)]

/-- An extended capability's header: ID, version and next pointer. -/
def extHead (id version next : Nat) : Nat := packed [(0, id), (16, version), (20, next)]

/-- Subsystem Vendor ID and Subsystem ID of every function (R287). -/
def subsystemWord (s : State) : Nat :=
  let unread := s.boot.phase == .noStore || (s.boot.phase == .safeStart && s.boot.safeStep == 6)
  let x := if unread then (0x1F7E, 0) else s.mbx.subsystem.getD (0x1F7E, 0)
  packed [(0, x.1), (16, x.2)]

/-- The Device Serial Number: zero where the Config Store does not answer (R294, R396). -/
def serialNow (s : State) : Nat := if s.boot.phase == .noStore then 0 else s.host.serial.toNat

/-- The constant fields of the configuration registers that every function has (R286, R292, R293, R296). -/
def cfgCommon (fn off : Nat) : Nat :=
  let pf := fn == 0
  match off with
  | 0x00 => if pf then 0x58401F7E else 0xFFFFFFFF
  | 0x04 => packed [(20, 1)]
  | 0x08 => packed [(0, 0x11), (8, 0x010802)]
  | 0x34 => 0x40
  | 0x40 => capHead 0x01 0x50 (if pf then 0xC803 else 0x4803)
  | 0x44 => packed [(3, 1)]
  | 0x50 => capHead 0x11 0x60 (if pf then 2047 else 63)
  | 0x54 => if pf then 0x10000 else 0x2000
  | 0x58 => if pf then 0x18000 else 0x3000
  | 0x60 => capHead 0x10 0xA0 0x8002
  | 0x64 => 0x10008C22
  | 0x6C => 0x460906
  | 0x84 => 0x3081F
  | 0x8C => 0x7E
  | 0xA0 => 0x01100009
  | 0xA4 => packed [(8, 1), (16, 2), (24, if pf then 25 else 18)]
  | 0xA8 => packed [(0, if pf then 16 else 2), (16, if pf then 0xFFFE else 0x2042)]
  | 0x100 => extHead 0x0001 2 0x150
  | 0x118 => 0xA0
  | _ => 0

/-- The constant fields of the PF's own configuration registers (R286, R291, R292, R295). -/
def cfgPf (off : Nat) : Nat :=
  match off with
  | 0x10 => 4
  | 0x18 => 4
  | 0x3C => 0x100
  | 0x150 => extHead 0x0003 1 0x160
  | 0x160 => extHead 0x000E 1 0x170
  | 0x170 => extHead 0x0010 1 0x1B0
  | 0x17C => packed [(0, 127), (16, 127)]
  | 0x184 => packed [(0, 1), (16, 1)]
  | 0x188 => packed [(16, 0x5841)]
  | 0x18C => 0x0553
  | 0x194 => 4
  | 0x19C => 4
  | 0x1B0 => extHead 0x0019 1 0x1E0
  | 0x1E0 => extHead 0x0025 1 0x1F0
  | 0x1F0 => extHead 0x0026 1 0x220
  | 0x220 => extHead 0x002A 1 0x250
  | 0x250 => extHead 0x0031 1 0x280
  | 0x280 => extHead 0x0027 1 0x2D0
  | 0x2D0 => extHead 0x001E 1 0x2F0
  | 0x2D4 => 0x210A1F
  | 0x2F0 => extHead 0x0018 1 0x300
  | 0x300 => extHead 0x002E 1 0
  | 0x304 => 0xFFF
  | _ => 0

/-- What the state shows in a configuration register, beside its constant fields and the fields that only hold what was written. -/
def cfgLive (s : State) (fn off : Nat) : Nat :=
  let f := funcAt s fn
  let pf := fn == 0
  match off with
  | 0x04 => packed [flagAt 1 (pf && f.memSpace), flagAt 2 f.busMaster, flagAt 10 (pf && f.intDisable), flagAt 19 (pf && intaAsserted s)]
  | 0x2C => subsystemWord s
  | 0x44 => packed [(0, if f.d == .d0 then 0 else 3), flagAt 8 f.pmeEn, flagAt 15 f.pmeStatus]
  | 0x50 => packed [flagAt 30 f.msixMask, flagAt 31 f.msixEnable]
  | 0x68 => if pf then packed [(5, f.mps), (12, f.mrrs)] else 0
  | 0x70 => packed [flagAt 1 f.aspmL1, (16, s.host.rate), (20, s.host.width)]
  | 0x88 => packed [(0, f.ctoValue), flagAt 4 f.ctoDisable, flagAt 12 f.tag10]
  | 0x104 => f.aerUncor.toNat
  | 0x110 => f.aerCor.toNat
  | 0x150 => if pf then 0 else extHead 0x000E 1 0
  | 0x154 => if pf then halfOf (serialNow s) false else 0
  | 0x158 => if pf then halfOf (serialNow s) true else 0
  | 0x178 => if pf then packed [flagAt 0 s.host.vfEnable, flagAt 4 s.host.ariHierarchy] else 0
  | 0x180 => if pf then s.host.numVfs else 0
  | 0x190 => if pf then s.host.pageSize else 0
  | 0x30C => if pf then packed [flagAt 1 s.host.spdm.intStatus, flagAt 31 (!(s.host.spdm.answer[0]).isEmpty)] else 0
  | 0x314 => if pf then field s.host.spdm.answer[0] 0 4 else 0
  | _ => 0

/-- A configuration register (R286 to R296). -/
def readConfig (s : State) (fn off : Nat) : Nat :=
  let held := readAt (cfgInit fn off) (funcAt s fn).cfg off &&& cfgMaskNow s fn off
  held.toNat + cfgCommon fn off + (if fn = 0 then cfgPf off else 0) + cfgLive s fn off

/-! ### BAR0 (R289, R296, R317) -/

/-- CSTS: RDY, CFS and SHST. -/
def cstsWord (c : Ctrl) : Nat := packed [flagAt 0 c.rdy, flagAt 1 c.cfs, (2, c.shst)]

/-- An NVMe controller register; CAP and VS hold the values of the spec's table. -/
def readNvmeReg (s : State) (fn off : Nat) : Nat :=
  let c := ctrlAt s fn
  match off with
  | 0x00 => packed [(0, 0xFFFF), (16, 1), (24, 240)]
  | 0x04 => packed [(5, 1), (20, 4)]
  | 0x08 => 0x00020000
  | 0x0C => c.intMask.toNat
  | 0x10 => c.intMask.toNat
  | 0x14 => c.cc.toNat
  | 0x1C => cstsWord c
  | 0x24 => c.aqa.toNat
  | 0x28 => halfOf c.asq.toNat false
  | 0x2C => halfOf c.asq.toNat true
  | 0x30 => halfOf c.acq.toNat false
  | 0x34 => halfOf c.acq.toNat true
  | _ => 0

/-- A dword of the MSI-X table: a vector is masked until it is written. -/
def msixDword (f : PciFunc) (i : Nat) : Nat := (readAt (if i % 4 = 3 then 1 else 0) f.msixTable i).toNat

/-- A dword of the Pending Bit Array. -/
def pbaDword (f : PciFunc) (i : Nat) : Nat := bitsOf ((List.range 32).map (fun b => f.pba.contains (32 * i + b)))

/-- A register of BAR0: doorbells and reserved addresses read zero. -/
def readBar0 (s : State) (fn off : Nat) : Nat :=
  let table := msixBase fn
  let pba := if fn = 0 then 0x18000 else 0x3000
  if off < 0x1000 then readNvmeReg s fn off
  else if table ≤ off && off < table + 16 * vectorsOf fn then msixDword (funcAt s fn) ((off - table) / 4)
  else if pba ≤ off && off < pba + divCeil (vectorsOf fn) 8 then pbaDword (funcAt s fn) ((off - pba) / 4)
  else 0

/-! ### GBL_ and MBX_ (R360, R361) -/

/-- START_STATE of GBL_STATUS (R360, R385). -/
def startState (s : State) : Nat := if s.boot.phase == .safeStart || s.boot.phase == .noStore then 2 else if s.boot.intake then 1 else 0

/-- GBL_STATUS (R360). -/
def gblStatus (s : State) : Nat :=
  packed [(30, startState s), (24, s.red.st.code), (20, powerState s), (18, s.pwr.level), (13, s.boot.step), flagAt 3 s.dram.frozen
    , flagAt 2 s.mbx.custodianKey.isSome, flagAt 1 s.media.mdEnabled, flagAt 0 (s.fw.handover != .none)]

/-- GBL_FW_VERSION: the version of the image that runs (R360). -/
def gblFwVersion (s : State) : Nat := field (slotAt s.fw s.fw.activeSlot).fwVersion 0 8

/-- A GBL_ register of a function (R360). -/
def readGbl (s : State) (fn off : Nat) : Nat :=
  match off with
  | 0x00 => packed [(24, 1), (8, 0x11), (0, boxesOf fn)]
  | 0x04 => gblStatus s
  | 0x08 => halfOf (serialNow s) false
  | 0x0C => halfOf (serialNow s) true
  | 0x10 => halfOf (gblFwVersion s) false
  | 0x14 => halfOf (gblFwVersion s) true
  | 0x18 => bitsOf ((List.range (boxesOf fn)).map (fun m => (boxAt s (boxKey fn m)).busy))
  | _ => 0

/-- A register of a mailbox (R361). -/
def readMailbox (b : Mailbox) (reg : Nat) : Nat :=
  match reg with
  | 0x00 => b.opcode.toNat
  | 0x04 => b.len.toNat
  | 0x08 => b.seq.toNat
  | 0x0C => packed [(16, b.vector), flagAt 1 b.hostPayload, flagAt 0 b.irqEn]
  | 0x14 => packed [(16, b.status), flagAt 2 b.overrun, flagAt 1 b.done, flagAt 0 b.busy]
  | 0x18 => b.resultLen
  | 0x1C => b.detail
  | 0x20 => halfOf b.payloadAddr.toNat false
  | 0x24 => halfOf b.payloadAddr.toNat true
  | 0x28 => halfOf b.cplAddr.toNat false
  | 0x2C => halfOf b.cplAddr.toNat true
  | _ => 0

/-! ### DGN_, PWR_, HK_ and ALM_ (R411, R440, R482, R496) -/

/-- A DGN_ register (R411). -/
def readDgn (s : State) (off : Nat) : Nat :=
  let d := s.dram
  match off with
  | 0x00 => packed [(28, d.freezeCause), (24, d.freezeChannel), (16, channelBits s), (14, d.flushState), flagAt 1 d.windowValid, flagAt 0 d.frozen]
  | 0x08 => halfOf d.freezeAddr false
  | 0x0C => halfOf d.freezeAddr true
  | 0x10 => halfOf d.windowBase false
  | 0x14 => halfOf d.windowBase true
  | 0x18 => d.windowUe
  | _ => 0

/-- PWR_STATUS (R440). -/
def pwrStatus (s : State) : Nat :=
  packed [(30, s.pwr.sleep.code), (28, s.pwr.level), (26, selectedLevel s), (16, limitCause s), flagAt 3 s.pwr.writeThrough
    , flagAt 2 s.pwr.holdupInvalid, flagAt 1 s.pins.holdupTest, flagAt 0 s.pwr.pwrfail]

/-- PWR_AGEING (R440). -/
def pwrAgeing (p : PwrState) : Nat := packed [(16, p.p0Freq), (12, p.offset[3]), (8, p.offset[2]), (4, p.offset[1]), (0, p.offset[0])]

/-- HK_MEDIA_HOT or HK_MEDIA_COLD of a die (R482). -/
def hkMedia (x : Option (Nat × Nat × Int)) : Nat :=
  x.elim 0 (fun h => packed [(26, h.1), (19, h.2.1), (0, (BitVec.ofInt 8 h.2.2).toNat)])

/-- A PWR_ or HK_ register, by its offset in their area (R440, R482). -/
def readHk (s : State) (off : Nat) : Nat :=
  let k := s.cool
  match off with
  | 0x000 => pwrStatus s
  | 0x004 => s.pwr.wakeStatus.toNat
  | 0x008 => s.pwr.padHold.toNat
  | 0x00C => pwrAgeing s.pwr
  | 0x400 => packed [flagAt 17 k.fault, flagAt 16 k.thresholdChange, (0, (BitVec.ofInt 16 k.tj).toNat)]
  | 0x404 => (BitVec.ofInt 16 k.rate).toNat
  | 0x408 => hkMedia k.hot
  | 0x40C => hkMedia k.cold
  | 0x410 => packed [(16, min 65535 k.lunsClosed), (0, k.round.toNat)]
  | _ =>
    if 0x100 ≤ off && off < 0x160 then vmonWord (vget s.pwr.mon {} ((off - 0x100) / 4))
    else if 0x200 ≤ off && off < 0x300 then vget s.pwr.pmonReg 0 ((off - 0x200) / 4) % 2 ^ 16
    else 0

/-- An ALM_ register (R496). -/
def readAlm (s : State) (off : Nat) : Nat :=
  match off with
  | 0x0 => halfOf s.alm.cursor.toNat false
  | 0x4 => halfOf s.alm.cursor.toNat true
  | 0x8 => almStatus s.alm
  | 0xC => s.alm.event.toNat
  | _ => 0

/-! ### CDR_, CTL_ and TRC_ (R480, R481, R484) -/

/-- A register of a motor (R481). -/
def readMotor (s : State) (m reg : Nat) : Nat :=
  let x := motorAt s m
  match reg with
  | 0x00 => packed [flagAt 0 x.enable]
  | 0x04 => packed [(28, x.st.code), (24, min 15 (recentLosses s x).length), flagAt 2 x.keFault, flagAt 1 x.loss, flagAt 0 x.reversed]
  | 0x08 => word32 x.speed
  | 0x0C => x.angle.toNat
  | 0x10 => word32 x.iq
  | 0x14 => word32 x.id
  | 0x18 => x.keMeas % 2 ^ 32
  | 0x1C => word32 x.modelSpeed
  | _ => 0

/-- CTL_SLOT_CFG of a slot: the thermal fields in thermal slots only, RATE_DIV not in current slots, ENABLE of the others as their motor runs
(R480). -/
def slotCfg (s : State) (n : Nat) : Nat :=
  let l := loopAt s n
  packed ([(8, if n < 8 then l.rateDiv else 0), flagAt 4 l.order, flagAt 0 (if n < 4 then l.enable else slotRuns s n)]
    ++ (if n < 4 then [(24, l.motorMask.toNat), (22, l.spSource), (16, l.spOffset), (6, l.input), flagAt 5 l.ceiling] else []))

/-- A slot's shadow coefficient by its register's index (R480). -/
def coefAt (c : Coefs) (i : Nat) : Int := [c.b0, c.b1, c.b2, c.b3, c.a1, c.a2, c.a3].getD i 0

/-- A register of a loop slot (R480): CTL_SLOT_SP shows the setpoint the slot compares with. -/
def readLoop (s : State) (n reg : Nat) : Nat :=
  let l := loopAt s n
  match reg with
  | 0x00 => slotCfg s n
  | 0x04 => word32 (if spWritable s n then l.sp else slotSetpoint s n)
  | 0x24 => word32 l.outMin
  | 0x28 => word32 l.outMax
  | 0x2C => word32 l.meas
  | 0x30 => word32 l.out
  | 0x34 => packed [(16, l.updates), flagAt 2 l.commitPending, flagAt 1 l.satHigh, flagAt 0 l.satLow]
  | _ => if 0x08 ≤ reg && reg < 0x24 then word32 (coefAt l.shadow ((reg - 8) / 4)) else 0

/-- A register of a trace buffer (R484). -/
def readTrace (t : TraceState) (reg : Nat) : Nat :=
  match reg with
  | 0x00 => packed [flagAt 29 t.continuous, (26, t.trigSrc), (24, t.trigMotor), (0, t.preTrigger)]
  | 0x04 => packed [(16, t.decimation), (8, t.index), (0, t.signal)]
  | 0x08 => t.level.toNat
  | 0x0C => packed [flagAt 15 t.done, flagAt 14 t.triggered, flagAt 13 t.armed, (0, t.writeIndex)]
  | _ => 0

/-! ### HAL_ and MDR_ (R92, R284) -/

/-- STATE of a port (R284). -/
def PortSt.code : PortSt → Nat
  | .down => 0
  | .training => 1
  | .init => 2
  | .up => 3
  | .asleep => 4
  | .waking => 5

/-- A mask of node numbers. -/
def nodeMask (l : List Nat) : Nat := bitsOf ((List.range 32).map l.contains)

/-- A register of a Halo port (R284). -/
def readHalPort (x : HaloPort) (reg : Nat) : Nat :=
  match reg with
  | 0x0 => packed [(28, x.st.code), (19, x.neighbour), flagAt 18 x.nbValid, (16, x.rate), (8, x.lanes.toNat), flagAt 0 x.linkChange]
  | 0x4 => packed [(16, min 65535 x.replays), (0, min 65535 x.crcErrors)]
  | 0x8 => min 0xFFFFFFFF x.fecUncorr
  | _ => 0

/-- A HAL_ register (R284). -/
def readHal (s : State) (off : Nat) : Nat :=
  let h := s.halo
  match off with
  | 0x00 => packed [(24, h.topoEpoch % 256), (16, nodeId s), (8, h.entries.length), (2, h.topology), flagAt 1 h.eng, flagAt 0 h.eng]
  | 0x04 => nodeMask (h.entries.map (·.nodeId))
  | 0x08 => nodeMask (asleepNodes s)
  | _ => if off / 0x10 = 1 then readHalPort h.ports[0] (off % 0x10) else if off / 0x10 = 2 then readHalPort h.ports[1] (off % 0x10) else 0

/-- A register of a Media Direct ring (R92): LAST_ERR, ERR and TAIL; CHANNEL; HEAD of the completion ring. -/
def readRing (r : MdRing) (reg : Nat) : Nat :=
  match reg with
  | 0x0 => r.channel.val
  | 0x8 => r.cqHead
  | 0xC => packed [(24, r.lastErr), flagAt 16 r.err, (0, r.tail % 4096)]
  | _ => 0

/-- An MDR_ register (R92). -/
def readMdr (s : State) (off : Nat) : Nat :=
  let m := s.media
  let ring := fun (n : Nat) => vget m.rings {} n
  if off = 0 then bitsOf ((List.range 16).map (fun c => (carrierAt s c).st == .outOfService))
  else if off = 4 then packed [flagAt 1 m.mdPowered, flagAt 0 m.mdEnabled]
  else if 0x10 ≤ off && off < 0x50 then readRing (ring ((off - 0x10) / 16)) (off % 16)
  else if 0x80 ≤ off && off < 0x90 then
    let r := ring ((off - 0x80) / 4)
    packed [(16, r.pending), (0, r.head % 4096)]
  else 0

/-! ### The Management Aperture (R358, R359) -/

/-- A register of the PF's Management Aperture; addresses that are not listed read zero (R358). -/
def readPfAperture (s : State) (off : Nat) : Nat :=
  if off < 0x1000 then readGbl s 0 off
  else if 0x8000 ≤ off && off < 0x8100 then readDgn s (off - 0x8000)
  else if 0x10000 ≤ off && off < 0x20000 then readMailbox (boxAt s (boxKey 0 ((off - 0x10000) / 0x1000))) (off % 0x1000)
  else if 0x20F000 ≤ off && off < 0x210000 then readAlm s (off - 0x20F000)
  else if 0x210000 ≤ off && off < 0x220000 then readHk s (off - 0x210000)
  else if 0x220000 ≤ off && off < 0x220400 then readMotor s ((off - 0x220000) / 0x100) (off % 0x100)
  else if 0x221000 ≤ off && off < 0x221400 then readLoop s ((off - 0x221000) / 0x40) (off % 0x40)
  else if 0x222000 ≤ off && off < 0x222800 then
    let i := (off - 0x222000) / 2
    packed [(16, (sineEntry s (i + 1)).toNat), (0, (sineEntry s i).toNat)]
  else if 0x23F000 ≤ off && off < 0x23F080 then readTrace (traceAt s ((off - 0x23F000) / 0x20)) (off % 0x20)
  else if 0x280000 ≤ off && off < 0x281000 then readHal s (off - 0x280000)
  else if 0x4F0000 ≤ off && off < 0x4F0100 then readMdr s (off - 0x4F0000)
  else 0

/-- A register of a VF's Management Aperture (R359). -/
def readVfAperture (s : State) (fn off : Nat) : Nat :=
  if off < 0x1000 then readGbl s fn off
  else if 0x1000 ≤ off && off < 0x3000 then readMailbox (boxAt s (boxKey fn ((off - 0x1000) / 0x1000))) (off % 0x1000)
  else 0

/-- What a read of the aligned dword of a register returns, by its address space (R11). -/
def readRegister (s : State) (fn : Nat) (space : RegSpace) (off : Nat) : Nat :=
  match space with
  | .config => readConfig s fn off
  | .bar0 => readBar0 s fn off
  | .bar2 => if fn = 0 then (if apertureAnswers s off then readPfAperture s off else 0) else readVfAperture s fn off

/-! ### Host reads of the aperture (R290, R363, R418, R483, R497) -/

/-- The bytes that an aligned read of 4 or 8 bytes of BAR2's register areas returns (R290). -/
def registerBytes (s : State) (fn off n : Nat) : Bytes :=
  (List.range (n / 4)).flatMap (fun i => leBytes 4 (readRegister s fn .bar2 (off + 4 * i)))

/-- A read that is not one of R290's: it completes with Unsupported Request (R290, R311). -/
def unsupportedRead (s : State) (fn : Nat) : State :=
  if memArrives s fn then
    let s := count (reportUncor s fn 20) (fun k => { k with unsupportedRequest := k.unsupportedRequest + 1 })
    { s with host := { s.host with readData := [], readPoisoned := false } }
  else s

/-- A host read of an aperture buffer or window, or of a register of BAR2 (R11, R290, R363, R418, R483, R497): a busy mailbox's buffer reads zero. -/
def readAperture (s : State) (fn off n : Nat) : State :=
  if n = 0 then s
  else if !barReached s fn then unsupportedRead s fn
  else
    let s := leaveL1 s
    match payloadAt fn off n with
    | some (m, o) =>
      let b := boxAt s (boxKey fn m)
      if !bufferAccess s off n then unsupportedRead s fn
      else if b.busy then returned s (zeros n)
      else if b.badWords.any (fun w => o < 8 * w + 8 && 8 * w < o + n) then returnedPoisoned s off
      else returned s (bufferBytes b o n)
    | none =>
      if fn = 0 && diagWindow off then s
      else if !(fn = 0 && (mdRange off n || logWindow off n)) then
        (if (n = 4 || n = 8) && off % n = 0 then returned s (registerBytes s fn off n) else unsupportedRead s fn)
      else if !bufferAccess s off n then unsupportedRead s fn
      else if mdRange off n then
        if !s.media.mdPowered then returned s (zeros n)
        else if mdRunOk s.media off n then returned s (mdBytes s.media off n)
        else returnedPoisoned s off
      else if off < 0x20F000 then returned s ((List.range n).map (fun i => almWindowByte s (off - 0x200000 + i)))
      else returned s ((List.range n).map (fun i => traceWindowByte s (off - 0x240000 + i)))

end Sys2Proof.Machine
end

