-- ==== Sys2Proof/Machine/Registers.lean ====
section
/-! DEFINITION. Register writes, doorbells and GO, register reads and accesses of the aperture's buffers (00_scope R11; 08 R290; 13 R417, R418). -/
namespace Sys2Proof.Machine

/-- SQ_TAIL_DOORBELL (R319, R310, R350, R434). -/
def execSqTailDoorbell (fn : Func) (q value : Nat) (s : State) : Result := .next (hostDoorbell s fn false q value)

/-- CQ_HEAD_DOORBELL (R319, R310, R350, R434). -/
def execCqHeadDoorbell (fn : Func) (q value : Nat) (s : State) : Result := .next (hostDoorbell s fn true q value)

/-- MBX_GO (R362, R363, R434). -/
def execMbxGo (fn : Func) (m : Fin 16) (s : State) : Result := .next (hostGo s fn m)

/-- REGISTER_WRITE (R11). -/
def execRegisterWrite (fn : Func) (space : RegSpace) (off : Nat) (value : Word32) (s : State) : Result :=
  .next (writeRegister s fn space off value)

/-- APERTURE_BUFFER_WRITE (R290, R363, R417). -/
def execApertureBufferWrite (fn : Func) (off : Nat) (data : Bytes) (s : State) : Result := .next (writeAperture s fn off data)

/-- APERTURE_BUFFER_READ (R11, R290, R363, R418): of a buffer, of a window, or of a register of BAR2. -/
def execApertureBufferRead (fn : Func) (off len : Nat) (s : State) : Result := .next (readAperture s fn off len)

end Sys2Proof.Machine
end

