-- ==== Sys2Proof/Machine/VfManager.lean ====
section
/-! DEFINITION. The VF Manager family of the mailboxes (10_virtual_functions R347 to R357). -/
namespace Sys2Proof.Machine

/-- A VF Manager operation on the VF that its request names: one that does not exist is in no state that accepts it (R347, R349). -/
def onVf (x : MbxCtx) (r : Bytes) (s : State) (f : Nat → VfState → State) : State :=
  let n := field r 0 2
  if n = 0 || 127 < n then mbxBad x 0 s else if (vfAt s n).st = .none then mbxFail x .vfState 0 s else f n (vfAt s n)

/-- STATE of VF_STATUS (R373). -/
def VfSt.code : VfSt → Nat
  | .none => 0
  | .offline => 0
  | .online => 1
  | .quiescing => 2
  | .quiesced => 3
  | .saved => 4

/-- The result of VF_STATUS (R373). -/
def vfResult (s : State) (n : Nat) (v : VfState) : Bytes :=
  b2 n ++ b1 v.st.code ++ b1 (attachedNs s n).length ++ b2 (cntlid n) ++ b2 v.readLimit ++ b2 v.writeLimit ++ zeros 2
    ++ b4 (outstanding s n) ++ b1 (bitsOf [v.configured]) ++ zeros 47

/-- VF_STATUS (R347, R373). -/
def execVfStatus (fn : Func) (m : Fin 16) (s : State) : Result :=
  .next (runMbx fn m 0x0C01 (size 2) (fun x r s => onVf x r s (fun n v => mbxOk x (vfResult s n v) 0 s)) s)

/-- VF_CONFIGURE (R347, R348): limits of 0 to 960. -/
def execVfConfigure (fn : Func) (m : Fin 16) (s : State) : Result :=
  .next (runMbx fn m 0x0C02 (size 6) (fun x r s => onVf x r s (fun n _ =>
    if 960 < field r 2 2 then mbxBad x 2 s
    else if 960 < field r 4 2 then mbxBad x 4 s
    else mbxDone x (modVf s n (fun v => { v with readLimit := field r 2 2, writeLimit := field r 4 2, configured := true })))) s)

/-- VF_QUIESCE (R347, R349, R350): a VF that is QUIESCING goes on being waited for. -/
def execVfQuiesce (fn : Func) (m : Fin 16) (s : State) : Result :=
  .next (runMbx fn m 0x0C03 (size 8) (fun x r s => onVf x r s (fun n v =>
    if field r 2 2 ≠ 0 then mbxBad x 2 s
    else if 60000 < field r 4 4 then mbxBad x 4 s
    else if v.st ≠ .online && v.st ≠ .quiescing then mbxFail x .vfState 0 s
    else settleQuiesce (mbxWait x (modVf s n (fun v => { v with st := .quiescing, waiter := some x.ref }))) n)) s)

/-- QUIESCE_WAIT_EXPIRY (R350): the VF stays QUIESCING. -/
def execQuiesceWaitExpiry (vf : Fin 127) (s : State) : Result :=
  let n := vf.val + 1
  let v := vfAt s n
  .next (if v.st = .quiescing then
      endWaiter (modVf s n (fun v => { v with waiter := none })) v.waiter .quiescePending (outstanding s n) []
    else s)

/-- VF_SAVE (R353, R354): its mirrors must be in step, or come into step before STEP_WAIT has passed. -/
def execVfSave (fn : Func) (m : Fin 16) (s : State) : Result :=
  .next (runMbx fn m 0x0C04 (size 8) (fun x r s => onVf x r s (fun n v =>
    if field r 2 2 ≠ 0 then mbxBad x 2 s
    else if 600000 < field r 4 4 then mbxBad x 4 s
    else if v.st ≠ .quiesced then mbxFail x .vfState 0 s
    else if !(attachedNs s n).all (aloneOn s n) then mbxFail x .nsShared 0 s
    else if !(attachedNs s n).all (mirrorActive s) then mbxFail x .notInStep 0 s
    else if vfInStep s n then
      let (blob, s) := saveVf s n
      mbxOk x blob 0 s
    else if field r 4 4 = 0 then mbxFail x .notInStep 0 s
    else mbxWait x (modVf s n (fun v => { v with waiter := some x.ref })))) s)

/-- VF_SAVE_STEP_WAIT_EXPIRY (R353). -/
def execVfSaveStepWaitExpiry (vf : Fin 127) (s : State) : Result :=
  let n := vf.val + 1
  let v := vfAt s n
  .next (if v.st = .quiesced then endWaiter (modVf s n (fun v => { v with waiter := none })) v.waiter .notInStep 0 [] else s)

/-- A valid blob restored (R356): its mirrors are removed, its namespaces attached, its controller loaded, the VF QUIESCED. -/
def restoreVf (s : State) (n : Nat) (b : Bytes) : State :=
  let l := blobNsList b
  let s := l.foldl (fun s e => removeMirror s (field e 4 4)) s
  let ids := l.map (fun e => field e 0 4)
  let s := { s with nvme := { s.nvme with
    namespaces := s.nvme.namespaces.map (fun p => if ids.contains p.1 then (p.1, { p.2 with attached := p.2.attached ++ [n] }) else p) } }
  let s := modFunc (modCtrl s n (fun _ => loadedCtrl b)) n (fun f => loadMsix f b)
  vfRecord (modVf s n (fun v => { v with st := .quiesced, waiter := none, savedNs := [] })) .notice n .restored 0

/-- VF_RESTORE (R356). -/
def execVfRestore (fn : Func) (m : Fin 16) (s : State) : Result :=
  .next (runMbx fn m 0x0C05 (size 9600) (fun x r s => onVf x r s (fun n v =>
    if !allZero (slice r 2 62) then mbxBad x 2 s
    else if v.st ≠ .offline || !(attachedNs s n).isEmpty then mbxFail x .vfState 0 s
    else match restoreRefusal s (r.drop 64) with
      | some st => mbxFail x st 0 s
      | none => mbxDone x (restoreVf s n (r.drop 64)))) s)

/-- Fetching starts again, beginning with the recorded doorbells (R357). -/
def resumeVf (s : State) (n : Nat) (sev : Severity) (cause : VfCause) : State :=
  vfRecord (replayDoorbells (modVf s n (fun v => { v with st := .online, waiter := none, savedNs := [] })) n) sev n cause 0

/-- The lock of VF_SAVE on some namespaces released (R354). -/
def releaseLock (s : State) (ns : List Nat) : State :=
  { s with nvme := { s.nvme with
    namespaces := s.nvme.namespaces.map (fun p => if ns.contains p.1 then (p.1, { p.2 with locked := false }) else p) } }

/-- VF_RESUME of a SAVED VF (R357): refused where a peer no longer lists its session, or, without FORCE, where one is unreachable. -/
def abandonSave (x : MbxCtx) (s : State) (n : Nat) (v : VfState) (force : Bool) : State :=
  let unreachable := v.savedNs.any (fun i => (primaryMirror s i).elim false (fun m => !m.peerReachable))
  let gone := v.savedNs.any (fun i => (primaryMirror s i).elim true (fun m => m.peerReachable && !m.peerLists))
  if gone then mbxFail x .promoted 0 s
  else if unreachable && !force then mbxFail x .peerUnknown 0 s
  else
    let s := releaseLock s v.savedNs
    mbxDone x (if unreachable then resumeVf s n .critical .forced else resumeVf s n .notice .resumed)

/-- VF_RESUME (R349, R357). -/
def execVfResume (fn : Func) (m : Fin 16) (s : State) : Result :=
  .next (runMbx fn m 0x0C06 (size 3) (fun x r s => onVf x r s (fun n v =>
    if 1 < field r 2 1 then mbxBad x 2 s
    else if v.st = .quiescing || v.st = .quiesced then mbxDone x (resumeVf s n .notice .resumed)
    else if v.st = .saved then abandonSave x s n v (field r 2 1 == 1)
    else mbxFail x .vfState 0 s)) s)

end Sys2Proof.Machine
end

