-- ==== Sys2Proof/Machine/Dispatch.lean ====
section
/-! DEFINITION. The effect of each command, by one direct call of its meaning. -/
namespace Sys2Proof.Machine

/-- The effect of a command on everything but the queue. -/
def exec (i : Instr) (s : State) : Host.Outcome State Fault Refusal :=
  match i with
  | .sqTailDoorbell fn q value => Sys2Proof.Machine.execSqTailDoorbell fn q value s
  | .cqHeadDoorbell fn q value => Sys2Proof.Machine.execCqHeadDoorbell fn q value s
  | .commandFetch fn q sqe => Sys2Proof.Machine.execCommandFetch fn q sqe s
  | .write c blocks => Sys2Proof.Machine.execWrite c blocks s
  | .writeAdmission => Sys2Proof.Machine.execWriteAdmission s
  | .thermalHoldLimitExpiry c => Sys2Proof.Machine.execThermalHoldLimitExpiry c s
  | .read c media => Sys2Proof.Machine.execRead c media s
  | .flush c => Sys2Proof.Machine.execFlush c s
  | .writeZeroes c => Sys2Proof.Machine.execWriteZeroes c s
  | .datasetManagement c ranges => Sys2Proof.Machine.execDatasetManagement c ranges s
  | .verify c media => Sys2Proof.Machine.execVerify c media s
  | .sealCmd c media => Sys2Proof.Machine.execSealCmd c media s
  | .secureDeallocate c unerased => Sys2Proof.Machine.execSecureDeallocate c unerased s
  | .auditRange c media repair => Sys2Proof.Machine.execAuditRange c media repair s
  | .completionPost c => Sys2Proof.Machine.execCompletionPost c s
  | .createIoSubmissionQueue c => Sys2Proof.Machine.execCreateIoSubmissionQueue c s
  | .deleteIoSubmissionQueue c => Sys2Proof.Machine.execDeleteIoSubmissionQueue c s
  | .createIoCompletionQueue c => Sys2Proof.Machine.execCreateIoCompletionQueue c s
  | .deleteIoCompletionQueue c => Sys2Proof.Machine.execDeleteIoCompletionQueue c s
  | .getLogPage c => Sys2Proof.Machine.execGetLogPage c s
  | .identifyCommand c => Sys2Proof.Machine.execIdentifyCommand c s
  | .abort c => Sys2Proof.Machine.execAbort c s
  | .setFeaturesArbitration c => Sys2Proof.Machine.execSetFeaturesArbitration c s
  | .setFeaturesPowerManagement c => Sys2Proof.Machine.execSetFeaturesPowerManagement c s
  | .setFeaturesTemperatureThreshold c => Sys2Proof.Machine.execSetFeaturesTemperatureThreshold c s
  | .setFeaturesNumberOfQueues c => Sys2Proof.Machine.execSetFeaturesNumberOfQueues c s
  | .setFeaturesInterruptCoalescing c => Sys2Proof.Machine.execSetFeaturesInterruptCoalescing c s
  | .setFeaturesInterruptVectorConfig c => Sys2Proof.Machine.execSetFeaturesInterruptVectorConfig c s
  | .setFeaturesAsyncEventConfig c => Sys2Proof.Machine.execSetFeaturesAsyncEventConfig c s
  | .setFeaturesApst c table => Sys2Proof.Machine.execSetFeaturesApst c table s
  | .setFeaturesTimestamp c value => Sys2Proof.Machine.execSetFeaturesTimestamp c value s
  | .setFeaturesHctm c => Sys2Proof.Machine.execSetFeaturesHctm c s
  | .getFeatures c => Sys2Proof.Machine.execGetFeatures c s
  | .asynchronousEventRequest c => Sys2Proof.Machine.execAsynchronousEventRequest c s
  | .namespaceCreate c p => Sys2Proof.Machine.execNamespaceCreate c p s
  | .namespaceDelete c => Sys2Proof.Machine.execNamespaceDelete c s
  | .namespaceAttach c ctrls => Sys2Proof.Machine.execNamespaceAttach c ctrls s
  | .namespaceDetach c ctrls => Sys2Proof.Machine.execNamespaceDetach c ctrls s
  | .formatNvm c => Sys2Proof.Machine.execFormatNvm c s
  | .firmwareImageDownload c data => Sys2Proof.Machine.execFirmwareImageDownload c data s
  | .firmwareCommitAction0 c storeOk => Sys2Proof.Machine.execFirmwareCommitAction0 c storeOk s
  | .firmwareCommitAction1 c storeOk => Sys2Proof.Machine.execFirmwareCommitAction1 c storeOk s
  | .firmwareCommitAction2 c => Sys2Proof.Machine.execFirmwareCommitAction2 c s
  | .firmwareCommitAction3 c storeOk => Sys2Proof.Machine.execFirmwareCommitAction3 c storeOk s
  | .deviceSelfTestShort c => Sys2Proof.Machine.execDeviceSelfTestShort c s
  | .deviceSelfTestExtended c => Sys2Proof.Machine.execDeviceSelfTestExtended c s
  | .deviceSelfTestAbort c => Sys2Proof.Machine.execDeviceSelfTestAbort c s
  | .selfTestResume segments => Sys2Proof.Machine.execSelfTestResume segments s
  | .virtualizationManagementOnline c => Sys2Proof.Machine.execVirtualizationManagementOnline c s
  | .virtualizationManagementOffline c => Sys2Proof.Machine.execVirtualizationManagementOffline c s
  | .securitySend c data => Sys2Proof.Machine.execSecuritySend c data s
  | .securityReceive c => Sys2Proof.Machine.execSecurityReceive c s
  | .sanitizeBlockErase c unerased => Sys2Proof.Machine.execSanitizeBlockErase c unerased s
  | .sanitizeCryptoErase c => Sys2Proof.Machine.execSanitizeCryptoErase c s
  | .ccEnSet fn => Sys2Proof.Machine.execCcEnSet fn s
  | .ccEnClear fn => Sys2Proof.Machine.execCcEnClear fn s
  | .shutdownNotification fn => Sys2Proof.Machine.execShutdownNotification fn s
  | .cleanStopDestageTimeout => Sys2Proof.Machine.execCleanStopDestageTimeout s
  | .apstIdleTimer idleMs => Sys2Proof.Machine.execApstIdleTimer idleMs s
  | .registerWrite fn space off value => Sys2Proof.Machine.execRegisterWrite fn space off value s
  | .functionLevelReset fn => Sys2Proof.Machine.execFunctionLevelReset fn s
  | .flrWaitEnd fn stragglers => Sys2Proof.Machine.execFlrWaitEnd fn stragglers s
  | .perstAssert => Sys2Proof.Machine.execPerstAssert s
  | .perstDeassert => Sys2Proof.Machine.execPerstDeassert s
  | .busMasterEnableClear fn => Sys2Proof.Machine.execBusMasterEnableClear fn s
  | .d3hotEntry fn => Sys2Proof.Machine.execD3hotEntry fn s
  | .d3hotExit fn => Sys2Proof.Machine.execD3hotExit fn s
  | .completionTimeout fn what => Sys2Proof.Machine.execCompletionTimeout fn what s
  | .unexpectedCompletion fn => Sys2Proof.Machine.execUnexpectedCompletion fn s
  | .poisonedTlpReceived fn what => Sys2Proof.Machine.execPoisonedTlpReceived fn what s
  | .ecrcError fn => Sys2Proof.Machine.execEcrcError fn s
  | .fatalLinkError => Sys2Proof.Machine.execFatalLinkError s
  | .linkTrainingComplete rate width => Sys2Proof.Machine.execLinkTrainingComplete rate width s
  | .aspmL1Entry => Sys2Proof.Machine.execAspmL1Entry s
  | .ltrUpdate => Sys2Proof.Machine.execLtrUpdate s
  | .doeDiscovery index => Sys2Proof.Machine.execDoeDiscovery index s
  | .doeAbort => Sys2Proof.Machine.execDoeAbort s
  | .spdmGetVersion t => Sys2Proof.Machine.execSpdmGetVersion t s
  | .spdmGetCapabilities t => Sys2Proof.Machine.execSpdmGetCapabilities t s
  | .spdmNegotiateAlgorithms t asym hash => Sys2Proof.Machine.execSpdmNegotiateAlgorithms t asym hash s
  | .spdmGetDigests t => Sys2Proof.Machine.execSpdmGetDigests t s
  | .spdmGetCertificate t slot off len => Sys2Proof.Machine.execSpdmGetCertificate t slot off len s
  | .spdmChallenge t slot nonce => Sys2Proof.Machine.execSpdmChallenge t slot nonce s
  | .spdmGetMeasurements t index nonce => Sys2Proof.Machine.execSpdmGetMeasurements t index nonce s
  | .vfEnable n => Sys2Proof.Machine.execVfEnable n s
  | .vfDisable n => Sys2Proof.Machine.execVfDisable n s
  | .mbxGo fn m => Sys2Proof.Machine.execMbxGo fn m s
  | .mbxHostPayloadArrival fn m data => Sys2Proof.Machine.execMbxHostPayloadArrival fn m data s
  | .identify fn m => Sys2Proof.Machine.execIdentify fn m s
  | .calendarSet fn m => Sys2Proof.Machine.execCalendarSet fn m s
  | .calendarGet fn m => Sys2Proof.Machine.execCalendarGet fn m s
  | .portCounters fn m => Sys2Proof.Machine.execPortCounters fn m s
  | .exportSettings fn m => Sys2Proof.Machine.execExportSettings fn m s
  | .deviceGetSetting fn m => Sys2Proof.Machine.execDeviceGetSetting fn m s
  | .deviceSetSetting fn m => Sys2Proof.Machine.execDeviceSetSetting fn m s
  | .calExport fn m => Sys2Proof.Machine.execCalExport fn m s
  | .calDigest fn m => Sys2Proof.Machine.execCalDigest fn m s
  | .calOverwrite fn m storeOk => Sys2Proof.Machine.execCalOverwrite fn m storeOk s
  | .subsystemSet fn m => Sys2Proof.Machine.execSubsystemSet fn m s
  | .carrierStatus fn m => Sys2Proof.Machine.execCarrierStatus fn m s
  | .carrierDescriptor fn m => Sys2Proof.Machine.execCarrierDescriptor fn m s
  | .carrierRemove fn m => Sys2Proof.Machine.execCarrierRemove fn m s
  | .carrierOut fn m => Sys2Proof.Machine.execCarrierOut fn m s
  | .carrierReturn fn m => Sys2Proof.Machine.execCarrierReturn fn m s
  | .arrayStatus fn m => Sys2Proof.Machine.execArrayStatus fn m s
  | .lostStripes fn m => Sys2Proof.Machine.execLostStripes fn m s
  | .heldRecoverReadOnly fn m findings => Sys2Proof.Machine.execHeldRecoverReadOnly fn m findings s
  | .heldRecoverResume fn m => Sys2Proof.Machine.execHeldRecoverResume fn m s
  | .retire fn m => Sys2Proof.Machine.execRetire fn m s
  | .copyback fn m => Sys2Proof.Machine.execCopyback fn m s
  | .redundancyGetSetting fn m => Sys2Proof.Machine.execRedundancyGetSetting fn m s
  | .redundancySetSetting fn m => Sys2Proof.Machine.execRedundancySetSetting fn m s
  | .starlightReport fn m => Sys2Proof.Machine.execStarlightReport fn m s
  | .darkPrepare fn m => Sys2Proof.Machine.execDarkPrepare fn m s
  | .retentionGetSetting fn m => Sys2Proof.Machine.execRetentionGetSetting fn m s
  | .retentionSetSetting fn m => Sys2Proof.Machine.execRetentionSetSetting fn m s
  | .sealList fn m => Sys2Proof.Machine.execSealList fn m s
  | .sealRecord fn m => Sys2Proof.Machine.execSealRecord fn m s
  | .sealTree fn m => Sys2Proof.Machine.execSealTree fn m s
  | .sealIdentity fn m => Sys2Proof.Machine.execSealIdentity fn m s
  | .unseal fn m => Sys2Proof.Machine.execUnseal fn m s
  | .haloTopology fn m => Sys2Proof.Machine.execHaloTopology fn m s
  | .sessionCreate fn m => Sys2Proof.Machine.execSessionCreate fn m s
  | .sessionRemove fn m => Sys2Proof.Machine.execSessionRemove fn m s
  | .sessionList fn m => Sys2Proof.Machine.execSessionList fn m s
  | .migrateStart fn m => Sys2Proof.Machine.execMigrateStart fn m s
  | .migrateCancel fn m => Sys2Proof.Machine.execMigrateCancel fn m s
  | .migrateStatus fn m => Sys2Proof.Machine.execMigrateStatus fn m s
  | .wakeNode fn m => Sys2Proof.Machine.execWakeNode fn m s
  | .haloGetSetting fn m => Sys2Proof.Machine.execHaloGetSetting fn m s
  | .haloSetSetting fn m => Sys2Proof.Machine.execHaloSetSetting fn m s
  | .almClear fn m => Sys2Proof.Machine.execAlmClear fn m s
  | .almInfo fn m => Sys2Proof.Machine.execAlmInfo fn m s
  | .almanacGetSetting fn m => Sys2Proof.Machine.execAlmanacGetSetting fn m s
  | .almanacSetSetting fn m => Sys2Proof.Machine.execAlmanacSetSetting fn m s
  | .healthReport fn m => Sys2Proof.Machine.execHealthReport fn m s
  | .holdupMeasure fn m => Sys2Proof.Machine.execHoldupMeasure fn m s
  | .ageingReplan fn m sample => Sys2Proof.Machine.execAgeingReplan fn m sample s
  | .powerHealthGetSetting fn m => Sys2Proof.Machine.execPowerHealthGetSetting fn m s
  | .powerHealthSetSetting fn m => Sys2Proof.Machine.execPowerHealthSetSetting fn m s
  | .coolingStatus fn m => Sys2Proof.Machine.execCoolingStatus fn m s
  | .loopSave fn m => Sys2Proof.Machine.execLoopSave fn m s
  | .coolingGetSetting fn m => Sys2Proof.Machine.execCoolingGetSetting fn m s
  | .coolingSetSetting fn m => Sys2Proof.Machine.execCoolingSetSetting fn m s
  | .fwStatus fn m => Sys2Proof.Machine.execFwStatus fn m s
  | .fwCountersign fn m => Sys2Proof.Machine.execFwCountersign fn m s
  | .fwPolicy fn m => Sys2Proof.Machine.execFwPolicy fn m s
  | .vfStatus fn m => Sys2Proof.Machine.execVfStatus fn m s
  | .vfConfigure fn m => Sys2Proof.Machine.execVfConfigure fn m s
  | .vfQuiesce fn m => Sys2Proof.Machine.execVfQuiesce fn m s
  | .quiesceWaitExpiry vf => Sys2Proof.Machine.execQuiesceWaitExpiry vf s
  | .vfSave fn m => Sys2Proof.Machine.execVfSave fn m s
  | .vfSaveStepWaitExpiry vf => Sys2Proof.Machine.execVfSaveStepWaitExpiry vf s
  | .vfRestore fn m => Sys2Proof.Machine.execVfRestore fn m s
  | .vfResume fn m => Sys2Proof.Machine.execVfResume fn m s
  | .sanitizeGrant fn m => Sys2Proof.Machine.execSanitizeGrant fn m s
  | .sanitizeGrantExpiry => Sys2Proof.Machine.execSanitizeGrantExpiry s
  | .mediaEncryptSet fn m => Sys2Proof.Machine.execMediaEncryptSet fn m s
  | .challenge fn m => Sys2Proof.Machine.execChallenge fn m s
  | .challengeExpiry fn m => Sys2Proof.Machine.execChallengeExpiry fn m s
  | .authLockoutExpiry => Sys2Proof.Machine.execAuthLockoutExpiry s
  | .custodianEnrol fn m => Sys2Proof.Machine.execCustodianEnrol fn m s
  | .custodianRotate fn m => Sys2Proof.Machine.execCustodianRotate fn m s
  | .custodianKey fn m => Sys2Proof.Machine.execCustodianKey fn m s
  | .mdEnable fn m => Sys2Proof.Machine.execMdEnable fn m s
  | .mdDisable fn m => Sys2Proof.Machine.execMdDisable fn m s
  | .dgnStatus fn m => Sys2Proof.Machine.execDgnStatus fn m s
  | .dgnWindow fn m => Sys2Proof.Machine.execDgnWindow fn m s
  | .diagnosticWindowRead off len stored ueUnits => Sys2Proof.Machine.execDiagnosticWindowRead off len stored ueUnits s
  | .carrierPresenceFall c => Sys2Proof.Machine.execCarrierPresenceFall c s
  | .carrierDebounceExpiry c => Sys2Proof.Machine.execCarrierDebounceExpiry c s
  | .carrierPowerUp c => Sys2Proof.Machine.execCarrierPowerUp c s
  | .carrierPowerSettleExpiry c => Sys2Proof.Machine.execCarrierPowerSettleExpiry c s
  | .carrierDescriptorReadDone c primary secondary legacyI2c => Sys2Proof.Machine.execCarrierDescriptorReadDone c primary secondary legacyI2c s
  | .carrierTrainingDone c rates => Sys2Proof.Machine.execCarrierTrainingDone c rates s
  | .blockStatusLoadDone c factoryBad => Sys2Proof.Machine.execBlockStatusLoadDone c factoryBad s
  | .carrierPresenceRise c => Sys2Proof.Machine.execCarrierPresenceRise c s
  | .carrierResumeDone c primary secondary rates => Sys2Proof.Machine.execCarrierResumeDone c primary secondary rates s
  | .zqCalibrationTimer ch => Sys2Proof.Machine.execZqCalibrationTimer ch s
  | .mediaRead ch q d ranUs => Sys2Proof.Machine.execMediaRead ch q d ranUs s
  | .program ch q d payload => Sys2Proof.Machine.execProgram ch q d payload s
  | .erase ch q d => Sys2Proof.Machine.execErase ch q d s
  | .recharge ch q d payload => Sys2Proof.Machine.execRecharge ch q d payload s
  | .sweep ch q d => Sys2Proof.Machine.execSweep ch q d s
  | .mediaGetFeatures ch q d => Sys2Proof.Machine.execMediaGetFeatures ch q d s
  | .mediaSetFeatures ch q d => Sys2Proof.Machine.execMediaSetFeatures ch q d s
  | .readStatus ch q d => Sys2Proof.Machine.execReadStatus ch q d s
  | .lunReset ch q d => Sys2Proof.Machine.execLunReset ch q d s
  | .zqCal ch q d => Sys2Proof.Machine.execZqCal ch q d s
  | .dieOperationDone t o => Sys2Proof.Machine.execDieOperationDone t o s
  | .dieTimeout ch l => Sys2Proof.Machine.execDieTimeout ch l s
  | .mediaQueueReset ch q => Sys2Proof.Machine.execMediaQueueReset ch q s
  | .csRead d buffer => Sys2Proof.Machine.execCsRead d buffer s
  | .csProgram d data failAt => Sys2Proof.Machine.execCsProgram d data failAt s
  | .csErase d => Sys2Proof.Machine.execCsErase d s
  | .mdrSqDoorbell n count => Sys2Proof.Machine.execMdrSqDoorbell n count s
  | .mdRingCopy n => Sys2Proof.Machine.execMdRingCopy n s
  | .mdrRingReset n => Sys2Proof.Machine.execMdrRingReset n s
  | .mdrRingCtrlWrite n value => Sys2Proof.Machine.execMdrRingCtrlWrite n value s
  | .mdrCqHeadWrite n value => Sys2Proof.Machine.execMdrCqHeadWrite n value s
  | .housekeepingRound temps => Sys2Proof.Machine.execHousekeepingRound temps s
  | .polestarDailyTimer => Sys2Proof.Machine.execPolestarDailyTimer s
  | .polestarSweep c sweeps => Sys2Proof.Machine.execPolestarSweep c sweeps s
  | .polestarReprogram c gen seed temp failed baseline => Sys2Proof.Machine.execPolestarReprogram c gen seed temp failed baseline s
  | .rechargePass band blocks => Sys2Proof.Machine.execRechargePass band blocks s
  | .marginPatrol key decodeStep corrected => Sys2Proof.Machine.execMarginPatrol key decodeStep corrected s
  | .dawnScan key decodeStep corrected => Sys2Proof.Machine.execDawnScan key decodeStep corrected s
  | .stripeWrite stream band => Sys2Proof.Machine.execStripeWrite stream band s
  | .gatherTimeout stream band => Sys2Proof.Machine.execGatherTimeout stream band s
  | .groupDeclaration band => Sys2Proof.Machine.execGroupDeclaration band s
  | .stripeCommit band stripe => Sys2Proof.Machine.execStripeCommit band stripe s
  | .journalPageWrite first second => Sys2Proof.Machine.execJournalPageWrite first second s
  | .checkpointCycle => Sys2Proof.Machine.execCheckpointCycle s
  | .bandClose band => Sys2Proof.Machine.execBandClose band s
  | .bandRelease band unerased => Sys2Proof.Machine.execBandRelease band unerased s
  | .garbageCollection band summaryOk reads => Sys2Proof.Machine.execGarbageCollection band summaryOk reads s
  | .relocation band summaryOk reads => Sys2Proof.Machine.execRelocation band summaryOk reads s
  | .spanConsolidation reads => Sys2Proof.Machine.execSpanConsolidation reads s
  | .resynchronisation band group findings xorBad => Sys2Proof.Machine.execResynchronisation band group findings xorBad s
  | .rebuild band reads unreadable namesLost => Sys2Proof.Machine.execRebuild band reads unreadable namesLost s
  | .lunRebuild lun band recovered => Sys2Proof.Machine.execLunRebuild lun band recovered s
  | .reshape band => Sys2Proof.Machine.execReshape band s
  | .dataPlaneBurst dma firstOk secondOk => Sys2Proof.Machine.execDataPlaneBurst dma firstOk secondOk s
  | .portTrainingStart p => Sys2Proof.Machine.execPortTrainingStart p s
  | .portTrainingDone p rate lanes => Sys2Proof.Machine.execPortTrainingDone p rate lanes s
  | .portTrainingTimeout p => Sys2Proof.Machine.execPortTrainingTimeout p s
  | .portTrainingRetry p => Sys2Proof.Machine.execPortTrainingRetry p s
  | .initCellTimer p => Sys2Proof.Machine.execInitCellTimer p s
  | .initCellReceive p cell => Sys2Proof.Machine.execInitCellReceive p cell s
  | .dataCellReceive p cell => Sys2Proof.Machine.execDataCellReceive p cell s
  | .ctrlCellReceive p cell => Sys2Proof.Machine.execCtrlCellReceive p cell s
  | .replayTimerExpiry p => Sys2Proof.Machine.execReplayTimerExpiry p s
  | .lossOfSignal p => Sys2Proof.Machine.execLossOfSignal p s
  | .fecErrorLimit p codewords => Sys2Proof.Machine.execFecErrorLimit p codewords s
  | .trainingFramesReceived p => Sys2Proof.Machine.execTrainingFramesReceived p s
  | .tokenReceive p token => Sys2Proof.Machine.execTokenReceive p token s
  | .tokenTimeout => Sys2Proof.Machine.execTokenTimeout s
  | .heartbeatTimer => Sys2Proof.Machine.execHeartbeatTimer s
  | .heartbeatReceive node serial descs => Sys2Proof.Machine.execHeartbeatReceive node serial descs s
  | .peerTimeoutExpiry node => Sys2Proof.Machine.execPeerTimeoutExpiry node s
  | .spanPushReceive msg => Sys2Proof.Machine.execSpanPushReceive msg s
  | .spanPullReceive msg => Sys2Proof.Machine.execSpanPullReceive msg s
  | .repairReqReceive msg media => Sys2Proof.Machine.execRepairReqReceive msg media s
  | .sealXferReceive msg x media => Sys2Proof.Machine.execSealXferReceive msg x media s
  | .migrateBeginReceive msg => Sys2Proof.Machine.execMigrateBeginReceive msg s
  | .migrateBeginCancelReceive msg => Sys2Proof.Machine.execMigrateBeginCancelReceive msg s
  | .migrateCheckpointReceive msg => Sys2Proof.Machine.execMigrateCheckpointReceive msg s
  | .migrateCommitReceive msg seals => Sys2Proof.Machine.execMigrateCommitReceive msg seals s
  | .wakeReceive msg => Sys2Proof.Machine.execWakeReceive msg s
  | .wakeDetect p => Sys2Proof.Machine.execWakeDetect p s
  | .wakeGiveupExpiry p => Sys2Proof.Machine.execWakeGiveupExpiry p s
  | .unknownOpcodeReceive msg => Sys2Proof.Machine.execUnknownOpcodeReceive msg s
  | .haloResponseReceive msg => Sys2Proof.Machine.execHaloResponseReceive msg s
  | .haloRequestTimeout xid => Sys2Proof.Machine.execHaloRequestTimeout xid s
  | .destBusyRetry xid => Sys2Proof.Machine.execDestBusyRetry xid s
  | .mirrorPush session span media => Sys2Proof.Machine.execMirrorPush session span media s
  | .mirrorTimeoutExpiry session => Sys2Proof.Machine.execMirrorTimeoutExpiry session s
  | .migrationPass media => Sys2Proof.Machine.execMigrationPass media s
  | .commitStallLimitExpiry => Sys2Proof.Machine.execCommitStallLimitExpiry s
  | .migrateCommitRepeat => Sys2Proof.Machine.execMigrateCommitRepeat s
  | .halPortClearCounters p => Sys2Proof.Machine.execHalPortClearCounters p s
  | .sysRstNFall => Sys2Proof.Machine.execSysRstNFall s
  | .sysRstNRise => Sys2Proof.Machine.execSysRstNRise s
  | .powerGood identityOk ledgerOk eraseOk => Sys2Proof.Machine.execPowerGood identityOk ledgerOk eraseOk s
  | .internalRestart => Sys2Proof.Machine.execInternalRestart s
  | .bootStepEnd r => Sys2Proof.Machine.execBootStepEnd r s
  | .bootStepWatchdog => Sys2Proof.Machine.execBootStepWatchdog s
  | .safeStartRetry ok => Sys2Proof.Machine.execSafeStartRetry ok s
  | .configStoreRetry ok => Sys2Proof.Machine.execConfigStoreRetry ok s
  | .dramInitGranule => Sys2Proof.Machine.execDramInitGranule s
  | .dramPatrolScrub hits => Sys2Proof.Machine.execDramPatrolScrub hits s
  | .dramAlert ch attempts ok => Sys2Proof.Machine.execDramAlert ch attempts ok s
  | .dramFreeze cause ch addr => Sys2Proof.Machine.execDramFreeze cause ch addr s
  | .bufferClassError loc => Sys2Proof.Machine.execBufferClassError loc s
  | .msramScrub corrected codePages others hardFaults => Sys2Proof.Machine.execMsramScrub corrected codePages others hardFaults s
  | .sramScrub corrected uncorrectable hardFaults => Sys2Proof.Machine.execSramScrub corrected uncorrectable hardFaults s
  | .codeFetchError addr storeOk frameOk => Sys2Proof.Machine.execCodeFetchError addr storeOk frameOk s
  | .msramDataError use => Sys2Proof.Machine.execMsramDataError use s
  | .internalDmaHalt user => Sys2Proof.Machine.execInternalDmaHalt user s
  | .sleepEntry target commanded => Sys2Proof.Machine.execSleepEntry target commanded s
  | .eclipseDestageTimeout => Sys2Proof.Machine.execEclipseDestageTimeout s
  | .isolationCommit => Sys2Proof.Machine.execIsolationCommit s
  | .wakeEvent source lostWindow => Sys2Proof.Machine.execWakeEvent source lostWindow s
  | .wakeTimerExpiry => Sys2Proof.Machine.execWakeTimerExpiry s
  | .sleepExitDone fails => Sys2Proof.Machine.execSleepExitDone fails s
  | .perfLevelChange => Sys2Proof.Machine.execPerfLevelChange s
  | .avsbusTimeout => Sys2Proof.Machine.execAvsbusTimeout s
  | .voltageMonitorEvent n status mv => Sys2Proof.Machine.execVoltageMonitorEvent n status mv s
  | .coreFaultLift => Sys2Proof.Machine.execCoreFaultLift s
  | .periodic720hTimer => Sys2Proof.Machine.execPeriodic720hTimer s
  | .holdupMeasurementDone sample => Sys2Proof.Machine.execHoldupMeasurementDone sample s
  | .pwrfailAssert => Sys2Proof.Machine.execPwrfailAssert s
  | .flushComplete bad => Sys2Proof.Machine.execFlushComplete bad s
  | .pwrfailDeassert => Sys2Proof.Machine.execPwrfailDeassert s
  | .diodeReading raw => Sys2Proof.Machine.execDiodeReading raw s
  | .thermalDemandFallback => Sys2Proof.Machine.execThermalDemandFallback s
  | .rateDemandLift => Sys2Proof.Machine.execRateDemandLift s
  | .thermalShutdown => Sys2Proof.Machine.execThermalShutdown s
  | .loopSlotUpdate n meas => Sys2Proof.Machine.execLoopSlotUpdate n meas s
  | .ctlSlotCommit n updating => Sys2Proof.Machine.execCtlSlotCommit n updating s
  | .motorEnable m on => Sys2Proof.Machine.execMotorEnable m on s
  | .motorRestart m => Sys2Proof.Machine.execMotorRestart m s
  | .motorDetectDone m crossings speed ke => Sys2Proof.Machine.execMotorDetectDone m crossings speed ke s
  | .brakeEnd m => Sys2Proof.Machine.execBrakeEnd m s
  | .brakeTimeout m => Sys2Proof.Machine.execBrakeTimeout m s
  | .alignDone m => Sys2Proof.Machine.execAlignDone m s
  | .rampDone m => Sys2Proof.Machine.execRampDone m s
  | .keCheckDone m peakUv radPerS => Sys2Proof.Machine.execKeCheckDone m peakUv radPerS s
  | .observerLock m angle => Sys2Proof.Machine.execObserverLock m angle s
  | .rotorLoss m => Sys2Proof.Machine.execRotorLoss m s
  | .overcurrent m milliamps => Sys2Proof.Machine.execOvercurrent m milliamps s
  | .cdFaultNFall m => Sys2Proof.Machine.execCdFaultNFall m s
  | .coastDone m => Sys2Proof.Machine.execCoastDone m s
  | .motorFaultDemandLift => Sys2Proof.Machine.execMotorFaultDemandLift s
  | .trcArm b => Sys2Proof.Machine.execTrcArm b s
  | .trcTrigger b => Sys2Proof.Machine.execTrcTrigger b s
  | .traceTriggerEvent b => Sys2Proof.Machine.execTraceTriggerEvent b s
  | .traceSample b value time => Sys2Proof.Machine.execTraceSample b value time s
  | .almanacRecordAccept code severity params => Sys2Proof.Machine.execAlmanacRecordAccept code severity params s
  | .almanacRecordProgram => Sys2Proof.Machine.execAlmanacRecordProgram s
  | .almanacCompaction => Sys2Proof.Machine.execAlmanacCompaction s
  | .almanacIndexRead => Sys2Proof.Machine.execAlmanacIndexRead s
  | .dropCounterSave => Sys2Proof.Machine.execDropCounterSave s
  | .almCursorWrite lo => Sys2Proof.Machine.execAlmCursorWrite lo s
  | .standbySetLoad loadOk => Sys2Proof.Machine.execStandbySetLoad loadOk s
  | .microcodeRoll ch => Sys2Proof.Machine.execMicrocodeRoll ch s
  | .intakeStall => Sys2Proof.Machine.execIntakeStall s
  | .handoverReady => Sys2Proof.Machine.execHandoverReady s
  | .handoverReadyTimeout => Sys2Proof.Machine.execHandoverReadyTimeout s
  | .lossOfDelineation p => Sys2Proof.Machine.execLossOfDelineation p s
  | .cellSlotTransmit p => Sys2Proof.Machine.execCellSlotTransmit p s
  | .correctableLinkError => Sys2Proof.Machine.execCorrectableLinkError s
  | .unsupportedRequest fn isRead => Sys2Proof.Machine.execUnsupportedRequest fn isRead s
  | .apertureBufferWrite fn off data => Sys2Proof.Machine.execApertureBufferWrite fn off data s
  | .apertureBufferRead fn off len => Sys2Proof.Machine.execApertureBufferRead fn off len s
  | .jtagInstruction ir => Sys2Proof.Machine.execJtagInstruction ir s
  | .powerLoss => Sys2Proof.Machine.execPowerLoss s

end Sys2Proof.Machine
end

