-- ==== Sys2Proof/Safety.lean ====
section
/-! DEFINITION. What the statements about the block speak of: completion of a command, and the registers that only the
commands made for them may change. -/
namespace Sys2Proof.Machine

/-- A command completes in a state: exec answers a next state, of which `P` holds. -/
def Gives (c : Instr) (s : State) (P : State → Prop) : Prop := ∃ t, exec c s = .next t ∧ P t

/-- What only a few commands may change: the settings (R372), the Custodian key and its records (R374, R379), MEDIA_ENCRYPT (R221),
the subsystem identifiers (R287), POLICY and the anti-rollback counter (R503, R508), the Calibration Set (R449), the stored
loop set (R479), the device's identity (R4, R294); and the queue, which no command's effect touches. -/
structure Guarded where
  settings : Settings
  custodianKey : Option PubKey
  keyIndex : Nat
  keyRecords : List Bytes
  mediaEncrypt : Bool
  subsystem : Option (Nat × Nat)
  policy : Bool
  antiRollback : Nat
  cal : List (Nat × Byte)
  saved : Option (Vector LoopState 16)
  serial : Word64
  lot : Bytes
  dateCode : Bytes
  pending : List Instr

/-- The guarded registers of a state. -/
def guarded (s : State) : Guarded :=
  { settings := s.settings, custodianKey := s.mbx.custodianKey, keyIndex := s.mbx.keyIndex, keyRecords := s.mbx.keyRecords
    mediaEncrypt := s.mbx.mediaEncrypt, subsystem := s.mbx.subsystem, policy := s.fw.policy, antiRollback := s.fw.antiRollback
    cal := s.pwr.cal, saved := s.cool.saved, serial := s.host.serial, lot := s.host.lot, dateCode := s.host.dateCode
    pending := s.pending }

/-! ### Frames -/

/-- Only motor `m` of the Cooling Drive and its CD_EN pin differ. -/
def OnlyMotor (m : Nat) (s t : State) : Prop :=
  (∀ k, k ≠ m → motorAt t k = motorAt s k ∧ t.pins.cdEn.getLsbD k = s.pins.cdEn.getLsbD k) ∧
  t = { s with cool := { s.cool with motor := t.cool.motor }, pins := { s.pins with cdEn := t.pins.cdEn } }

/-- Motor `m` is held in FAULT with CD_EN low and a Fault record of the cause; the other motors stand as they stood (R469, R500). -/
def MotorFaulted (m cause : Nat) (s t : State) : Prop :=
  (motorAt t m).st = .fault ∧ (motorAt t m).gatesOff = true ∧ t.pins.cdEn.getLsbD m = false ∧
  (∀ k, k ≠ m → motorAt t k = motorAt s k ∧ t.pins.cdEn.getLsbD k = s.pins.cdEn.getLsbD k) ∧
  t = { record s 0x0C03 .fault (b1 m ++ b2 cause) with
        cool := { s.cool with motor := t.cool.motor, trace := t.cool.trace }, pins := { s.pins with cdEn := t.pins.cdEn } }

/-! ### Hypotheses shared by statements -/

/-- The device stands still in a state, ready to begin an entry to a deeper one (R337, R432, R433). -/
abbrev MaySleep (s : State) : Prop :=
  s.pwr.phase = .steady ∧ deviceIdle s = true ∧ s.boot.phase = .complete ∧ s.pwr.pwrfail = false ∧ s.dram.frozen = false ∧ s.fw.handover = .none

/-- A state in which no wake source acts: the device stands in Zenith, or leaves a sleep state already (R434). -/
abbrev NoWake (s : State) : Prop := s.pwr.phase = .exiting ∨ (s.pwr.phase = .steady ∧ s.pwr.sleep = .zenith)

/-- What a doorbell or a GO does to a device that stands in a sleep state (R434): its exit begins, with the source's bit in PWR_WAKE_STATUS. -/
def Wakes (bit : BitVec 9) (s t : State) : Prop :=
  t.pwr.phase = .exiting ∧ t.pwr.wakeStatus = s.pwr.wakeStatus ||| bit ∧ guarded t = guarded s

/-- What the response to PWRFAIL_N leaves in every state (R447): the flag, intake closed by it, the engagement and CD_EN pins low, HOLDUP_TEST low. -/
def PowerFailed (s t : State) : Prop :=
  t.pwr.pwrfail = true ∧ t.pwr.flush = 1 ∧ t.pwr.measuring = false ∧ t.halo.eng = false ∧ t.pins.cdEn = 0 ∧ t.pins.holdupTest = false ∧
  guarded t = guarded s

/-- What the freeze leaves, with its cause, channel and address (R408, R409): every existing controller fatal, the flush begun unless a
power failure has begun it, and a Critical record, and the staged firmware package gone (R505). -/
def Froze (cause ch addr : Nat) (s t : State) : Prop :=
  t.dram.frozen = true ∧ t.dram.freezeCause = cause ∧ t.dram.freezeChannel = ch ∧ t.dram.freezeAddr = addr ∧ t.dram.freezeHours = opHours s ∧
  (s.pwr.flush = 0 → t.dram.flushState = 1) ∧ (∀ fn, fn < 128 → funcExists t fn = true → (ctrlAt t fn).cfs = true) ∧
  (funcAt t 0).aerUncor.getLsbD 22 = true ∧ t.alm.event.getLsbD 3 = true ∧ t.fw.handover = .none ∧ t.fw.staged = [] ∧ guarded t = guarded s

/-- Step `k` of a start runs and no power failure stands. -/
abbrev StepRuns (k : Nat) (s : State) : Prop := s.boot.phase = .running ∧ s.boot.step = k ∧ s.pwr.pwrfail = false

/-- The next step after `k` is one that a start runs in the normal way. -/
abbrev NextNormal (k : Nat) (s : State) : Prop :=
  k < 16 ∧ s.boot.safeStep ≠ k + 1 ∧ (k + 1 ∈ [2, 3, 4] → failsOf s (k + 1) < 3) ∧ modeOf s (k + 1) ≠ .skipped

/-- Only carrier `c`'s own state differs. -/
def OnlyCarrier (c : Nat) (s t : State) : Prop :=
  (∀ k, k ≠ c → carrierAt t k = carrierAt s k) ∧ t = { s with media := { s.media with carriers := t.media.carriers } }

/-- Carrier `c` is without power and its pads are isolated (R58). -/
def CarrierDark (c : Nat) (t : State) : Prop := (carrierAt t c).pwrEn = false ∧ (carrierAt t c).padsIsolated = true

/-- The command that submits a descriptor of an opcode from 1 to 10: MEDIA_READ, PROGRAM, ERASE, RECHARGE, SWEEP, GET_FEATURES, SET_FEATURES,
READ_STATUS, LUN_RESET, ZQ_CAL (R66). -/
def mediaCommand (op : Fin 10) (ch : Channel) (q : Fin 4) (d : MediaDesc) (payload : PageContent) (ranUs : Nat) : Instr :=
  match op with
  | 0 => .mediaRead ch q d ranUs
  | 1 => .program ch q d payload
  | 2 => .erase ch q d
  | 3 => .recharge ch q d payload
  | 4 => .sweep ch q d
  | 5 => .mediaGetFeatures ch q d
  | 6 => .mediaSetFeatures ch q d
  | 7 => .readStatus ch q d
  | 8 => .lunReset ch q d
  | 9 => .zqCal ch q d

/-- The queue entry of a descriptor that such a command submits. -/
def mediaEntry (s : State) (op : Fin 10) (ch : Channel) (q : Fin 4) (d : MediaDesc) (payload : PageContent) : QEntry :=
  let d := { d with opcode := op.val + 1 }
  { desc := d, payload := if op = 1 ∨ op = 3 then payload else .raw [], owner := .plain, exempt := isExempt s ch q d, order := s.media.nextOrder }

/-- A channel whose queues are empty and that starts descriptors of the controller's own producers. -/
abbrev ChannelFree (ch : Channel) (q : Fin 4) (s : State) : Prop :=
  q ≠ 3 ∧ (carrierAt s (carrierOf ch)).st ≠ .outOfService ∧ (∀ k : Fin 4, (channelAt s ch).q[k] = []) ∧ (channelAt s ch).halted[q] = false ∧
  (carrierAt s (carrierOf ch)).drain = 0 ∧ s.pwr.pwrfail = false ∧ s.pwr.retrain = []

/-- A LUN runs an operation of the controller's own, on a channel with nothing waiting. -/
abbrev LunRuns (ch : Channel) (l : Lun) (r : RunningOp) (s : State) : Prop :=
  (lunAt s (lunIndex ch l)).running = some r ∧ (lunAt s (lunIndex ch l)).suspended = none ∧ r.queue ≠ 3 ∧ r.entry.owner = .plain ∧
  (carrierAt s (carrierOf ch)).lomril.isSome = true ∧ (carrierAt s (carrierOf ch)).drain = 0 ∧ (∀ k : Fin 4, (channelAt s ch).q[k] = []) ∧
  s.media.mdDisabling = false

/-- The last completion of a channel's CQ. -/
def lastDone (t : State) (ch : Nat) : Option MediaCompletion := (channelAt t ch).cq.getLast?

/-! ### Mailbox commands -/

/-- A mailbox command begun that the device serves: every check before its own arguments passes, but for Custodian authorisation (R362,
R365 to R368). -/
abbrev MbxServed (fn m opcode : Nat) (e : MbxExec) (s : State) : Prop :=
  s.mbx.orphans = [] ∧ (boxAt s (boxKey fn m)).exec = some e ∧ e.opcode.toNat = opcode ∧ e.begun = true ∧ e.waiting = false ∧ e.len ≤ 65536 ∧
  s.fw.intakeStalled = false ∧ s.pwr.sleep = .zenith ∧ s.pwr.phase = .steady ∧ familyServed s opcode = true ∧
  (mbxKind fn opcode).elim false (fun k => k == .r || !(sanitizeRuns s || objectBusy s e.id (mbxObject opcode k e.request))) = true

/-- The command completes in the state `s'` with a status, DETAIL and result. -/
def Answers (c : Instr) (s : State) (fn m : Nat) (e : MbxExec) (st : MbxStatus) (detail : Nat) (result : Bytes) (s' : State) : Prop :=
  exec c s = .next (mbxEnd s' (boxKey fn m) e st detail result)

/-- The command goes on to wait for the work it has begun: its mailbox stays BUSY with it (R362, R366). -/
def Waits (fn m : Nat) (e : MbxExec) (s t : State) : Prop :=
  boxAt t (boxKey fn m) = { boxAt s (boxKey fn m) with exec := some { e with waiting := true } } ∧ guarded t = guarded s

/-- What authorises a command under the enrolled key beside the live challenge: KEY_ID, DIGEST and SIGNATURE (R375, R376). -/
def Signed (pub : PubKey) (r : Bytes) : Prop :=
  slice r 0x30 32 = digestBytes (Config.sm3 (octets64 pub)) ∧ slice r 0x50 32 = digestBytes (Config.sm3 (r.drop 256)) ∧
  Config.sm2Verify pub (slice r 0 0x70) (signatureAt r 0x70) = true

/-- An authorisation block of a command under a live challenge, for the opcode, with its reserved bytes zero. -/
abbrev Challenged (fn m opcode : Nat) (e : MbxExec) (pub : PubKey) (s : State) : Prop :=
  s.mbx.custodianKey = some pub ∧ 256 ≤ e.len ∧ slice e.request 0 4 = ascii "CAUT" ∧ field e.request 4 2 = 1 ∧ field e.request 6 2 = opcode ∧
  challengeLive s (boxKey fn m) (slice e.request 0x10 32) = true ∧ allZero (slice e.request 8 8) = true ∧ allZero (slice e.request 0xB0 80) = true

/-- The state in which an authorised command runs: its challenge consumed, its acceptance recorded (R376). -/
def accepted (s : State) (fn m opcode : Nat) : State :=
  let s := consumeChallenge s (boxKey fn m)
  record s 0x0A03 .notice (b2 opcode ++ b4 (keyIndexNow s))

/-- The state of a command whose signature fails (R376). -/
def rejected (s : State) (fn m opcode : Nat) : State := noteAuthFailed (consumeChallenge s (boxKey fn m)) opcode

/-! ### Background work -/

/-- The work that boot step 16 starts runs (R381). -/
abbrev BgRuns (s : State) : Prop := s.boot.bgStarted = true ∧ workRuns s = true

/-- Records appended to the journal's tail buffer, and no entry of the map lost from it. -/
def TailGrows (s t : State) : Prop := ∃ l, t.map.tail = s.map.tail ++ l

/-! ### The Halo ring -/

/-- Only the Halo subsystem differs, and the Almanac by a record. -/
def OnlyHalo (s t : State) : Prop := t = { s with halo := t.halo, alm := t.alm }

/-- Only one port of the Halo subsystem differs. -/
def OnlyPort (p : Port) (s t : State) : Prop :=
  (∀ k, k ≠ pIdx p → portAt t k = portAt s k) ∧ t = { s with halo := { s.halo with ports := t.halo.ports } }

/-- The state without a message in the inbox: what a message's consumption leaves. -/
def taken (s : State) (m : HaloMessage) : State := modHalo s (fun h => { h with inbox := h.inbox.erase m })

/-- A request that is neither answered within ten minutes nor being acted on (R267). -/
abbrev Fresh (m : HaloMessage) (s : State) : Prop :=
  m.header.response = false ∧ actingOn (taken s m) m = false ∧
  s.halo.answers.find? (fun a => a.serial == m.header.serial && a.xid == m.header.xid && s.time.opMs < a.atMs + 600000) = none

/-- A request's command answers it with a status and no body in a state `s'`, once its message is taken. -/
def Responds (c : Instr) (s : State) (m : HaloMessage) (st : HaloStatus) (s' : State) : Prop := exec c s = .next (respond s' m st)

/-- The commands by which a request of R265 is acted on. -/
def HaloRequest (c : Instr) (msg : HaloMessage) (media : List BlockRead) (x : SealXfer) (seals : Nat) : Prop :=
  c = .spanPushReceive msg ∨ c = .spanPullReceive msg ∨ c = .repairReqReceive msg media ∨ c = .sealXferReceive msg x media ∨
  c = .migrateBeginReceive msg ∨ c = .migrateBeginCancelReceive msg ∨ c = .migrateCheckpointReceive msg ∨ c = .migrateCommitReceive msg seals ∨
  c = .wakeReceive msg

/-- A session of a primary's mirror that is ACTIVE, and its peer is not asleep. -/
abbrev ActivePrimary (m : Mirror) (s : State) : Prop :=
  mirrorAt s m.session = some m ∧ m.secondary = false ∧ m.st = .active ∧ (asleepNodes s).contains m.peer = false

/-! ### NVMe commands -/

/-- A fetched command of a queue and opcode that has not ended, in a state whose DRAM is not frozen. -/
abbrev CmdRuns (c : CmdRef) (admin : Bool) (opc : Nat) (f : Fetched) (s : State) : Prop :=
  cmdAt s c = some f ∧ f.sqe.opc = opc ∧ (c.sq == 0) = admin ∧ f.done = none ∧ s.dram.frozen = false

/-- Such a command whose turn it is to take effect (R319). -/
abbrev CmdTurn (c : CmdRef) (admin : Bool) (opc : Nat) (f : Fetched) (s : State) : Prop := CmdRuns c admin opc f s ∧ inTurn s c = true

/-- A command has ended with an outcome. -/
def CmdEnds (c : CmdRef) (o : Cpl) (t : State) : Prop := ∃ f, cmdAt t c = some f ∧ f.done = some o

/-- Only the controllers' queues differ. -/
def OnlyCmds (s t : State) : Prop := t = { s with nvme := { s.nvme with ctrl := t.nvme.ctrl } }

/-- Only the controllers' queues differ, and the queues of the DRAM channels that served reads of the write cache (R404). -/
def CmdsAndDram (s t : State) : Prop :=
  t = { s with nvme := { s.nvme with ctrl := t.nvme.ctrl }, dram := { s.dram with ch := t.dram.ch } }

/-- A namespace that an I/O command of a function may use: nothing refuses it (R331). -/
abbrev IoServed (fn nsid : Nat) (writes : Bool) (n : Namespace) (s : State) : Prop := ioRefusal s fn nsid writes = none ∧ nsAt s nsid = some n

/-- A block that a read finds without the media: a cache line holds it, or it is deallocated or ZERO. -/
def Readable (s : State) (nsid lba : Nat) : Bool :=
  (lineOf s.map.lines nsid lba).isSome || mapAt s.map.core nsid lba == none || mapAt s.map.core nsid lba == some .zero

/-- What a host reads of such a block. -/
def blockNow (s : State) (n : Namespace) (nsid lba : Nat) : BlockData :=
  (lineOf s.map.lines nsid lba).elim (zeroBlock n) (fun l => { data := l.data, md := l.md })

/-- The spans of a range DIRTY in every primary's mirror of the namespace (R269). -/
def MirrorsDirty (nsid lba count : Nat) (s t : State) : Prop :=
  ∀ m ∈ s.halo.mirrors, m.secondary = false → m.localNsid = nsid →
    ∃ m' ∈ t.halo.mirrors, m'.session = m.session ∧ ∀ sp, sp ∈ m.dirty ∨ sp ∈ spansOf lba count → sp ∈ m'.dirty

/-- A Set Features command of a feature, in its turn. -/
abbrev FeatureTurn (c : CmdRef) (fid : Nat) (f : Fetched) (s : State) : Prop := CmdTurn c true 0x09 f s ∧ f.sqe.cdw10 % 256 = fid

/-- A Firmware Commit of an action that nothing refuses before its work (R507). -/
abbrev CommitTurn (c : CmdRef) (action : Nat) (f : Fetched) (s : State) : Prop :=
  CmdTurn c true 0x10 f s ∧ f.sqe.cdw10 / 8 % 8 = action ∧ s.fw.commit ≠ some (c.fn.val, c.sq, c.cid, 3) ∧
  commitRefusal s action (f.sqe.cdw10 % 8) = none

/-! ### Mailbox rows -/

/-- What GO latches of a mailbox (R362): OPCODE, LEN, SEQ, and the request as it lies in the on-die payload buffer. -/
def latchedExec (b : Mailbox) (id : Nat) : MbxExec :=
  { id := id, opcode := b.opcode, len := b.len.toNat, seq := b.seq, hostPayload := b.hostPayload, begun := !b.hostPayload,
    request := if b.hostPayload then [] else bufferBytes b 0 (min b.len.toNat 65536) }

/-- A GO accepted on a mailbox (R362 step 5): BUSY set, DONE cleared, the command latched; the other mailboxes stand as they stood. -/
def GoAccepted (key : Nat) (s t : State) : Prop :=
  boxAt t key = { boxAt s key with busy := true, done := false, exec := some (latchedExec (boxAt s key) s.mbx.nextExec) } ∧
  (∀ k, k ≠ key → boxAt t k = boxAt s k) ∧
  t = { s with mbx := { s.mbx with boxes := t.mbx.boxes, nextExec := s.mbx.nextExec + 1 }, host := t.host } ∧
  t.host = { s.host with l1 := false, clkreqReleased := false }

/-- A served command whose request has a size. -/
abbrev Served (fn m opcode len : Nat) (e : MbxExec) (s : State) : Prop := MbxServed fn m opcode e s ∧ e.len = len

/-- A command of kind A under R376: without an enrolled key AUTH_REQUIRED, with another opcode's block or another nonce AUTH_STALE, with a
block that the key has not signed AUTH_FAILED, and otherwise what `after` says. -/
def UnderKey (c : Instr) (s : State) (fn m opcode : Nat) (e : MbxExec) (after : Prop) : Prop :=
  (s.mbx.custodianKey = none → Answers c s fn m e .authRequired 0 [] s) ∧
  (∀ pub, s.mbx.custodianKey = some pub → (e.len < 256 ∨ slice e.request 0 4 ≠ ascii "CAUT" ∨ field e.request 4 2 ≠ 1) →
    Answers c s fn m e .authRequired 0 [] s) ∧
  (∀ pub, s.mbx.custodianKey = some pub → 256 ≤ e.len → slice e.request 0 4 = ascii "CAUT" → field e.request 4 2 = 1 →
    (field e.request 6 2 ≠ opcode ∨ challengeLive s (boxKey fn m) (slice e.request 0x10 32) = false) → Answers c s fn m e .authStale 0 [] s) ∧
  (∀ pub, Challenged fn m opcode e pub s →
    (¬ Signed pub e.request → Answers c s fn m e .authFailed 0 [] (rejected s fn m opcode)) ∧ (Signed pub e.request → after))

/-- GET_SETTING of a family (R372): VALUE, MIN, MAX and DEFAULT of a setting of its table, or BAD_PAYLOAD at the argument that is not allowed. -/
def GetsSetting (fam opcode : Nat) (c : Func → Fin 16 → Instr) : Prop :=
  ∀ (s : State) (fn : Func) (m : Fin 16) (e : MbxExec), Served fn m opcode 8 e s →
    (∀ o, settingBad s fam e.request = some o → Answers (c fn m) s fn m e .badPayload o [] s) ∧
    (settingBad s fam e.request = none → ∃ i, settingInfo s fam (field e.request 0 2) = some i ∧
      Answers (c fn m) s fn m e .success 0
        (leBytes 32 (setting s fam (field e.request 0 2) (field e.request 4 4)) ++ leBytes 32 i.lo ++ leBytes 32 i.hi ++ leBytes 32 i.dflt) s)

/-- SET_SETTING of a family (R372): an allowed value is stored and in force, every other setting keeps its value, and then `after` acts; a
value that is not allowed is VALUE_RANGE and changes nothing. -/
def SetsSetting (fam opcode : Nat) (after : Nat → State → State → State) (c : Func → Fin 16 → Instr) : Prop :=
  ∀ (s : State) (fn : Func) (m : Fin 16) (e : MbxExec), Served fn m opcode 40 e s → ∀ idx nsid v, idx = field e.request 0 2 →
    nsid = field e.request 4 4 → v = field e.request 8 32 →
    (∀ o, settingBad s fam e.request = some o → Answers (c fn m) s fn m e .badPayload o [] s) ∧
    (settingBad s fam e.request = none → ∃ i, settingInfo s fam idx = some i ∧
      (i.allows v = false → Answers (c fn m) s fn m e .valueRange 0 [] s) ∧
      (i.allows v = true → ∃ t, Answers (c fn m) s fn m e .success 0 [] (after idx s t) ∧ t = { s with settings := t.settings } ∧
        setting t fam idx nsid = v ∧ ∀ f k n d, (f, k, n) ≠ (fam, idx, nsid) → settingRaw t f k n d = settingRaw s f k n d))

/-! ### The whole machine -/

/-- The commands that may change a setting: SET_SETTING of each family; those by which a namespace is made or goes, whose STREAM_POLICY takes its
default (R173, R276, R333), of a migration its successor's policy (R276); and the end of a boot step, which finds the settings unreadable (R385) or
ends a deletion (R225). -/
def SettingCommand (c : Instr) : Prop :=
  (∃ fn m, c = .deviceSetSetting fn m ∨ c = .redundancySetSetting fn m ∨ c = .retentionSetSetting fn m ∨ c = .haloSetSetting fn m ∨
    c = .almanacSetSetting fn m ∨ c = .powerHealthSetSetting fn m ∨ c = .coolingSetSetting fn m) ∨
  (∃ msg, c = .migrateBeginReceive msg ∨ c = .migrateBeginCancelReceive msg) ∨ (∃ k p, c = .namespaceCreate k p ∨ c = .namespaceDelete k) ∨
  ∃ r, c = .bootStepEnd r

/-- The registers that outlive every reset and are changed under rules of their own: the Custodian's key is enrolled exactly where the identity
area holds a record, a record of 128 bytes for each index from 0 to the key's, at most 256 of them (R377 to R379); POLICY is set only with a key
enrolled (R508); the Calibration Set is in its canonical form, and the settings are in the order of their families, indices and NSIDs. -/
structure KeysHold (s : State) : Prop where
  enrolled : s.mbx.custodianKey.isSome = true ↔ s.mbx.keyRecords ≠ []
  index : s.mbx.custodianKey.isSome = true → s.mbx.keyRecords.length = s.mbx.keyIndex + 1
  room : s.mbx.keyRecords.length ≤ 256
  sizes : ∀ b ∈ s.mbx.keyRecords, b.length = 128
  policy : s.fw.policy = true → s.mbx.custodianKey.isSome = true
  cal : canonical 0xFF s.pwr.cal = true
  settings : s.settings.Pairwise (fun a b => settingBefore a.1 b.1 = true)

/-! ### Addressed memories -/

/-- Keys strictly rising. -/
def rising {α : Type} : List (Nat × α) → Bool
  | [] => true
  | p :: t => t.all (fun q => decide (p.1 < q.1)) && rising t

/-- The form of the Config Store's words: canonical, with no word listed that was never programmed since its sector's erase (R88). -/
def Memory.storeWf (l : List (Nat × CsWord)) : Bool := canonical {} l && l.all (fun p => decide (p.2.programs ≠ 0))

/-- The one form of the block's addressed memories: the Config Store (R84 to R90), the Calibration Set (R449), the payload buffers (R362), and
Media Direct's memory and the buffers on the die, in which a byte not listed is uninitialised (R66, R91). -/
def Memory.wf (s : State) : Bool :=
  Memory.storeWf s.media.cs && canonical 0xFF s.pwr.cal && s.mbx.boxes.all (fun p => canonical 0 p.2.buffer) && rising s.media.mdMem && rising s.media.onDie

end Sys2Proof.Machine
end

