-- ==== Sys2Proof/WellFormed.lean ====
section
/-! DEFINITION. Which commands are well formed: every operand fits the field of the layout that carries it on the device.
The meanings are total and need no such premise; the check says which commands the hardware can be given. -/
namespace Sys2Proof

/-- Whether a number fits a field of `w` bits. -/
def fits (w v : Nat) : Bool := decide (v < 2 ^ w)

/-- Whether a number fits a two's-complement field of `w` bits. -/
def fitsInt (w : Nat) (v : Int) : Bool := decide (-(2 ^ (w - 1) : Int) ≤ v) && decide (v < (2 ^ (w - 1) : Int))

/-- A command's name: queue and command identifier are 16 bits (R316). -/
def CmdRef.wf (c : CmdRef) : Bool := fits 16 c.sq && fits 16 c.cid

/-- A submission entry: each field within its bits of the 64-byte entry (R316, R327). -/
def Sqe.wf (e : Sqe) : Bool :=
  fits 8 e.opc && fits 2 e.fuse && fits 16 e.cid && fits 32 e.nsid && fits 32 e.cdw2 && fits 32 e.cdw3 && fits 64 e.mptr
    && fits 64 e.prp1 && fits 32 e.cdw10 && fits 32 e.cdw11 && fits 32 e.cdw12 && fits 32 e.cdw13 && fits 32 e.cdw14
    && fits 32 e.cdw15

/-- One logical block: 4,096 bytes of data at most and 64 bytes of metadata at most (R217). -/
def BlockData.wf (b : BlockData) : Bool := decide (b.data.length ≤ 4096) && decide (b.md.length ≤ 64)

/-- The answer to one block's read: a step of R26, 1 to 7. -/
def BlockRead.wf (b : BlockRead) : Bool := decide (1 ≤ b.step) && decide (b.step ≤ 7) && b.peer.wf && b.others.all BlockData.wf
  && b.altered.all (fun p => decide (1 ≤ p.1) && decide (p.1 ≤ 6) && p.2.wf)

/-- A range of Dataset Management. -/
def DsmRange.wf (r : DsmRange) : Bool := fits 64 r.slba && fits 32 r.len

/-- Parameters of a Namespace Management create (R333). -/
def NsParams.wf (p : NsParams) : Bool := fits 64 p.nsze && fits 64 p.ncap && fits 8 p.flbas && fits 8 p.dps && fits 8 p.nmic

/-- A media descriptor: each field within its bits of R66. -/
def MediaDesc.wf (d : MediaDesc) : Bool :=
  fits 8 d.opcode && fits 4 d.volume && fits 3 d.lun && fits 4 d.planeMask && fits 8 d.retryEntry && fits 32 d.block
    && fits 16 d.page && fits 64 d.buffer && fits 32 d.length && fits 8 d.featureAddr && decide (d.featureData.length ≤ 4)
    && fitsInt 16 d.sweepStart && fits 8 d.sweepStep && fits 8 d.sweepCount && fits 8 d.sweepLevel

/-- A Config Store descriptor: each field within its bits of R66 and R87. -/
def CsDesc.wf (d : CsDesc) : Bool := fits 32 d.addr && fits 32 d.len

/-- What a page holds: at most sixteen codewords, or at most 81,920 raw bytes. -/
def PageContent.wf : PageContent → Bool
  | .codewords l => decide (l.length ≤ 16)
  | .raw b => decide (b.length ≤ 81920)

/-- A die's answer: its status byte is one byte (R69). -/
def DieOutcome.wf (o : DieOutcome) : Bool := fits 8 o.dieStatus && fitsInt 16 o.temperature && fits 16 o.corrected && fits 8 o.pulses

/-- A DATA cell: nodes are five bits, a payload is at most 512 bytes (R252). -/
def DataCell.wf (c : DataCell) : Bool := fits 5 c.dst && fits 5 c.src && fits 8 c.hops && decide (c.payload.length ≤ 512)

/-- An INIT cell (R252). -/
def InitCell.wf (c : InitCell) : Bool := fits 32 c.ringId && fits 5 c.nodeId && fits 16 c.protocol && decide (c.serial.length ≤ 20)

/-- A token entry (R261). -/
def TokenEntry.wf (e : TokenEntry) : Bool := fits 8 e.nodeId && fits 8 e.state && fits 4 e.ports && decide (e.sessions ≤ 65) && decide (e.serial.length ≤ 20)

/-- A token (R261, R265). -/
def Token.wf (t : Token) : Bool := fits 32 t.epoch && fits 5 t.originator && fits 8 t.turns && decide (t.entries.length ≤ 32) && t.entries.all TokenEntry.wf

/-- A message header (R264). -/
def HaloHeader.wf (h : HaloHeader) : Bool :=
  fits 8 h.opcode && fits 16 h.status && fits 32 h.xid && fits 32 h.session && decide (h.bodyLen ≤ 1064960) && fits 64 h.seqno
    && fits 32 h.nsid && fits 8 h.kind && fits 8 h.lbaf && fits 16 h.count && fits 64 h.lba && decide (h.serial.length ≤ 20)

/-- A message (R264). -/
def HaloMessage.wf (m : HaloMessage) : Bool :=
  m.header.wf && fits 5 m.src && fits 5 m.dst && decide (m.body.length = m.header.bodyLen)

/-- A session descriptor (R268). -/
def SessionDesc.wf (d : SessionDesc) : Bool :=
  fits 32 d.session && fits 8 d.type && fits 8 d.role && fits 8 d.mode && fits 8 d.state && fits 32 d.localNsid
    && fits 32 d.peerNsid && fits 64 d.nsze && fits 64 d.appliedSeqno && fits 8 d.lbaf && fits 8 d.piType

/-- A hold-up measurement: it ends after 200 ms at the latest (R444). -/
def HoldupSample.wf (h : HoldupSample) : Bool := decide (h.us ≤ 200000) && decide (h.v0 ≤ 1800000) && decide (h.vEnd ≤ 1800000)

/-- A replan's measurements: margins are percentages or 0xFF (R443). -/
def ReplanSample.wf (r : ReplanSample) : Bool :=
  decide (r.freq.length ≤ 64) && decide (r.ddr.length ≤ 8) && decide (r.media.length ≤ 16)
    && (r.ddr ++ r.media ++ [r.pcie, r.haloE, r.haloW]).all (fits 8)

/-- What ends a boot step: at most eight DIMMs and two copies of the last journal page. -/
def StepResult.wf (r : StepResult) : Bool :=
  decide (r.dimms.length ≤ 8) && decide (r.lastPageLost ≤ 2) && r.holdup.wf && r.replan.wf

/-- A page's sweep: one of the pattern pages 0, 5, 10 and 15, at most eight windows of 64 counts (R105). -/
def PageSweep.wf (p : PageSweep) : Bool :=
  decide (p.page ≤ 15 ∧ p.page % 5 = 0) && decide (p.windows.length ≤ 8) && p.windows.all (fun w => decide (w.length = 64) && w.all (fits 32))

/-- One block of a Recharge pass (R117). -/
def PassBlock.wf (b : PassBlock) : Bool :=
  b.pages.all (fun p => decide (p.decodeStep ≤ 3) && fits 16 p.corrected && fits 8 p.status)

/-- A finding of resynchronisation: slots are 0 to 15 (R189). -/
def ResyncFinding.wf (r : ResyncFinding) : Bool := r.bad.all (fun c => decide (c < 16))

/-- A peer's seal transfer: a Seal Record is 224 bytes (R236, R275). -/
def SealXfer.wf (x : SealXfer) : Bool := decide (x.record.length = 224) && decide (x.keys.length ≤ 1 + x.custody.length)

/-- What a timed-out request fetched. -/
def FetchWhat.wf : FetchWhat → Bool
  | .data sq cid => fits 16 sq && fits 16 cid
  | .entry sq => fits 16 sq
  | .mailbox _ => true

/-- What a poisoned TLP carried. -/
def PoisonWhat.wf : PoisonWhat → Bool
  | .data sq cid => fits 16 sq && fits 16 cid
  | .mailbox _ => true
  | .barWrite => true

/-- A patrol hit: an address of at most 512 GiB of a channel. -/
def PatrolHit.wf (h : PatrolHit) : Bool := fits 40 h.addr

/-- Whether a command is well formed. -/
def Instr.wf : Instr → Bool
  | .sqTailDoorbell _ q value => fits 16 q && fits 32 value
  | .cqHeadDoorbell _ q value => fits 16 q && fits 32 value
  | .commandFetch _ q sqe => fits 16 q && sqe.wf
  | .write c blocks => c.wf && blocks.all BlockData.wf
  | .writeAdmission => true
  | .thermalHoldLimitExpiry c => c.wf
  | .read c media => c.wf && media.all BlockRead.wf
  | .flush c => c.wf
  | .writeZeroes c => c.wf
  | .datasetManagement c ranges => c.wf && decide (ranges.length ≤ 256) && ranges.all DsmRange.wf
  | .verify c media => c.wf && media.all BlockRead.wf
  | .sealCmd c media => c.wf && media.all BlockRead.wf
  | .secureDeallocate c _ => c.wf
  | .auditRange c media rep => c.wf && media.all BlockRead.wf && rep.all (fun p => decide (p.2.length ≤ 256) && p.2.all BlockData.wf)
  | .completionPost c => c.wf
  | .createIoSubmissionQueue c => c.wf
  | .deleteIoSubmissionQueue c => c.wf
  | .createIoCompletionQueue c => c.wf
  | .deleteIoCompletionQueue c => c.wf
  | .getLogPage c => c.wf
  | .identifyCommand c => c.wf
  | .abort c => c.wf
  | .setFeaturesArbitration c => c.wf
  | .setFeaturesPowerManagement c => c.wf
  | .setFeaturesTemperatureThreshold c => c.wf
  | .setFeaturesNumberOfQueues c => c.wf
  | .setFeaturesInterruptCoalescing c => c.wf
  | .setFeaturesInterruptVectorConfig c => c.wf
  | .setFeaturesAsyncEventConfig c => c.wf
  | .setFeaturesApst c table => c.wf && table.all (fun e => decide (e.1 < 32) && fits 24 e.2)
  | .setFeaturesTimestamp c _ => c.wf
  | .setFeaturesHctm c => c.wf
  | .getFeatures c => c.wf
  | .asynchronousEventRequest c => c.wf
  | .namespaceCreate c p => c.wf && p.wf
  | .namespaceDelete c => c.wf
  | .namespaceAttach c ctrls => c.wf && ctrls.all (fun c => decide (c < 128))
  | .namespaceDetach c ctrls => c.wf && ctrls.all (fun c => decide (c < 128))
  | .formatNvm c => c.wf
  | .firmwareImageDownload c _ => c.wf
  | .firmwareCommitAction0 c _ => c.wf
  | .firmwareCommitAction1 c _ => c.wf
  | .firmwareCommitAction2 c => c.wf
  | .firmwareCommitAction3 c _ => c.wf
  | .deviceSelfTestShort c => c.wf
  | .deviceSelfTestExtended c => c.wf
  | .deviceSelfTestAbort c => c.wf
  | .selfTestResume _ => true
  | .virtualizationManagementOnline c => c.wf
  | .virtualizationManagementOffline c => c.wf
  | .securitySend c _ => c.wf
  | .securityReceive c => c.wf
  | .sanitizeBlockErase c _ => c.wf
  | .sanitizeCryptoErase c => c.wf
  | .ccEnSet _ => true
  | .ccEnClear _ => true
  | .shutdownNotification _ => true
  | .cleanStopDestageTimeout => true
  | .apstIdleTimer _ => true
  | .registerWrite _ _ off _ => fits 32 off
  | .functionLevelReset _ => true
  | .flrWaitEnd _ _ => true
  | .perstAssert => true
  | .perstDeassert => true
  | .busMasterEnableClear _ => true
  | .d3hotEntry _ => true
  | .d3hotExit _ => true
  | .completionTimeout _ what => what.wf
  | .unexpectedCompletion _ => true
  | .poisonedTlpReceived _ what => what.wf
  | .ecrcError _ => true
  | .fatalLinkError => true
  | .linkTrainingComplete rate width => decide (rate ≤ 6) && decide (width ≤ 16)
  | .aspmL1Entry => true
  | .ltrUpdate => true
  | .doeDiscovery index => fits 8 index
  | .doeAbort => true
  | .spdmGetVersion _ => true
  | .spdmGetCapabilities _ => true
  | .spdmNegotiateAlgorithms _ _ _ => true
  | .spdmGetDigests _ => true
  | .spdmGetCertificate _ slot off len => decide (slot ≤ 7) && fits 32 off && fits 32 len
  | .spdmChallenge _ slot nonce => decide (slot ≤ 7) && decide (nonce.length = 32)
  | .spdmGetMeasurements _ index nonce => fits 8 index && decide (nonce.length = 32)
  | .vfEnable n => decide (n ≤ 127)
  | .vfDisable n => decide (n ≤ 127)
  | .mbxGo _ _ => true
  | .mbxHostPayloadArrival _ _ _ => true
  | .identify _ _ => true
  | .calendarSet _ _ => true
  | .calendarGet _ _ => true
  | .portCounters _ _ => true
  | .exportSettings _ _ => true
  | .deviceGetSetting _ _ => true
  | .deviceSetSetting _ _ => true
  | .calExport _ _ => true
  | .calDigest _ _ => true
  | .calOverwrite _ _ _ => true
  | .subsystemSet _ _ => true
  | .carrierStatus _ _ => true
  | .carrierDescriptor _ _ => true
  | .carrierRemove _ _ => true
  | .carrierOut _ _ => true
  | .carrierReturn _ _ => true
  | .arrayStatus _ _ => true
  | .lostStripes _ _ => true
  | .heldRecoverReadOnly _ _ _ => true
  | .heldRecoverResume _ _ => true
  | .retire _ _ => true
  | .copyback _ _ => true
  | .redundancyGetSetting _ _ => true
  | .redundancySetSetting _ _ => true
  | .starlightReport _ _ => true
  | .darkPrepare _ _ => true
  | .retentionGetSetting _ _ => true
  | .retentionSetSetting _ _ => true
  | .sealList _ _ => true
  | .sealRecord _ _ => true
  | .sealTree _ _ => true
  | .sealIdentity _ _ => true
  | .unseal _ _ => true
  | .haloTopology _ _ => true
  | .sessionCreate _ _ => true
  | .sessionRemove _ _ => true
  | .sessionList _ _ => true
  | .migrateStart _ _ => true
  | .migrateCancel _ _ => true
  | .migrateStatus _ _ => true
  | .wakeNode _ _ => true
  | .haloGetSetting _ _ => true
  | .haloSetSetting _ _ => true
  | .almClear _ _ => true
  | .almInfo _ _ => true
  | .almanacGetSetting _ _ => true
  | .almanacSetSetting _ _ => true
  | .healthReport _ _ => true
  | .holdupMeasure _ _ => true
  | .ageingReplan _ _ sample => sample.wf
  | .powerHealthGetSetting _ _ => true
  | .powerHealthSetSetting _ _ => true
  | .coolingStatus _ _ => true
  | .loopSave _ _ => true
  | .coolingGetSetting _ _ => true
  | .coolingSetSetting _ _ => true
  | .fwStatus _ _ => true
  | .fwCountersign _ _ => true
  | .fwPolicy _ _ => true
  | .vfStatus _ _ => true
  | .vfConfigure _ _ => true
  | .vfQuiesce _ _ => true
  | .quiesceWaitExpiry _ => true
  | .vfSave _ _ => true
  | .vfSaveStepWaitExpiry _ => true
  | .vfRestore _ _ => true
  | .vfResume _ _ => true
  | .sanitizeGrant _ _ => true
  | .sanitizeGrantExpiry => true
  | .mediaEncryptSet _ _ => true
  | .challenge _ _ => true
  | .challengeExpiry _ _ => true
  | .authLockoutExpiry => true
  | .custodianEnrol _ _ => true
  | .custodianRotate _ _ => true
  | .custodianKey _ _ => true
  | .mdEnable _ _ => true
  | .mdDisable _ _ => true
  | .dgnStatus _ _ => true
  | .dgnWindow _ _ => true
  | .diagnosticWindowRead off len _ _ => fits 32 off && fits 32 len
  | .carrierPresenceFall _ => true
  | .carrierDebounceExpiry _ => true
  | .carrierPowerUp _ => true
  | .carrierPowerSettleExpiry _ => true
  | .carrierDescriptorReadDone _ primary secondary _ => decide (primary.length ≤ 1024) && decide (secondary.length ≤ 1024)
  | .carrierTrainingDone _ rates => decide (rates.length ≤ 4) && rates.all (fun r => decide (r.getD 0 ≤ 4))
  | .blockStatusLoadDone _ _ => true
  | .carrierPresenceRise _ => true
  | .carrierResumeDone _ primary secondary rates => decide (primary.length ≤ 1024) && decide (secondary.length ≤ 1024) && decide (rates.length ≤ 4) && rates.all (fun r => decide (r.getD 0 ≤ 4))
  | .zqCalibrationTimer _ => true
  | .mediaRead _ _ d ranUs => d.wf && fits 32 ranUs
  | .program _ _ d payload => d.wf && payload.wf
  | .erase _ _ d => d.wf
  | .recharge _ _ d payload => d.wf && payload.wf
  | .sweep _ _ d => d.wf
  | .mediaGetFeatures _ _ d => d.wf
  | .mediaSetFeatures _ _ d => d.wf
  | .readStatus _ _ d => d.wf
  | .lunReset _ _ d => d.wf
  | .zqCal _ _ d => d.wf
  | .dieOperationDone _ o => o.wf
  | .dieTimeout _ _ => true
  | .mediaQueueReset _ _ => true
  | .csRead d buffer => d.wf && fits 64 buffer
  | .csProgram d _ _ => d.wf
  | .csErase d => d.wf
  | .mdrSqDoorbell _ _ => true
  | .mdRingCopy _ => true
  | .mdrRingReset _ => true
  | .mdrRingCtrlWrite _ _ => true
  | .mdrCqHeadWrite _ _ => true
  | .housekeepingRound temps => temps.all (fun t => decide (t.1 < 8192))
  | .polestarDailyTimer => true
  | .polestarSweep _ sweeps => sweeps.all PageSweep.wf
  | .polestarReprogram _ _ seed _ _ baseline => fits 32 seed && baseline.all PageSweep.wf
  | .rechargePass band blocks => fits 21 band && blocks.all PassBlock.wf
  | .marginPatrol _ steps corrected => decide (steps.length = 4) && decide (corrected.length = 4) && steps.all (fun d => decide (d ≤ 3))
  | .dawnScan _ decodeStep _ => decide (decodeStep ≤ 3)
  | .stripeWrite _ band => fits 21 band
  | .gatherTimeout _ band => fits 21 band
  | .groupDeclaration band => fits 21 band
  | .stripeCommit band _ => fits 21 band
  | .journalPageWrite _ _ => true
  | .checkpointCycle => true
  | .bandClose band => fits 21 band
  | .bandRelease band _ => fits 21 band
  | .garbageCollection band _ reads => fits 21 band && reads.all BlockRead.wf
  | .relocation band _ reads => fits 21 band && reads.all BlockRead.wf
  | .spanConsolidation reads => reads.all BlockRead.wf
  | .resynchronisation band _ findings _ => fits 21 band && findings.all ResyncFinding.wf
  | .rebuild band reads _ _ => fits 21 band && reads.all BlockRead.wf
  | .lunRebuild lun band lost => decide (lun < 8192) && fits 21 band && lost.all (fits 25)
  | .reshape band => fits 21 band
  | .dataPlaneBurst _ _ _ => true
  | .portTrainingStart _ => true
  | .portTrainingDone _ rate _ => decide (rate ≤ 2)
  | .portTrainingTimeout _ => true
  | .portTrainingRetry _ => true
  | .initCellTimer _ => true
  | .initCellReceive _ cell => cell.wf
  | .dataCellReceive _ cell => cell.wf
  | .ctrlCellReceive _ _ => true
  | .replayTimerExpiry _ => true
  | .lossOfSignal _ => true
  | .fecErrorLimit _ codewords => fits 16 codewords
  | .trainingFramesReceived _ => true
  | .tokenReceive _ token => token.wf
  | .tokenTimeout => true
  | .heartbeatTimer => true
  | .heartbeatReceive node serial descs => fits 5 node && decide (serial.length ≤ 20) && descs.all SessionDesc.wf
  | .peerTimeoutExpiry node => fits 5 node
  | .spanPushReceive msg => msg.wf
  | .spanPullReceive msg => msg.wf
  | .repairReqReceive msg media => msg.wf && media.all BlockRead.wf
  | .sealXferReceive msg x media => msg.wf && x.wf && media.all BlockRead.wf
  | .migrateBeginReceive msg => msg.wf
  | .migrateBeginCancelReceive msg => msg.wf
  | .migrateCheckpointReceive msg => msg.wf
  | .migrateCommitReceive msg _ => msg.wf
  | .wakeReceive msg => msg.wf
  | .wakeDetect _ => true
  | .wakeGiveupExpiry _ => true
  | .unknownOpcodeReceive msg => msg.wf
  | .haloResponseReceive msg => msg.wf
  | .haloRequestTimeout xid => fits 32 xid
  | .destBusyRetry xid => fits 32 xid
  | .mirrorPush session span media => fits 32 session && fits 40 span && media.all BlockRead.wf
  | .mirrorTimeoutExpiry session => fits 32 session
  | .migrationPass media => media.all BlockRead.wf
  | .commitStallLimitExpiry => true
  | .migrateCommitRepeat => true
  | .halPortClearCounters _ => true
  | .sysRstNFall => true
  | .sysRstNRise => true
  | .powerGood _ _ _ => true
  | .internalRestart => true
  | .bootStepEnd r => r.wf
  | .bootStepWatchdog => true
  | .safeStartRetry _ => true
  | .configStoreRetry _ => true
  | .dramInitGranule => true
  | .dramPatrolScrub hits => hits.all PatrolHit.wf
  | .dramAlert _ _ _ => true
  | .dramFreeze cause _ addr => fits 8 cause && fits 40 addr
  | .bufferClassError _ => true
  | .msramScrub _ pages _ _ => pages.all (fun p => decide (p.1 < 32 * 2 ^ 20))
  | .sramScrub _ _ _ => true
  | .codeFetchError addr _ _ => decide (addr < 32 * 2 ^ 20)
  | .msramDataError _ => true
  | .internalDmaHalt _ => true
  | .sleepEntry _ _ => true
  | .eclipseDestageTimeout => true
  | .isolationCommit => true
  | .wakeEvent _ _ => true
  | .wakeTimerExpiry => true
  | .sleepExitDone _ => true
  | .perfLevelChange => true
  | .avsbusTimeout => true
  | .voltageMonitorEvent _ _ mv => fits 16 mv
  | .coreFaultLift => true
  | .periodic720hTimer => true
  | .holdupMeasurementDone sample => sample.wf
  | .pwrfailAssert => true
  | .flushComplete _ => true
  | .pwrfailDeassert => true
  | .diodeReading raw => fitsInt 16 raw
  | .thermalDemandFallback => true
  | .rateDemandLift => true
  | .thermalShutdown => true
  | .loopSlotUpdate _ meas => fitsInt 32 meas
  | .ctlSlotCommit _ _ => true
  | .motorEnable _ _ => true
  | .motorRestart _ => true
  | .motorDetectDone _ _ _ _ => true
  | .brakeEnd _ => true
  | .brakeTimeout _ => true
  | .alignDone _ => true
  | .rampDone _ => true
  | .keCheckDone _ _ _ => true
  | .observerLock _ _ => true
  | .rotorLoss _ => true
  | .overcurrent _ _ => true
  | .cdFaultNFall _ => true
  | .coastDone _ => true
  | .motorFaultDemandLift => true
  | .trcArm _ => true
  | .trcTrigger _ => true
  | .traceTriggerEvent _ => true
  | .traceSample _ _ _ => true
  | .almanacRecordAccept _ _ params => decide (params.length ≤ 20)
  | .almanacRecordProgram => true
  | .almanacCompaction => true
  | .almanacIndexRead => true
  | .dropCounterSave => true
  | .almCursorWrite _ => true
  | .standbySetLoad _ => true
  | .microcodeRoll _ => true
  | .intakeStall => true
  | .handoverReady => true
  | .handoverReadyTimeout => true
  | .lossOfDelineation _ => true
  | .cellSlotTransmit _ => true
  | .correctableLinkError => true
  | .unsupportedRequest _ _ => true
  | .apertureBufferWrite _ off _ => fits 32 off
  | .apertureBufferRead _ off len => fits 32 off && fits 32 len
  | .jtagInstruction ir => fits 8 ir
  | .powerLoss => true

end Sys2Proof
end

