-- ==== Sys2Proof/Certificates/Slice0/Obligations.lean ====
section
/-! DEFINITION. The statements for the provers, family by family. -/
open Sys2Proof Sys2Proof.Machine

/-- A step with a command in front runs that command on the state that holds the queue's rest; with none it idles. -/
def Obligations.StepRunsFrontCommand : Prop :=
  (∀ (c : Instr) (rest : List Instr) (s : State),
    step { s with pending := c :: rest } = exec c { s with pending := rest }) ∧
  (∀ s : State, s.pending = [] → step s = .next s)

/-- The rows of R469's table that lead a motor from OFF to RUN, each with its frame. -/
def Obligations.MotorStartSequence : Prop :=
  ∀ (s : State) (m : Motor),
    ((motorAt s m).st = .off → s.pwr.pwrfail = false → s.pwr.sleep ≠ .eclipse → (motorParam s m).bad = false →
      (motorParam s m).valid = true → (motorParam s m).enable ≠ 0 →
      Gives (.motorEnable m true) s (fun t => (motorAt t m).st = .detect ∧ (motorAt t m).enable = true ∧
        (motorAt t m).gatesOff = true ∧ (motorAt t m).param = motorParam s m ∧ t.pins.cdEn.getLsbD m = true ∧ OnlyMotor m s t)) ∧
    (∀ (crossings : Nat) (speed : Int) (ke : Nat), (motorAt s m).st = .detect →
      (2 ≤ crossings → 300 < speed → keHolds (motorAt s m).param ke = true →
        Gives (.motorDetectDone m crossings speed ke) s (fun t => (motorAt t m).st = .catching ∧ (motorAt t m).keMeas = ke ∧
          (motorAt t m).reversed = false ∧ OnlyMotor m s t)) ∧
      (¬ (2 ≤ crossings ∧ 300 < speed) → 100 < speed.natAbs →
        Gives (.motorDetectDone m crossings speed ke) s (fun t => (motorAt t m).st = .brake ∧
          (motorAt t m).reversed = decide (2 ≤ crossings ∧ speed < 0) ∧ OnlyMotor m s t)) ∧
      (speed.natAbs ≤ 100 → Gives (.motorDetectDone m crossings speed ke) s (fun t => (motorAt t m).st = .align ∧ OnlyMotor m s t))) ∧
    ((motorAt s m).st = .brake → Gives (.brakeEnd m) s (fun t => (motorAt t m).st = .align ∧ OnlyMotor m s t)) ∧
    ((motorAt s m).st = .align → Gives (.alignDone m) s (fun t => (motorAt t m).st = .ramp ∧ OnlyMotor m s t)) ∧
    ((motorAt s m).st = .ramp → Gives (.rampDone m) s (fun t => (motorAt t m).st = .keCheck ∧ (motorAt t m).gatesOff = true ∧ OnlyMotor m s t)) ∧
    (∀ (peakUv radPerS : Nat), (motorAt s m).st = .keCheck → keHolds (motorAt s m).param (peakUv / radPerS) = true →
      Gives (.keCheckDone m peakUv radPerS) s (fun t => (motorAt t m).st = .catching ∧ (motorAt t m).keMeas = peakUv / radPerS ∧ OnlyMotor m s t)) ∧
    (∀ angle : BitVec 16, (motorAt s m).st = .catching →
      Gives (.observerLock m angle) s (fun t => (motorAt t m).st = .run ∧ (motorAt t m).angle = angle ∧ (motorAt t m).gatesOff = false ∧
        (loopAt t (4 + m)).e1 = 0 ∧ (loopAt t (4 + m)).y1 = 0 ∧ (loopAt t (8 + 2 * m)).y1 = 0 ∧ (loopAt t (8 + 2 * m)).out = 0 ∧
        t = { s with cool := { s.cool with motor := t.cool.motor, slot := t.cool.slot } }))

/-- The rows of R469's table that end in FAULT or OFF before RUN, each with its frame. -/
def Obligations.MotorFaultsAndStops : Prop :=
  ∀ (s : State) (m : Motor),
    ((motorAt s m).st = .brake → Gives (.brakeTimeout m) s (MotorFaulted m 3 s)) ∧
    (∀ (peakUv radPerS : Nat), (motorAt s m).st = .keCheck → keHolds (motorAt s m).param (peakUv / radPerS) = false →
      Gives (.keCheckDone m peakUv radPerS) s (fun t => MotorFaulted m 2 s t ∧ (motorAt t m).keFault = true)) ∧
    (∀ (crossings : Nat) (speed : Int) (ke : Nat), (motorAt s m).st = .detect → 2 ≤ crossings → 300 < speed →
      keHolds (motorAt s m).param ke = false →
      Gives (.motorDetectDone m crossings speed ke) s (fun t => MotorFaulted m 2 s t ∧ (motorAt t m).keFault = true)) ∧
    ((motorAt s m).st = .off → s.pwr.pwrfail = false → s.pwr.sleep ≠ .eclipse → (motorParam s m).bad = true →
      Gives (.motorEnable m true) s (MotorFaulted m 4 s)) ∧
    ((motorAt s m).st = .fault →
      ((motorAt s m).enable = false → Gives (.motorRestart m) s (fun t => (motorAt t m).st = .off ∧ (motorAt t m).losses = [] ∧ OnlyMotor m s t)) ∧
      ((motorAt s m).enable = true → s.pwr.pwrfail = false → s.pwr.sleep ≠ .eclipse → (motorParam s m).bad = false →
        (motorParam s m).valid = true → (motorParam s m).enable ≠ 0 →
        Gives (.motorRestart m) s (fun t => (motorAt t m).st = .detect ∧ (motorAt t m).losses = [] ∧ t.pins.cdEn.getLsbD m = true ∧ OnlyMotor m s t))) ∧
    Gives (.motorEnable m false) s (fun t => (motorAt t m).st = .off ∧ (motorAt t m).enable = false ∧ (motorAt t m).gatesOff = true ∧
      (motorAt t m).counted = true ∧ t.pins.cdEn.getLsbD m = false ∧ t.cool.motorFault = true ∧
      (managerDemand t ≠ managerDemand s → t.cool.thresholdChange = true) ∧ (∀ k, k < 4 → k ≠ m.val → (motorAt t k).st = (motorAt s k).st) ∧
      t = { s with cool := { s.cool with motor := t.cool.motor, motorFault := true, thresholdChange := t.cool.thresholdChange, trace := t.cool.trace }
                   pins := { s.pins with cdEn := t.pins.cdEn } })

/-- What a loss of the rotor does, and how it ends (R466, R474, R475). -/
def Obligations.RotorLossAndRecovery : Prop :=
  ∀ (s : State) (m : Motor),
    ((motorAt s m).st = .run →
      (implausible s m = true → Gives (.rotorLoss m) s (fun t => (motorAt t m).st = .coast ∧ (motorAt t m).gatesOff = true ∧ (motorAt t m).loss = true ∧
        (motorAt t m).losses = recentLosses s (motorAt s m) ++ [s.time.opMs] ∧ (motorAt t m).lossesTotal = (motorAt s m).lossesTotal + 1 ∧
        (∀ k, k ≠ m.val → motorAt t k = motorAt s k) ∧
        t = { s with cool := { s.cool with motor := t.cool.motor, trace := t.cool.trace } })) ∧
      (s.pwr.phase = .steady → s.pwr.sleep ≠ .night → Gives (.cdFaultNFall m) s (fun t => (motorAt t m).st = .coast ∧ (motorAt t m).gatesOff = true ∧
        (motorAt t m).losses = recentLosses s (motorAt s m) ++ [s.time.opMs] ∧ t.pins.cdFaultN.getLsbD m = false ∧
        (∀ k, k ≠ m.val → motorAt t k = motorAt s k ∧ t.pins.cdFaultN.getLsbD k = s.pins.cdFaultN.getLsbD k) ∧
        t = { s with cool := { s.cool with motor := t.cool.motor, trace := t.cool.trace }, pins := { s.pins with cdFaultN := t.pins.cdFaultN } })) ∧
      (∀ c : ConverterSample, (motorAt s m).gatesOff = false →
        exceeds (motorAt s m).param (Config.freeNat s.freeCtr) (motorAt s m).param.iLimit c = true →
        (9 ≤ (motorAt s m).overPeriods → Gives (.overcurrent m c) s (fun t => (motorAt t m).st = .coast ∧
          (motorAt t m).losses = recentLosses s (motorAt s m) ++ [s.time.opMs])) ∧
        ((motorAt s m).overPeriods < 9 → Gives (.overcurrent m c) s (fun t => (motorAt t m).st = .run ∧ (motorAt t m).gatesOff = true ∧
          (motorAt t m).overPeriods = (motorAt s m).overPeriods + 1 ∧ OnlyMotor m { s with freeCtr := s.freeCtr + 1 } t)))) ∧
    (∀ c : ConverterSample, (motorAt s m).st = .brake → Gives (.overcurrent m c) s (fun t => (motorAt t m).st = .brake ∧
      (motorAt t m).gatesOff = exceeds (motorAt s m).param (Config.freeNat s.freeCtr) (min (motorAt s m).param.brakeLimit (motorAt s m).param.iLimit) c ∧
      OnlyMotor m { s with freeCtr := s.freeCtr + 1 } t)) ∧
    (s.pwr.phase = .steady → s.pwr.sleep = .night → (motorAt s m).enable = true →
      Gives (.cdFaultNFall m) s (fun t => t.pwr.phase = .exiting ∧ t.pwr.wakeStatus.getLsbD 8 = true)) ∧
    ((motorAt s m).st = .coast → (recentLosses s (motorAt s m)).length < 3 →
      Gives (.coastDone m) s (fun t => (motorAt t m).st = .detect ∧ (motorAt t m).losses = recentLosses s (motorAt s m) ∧
        t.pins.cdFaultN.getLsbD m = true ∧ (∀ k, k ≠ m.val → motorAt t k = motorAt s k) ∧
        t = { s with cool := { s.cool with motor := t.cool.motor }, pins := { s.pins with cdFaultN := t.pins.cdFaultN } })) ∧
    ((motorAt s m).st = .coast → 3 ≤ (recentLosses s (motorAt s m)).length →
      Gives (.coastDone m) s (fun t => (motorAt t m).st = .fault ∧ (motorAt t m).counted = true ∧ t.pins.cdEn.getLsbD m = false ∧
        t.cool.motorFault = true ∧ t.alm = (record s 0x0C03 .fault (b1 m ++ b2 1)).alm)) ∧
    ((∀ k, k < 4 → (motorAt s k).enable = true → (motorAt s k).st = .run ∧ (motorAt s k).since + 60000 ≤ s.time.opMs) →
      Gives .motorFaultDemandLift s (fun t => t.cool.motorFault = false ∧ (∀ k, k < 4 → (motorAt t k).counted = false ∧ (motorAt t k).st = (motorAt s k).st) ∧
        (managerDemand t ≠ managerDemand s → t.cool.thresholdChange = true) ∧
        t = { s with cool := { s.cool with motor := t.cool.motor, motorFault := false, thresholdChange := t.cool.thresholdChange, trace := t.cool.trace } }))

/-- R454 whole: a faulty reading, the record, 125 °C while faulty, and the clearing after 1 s. -/
def Obligations.DiodeFaultRule : Prop :=
  ∀ (raw r : Int) (s : State), r = correctedDiode s raw → Gives (.diodeReading raw) s (fun t =>
    t.cool.prev = some r ∧ t.time.opMs = s.time.opMs + 1 ∧ t.cool.tj = (if t.cool.fault then 2000 else r) ∧
    ((r < -880 ∨ 2400 < r ∨ ∃ p, s.cool.prev = some p ∧ (320 < r - p ∨ 320 < p - r)) →
      t.cool.fault = true ∧ t.cool.plausibleMs = 0 ∧ (s.cool.fault = false → t.alm.event.getLsbD 3 = true)) ∧
    (¬ (r < -880 ∨ 2400 < r ∨ ∃ p, s.cool.prev = some p ∧ (320 < r - p ∨ 320 < p - r)) →
      t.cool.plausibleMs = min 1000 (s.cool.plausibleMs + 1) ∧ (t.cool.fault = true ↔ s.cool.fault = true ∧ s.cool.plausibleMs + 1 < 1000)))

/-- Fallback and lifting of the thermal demands (R457, R458), and what a housekeeping round copies (R455). -/
def Obligations.ThermalDemandsAndRounds : Prop :=
  ∀ (s : State),
    Gives .thermalDemandFallback s (fun t =>
      (∀ i, i < 4 → vget t.cool.thr {} i =
        (match (vget s.cool.thr {} i).belowSince with
         | some b => if b + 10000 ≤ s.time.opMs then {} else vget s.cool.thr {} i
         | none => vget s.cool.thr {} i)) ∧
      t.cool.demand = thresholdDemand t.cool.thr ∧ (managerDemand t ≠ managerDemand s → t.cool.thresholdChange = true) ∧
      t = { s with cool := t.cool }) ∧
    (∀ b, s.cool.rateDemand.isSome = true → s.cool.rateBelow = some b → b + 10000 ≤ s.time.opMs →
      Gives .rateDemandLift s (fun t => t.cool.rateDemand = none ∧ t.cool.rateBelow = none ∧
        (managerDemand t ≠ managerDemand s → t.cool.thresholdChange = true) ∧ t = { s with cool := t.cool })) ∧
    (∀ temps : List (Nat × Option Int), s.pwr.sleep ≠ .night → s.pwr.sleep ≠ .eclipse →
      Gives (.housekeepingRound temps) s (fun t => t.cool.round = s.cool.round + 1 ∧
        (∀ n, n < 24 → (vget t.pwr.mon {} n).regMv = (vget s.pwr.mon {} n).mv ∧ (vget t.pwr.mon {} n).regStatus = (vget s.pwr.mon {} n).st ∧
          (vget t.pwr.mon {} n).mv = (vget s.pwr.mon {} n).mv) ∧
        t.pwr.pmonReg = s.pwr.pmon ∧ t.cool.motor = s.cool.motor ∧ t.cool.slot = s.cool.slot ∧ t.pins = s.pins ∧ t.settings = s.settings))

/-- R478's equation with its stored, clamped history, and R479's COMMIT. -/
def Obligations.LoopSlotUpdateAndCommit : Prop :=
  ∀ (s : State) (n : LoopSlot),
    (∀ updating : Bool, Gives (.ctlSlotCommit n updating) s (fun t =>
      loopAt t n = { loopAt s n with commitPending := true, commitNext := updating } ∧ (∀ k, k ≠ n.val → loopAt t k = loopAt s k) ∧
      t = { s with cool := { s.cool with slot := t.cool.slot } })) ∧
    (∀ meas : Int, slotRuns s n = true →
      -(2 ^ 63) ≤ slotSum (loadShadow (loopAt s n)) (if n.val < 4 then meas - slotSetpoint s n else slotSetpoint s n - meas) →
      slotSum (loadShadow (loopAt s n)) (if n.val < 4 then meas - slotSetpoint s n else slotSetpoint s n - meas) < 2 ^ 63 →
      Gives (.loopSlotUpdate n meas) s (fun t =>
        let l := loadShadow (loopAt s n)
        let e := if n.val < 4 then meas - slotSetpoint s n else slotSetpoint s n - meas
        let y := (slotSum l e + 2 ^ 27) / 2 ^ 28
        (loopAt t n).out = min (max y l.outMin) l.outMax ∧ (loopAt t n).y1 = (loopAt t n).out ∧ (loopAt t n).e1 = e ∧
        (loopAt t n).e2 = l.e1 ∧ (loopAt t n).e3 = l.e2 ∧ (loopAt t n).y2 = l.y1 ∧ (loopAt t n).y3 = l.y2 ∧ (loopAt t n).meas = meas ∧
        (loopAt t n).active = l.active ∧ (loopAt t n).shadow = (loopAt s n).shadow ∧ (loopAt t n).updates = (l.updates + 1) % 65536 ∧
        (loopAt t n).satHigh = (l.satHigh || decide (l.outMax < y)) ∧ (loopAt t n).satLow = (l.satLow || decide (y < l.outMin)) ∧
        (∀ k, k ≠ n.val → loopAt t k = loopAt s k) ∧ t.pins = s.pins ∧ t.cool.trace = s.cool.trace))

/-- Trace buffers (R483, R484). -/
def Obligations.TraceBufferCommands : Prop :=
  ∀ (s : State) (b : TraceBuf),
    let only := fun (t : State) => (∀ k, k ≠ b.val → traceAt t k = traceAt s k) ∧ t = { s with cool := { s.cool with trace := t.cool.trace } }
    Gives (.trcArm b) s (fun t => (traceAt t b).armed = true ∧ (traceAt t b).done = false ∧ (traceAt t b).triggered = false ∧
      (traceAt t b).inForce = ((traceAt s b).decimation, (traceAt s b).index, (traceAt s b).signal) ∧ (traceAt t b).writeIndex = 0 ∧ only t) ∧
    ((traceAt s b).armed = true → (traceAt s b).continuous = false →
      ((traceAt s b).trigSrc = 0 → Gives (.trcTrigger b) s (fun t => traceAt t b = { traceAt s b with triggered := true } ∧ only t)) ∧
      ((traceAt s b).trigSrc ≠ 0 → Gives (.traceTriggerEvent b) s (fun t => traceAt t b = { traceAt s b with triggered := true } ∧ only t))) ∧
    (∀ (value : Int) (time : Word32), (traceAt s b).armed = true →
      ((traceAt s b).skipped < (traceAt s b).inForce.1 → Gives (.traceSample b value time) s (fun t =>
        (traceAt t b).samples = (traceAt s b).samples ∧ (traceAt t b).skipped = (traceAt s b).skipped + 1 ∧ only t)) ∧
      ((traceAt s b).inForce.1 ≤ (traceAt s b).skipped → Gives (.traceSample b value time) s (fun t =>
        lookup (traceAt t b).samples (traceAt s b).writeIndex = some (BitVec.ofInt 32 value, time) ∧
        (∀ i, i ≠ (traceAt s b).writeIndex → lookup (traceAt t b).samples i = lookup (traceAt s b).samples i) ∧
        (traceAt t b).writeIndex = ((traceAt s b).writeIndex + 1) % 8192 ∧ (traceAt t b).skipped = 0 ∧ only t)))

/-- Entry to sleep (R301, R337, R338, R431 to R436). -/
def Obligations.SleepEntrySequence : Prop :=
  ∀ s : State,
    (∀ g : SleepTarget, MaySleep s → depth s.pwr.sleep < depth (sleepOf g) → commandedTarget s = some g →
      Gives (.sleepEntry g true) s (fun t => t = { s with pwr := { s.pwr with phase := .entering, target := sleepOf g, commanded := true } })) ∧
    (∀ (g : SleepTarget) (ms : Nat), MaySleep s → autonomousTarget s ms = some g →
      (deepForbidden s = true → s.pwr.sleep = .zenith → Gives (.apstIdleTimer ms) s (fun t => t = { s with pwr := { s.pwr with
        phase := .entering, target := .dusk, commanded := false } })) ∧
      (deepForbidden s = false → depth s.pwr.sleep < depth (sleepOf g) → Gives (.apstIdleTimer ms) s (fun t => t = { s with pwr := { s.pwr with
        phase := .entering, target := sleepOf g, commanded := false } }))) ∧
    (s.pwr.phase = .entering → s.pwr.target = .eclipse → (dirtyLines s.map.lines ≠ [] ∨ s.map.tail ≠ []) →
      Gives .eclipseDestageTimeout s (fun t => t = record { s with pwr := { s.pwr with target := .night } } 0x0B07 .notice (b2 0))) ∧
    (s.pwr.phase = .entering → eclipseReady s s.pwr.target = true →
      (levelPresent s s.pwr.target = true → Gives .isolationCommit s (fun t =>
        t = { s with pwr := { s.pwr with phase := .steady, target := s.pwr.sleep } })) ∧
      (levelPresent s s.pwr.target = false → Gives .isolationCommit s (fun t =>
        t.pwr = { s.pwr with sleep := s.pwr.target, phase := .steady, wakeStatus := 0, padHold := heldPads s.pwr.target, domainsOff := isDeep s.pwr.target, sleepSince := s.time.opMs,
                              requestedMv := rowMv s (3 + depth s.pwr.target), retrain := t.pwr.retrain } ∧
        (isDeep s.pwr.target = true → setting s 0x07 4 = 1 → t.halo.eng = false) ∧
        (s.pwr.target = .dusk → t = { s with pwr := t.pwr, cool := { s.cool with motor := t.cool.motor } }) ∧
        t.map.lines = s.map.lines ∧ guarded t = guarded s)))

/-- Wake events and exit (R433 to R436). -/
def Obligations.WakeAndSleepExit : Prop :=
  ∀ s : State,
    (∀ (src : WakeSource) (lost : Bool), s.pwr.phase = .steady → src ≠ .pwrfail → s.pwr.sleep ≠ .zenith →
      (wakeEffective s src s.pwr.sleep = true → Gives (.wakeEvent src lost) s (fun t =>
        t.pwr = { s.pwr with phase := .exiting, domainsOff := false, wakeStatus := s.pwr.wakeStatus ||| wakeBit src,
                              requestedMv := rowMv s s.pwr.level, retrain := t.pwr.retrain } ∧ guarded t = guarded s)) ∧
      (wakeEffective s src s.pwr.sleep = false → Gives (.wakeEvent src lost) s (fun t => t.pwr = s.pwr ∧ t.nvme = s.nvme ∧ t.map = s.map ∧ guarded t = guarded s))) ∧
    (s.pwr.sleep = .zenith → s.pwr.phase = .steady → ∀ lost : Bool,
      Gives (.wakeEvent .doorbell lost) s (fun t => t = s) ∧ Gives (.wakeEvent .mailbox lost) s (fun t => t = s)) ∧
    (s.pwr.phase = .entering →
      Gives (.wakeEvent .haloE true) s (fun t => t = s) ∧ Gives (.wakeEvent .haloW true) s (fun t => t = s) ∧
      (s.pwr.sleep = .zenith → s.pwr.target ≠ .zenith → ∀ lost : Bool, Gives (.wakeEvent .doorbell lost) s (fun t =>
        t.pwr = { s.pwr with phase := .steady, target := .zenith } ∧ t.map = s.map ∧ guarded t = guarded s))) ∧
    (s.pwr.phase = .steady → isDeep s.pwr.sleep = true → setting s 0x09 3 ≠ 0 → Gives .wakeTimerExpiry s (fun t =>
      t.pwr = { s.pwr with phase := .exiting, domainsOff := false, wakeStatus := s.pwr.wakeStatus ||| 64,
                              requestedMv := rowMv s s.pwr.level, retrain := t.pwr.retrain } ∧ guarded t = guarded s)) ∧
    (s.pwr.phase = .exiting → carriersResuming s = false → Gives (.sleepExitDone []) s (fun t =>
      t.pwr.sleep = .zenith ∧ t.pwr.phase = .steady ∧ t.pwr.padHold = 0 ∧ t.pwr.wakeLast = s.pwr.wakeStatus ∧ t.pwr.wakeStatus = s.pwr.wakeStatus ∧
      t.host.configReady = true ∧ guarded t = guarded s))

/-- Levels and voltage monitors (R428, R429, R437, R438). -/
def Obligations.LevelsAndVoltageMonitors : Prop :=
  ∀ s : State,
    (s.pwr.level < wantedLevel s → Gives .perfLevelChange s (fun t =>
      t.pwr = { s.pwr with level := wantedLevel s, stepTo := none, avsRepeated := false, requestedMv := rowMv s (wantedLevel s) } ∧
      t = record { s with pwr := t.pwr } 0x0B01 .info (b1 s.pwr.level ++ b1 (wantedLevel s) ++ b2 (limitCause { s with pwr := t.pwr })))) ∧
    (wantedLevel s < s.pwr.level →
      (s.pwr.stepTo = none → s.pwr.avsFailed = false → Gives .perfLevelChange s (fun t =>
        t = { s with pwr := { s.pwr with stepTo := some (wantedLevel s), avsRepeated := false, requestedMv := rowMv s (wantedLevel s) } })) ∧
      (s.pwr.stepTo = none → s.pwr.avsFailed = true → Gives .perfLevelChange s (fun t => t = s)) ∧
      (s.pwr.stepTo = some (wantedLevel s) → Gives .perfLevelChange s (fun t =>
        t.pwr = { s.pwr with level := wantedLevel s, stepTo := none, avsRepeated := false, requestedMv := rowMv s (wantedLevel s) }))) ∧
    (s.pwr.stepTo ≠ none →
      (s.pwr.avsRepeated = false → Gives .avsbusTimeout s (fun t => t = { s with pwr := { s.pwr with avsRepeated := true } })) ∧
      (s.pwr.avsRepeated = true → Gives .avsbusTimeout s (fun t =>
        t = record { s with pwr := { s.pwr with stepTo := none, avsRepeated := false, avsFailed := true } } 0x0B06 .fault (b2 2)))) ∧
    (∀ (n : Fin 24) (mv : Nat), Gives (.voltageMonitorEvent n false mv) s (fun t => t = s) ∧
      (¬ (21 ≤ n.val ∧ railState s n mv = .faultLow) → Gives (.voltageMonitorEvent n true mv) s (fun t =>
        (vget t.pwr.mon {} n).st = railState s n mv ∧ (vget t.pwr.mon {} n).mv = mv ∧ (∀ k, k ≠ n.val → vget t.pwr.mon {} k = vget s.pwr.mon {} k) ∧
        (n.val ≤ 6 → railState s n mv = .faultLow → (vget s.pwr.mon {} n).st ≠ .faultLow →
          t.pwr.coreFault = true ∧ t.pwr.level = 3 ∧ t.alm.event.getLsbD 3 = true) ∧
        (6 < n.val → t.pwr = { s.pwr with mon := t.pwr.mon }) ∧
        t = { s with pwr := t.pwr, alm := t.alm, host := t.host })) ∧
      (21 ≤ n.val → railState s n mv = .faultLow → s.pwr.pwrfail = false → Gives (.voltageMonitorEvent n true mv) s (PowerFailed s))) ∧
    (s.pwr.coreFault = true → (∀ n, n ≤ 6 → (vget s.pwr.mon {} n).st = .inside) →
      Gives .coreFaultLift s (fun t => t = { s with pwr := { s.pwr with coreFault := false } }))

/-- PWRFAIL_N and the hold-up measurement's events (R444 to R448, R459). -/
def Obligations.PowerFailureAndHoldUp : Prop :=
  ∀ s : State,
    (s.pwr.pwrfail = false →
      Gives .pwrfailAssert s (fun t => PowerFailed s t ∧ t.pins.pwrfailN = false) ∧
      Gives .thermalShutdown s (fun t => PowerFailed s t ∧ t.alm.event.getLsbD 3 = true)) ∧
    (∀ bad : List (Nat × Nat × Bool), s.pwr.flush = 1 → Gives (.flushComplete bad) s (fun t =>
      t.pwr.flush = 2 ∧ t.pwr.allOff = true ∧ t.pwr.pwrfail = s.pwr.pwrfail ∧ guarded t = guarded s ∧
      (s.pwr.risenAfterFlush = true → ∀ fn, fn < 128 → funcExists s fn = true → (ctrlAt t fn).cfs = true))) ∧
    (s.pwr.pwrfail = true → s.pwr.risenAfterFlush = false → Gives .pwrfailDeassert s (fun t =>
      t.pins.pwrfailN = true ∧ t.pwr = { s.pwr with risenAfterFlush := true } ∧
      (s.pwr.flush ≠ 2 → t = { s with pins := t.pins, pwr := t.pwr }) ∧
      (s.pwr.flush = 2 → ∀ fn, fn < 128 → funcExists s fn = true → (ctrlAt t fn).cfs = true))) ∧
    Gives .periodic720hTimer s (fun t => t.pwr.replanDue = true ∧ t.pwr.periodicMs = s.time.opMs ∧
      (s.pwr.measuring = false → s.pwr.pwrfail = false → s.pwr.sleep = .zenith → t.pwr.measuring = true ∧ t.pins.holdupTest = true) ∧
      t = { s with pwr := { s.pwr with periodicMs := s.time.opMs, replanDue := true, measuring := t.pwr.measuring, measureDue := t.pwr.measureDue },
                   pins := { s.pins with holdupTest := t.pins.holdupTest } }) ∧
    (∀ (x : HoldupSample) (k : HoldupCal), s.pwr.measuring = true → s.pwr.measureWaiter = none → holdupCal s = some k →
      (sampleC s k x = none → Gives (.holdupMeasurementDone x) s (fun t => t.pwr.measuring = false ∧ t.pins.holdupTest = false ∧
        t.pwr.holdupInvalid = true ∧ t.pwr.halved = true ∧ t.pwr.lastC = s.pwr.lastC ∧ guarded t = guarded s)) ∧
      (∀ c, sampleC s k x = some c → Gives (.holdupMeasurementDone x) s (fun t => t.pwr.measuring = false ∧ t.pins.holdupTest = false ∧
        t.pwr.holdupInvalid = false ∧ t.pwr.lastC = some c ∧ t.pwr.v0 = bankMv k x.v0 ∧ t.pwr.measured = measuredLimit s k c (bankMv k x.v0) (carriersInService s) ∧
        t.pwr.effective = min s.dram.dirtyLimit t.pwr.measured ∧
        (t.pwr.writeThrough = true ↔ t.pwr.measured < setting s 0x09 6) ∧ guarded t = guarded s)))

/-- DRAM events (R399 to R414). -/
def Obligations.DramErrorsAndFreeze : Prop :=
  ∀ s : State,
    (s.dram.frozen = false → ∀ (ch : DramChannel) (addr : Nat),
      Gives (.dramFreeze 1 ch addr) s (Froze 1 ch addr s) ∧
      Gives (.dramFreeze 2 ch addr) s (fun t => Froze 2 ch 0 s t ∧ (dramAt t ch).st = .failed) ∧
      Gives (.dramFreeze 3 ch addr) s (Froze 3 0xF 0 s)) ∧
    (s.dram.frozen = true → ∀ (ch : DramChannel) (addr : Nat), Gives (.dramFreeze 3 ch addr) s (fun t => t = s)) ∧
    (∀ (ch : DramChannel) (n : Nat), (dramAt s ch).st = .inUse →
      Gives (.dramAlert ch n true) s (fun t =>
        (dramAt t ch).parityEvents = min ((dramAt s ch).parityEvents + 1) 0xFFFF ∧ (dramAt t ch).replaysMax = max (dramAt s ch).replaysMax (min n 8) ∧
        (dramAt t ch).st = .inUse ∧ (∀ k, k ≠ ch.val → dramAt t k = dramAt s k) ∧ t = { s with dram := { s.dram with ch := t.dram.ch }, alm := t.alm }) ∧
      (s.dram.frozen = false → ¬ (s.boot.phase = .running ∧ s.boot.step = 7) →
        Gives (.dramAlert ch n false) s (fun t => Froze 2 ch 0 s t ∧ (dramAt t ch).st = .failed)) ∧
      (s.boot.phase = .running → s.boot.step = 7 → Gives (.dramAlert ch n false) s (fun t => (dramAt t ch).st = .leftTraining ∧
        (dramAt t (partnerOf ch)).st ≠ .inUse ∧ t.dram.frozen = s.dram.frozen))) ∧
    (s.dram.frozen = false → s.dram.trained = true →
      (∀ hits : List PatrolHit, Gives (.dramPatrolScrub hits) s (fun t => t.dram.patrolPasses = s.dram.patrolPasses + 1 ∧ guarded t = guarded s)) ∧
      (∀ h : PatrolHit, h.uncorrectable = false → Gives (.dramPatrolScrub [h]) s (fun t =>
        (dramAt t h.ch).ce = min ((dramAt s h.ch).ce + 1) 0xFFFFFFFF ∧ (∀ k, k ≠ h.ch.val → (dramAt t k).ce = (dramAt s k).ce) ∧
        (∀ k, (dramAt t k).ue = (dramAt s k).ue ∧ (dramAt t k).st = (dramAt s k).st) ∧ t.dram.frozen = false ∧ t.map = s.map)) ∧
      (∀ h : PatrolHit, h.uncorrectable = true → h.freeBuffer = false → h.addr < s.dram.tableSize → Gives (.dramPatrolScrub [h]) s (Froze 1 h.ch h.addr s)) ∧
      (∀ h : PatrolHit, h.uncorrectable = true → h.freeBuffer = true → Gives (.dramPatrolScrub [h]) s (fun t =>
        (dramAt t h.ch).ue = min ((dramAt s h.ch).ue + 1) 0xFFFFFFFF ∧
        t = { s with dram := { s.dram with ch := t.dram.ch, patrolPasses := s.dram.patrolPasses + 1 } })) ∧
      (∀ (h : PatrolHit) (l : CacheLine) (copy : Nat), h.uncorrectable = true → h.freeBuffer = false → s.dram.tableSize ≤ h.addr →
        frameLine s h.addr = some (l, copy) → Gives (.dramPatrolScrub [h]) s (fun t => t.dram.frozen = false ∧ t.map = s.map ∧
          t.alm.event.getLsbD 1 = true ∧ guarded t = guarded s))) ∧
    (s.dram.frozen = false →
      (∀ (addr : Nat) (loc : BufferLoc), loc = .readBuffer addr ∨ loc = .relocation addr ∨ loc = .gathering addr →
        Gives (.bufferClassError loc) s (fun t => t = { s with dram := { s.dram with ch := t.dram.ch }, alm := t.alm } ∧
          ∀ k : DramChannel, (dramAt t k).ue = if k.val = dramChannelOf s addr then min ((dramAt s k).ue + 1) 0xFFFFFFFF else (dramAt s k).ue)) ∧
      (∀ (nsid lba : Nat) (copy : Fin 2) (both fails : Bool) (l : CacheLine), lineOf s.map.lines nsid lba = some l →
        (l.st = .clean → Gives (.bufferClassError (.line nsid lba copy both fails)) s (fun t => l ∉ t.map.lines ∧
          (∀ x, x ≠ l → (x ∈ t.map.lines ↔ x ∈ s.map.lines)) ∧
          t = { s with map := { s.map with lines := t.map.lines }, dram := { s.dram with ch := t.dram.ch }, alm := t.alm, freeCtr := s.freeCtr + 1 })) ∧
        (l.st ≠ .clean → both = false → Gives (.bufferClassError (.line nsid lba copy both fails)) s (fun t =>
          (fails = false → t = { s with dram := { s.dram with ch := t.dram.ch }, alm := t.alm }) ∧
          (fails = true → t.dram.framesUnused = s.dram.framesUnused + 2 ∧ t.dram.badFrames = s.dram.badFrames ++ [l.frame] ∧
            t.map.lines = s.map.lines.map (fun o => if o == l then { o with frame := freeFrame t.dram.badFrames s.map.lines } else o) ∧
            t = { s with dram := { s.dram with ch := t.dram.ch, framesUnused := t.dram.framesUnused, badFrames := t.dram.badFrames }
                         map := { s.map with lines := t.map.lines }, alm := t.alm }))) ∧
        (l.st ≠ .clean → both = true → l.provisional = none → Gives (.bufferClassError (.line nsid lba copy both fails)) s (fun t =>
          t.dram.lostLines = s.dram.lostLines + 1 ∧ l ∉ t.map.lines ∧ mapAt t.map.core nsid lba = some .lost ∧ t.alm.event.getLsbD 3 = true)) ∧
        (∀ c, l.st ≠ .clean → both = true → l.provisional = some c → Gives (.bufferClassError (.line nsid lba copy both fails)) s (fun t =>
          (∀ x ∈ t.map.lines, x.provisional ≠ some c) ∧ t.map.core = s.map.core ∧ t.dram = { s.dram with ch := t.dram.ch } ∧
          (cmdAt t c).bind (·.done) = (cmdAt s c).map (fun _ => writeFault))))) ∧
    (s.dram.trained = true → s.dram.granules * gib < dramBytes s →
      Gives .dramInitGranule s (fun t => t = { s with dram := { s.dram with granules := s.dram.granules + 1 } }))

/-- On-die memory (R420 to R424). -/
def Obligations.OnDieMemoryErrors : Prop :=
  ∀ s : State,
    (∀ n : Nat, Gives (.msramScrub n [] [] []) s (fun t => t = { s with dram := { s.dram with
        msramCe := min (s.dram.msramCe + n) 0xFFFFFFFF, msramPasses := s.dram.msramPasses + 1 } })) ∧
    (∀ (n : Nat) (pages : List (Nat × Bool × Bool)) (others : List MsramUse) (faults : List (Nat × Nat)),
      Gives (.msramScrub n pages others faults) s (fun t => t.dram.msramPasses = s.dram.msramPasses + 1 ∧
        ((∀ p ∈ pages, p.2.1 = true ∧ p.2.2 = true) → t.dram.codeReloads = s.dram.codeReloads + pages.length) ∧
        ((∃ p ∈ pages, p.2.1 = false) ∨ MsramUse.other ∈ others → t.dram.frozen = true) ∧ guarded t = guarded s)) ∧
    (∀ n u : Nat, Gives (.sramScrub n u []) s (fun t => t = { s with dram := { s.dram with
        sramCe := min (s.dram.sramCe + n) 0xFFFFFFFF, sramUe := min (s.dram.sramUe + u) 0xFFFFFFFF, sramPasses := s.dram.sramPasses + 1 } })) ∧
    (∀ (n u : Nat) (f : Nat × Nat), f ∉ s.dram.repairs → s.dram.repairs.length < 64 → Gives (.sramScrub n u [f]) s (fun t =>
      t.dram.repairs = s.dram.repairs ++ [f] ∧ t.dram.sramPasses = s.dram.sramPasses + 1 ∧ t.dram.frozen = s.dram.frozen)) ∧
    (∀ (addr : Nat) (ok : Bool), s.dram.frozen = false →
      Gives (.codeFetchError addr false ok) s (Froze 3 0xF 0 s) ∧
      Gives (.codeFetchError addr true true) s (fun t => t.dram.codeReloads = s.dram.codeReloads + 1 ∧ t.dram.spareFrames = s.dram.spareFrames ∧
        t.dram.frozen = false ∧ t = { s with dram := t.dram, alm := t.alm }) ∧
      (s.dram.spareFrames = 0 → Gives (.codeFetchError addr true false) s (Froze 3 0xF 0 s)) ∧
      (0 < s.dram.spareFrames → Gives (.codeFetchError addr true false) s (fun t => t.dram.spareFrames = s.dram.spareFrames - 1 ∧
        t.dram.codeReloads = s.dram.codeReloads + 1 ∧ t.dram.frozen = false ∧ t = { s with dram := t.dram, alm := t.alm }))) ∧
    Gives (.msramDataError .configCopy) s (fun t => t.dram.msramUe = min (s.dram.msramUe + 1) 0xFFFFFFFF ∧ t.settings = s.settings ∧
      t = { s with dram := t.dram, alm := t.alm, freeCtr := s.freeCtr + 1 }) ∧
    (∀ i r, s.alm.staged[i]? = some r → s.alm.staged.length ≤ stagingSize → Gives (.msramDataError (.stagedRecord i)) s (fun t =>
      t.alm.drops = vset s.alm.drops r.1.severity.toNat (min (vget s.alm.drops 0 r.1.severity.toNat + 1) 0xFFFFFFFF) ∧
      t = { s with dram := { s.dram with msramUe := t.dram.msramUe }, alm := t.alm, freeCtr := s.freeCtr + 1 })) ∧
    (s.dram.frozen = false → Gives (.msramDataError .other) s (Froze 3 0xF 0 s)) ∧
    (∀ (ch : Channel) (q : Fin 4), ((channelAt s ch).q[q] = [] → Gives (.internalDmaHalt (.media ch q)) s (fun t =>
        vget (channelAt t ch).halted false q = true ∧ (∀ k, k ≠ ch.val → channelAt t k = channelAt s k) ∧
        t = { s with media := { s.media with channels := t.media.channels }, alm := t.alm })) ∧
      (∀ e rest, (channelAt s ch).q[q] = e :: rest → e.owner = .plain → Gives (.internalDmaHalt (.media ch q)) s (fun t =>
        (channelAt t ch).q[q] = rest ∧ vget (channelAt t ch).halted false q = true ∧
        (lastDone t ch).map (fun c => (c.tag, c.status)) = some (e.desc.tag, 0x13) ∧ t.map = s.map ∧ guarded t = guarded s))) ∧
    (∀ n : Nat, Gives (.internalDmaHalt (.fabric n)) s (fun t => n ∈ t.dram.dmaHalted ∧
      t = { s with dram := { s.dram with dmaHalted := t.dram.dmaHalted }, alm := t.alm })) ∧
    (∀ (fn : Func) (sq cid : Nat) (f : Fetched), cmdAt s { fn := fn, sq := sq, cid := cid } = some f → f.done = none →
      Gives (.internalDmaHalt (.host fn sq cid)) s (fun t => (cmdAt t { fn := fn, sq := sq, cid := cid }).bind (·.done) = some transferError ∧
        t.dram = s.dram ∧ t.map = s.map))

/-- Causes of a start (R380 to R383, R395, R396, R527 to R529). -/
def Obligations.ResetAndStartCauses : Prop :=
  ∀ s : State,
    let cleared := fun (t : State) => t.boot.intake = false ∧ t.halo.eng = false ∧ t.pins.cdEn = 0 ∧ (∀ c, (carrierAt t c).pwrEn = false) ∧ t.pins.holdupTest = false ∧
      t.pwr.sleep = .zenith ∧ t.pwr.phase = .steady ∧ t.pwr.pwrfail = false ∧ t.dram.frozen = false ∧ t.dram.trained = false ∧
      t.boot.ledger = s.boot.ledger ∧ t.boot.carry = s.boot.carry ∧ t.boot.startCount = s.boot.startCount ∧
      t.nvme.namespaces.map (·.1) = s.nvme.namespaces.map (·.1) ∧ t.sealing.keys = s.sealing.keys ∧ guarded t = guarded s
    Gives .sysRstNFall s (fun t => cleared t ∧ t.boot.phase = .held ∧ t.pins.sysRstN = false ∧ t.boot.hadPower = s.boot.hadPower ∧
      t.pins.cdFaultN = s.pins.cdFaultN ∧ t.pins.pwrfailN = s.pins.pwrfailN) ∧
    Gives .powerLoss s (fun t => cleared t ∧ t.boot.phase = .held ∧ t.boot.hadPower = false ∧ t.time.calendar = 0 ∧ t.pins.supplies = false ∧
      t.nvme.unsafeShutdowns = s.nvme.unsafeShutdowns + (if s.boot.intake && !s.map.cleanStop then 1 else 0)) ∧
    (s.boot.phase = .restarting → Gives .internalRestart s (fun t => cleared t ∧ t.boot.phase = .waitPower ∧ t.boot.cause = .internalRestart ∧
      t.time.calendar = s.time.calendar)) ∧
    (s.boot.phase = .held → s.pins.sysRstN = false → Gives .sysRstNRise s (fun t =>
      t = { s with pins := { s.pins with sysRstN := true }, time := { s.time with powerCycles := s.time.powerCycles + if s.boot.hadPower then 0 else 1 },
                   boot := { s.boot with phase := .waitPower, hadPower := true, riseMs := s.time.opMs
                                         cause := if s.boot.hadPower then .sysRst else .powerUp } })) ∧
    (s.boot.phase = .waitPower → s.pins.pwrfailN = true → (∀ n, n < 24 → (vget s.pwr.mon {} n).st = .inside) → s.media.csErase = none →
      (∀ e : Bool, s.boot.carryBad = false → (usedSlots s.boot).length < 32 → Gives (.powerGood true true e) s (fun t =>
        t.boot.phase = .running ∧ t.boot.step = 1 ∧ t.boot.startCount = s.boot.startCount + 1 ∧ t.boot.intake = s.boot.intake ∧
        (∃ i, t.boot.slot = some i ∧ (ledgerWord t.boot i 1).beginMark = 0 ∧ (ledgerWord t.boot i 1).mode = s.boot.cause.code ∧
          (ledgerWord t.boot i 1).startLo = (s.boot.startCount + 1) % 65536) ∧ t.pins.supplies = true ∧ t.map = s.map ∧ guarded t = guarded s)) ∧
      (∀ l e : Bool, Gives (.powerGood false l e) s (fun t => t.boot.phase = .noStore ∧ t.boot.startCount = s.boot.startCount ∧
        t.boot.ledger = s.boot.ledger ∧ t.host.configReady = true ∧ t.map = s.map ∧ guarded t = guarded s)) ∧
      Gives (.powerGood true false true) s (fun t => t.boot.phase = .running ∧ t.boot.step = 1 ∧ t.boot.slot = some 0 ∧
        t.boot.carry = { firstStart := s.boot.startCount + 1 } ∧ t.boot.startCount = s.boot.startCount + 1) ∧
      Gives (.powerGood true false false) s (fun t => t.boot.phase = .running ∧ t.boot.step = 1 ∧ t.boot.slot = none ∧
        t.boot.ledger = s.boot.ledger ∧ t.alm.event.getLsbD 3 = true)) ∧
    (s.boot.phase = .noStore → Gives (.configStoreRetry true) s (fun t => t = { s with boot := { s.boot with phase := .restarting } }) ∧
      Gives (.configStoreRetry false) s (fun t => t = s)) ∧
    (s.boot.phase = .stopped → s.media.csErase = none → Gives (.safeStartRetry false) s (fun t => t = s) ∧
      Gives (.safeStartRetry true) s (fun t => t.boot.phase = .restarting ∧
        (∀ i, s.boot.slot = some i → (ledgerWord t.boot i s.boot.step).endMark = 0 ∧ (ledgerWord t.boot i s.boot.step).result = 0) ∧
        t = { s with boot := { s.boot with phase := .restarting, ledger := t.boot.ledger } }))

/-- The end of a boot step (R381, R382, R387, R388). -/
def Obligations.BootStepRules : Prop :=
  ∀ (s : State) (k : Nat),
    (∀ (r : StepResult) (w : State), StepRuns k s → NextNormal k s → s.media.csErase = none → r.ok = true → r.markFails = false → r.nextMarkFails = false → stepReady s k = true → stepWork s k r = some w →
      Gives (.bootStepEnd r) s (fun t => t.boot.phase = .running ∧ t.boot.step = k + 1 ∧
        (∀ i, s.boot.slot = some i → 1 ≤ k →
          (ledgerWord t.boot i k).endMark = 0 ∧ (ledgerWord t.boot i k).result = stepResult w k r ∧
          (ledgerWord t.boot i (k + 1)).beginMark = 0 ∧ (ledgerWord t.boot i (k + 1)).mode = (modeOf s (k + 1)).code) ∧
        t.settings = w.settings ∧ t.pending = s.pending)) ∧
    (∀ r : StepResult, r.ok = true → r.markFails = false → StepRuns k s → NextNormal k s →
      (k = 4 → Gives (.bootStepEnd r) s (fun t => t.boot.linkArmed = true ∧ t.host.training = !s.host.perst ∧ t.map = s.map ∧ guarded t = guarded s)) ∧
      (k = 6 → r.calOk = true → r.settingsOk = true → Gives (.bootStepEnd r) s (fun t =>
        t.host.configReady = true ∧ t.alm.stampLoaded = true ∧ t.dram.dirtyLimit = setting s 0x01 14 ∧ t.dram.interleave = setting s 0x01 10 ∧
        t.map = s.map ∧ guarded t = guarded s)) ∧
      (k = 8 → Gives (.bootStepEnd r) s (fun t => t.pwr.levelFree = true)) ∧
      (k = 13 → s.red.resyncFirst = [] → Gives (.bootStepEnd r) s (fun t => t.boot.intake = true ∧ t.map.cleanStop = false ∧
        t.map.core = s.map.core ∧ t.map.lines = s.map.lines))) ∧
    (∀ r : StepResult, r.ok = true → StepRuns 16 s → Gives (.bootStepEnd r) s (fun t => t.boot.phase = .complete ∧ t.boot.step = 0 ∧ t.boot.bgStarted = true ∧
      (r.markFails = false → s.media.csErase = none → s.boot.slot.isSome = true → 24 ≤ (usedSlots s.boot).length →
        t.boot.slot = none ∧ t.boot.carryNext.isSome = true ∧ t.media.csErase = some (ledgerBase, 0)))) ∧
    (StepRuns k s → k ≤ 13 → s.alm.stampLoaded = false → ∀ r : StepResult, r.ok = false →
      Gives (.bootStepEnd r) s (fun t => t = { record s 0x0A04 .fault (b1 k ++ b1 (failsOf s k)) with boot := { s.boot with phase := .restarting } }) ∧
      Gives .bootStepWatchdog s (fun t => t = { record s 0x0A04 .fault (b1 k ++ b1 (failsOf s k)) with boot := { s.boot with phase := .restarting } })) ∧
    (StepRuns k s → 14 ≤ k → NextNormal k s → ∀ r : StepResult, r.ok = false →
      Gives (.bootStepEnd r) s (fun t => t.boot.phase = .running ∧ t.boot.step = k + 1 ∧ t.boot.intake = s.boot.intake ∧ guarded t = guarded s) ∧
      Gives .bootStepWatchdog s (fun t => t.boot.phase = .running ∧ t.boot.step = k + 1 ∧ t.boot.intake = s.boot.intake ∧ guarded t = guarded s))

/-- Insertion of a carrier (R54, R58 to R63). -/
def Obligations.CarrierInsertion : Prop :=
  ∀ (s : State) (c : Carrier),
    ((carrierAt s c).st = .empty → carriersOpen s = true → s.pwr.domainsOff = false → Gives (.carrierPresenceFall c) s (fun t =>
      (carrierAt t c).st = .debounce ∧ (carrierAt t c).present = true ∧ (carrierAt t c).pin = true ∧ (carrierAt t c).pwrEn = (carrierAt s c).pwrEn ∧
      (∀ k, k ≠ c.val → carrierAt t k = carrierAt s k) ∧ t = { s with media := { s.media with carriers := t.media.carriers }, host := t.host })) ∧
    ((carrierAt s c).st = .debounce →
      (poweringCount s < 4 → Gives (.carrierDebounceExpiry c) s (fun t => (carrierAt t c).st = .powering ∧ (carrierAt t c).pwrEn = true ∧
        (∀ k, k ≠ c.val → carrierAt t k = carrierAt s k) ∧ guarded t = guarded s ∧ t.map = s.map)) ∧
      (4 ≤ poweringCount s → Gives (.carrierDebounceExpiry c) s (fun t => (carrierAt t c).st = .debounce ∧ (carrierAt t c).debounced = true ∧ OnlyCarrier c s t)) ∧
      ((carrierAt s c).debounced = true → poweringCount s < 4 → Gives (.carrierPowerUp c) s (fun t => (carrierAt t c).st = .powering ∧
        (carrierAt t c).pwrEn = true ∧ (∀ k, k ≠ c.val → carrierAt t k = carrierAt s k) ∧ guarded t = guarded s))) ∧
    ((carrierAt s c).st = .powering → Gives (.carrierPowerSettleExpiry c) s (fun t =>
      carrierAt t c = { carrierAt s c with st := .identifying, settled := true } ∧ OnlyCarrier c s t)) ∧
    ((carrierAt s c).st = .identifying → ∀ (p q : Bytes) (i2c : Bool),
      (lomrilCheck p ≠ 0 → lomrilCheck q ≠ 0 → Gives (.carrierDescriptorReadDone c p q i2c) s (fun t =>
        (carrierAt t c).st = .failed ∧ CarrierDark c t ∧ (∀ k, k ≠ c.val → carrierAt t k = carrierAt s k) ∧ guarded t = guarded s)) ∧
      (lomrilCheck p = 0 → Gives (.carrierDescriptorReadDone c p q i2c) s (fun t =>
        (carrierAt t c).st = .training ∧ (carrierAt t c).trained = false ∧ (carrierAt t c).padsIsolated = false ∧
        (carrierAt t c).lomril = some (lomrilOf p) ∧ (carrierAt t c).copyUsed = 0 ∧ (carrierAt t c).legacyI2c = i2c ∧
        (∀ k, k ≠ c.val → carrierAt t k = carrierAt s k) ∧ guarded t = guarded s)) ∧
      (lomrilCheck p ≠ 0 → lomrilCheck q = 0 → Gives (.carrierDescriptorReadDone c p q i2c) s (fun t =>
        (carrierAt t c).st = .training ∧ (carrierAt t c).lomril = some (lomrilOf q) ∧ (carrierAt t c).copyUsed = 1 ∧
        (∀ k, k ≠ c.val → carrierAt t k = carrierAt s k)))) ∧
    ((carrierAt s c).st = .training → (carrierAt s c).trained = false → ∀ rates : List (Option Nat),
      (commonRate rates = none → Gives (.carrierTrainingDone c rates) s (fun t => (carrierAt t c).st = .failed ∧ CarrierDark c t ∧ guarded t = guarded s)) ∧
      (∀ r, commonRate rates = some r → Gives (.carrierTrainingDone c rates) s (fun t => (carrierAt t c).st = .training ∧ (carrierAt t c).trained = true ∧
        (carrierAt t c).rate = min (min r (trainingTop s c)) ((carrierAt s c).lomril.elim 4 (·.maxRate)) ∧ (carrierAt t c).lastRate = some (carrierAt t c).rate ∧
        (∀ k, k ≠ c.val → carrierAt t k = carrierAt s k) ∧ t = { s with media := { s.media with carriers := t.media.carriers }, alm := t.alm }))) ∧
    ((carrierAt s c).st = .training → (carrierAt s c).trained = true → s.red.offeringOpen = false → ∀ bad : List Nat,
      Gives (.blockStatusLoadDone c bad) s (fun t => (carrierAt t c).st = .ready ∧
        ((carrierAt s c).servicedBefore = true → ∀ key, carrierOf (channelOfKey key) = c.val → (blockAt t key).wp = (blockAt s key).wp ∧
          (blockAt t key).pe = (readAt {} s.map.primary.blocks key).pe ∧ (blockAt t key).rch = (readAt {} s.map.primary.blocks key).rch) ∧
        ((carrierAt s c).servicedBefore = true → ∀ key, carrierOf (channelOfKey key) ≠ c.val → blockAt t key = blockAt s key) ∧
        ((carrierAt s c).servicedBefore = false → ∀ key ∈ bad, carrierOf (channelOfKey key) = c.val → (blockAt t key).health = .factoryBad) ∧
        (∀ k, k ≠ c.val → carrierAt t k = carrierAt s k) ∧ guarded t = guarded s))

/-- Removal and return (R59, R61, R208). -/
def Obligations.CarrierRemovalAndReturn : Prop :=
  ∀ (s : State) (c : Carrier),
    (s.pwr.domainsOff = false → s.boot.phase ≠ .held →
      ((carrierAt s c).st ∈ [.powering, .identifying, .training] → Gives (.carrierPresenceRise c) s (fun t =>
        (carrierAt t c).st = .empty ∧ (carrierAt t c).present = false ∧ (carrierAt t c).pin = false ∧ CarrierDark c t ∧
        (∀ k, k ≠ c.val → carrierAt t k = carrierAt s k) ∧ guarded t = guarded s)) ∧
      ((carrierAt s c).st ∈ [.ready, .inService, .outOfService, .poweredDown, .resuming] → (s.red.offeringOpen && arrayRole s c) = false →
        Gives (.carrierPresenceRise c) s (fun t => (carrierAt t c).st = .empty ∧ CarrierDark c t ∧ t.red.roles = s.red.roles ∧
          (∀ k, k ≠ c.val → carrierAt t k = carrierAt s k) ∧ guarded t = guarded s)) ∧
      ((carrierAt s c).st ∈ [.debounce, .emptyPending, .failed] → Gives (.carrierPresenceRise c) s (fun t =>
        (carrierAt t c).st = .empty ∧ (∀ k, k ≠ c.val → carrierAt t k = carrierAt s k) ∧
        t = { s with media := { s.media with carriers := t.media.carriers }, host := t.host }))) ∧
    (s.pwr.domainsOff = true →
      Gives (.carrierPresenceRise c) s (fun t => carrierAt t c = { carrierAt s c with pin := false } ∧ (∀ k, k ≠ c.val → carrierAt t k = carrierAt s k) ∧
        t = { s with media := { s.media with carriers := t.media.carriers }, host := t.host }) ∧
      Gives (.carrierPresenceFall c) s (fun t => carrierAt t c = { carrierAt s c with pin := true } ∧ (∀ k, k ≠ c.val → carrierAt t k = carrierAt s k) ∧
        t = { s with media := { s.media with carriers := t.media.carriers }, host := t.host })) ∧
    ((carrierAt s c).st = .resuming → (carrierAt s c).pwrEn = true → Gives (.carrierPowerSettleExpiry c) s (fun t =>
      carrierAt t c = { carrierAt s c with settled := true } ∧ OnlyCarrier c s t)) ∧
    ((carrierAt s c).st = .resuming → (carrierAt s c).settled = true → ∀ (p q : Bytes) (rates : List (Option Nat)),
      (lomrilCheck p = 0 → (lomrilOf p).serial = (carrierAt s c).serialLeft → (∃ r, commonRate rates = some r) →
        Gives (.carrierResumeDone c p q rates) s (fun t => (carrierAt t c).st = (carrierAt s c).stateLeft ∧ (carrierAt t c).trained = true ∧
          (carrierAt t c).padsIsolated = false ∧ (carrierAt t c).lomril = some (lomrilOf p) ∧ (∀ k, k ≠ c.val → carrierAt t k = carrierAt s k) ∧
          t.red.roles = s.red.roles ∧ guarded t = guarded s)) ∧
      ((lomrilCheck p ≠ 0 ∧ lomrilCheck q ≠ 0) ∨ commonRate rates = none → (s.red.offeringOpen && arrayRole s c) = false →
        Gives (.carrierResumeDone c p q rates) s (fun t => (carrierAt t c).st = .failed ∧ CarrierDark c t ∧ guarded t = guarded s)))

/-- The Config Store's queue (R86 to R90). -/
def Obligations.ConfigStoreQueue : Prop :=
  ∀ (s : State) (d : CsDesc),
    let ends := fun (status : Nat) => { s with media := { s.media with csStatus := status, csOffset := 0, csTag := d.tag } }
    (s.media.csErase = none → d.zeroFields = true →
      (∀ buffer : Nat, 1 ≤ d.len → d.len ≤ 16 * mib → d.addr + d.len ≤ csSize → Gives (.csRead d buffer) s (fun t =>
        t.media.csData = csBytes s d.addr d.len ∧ t = { s with media := { s.media with csStatus := 0, csOffset := 0, csTag := d.tag, csData := t.media.csData, onDie := t.media.onDie } })) ∧
      (∀ buffer : Nat, (d.len = 0 ∨ 16 * mib < d.len) → Gives (.csRead d buffer) s (fun t => t = ends 0x14)) ∧
      (∀ buffer : Nat, 1 ≤ d.len → d.len ≤ 16 * mib → csSize < d.addr + d.len → Gives (.csRead d buffer) s (fun t => t = ends 0x0C)) ∧
      (∀ (data : Bytes) (f : Option Nat), d.addr % 8 = 0 → d.addr + 8 ≤ csSize → d.len = 8 → data.length = 8 →
        let v := BitVec.ofNat 64 (field data 0 8)
        let w := csWord s d.addr
        (csProtected s d.addr 8 = true → Gives (.csProgram d data f) s (fun t => t = ends 0x23)) ∧
        (csProtected s d.addr 8 = false → v &&& ~~~w.value ≠ 0 → Gives (.csProgram d data f) s (fun t => t = ends 0x21)) ∧
        (csProtected s d.addr 8 = false → v &&& ~~~w.value = 0 → 2 ≤ w.programs → Gives (.csProgram d data f) s (fun t => t = ends 0x22)) ∧
        (csProtected s d.addr 8 = false → v &&& ~~~w.value = 0 → w.programs < 2 → f = none →
          Gives (.csProgram d data f) s (fun t =>
            csWord t d.addr = { w with value := v, programs := w.programs + 1 } ∧ t.media.csStatus = 0 ∧
            (∀ a, a / 8 ≠ d.addr / 8 → csWord t a = csWord s a) ∧
            t = { s with media := { s.media with cs := t.media.cs, csStatus := 0, csOffset := 0, csTag := d.tag } })) ∧
        (csProtected s d.addr 8 = false → v &&& ~~~w.value = 0 → w.programs < 2 → f = some 0 →
          Gives (.csProgram d data f) s (fun t => t.media.csStatus = 0x20 ∧ (csWord t d.addr).programs = w.programs + 1 ∧ (csWord t d.addr).failed = true ∧
            (almSectorOf d.addr = none → v &&& ~~~(csWord t d.addr).value = 0) ∧
            (∀ a, a / 8 ≠ d.addr / 8 → almSectorOf a = none → csWord t a = csWord s a)))) ∧
      (d.addr % csSector = 0 → d.addr < csSize → d.len = 0 → csProtected s d.addr csSector = false → Gives (.csErase d) s (fun t =>
        t = { s with media := { s.media with csErase := some (d.addr, 0), csOwn := false, csTag := d.tag } }))) ∧
    (∀ sector n, s.media.csErase = some (sector, n) →
      (∀ buffer : Nat, Gives (.csRead d buffer) s (fun t => t = { s with media := { s.media with csWaiting := s.media.csWaiting ++ [.read d buffer] } })) ∧
      Gives (.csErase d) s (fun t => t = { s with media := { s.media with csWaiting := s.media.csWaiting ++ [.erase d] } }) ∧
      (∀ (data : Bytes) (f : Option Nat), csUrgent d.addr = false ∨ 16 ≤ n → Gives (.csProgram d data f) s (fun t =>
        t = { s with media := { s.media with csWaiting := s.media.csWaiting ++ [.program d data f] } })) ∧
      (∀ (data : Bytes) (f : Option Nat), csUrgent d.addr = true → n < 16 → Gives (.csProgram d data f) s (fun t =>
        t.media.csErase = some (sector, n + 1) ∧ t.media.csWaiting = s.media.csWaiting)))

/-- The ten descriptor opcodes from submission to start (R64 to R77), and the calibration timer (R49). -/
def Obligations.MediaDescriptorStart : Prop :=
  (∀ (s : State) (op : Fin 10) (ch : Channel) (q : Fin 4) (d : MediaDesc) (p : PageContent) (us : Nat), ChannelFree ch q s →
    let e := mediaEntry s op ch q d p
    let lun := lunIndex ch (descLun d)
    (refusalOf s ch q e = none → windowHeld s ch q e = false → heldBack s e = false → (lunAt s lun).running = none → (lunAt s lun).suspended = none →
      (d.fence = true → runningOfQueue s ch q = 0) →
      Gives (mediaCommand op ch q d p us) s (fun t => (lunAt t lun).running = some { entry := e, queue := q } ∧ (∀ k, k ≠ lun → lunAt t k = lunAt s k) ∧
        (∀ k : Fin 4, (channelAt t ch).q[k] = []) ∧ (∀ k, k ≠ ch.val → channelAt t k = channelAt s k) ∧
        t = { s with media := { s.media with luns := t.media.luns, channels := t.media.channels, nextOrder := s.media.nextOrder + 1 } })) ∧
    (windowHeld s ch q e = true →
      Gives (mediaCommand op ch q d p us) s (fun t => (channelAt t ch).q[q] = [e] ∧ (∀ k, k ≠ ch.val → channelAt t k = channelAt s k) ∧
        t = { s with media := { s.media with channels := t.media.channels, nextOrder := s.media.nextOrder + 1 } })) ∧
    (∀ st, refusalOf s ch q e = some st → windowHeld s ch q e = false → heldBack s e = false → (lunAt s lun).running = none → ((lunAt s lun).suspended = none ∨ op = 0) →
      (d.fence = true → runningOfQueue s ch q = 0) →
      Gives (mediaCommand op ch q d p us) s (fun t =>
        (∃ c, lastDone t ch = some c ∧ c.status = st ∧ c.tag = d.tag ∧ c.queue = q.val) ∧ (∀ k : Fin 4, (channelAt t ch).q[k] = []) ∧
        t.media.luns = s.media.luns ∧ t.media.blocks = s.media.blocks ∧ t.media.pages = s.media.pages ∧
        (∀ k, k ≠ ch.val → channelAt t k = channelAt s k))) ∧
    (carrierLive s (carrierOf ch) = true → Gives (.zqCalibrationTimer ch) s (fun t =>
      channelAt t ch = { channelAt s ch with zqCount := (channelAt s ch).zqCount + 1 } ∧ (∀ k, k ≠ ch.val → channelAt t k = channelAt s k) ∧
      t = { s with media := { s.media with channels := t.media.channels } }))) ∧
  (∀ (s : State) (ch : Channel) (q : Fin 4), q ≠ 3 →
    (∀ x : QEntry, (channelAt s ch).q[q] = [x] → x.owner = .plain → (∀ k : Fin 4, k ≠ q → (channelAt s ch).q[k] = []) → Gives (.mediaQueueReset ch q) s (fun t =>
      (channelAt t ch).halted[q] = false ∧ (channelAt t ch).q[q] = [] ∧ (∃ c, lastDone t ch = some c ∧ c.status = 0x12 ∧ c.tag = x.desc.tag) ∧
      t.media.luns = s.media.luns ∧ t.media.pages = s.media.pages ∧ (∀ k, k ≠ ch.val → channelAt t k = channelAt s k) ∧ guarded t = guarded s)))

/-- Ends of die operations (R69 to R75, R90). -/
def Obligations.DieOperationEnds : Prop :=
  ∀ (s : State) (ch : Channel) (l : Lun) (r : RunningOp) (o : DieOutcome), LunRuns ch l r s →
    let lun := lunIndex ch l
    let key := descKey ch r.entry.desc
    let others := fun (t : State) => (∀ k, k ≠ key → blockAt t k = blockAt s k) ∧ (∀ k, k ≠ ch.val → channelAt t k = channelAt s k)
    let ends := fun (st : Nat) (t : State) => (lunAt t lun).running = none ∧
      (∃ c, lastDone t ch = some c ∧ c.status = st ∧ c.tag = r.entry.desc.tag ∧ c.queue = r.queue.val)
    (r.entry.desc.opcode = 2 → o.bufferEcc = false →
      (o.ok = true → Gives (.dieOperationDone (.lun ch l) o) s (fun t => ends 0 t ∧ others t ∧ (blockAt t key).wp = some (r.entry.desc.page + 1) ∧
        lookup t.media.pages (pageKey key r.entry.desc.page) = some r.entry.payload ∧ (blockAt t key).pe = (blockAt s key).pe ∧ guarded t = guarded s)) ∧
      (o.ok = false → Gives (.dieOperationDone (.lun ch l) o) s (fun t => ends 2 t ∧ others t ∧
        blockAt t key = { blockAt s key with health := .grownBad } ∧ t.media.pages = s.media.pages ∧ guarded t = guarded s))) ∧
    (r.entry.desc.opcode = 3 →
      (o.ok = true → Gives (.dieOperationDone (.lun ch l) o) s (fun t => ends 0 t ∧ others t ∧ (blockAt t key).wp = some 0 ∧ (blockAt t key).rch = 0 ∧
        (blockAt t key).failFlag = false ∧ (blockAt t key).pe = (blockAt s key).pe + 1 ∧
        (∀ p ∈ t.media.pages, p.1 / 4096 ≠ key) ∧ (∀ p, p.1 / 4096 ≠ key → (p ∈ t.media.pages ↔ p ∈ s.media.pages)))) ∧
      (o.ok = false → Gives (.dieOperationDone (.lun ch l) o) s (fun t => ends 3 t ∧ others t ∧
        blockAt t key = { blockAt s key with health := .grownBad } ∧ t.media.pages = s.media.pages))) ∧
    (r.entry.desc.opcode = 1 → r.entry.desc.raw = true → Gives (.dieOperationDone (.lun ch l) o) s (fun t => ends 0 t ∧
      t.media.blocks = s.media.blocks ∧ t.media.pages = s.media.pages ∧ t.map = s.map)) ∧
    ((lunAt s lun).timeouts + 1 ≠ 3 → Gives (.dieTimeout ch l) s (fun t => ends 0x10 t ∧ (lunAt t lun).timeouts = (lunAt s lun).timeouts + 1 ∧
      (lunAt t lun).features = [] ∧ t.media.blocks = s.media.blocks ∧ t.media.pages = s.media.pages)) ∧
    (∀ n c, s.media.csErase = some (ledgerBase, n) → s.media.csOwn = true → s.media.csWaiting = [] → s.boot.carryNext = some c →
      Gives (.dieOperationDone .configStore o) s (fun t => t.media.csErase = none ∧ t.boot.carryNext = none ∧ t.boot.startCount = s.boot.startCount ∧
        (o.ok = true → t.boot.ledger = [] ∧ t.boot.carry = c) ∧ (o.ok = false → t.boot.ledger = s.boot.ledger ∧ t.boot.carry = s.boot.carry))) ∧
    (∀ addr n, s.media.csErase = some (addr, n) → s.media.csOwn = false → s.media.csWaiting = [] →
      (o.ok = true → Gives (.dieOperationDone .configStore o) s (fun t => t.media.csErase = none ∧ (∀ a, a / csSector = addr / csSector → csWord t a = {}) ∧
        (∀ a, a / csSector ≠ addr / csSector → csWord t a = csWord s a) ∧ t.media.csStatus = 0)) ∧
      (o.ok = false → Gives (.dieOperationDone .configStore o) s (fun t => t.media.csErase = none ∧ t.media.csStatus = 0x24 ∧
        addr / csSector ∈ t.media.csFailedSectors ∧ t.media.cs = s.media.cs ∧ t.alm.event.getLsbD 3 = true)))

/-- Media Direct (R91 to R94). -/
def Obligations.MediaDirectRings : Prop :=
  ∀ (s : State) (n : Fin 4),
    let r := s.media.rings[n]
    let ring := fun (t : State) => t.media.rings[n]
    let only := fun (t : State) => (∀ k : Fin 4, k ≠ n → t.media.rings[k] = s.media.rings[k]) ∧ t = { s with media := { s.media with rings := t.media.rings } }
    (s.media.mdEnabled = true → s.media.mdDisabling = false →
      (∀ count : Nat, (count % 8192 = 0 ∨ 4096 < count % 8192) → Gives (.mdrSqDoorbell n count) s (fun t => ring t = { r with err := true, lastErr := 1 } ∧ only t)) ∧
      (∀ count : Nat, 0 < count % 8192 → count % 8192 ≤ 4096 → 4096 - r.pending < count % 8192 → Gives (.mdrSqDoorbell n count) s (fun t =>
        ring t = { r with err := true, lastErr := 2 } ∧ only t)) ∧
      (∀ count : Nat, 0 < count % 8192 → count % 8192 ≤ 4096 - r.pending → Gives (.mdrSqDoorbell n count) s (fun t =>
        ring t = { r with tail := (r.tail + count % 8192) % 4096, pending := r.pending + count % 8192 } ∧ only t)) ∧
      (0 < r.pending → queueRoom s r.channel 3 false = true → Gives (.mdRingCopy n) s (fun t =>
        (ring t).head = (r.head + 1) % 4096 ∧ (ring t).pending = r.pending - 1 ∧ (ring t).tail = r.tail ∧
        (∀ k : Fin 4, k ≠ n → (t.media.rings[k]).head = (s.media.rings[k]).head ∧ (t.media.rings[k]).pending = (s.media.rings[k]).pending) ∧ guarded t = guarded s))) ∧
    (s.media.mdEnabled = true →
      (r.pending = 0 → (channelAt s r.channel).q[(3 : Fin 4)] = [] → Gives (.mdrRingReset n) s (fun t =>
        ring t = { r with halted := false, head := r.tail, pending := 0 } ∧ (∀ k : Fin 4, k ≠ n → t.media.rings[k] = s.media.rings[k]) ∧
        t.media.luns = s.media.luns ∧ t.media.blocks = s.media.blocks)) ∧
      (∀ v : Word32, (r.pending = 0 ∧ r.inQ3 = 0 → Gives (.mdrRingCtrlWrite n v) s (fun t => (ring t).channel.val = v.toNat % 64 ∧ (ring t).tail = r.tail ∧ only t)) ∧
        (r.pending ≠ 0 ∨ r.inQ3 ≠ 0 → Gives (.mdrRingCtrlWrite n v) s (fun t => t = s)) ∧
        ((∀ k : Fin 4, (channelAt s r.channel).q[k] = []) → Gives (.mdrCqHeadWrite n v) s (fun t => ring t = { r with cqHead := v.toNat % 4096 } ∧ only t)))) ∧
    (∀ (fn : Func) (m : Fin 16) (e : MbxExec) (pub : PubKey), MbxServed fn m 0x0E01 e s → Challenged fn m 0x0E01 e pub s → e.len = 257 → field e.request 256 1 ≤ 60 →
      (¬ Signed pub e.request → Answers (.mdEnable fn m) s fn m e .authFailed 0 [] (rejected s fn m 0x0E01)) ∧
      (Signed pub e.request → s.media.mdEnabled = false → Answers (.mdEnable fn m) s fn m e .success 0 []
        { accepted s fn m 0x0E01 with media := { s.media with
            mdEnabled := true, mdPowered := true, mdMem := [], mdBadWords := [], rings := Vector.replicate 4 {}
            mdShare := if field e.request 256 1 = 0 then 10 else field e.request 256 1 } })) ∧
    (∀ (fn : Func) (m : Fin 16) (e : MbxExec), MbxServed fn m 0x0E02 e s → e.len = 0 →
      (s.media.mdEnabled = false → Answers (.mdDisable fn m) s fn m e .success 0 [] s) ∧
      (s.media.mdEnabled = true → ringsRun s = false → (∀ k : Fin 4, (s.media.rings[k]).pending = 0 ∧ (channelAt s (s.media.rings[k]).channel).q[(3 : Fin 4)] = []) →
        Gives (.mdDisable fn m) s (fun t => t.media.mdEnabled = false ∧ t.media.mdPowered = false ∧ t.media.mdMem = [] ∧ t.media.rings = Vector.replicate 4 {} ∧
          (boxAt t (boxKey fn m)).done = true ∧ (boxAt t (boxKey fn m)).status = 0 ∧ guarded t = guarded s)))

/-- The Starlight clock's sweeps and reprograms (R97 to R109). -/
def Obligations.PolestarSweepsAndReprograms : Prop :=
  ∀ s : State,
    Gives .polestarDailyTimer s (fun t => (∀ c, c < 16 → starAt t c =
        (if (carrierAt s c).st = .inService ∧ (starAt s c).sweepDue = false then { starAt s c with sweepDue := true, sweepDaily := true } else starAt s c)) ∧
      t = { s with ret := { s.ret with car := t.ret.car } }) ∧
    (∀ (c : Carrier) (sw : List PageSweep), BgRuns s →
      (sweepMayRun s c = true → (carrierAt s c).lomril.isSome = true → Gives (.polestarSweep c sw) s (fun t =>
        (starAt t c).sweepDue = false ∧ (starAt t c).lastSweepHours = opHours s ∧ (starAt s c).tc.toNat ≤ (starAt t c).tc.toNat ∧
        (∀ k, k ≠ c.val → starAt t k = starAt s k) ∧ t.media.pages = s.media.pages ∧ guarded t = guarded s)) ∧
      (sweepMayRun s c = false → Gives (.polestarSweep c sw) s (fun t => t = s))) ∧
    (∀ (c : Carrier) (g : Fin 8) (seed : Nat) (temp : Int) (base : List PageSweep), BgRuns s → g.val ∈ (starAt s c).reprogramDue →
      (starAt s c).powerUpSweepDone = true → isHeld s = false → (carrierAt s c).st = .inService → (∀ l ∈ polestarLuns c, insideWindow s l = true) →
      (∀ i, i < 4 → (vget (starAt s c).copies {} (4 * g.val + i)).bad = false) →
      Gives (.polestarReprogram c g seed temp [] base) s (fun t => g.val ∉ (starAt t c).reprogramDue ∧ (starAt t c).youngest = some g.val ∧
        (starAt t c).tc = (starAt s c).tc ∧
        (∀ i, i < 4 → (vget (starAt t c).copies {} (4 * g.val + i)).stampEqh = (if g.val ∈ (starAt s c).firstDue then 0 else tcOf s c) ∧ (vget (starAt t c).copies {} (4 * g.val + i)).valid = true ∧
          (vget (starAt t c).copies {} (4 * g.val + i)).seed = seed ∧
          (vget (starAt t c).copies {} (4 * g.val + i)).rotation = ((starAt s c).copies.toList.map (·.rotation)).foldl max 0 + 1) ∧
        (∀ i, i < 32 → i / 4 ≠ g.val → vget (starAt t c).copies {} i = vget (starAt s c).copies {} i) ∧
        (∀ k, k ≠ c.val → starAt t k = starAt s k) ∧ t.map = s.map ∧ guarded t = guarded s))

/-- Recharge passes, margin patrols and the Dawn scan (R112 to R123). -/
def Obligations.RechargePatrolAndDawn : Prop :=
  ∀ s : State, BgRuns s → isHeld s = false →
    (∀ (band : Nat) (b : Band) (bl : List PassBlock), bandAt s.map.core band = some b → b.st = .closed → b.retQueued = 1 → b.passRunning = false →
      b.secure = false → servedNext s band b = true → bandQualifies s b = true →
      bl.map (·.key) = bandKeys s b → (bl.map (·.key)).Nodup → (∀ p ∈ bl, insideWindow s (p.key / 65536) = true) →
      ((∀ p ∈ bl, (blockAt s p.key).wp = some p.pages.length ∧ ∀ x ∈ p.pages, (x.decodeStep = 1 ∨ x.decodeStep = 2) ∧ x.status = 0) →
        Gives (.rechargePass band bl) s (fun t => t.ret.passesDone = s.ret.passesDone + 1 ∧
          (bandAt t.map.core band).map (·.retQueued) = some 0 ∧
          (∀ p ∈ bl, (blockAt t p.key).rch = (blockAt s p.key).rch + 1 ∧ (blockAt t p.key).stamp = tcOf s (carrierOf (channelOfKey p.key)) ∧
            (blockAt t p.key).margin = p.pages.foldl (fun m x => worseMargin m (marginOf x.decodeStep x.corrected)) 3 ∧
            (blockAt t p.key).wp = (blockAt s p.key).wp ∧ (blockAt t p.key).pe = (blockAt s p.key).pe) ∧
          (∀ k, k ∉ bl.map (·.key) → blockAt t k = blockAt s k) ∧ t.media.pages = s.media.pages ∧ t.map.core.entries = s.map.core.entries ∧ guarded t = guarded s)) ∧
      (∀ (p : PassBlock) (x : PassPage) (pages : List PassPage) (rest : List PassBlock), bl = p :: rest → p.pages = x :: pages → 3 ≤ x.decodeStep →
        (blockAt s p.key).wp ≠ none → Gives (.rechargePass band bl) s (fun t =>
        t.ret.passesDone = s.ret.passesDone ∧ (bandAt t.map.core band).map (·.retQueued) = some 2 ∧
        (∀ k, (blockAt t k).stamp = (blockAt s k).stamp ∧ (blockAt t k).rch = (blockAt s k).rch) ∧
        t.media.pages = s.media.pages ∧ t.map.core.entries = s.map.core.entries ∧ guarded t = guarded s))) ∧
    (∀ (key n : Nat) (steps corrected : List Nat), bandOfBlock s.map.core key = some n → (bandAt s.map.core n).elim false (fun b => b.st == .closed) = true →
      patrolDue s key = true → steps.length = 4 → corrected.length = 4 → (∀ x ∈ steps, x = 1 ∨ x = 2) →
      Gives (.marginPatrol key steps corrected) s (fun t =>
        (blockAt t key).patrol = tcOf s (carrierOf (channelOfKey key)) / 256 % 2048 ∧
        (blockAt t key).margin = (steps.zip corrected).foldl (fun m x => worseMargin m (marginOf x.1 x.2)) (blockAt s key).margin ∧ (blockAt t key).stamp = (blockAt s key).stamp ∧
        t.media.pages = s.media.pages ∧ t.map.core.entries = s.map.core.entries ∧ guarded t = guarded s)) ∧
    (∀ (key step corrected : Nat), (starAt s (carrierOf (channelOfKey key))).scanning = true → (blockAt s key).dawnPending = true →
      firstInScan s (carrierOf (channelOfKey key)) key = true →
      Gives (.dawnScan key step corrected) s (fun t => (blockAt t key).dawnPending = false ∧
        (dawnBlocks t (carrierOf (channelOfKey key)) = [] → (starAt t (carrierOf (channelOfKey key))).scanning = false) ∧
        t.media.pages = s.media.pages ∧ t.map.core.entries = s.map.core.entries ∧ guarded t = guarded s))

/-- From gathering to commit (R24, R28, R142, R149, R180 to R184). -/
def Obligations.StripesOpenWriteCommit : Prop :=
  ∀ s : State, workRuns s = true →
    (∀ (st : Fin 3) (v : Nat), mayWriteMedia s = true → gathered s (streamOf st) ≠ [] → bandAt s.map.core s.map.nextBand = none →
      groupFor s (streamOf st) = some v → openOfStream s.map.core (streamOf st) < streamCount s (streamOf st) → journalHolds s 1 = false →
      Gives (.stripeWrite st s.map.nextBand) s (fun t => bandAt t.map.core s.map.nextBand = some (formBand s s.map.nextBand v (streamOf st)) ∧
        t.map.nextBand = s.map.nextBand + 1 ∧ t.map.msn = s.map.msn + 1 ∧ t.map.core.entries = s.map.core.entries ∧ s.map.nextBand ∈ t.red.openSummary ∧
        t.map.tail = s.map.tail ++ [{ type := .bandOpen, band := s.map.nextBand, msn := s.map.msn, formed := some (formBand s s.map.nextBand v (streamOf st)) }] ∧
        guarded t = guarded s)) ∧
    (∀ (st : Fin 3) (band : Nat) (b : Band), bandAt s.map.core band = some b → b.st = .opened → b.stream = streamOf st → nextDeclared b = true → mayWriteMedia s = true →
      nextInRotation s (streamOf st) = some band → destagingStops s (streamOf st) = false →
      let data := (dealt s (streamOf st) band).take 240
      let cws := data.map (·.1) ++ List.replicate (240 - data.length) padCodeword
      let written := fun (t : State) => (∃ b', bandAt t.map.core band = some b' ∧ b'.nextStripe = b.nextStripe + 1) ∧
        (∃ f ∈ t.map.stripes, f.band = band ∧ f.stripe = b.nextStripe ∧ f.blocks.map (fun x => { x with whole := false }) = data.map (·.2) ++ List.replicate (240 - data.length) ({} : StripeBlock)) ∧
        t.map.core.entries = s.map.core.entries ∧ t.map.tail = s.map.tail ∧ t.map.msn = s.map.msn ∧ guarded t = guarded s
      (data.length = 240 → allFit s (queueOf (streamOf st)) (nextPrograms s band b cws) = true → Gives (.stripeWrite st band) s written) ∧
      (0 < data.length → data.length < 240 → allFit s (queueOf (streamOf st)) (nextPrograms s band b cws) = true → Gives (.gatherTimeout st band) s written) ∧
      (data.length < 240 → Gives (.stripeWrite st band) s (fun t => t = s))) ∧
    (∀ (band : Nat) (b : Band), bandAt s.map.core band = some b → (b.st = .opened ∨ b.st = .closing) → summaryOpened s band = true →
      b.declGroup - doneGroupOf s band b + groupsAhead s / 2 ≤ groupsAhead s → b.declGroup < bandGroupsXor s.red.geometry →
      Gives (.groupDeclaration band) s (fun t =>
        bandAt t.map.core band = some { b with declGroup := min (bandGroupsXor s.red.geometry) (b.declGroup + groupsAhead s / 2) } ∧
        (∀ n, n ≠ band → bandAt t.map.core n = bandAt s.map.core n) ∧ t = { s with map := { s.map with core := { s.map.core with bands := t.map.core.bands } } })) ∧
    (∀ (band stripe : Nat) (f : StripeFlight), isHeld s = false → poolFull s (flightSpans s band stripe) = false → journalHolds s 240 = false → s.map.stripes.find? (fun f => f.band == band && f.stripe == stripe) = some f →
      ((∃ i : Fin 16, f.units[i] = 0) → Gives (.stripeCommit band stripe) s (fun t => t = s)) ∧
      ((∀ i : Fin 16, f.units[i] = 1) →
        (∀ (b : StripeBlock) (n : Nat), f.blocks = b :: List.replicate n ({} : StripeBlock) → b.nsid ≠ 0 → b.src = none → overtaken s b = false →
          (s.map.lines.any (fun l => l.nsid == b.nsid && l.lba == b.lba && l.msn == b.msn && l.st == .destaging)) = true →
          Gives (.stripeCommit band stripe) s (fun t => mapAt t.map.core b.nsid b.lba = some (.mapped band (240 * stripe)) ∧
            t.map.tail = s.map.tail ++ [{ type := .map, nsid := b.nsid, lba := b.lba, band := band, offset := 240 * stripe, msn := b.msn, whole := b.whole }] ∧
            (∀ x ∈ t.map.stripes, ¬ (x.band = band ∧ x.stripe = stripe)) ∧
            (∀ nsid lba, entryKey nsid lba ≠ entryKey b.nsid b.lba → mapAt t.map.core nsid lba = mapAt s.map.core nsid lba) ∧ guarded t = guarded s)) ∧
        Gives (.stripeCommit band stripe) s (fun t => (∀ x ∈ t.map.stripes, ¬ (x.band = band ∧ x.stripe = stripe)) ∧ TailGrows s t ∧ guarded t = guarded s)))

/-- The journal and the end of bands (R32, R142, R151 to R157). -/
def Obligations.JournalCheckpointAndBandEnd : Prop :=
  ∀ s : State, workRuns s = true →
    ((∃ c, journalSlot s = some c) → Gives (.journalPageWrite true true) s (fun t => t.map.tail = s.map.tail.drop 1280 ∧
      t.map.journal = s.map.journal ++ s.map.tail.take 1280 ∧ t.map.pages = s.map.pages + 1 ∧ t.map.core.entries = s.map.core.entries ∧
      t.map.msn = s.map.msn ∧ guarded t = guarded s)) ∧
    (∀ a b : Bool, (a && b) = false → Gives (.journalPageWrite a b) s (fun t => t.map.tail = s.map.tail ∧ t.map.journal = s.map.journal ∧
      t.map.pages = s.map.pages ∧ t.map.core = s.map.core ∧ t.map.lines = s.map.lines ∧ guarded t = guarded s)) ∧
    (cycleDue s = true → mayWriteMedia s = true → Gives .checkpointCycle s (fun t => t.map.primary.core = s.map.core ∧ t.map.primary.msn = s.map.msn ∧
      t.map.secondary.core = s.map.primary.core ∧ t.map.secondary.msn = s.map.primary.msn ∧ t.map.journal = s.map.journal.drop s.map.primary.journalFrom ∧
      t.map.primary.blocks = s.media.blocks ∧ t.map.core = s.map.core ∧ t.map.tail = s.map.tail ∧
      (∀ c, c < 16 → (starAt t c).tc = (starAt s c).tc ∧ (starAt t c).tcCheckpoint =
        (if (carrierAt s c).pwrEn = true ∧ (starAt s c).powerUpSweepDone = true then (starAt s c).tc.toNat else (starAt s c).tcCheckpoint)) ∧
      guarded t = guarded s)) ∧
    (∀ (band : Nat) (b : Band), bandAt s.map.core band = some b → isHeld s = false →
      (journalHolds s 1 = false → mayClose s band b = true → Gives (.bandClose band) s (fun t =>
        bandAt t.map.core band = some { b with st := .closed, closeMsn := s.map.msn, closeTc := leastTc s b } ∧
        t.map.tail = s.map.tail ++ [{ type := .bandClose, band := band, msn := s.map.msn
                                      formed := some { b with st := .closed, closeMsn := s.map.msn, closeTc := leastTc s b } }] ∧ t.map.msn = s.map.msn + 1 ∧
        (∀ n, n ≠ band → bandAt t.map.core n = bandAt s.map.core n) ∧ t.map.core.entries = s.map.core.entries ∧ guarded t = guarded s)) ∧
      (journalHolds s 1 = false → mayRelease s band b = true → Gives (.bandRelease band []) s (fun t =>
        t.map.tail = s.map.tail ++ [{ type := .release, band := band, msn := s.map.msn }] ∧ t.map.core = s.map.core ∧ t.media = s.media ∧ guarded t = guarded s)) ∧
      (journalHolds s 1 = false → b.st = .eraseList → ∀ bad : List Nat, Gives (.bandRelease band bad) s (fun t =>
        bandAt t.map.core band = none ∧ (∀ n, n ≠ band → bandAt t.map.core n = bandAt s.map.core n) ∧ t.map.core.entries = s.map.core.entries ∧
        (∃ m, t.map.tail = s.map.tail ++ [{ type := .erased, band := band, msn := m }]) ∧ guarded t = guarded s)) ∧
      (s.boot.bgStarted = true → mayWriteMedia s = true → isVictim s band b = true → collectionRuns s b = true →
        Gives (.garbageCollection band true []) s (fun t => bandAt t.map.core band = some { b with st := .relocating, passRunning := false } ∧
          (∀ n, n ≠ band → bandAt t.map.core n = bandAt s.map.core n) ∧
          t = { s with map := { s.map with core := { s.map.core with bands := t.map.core.bands } } }) ∧
        (∀ reads : List BlockRead, Gives (.garbageCollection band true reads) s (fun t =>
          (bandAt t.map.core band).map (·.st) = some .relocating ∧ TailGrows s t ∧ guarded t = guarded s))) ∧
      (s.boot.bgStarted = true → mayWriteMedia s = true → b.st = .closed → (b.scheduled = true ∨ b.secure = true ∨ (b.retQueued = 2 ∧ servedNext s band b = true)) →
        Gives (.relocation band true []) s (fun t => bandAt t.map.core band = some { b with st := .relocating, passRunning := false } ∧
          (∀ n, n ≠ band → bandAt t.map.core n = bandAt s.map.core n) ∧
          t = { s with map := { s.map with core := { s.map.core with bands := t.map.core.bands } } })))

/-- Span consolidation (R136) and the data-plane burst (R22). -/
def Obligations.ConsolidationAndBursts : Prop :=
  ∀ s : State,
    (BgRuns s → mayWriteMedia s = true → ∀ reads : List BlockRead,
      (s.map.consolidating = false → 900 ≤ finePoolMille s → Gives (.spanConsolidation reads) s (fun t => t.map.consolidating = true ∧ TailGrows s t ∧ guarded t = guarded s)) ∧
      (s.map.consolidating = true → finePoolMille s ≤ 800 → Gives (.spanConsolidation reads) s (fun t =>
        t = record { s with map := { s.map with consolidating := false } } 0x0301 .notice (b4 (finePoolMille s)))) ∧
      (s.map.consolidating = false → finePoolMille s < 900 → Gives (.spanConsolidation reads) s (fun t => t = s))) ∧
    (∀ (dma : Nat) (b : Bool), Gives (.dataPlaneBurst dma true b) s (fun t => t = s)) ∧
    (∀ dma : Nat, dma ∉ s.dram.dmaHalted →
      Gives (.dataPlaneBurst dma false true) s (fun t => t.dram.burstsResent = s.dram.burstsResent + 1 ∧ t.dram.dmaHalted = s.dram.dmaHalted ∧
        (funcAt t 0).aerCor.getLsbD 14 = true ∧ t = { s with dram := t.dram, host := t.host }) ∧
      Gives (.dataPlaneBurst dma false false) s (fun t => t.dram.burstsResent = s.dram.burstsResent + 1 ∧ dma ∈ t.dram.dmaHalted ∧
        (funcAt t 0).aerCor.getLsbD 14 = true ∧ t = { s with dram := t.dram, host := t.host, alm := t.alm }))

/-- Activities of Carrier Redundancy (R188 to R205). -/
def Obligations.RedundancyActivities : Prop :=
  ∀ s : State, workRuns s = true →
    (∀ band group : Nat, s.red.resyncRunning = true → isHeld s = false → s.boot.bgStarted = true → s.red.resyncFirst = [] →
      nextResync s = some (band, group) →
      Gives (.resynchronisation band group [] []) s (fun t => t.red.resyncPos = (band, group + 1) ∧ t.map.core.entries = s.map.core.entries ∧
        ((bandAt s.map.core band).elim 0 writtenGroups ≤ group + 1 → (bandAt t.map.core band).map (·.resyncDone) = (bandAt s.map.core band).map (fun _ => true)) ∧
        t.map.tail = s.map.tail ∧ t.media.pages = s.media.pages ∧ guarded t = guarded s) ∧
      (∀ f : ResyncFinding, f.stripe / 31 = group → journalHolds s 7440 = false → ∀ slot, f.bad = [slot] → unitBlocks s.map.core band f.stripe slot ≠ [] →
        (f.recovered = true → (∀ x ∈ unitBlocks s.map.core band f.stripe slot,
            (recoverBlock (resyncReads s band f) x.1 x.2.1 band x.2.2 { step := 4 }).2.isSome = true) → Gives (.resynchronisation band group [f] []) s (fun t =>
          (bandAt t.map.core band).map (fun b => (b.headOfCollection, b.scheduled)) = (bandAt s.map.core band).map (fun _ => (true, true)) ∧
          t.map.core.entries = s.map.core.entries)) ∧
        (f.recovered = false → Gives (.resynchronisation band group [f] []) s (fun t =>
          (∀ x ∈ unitBlocks s.map.core band f.stripe slot, mapAt t.map.core x.1 x.2.1 = some .lost) ∧ t.alm.event.getLsbD 3 = true ∧ TailGrows s t)))) ∧
    (∀ slot : Nat, s.red.failedSlot = some slot → s.red.rebuildRunning = true → isHeld s = false → s.red.waiting = [] →
      (∀ (band : Nat) (reads : List BlockRead) (u : List (Nat × Nat)) (n : Bool), nextRebuild s = none →
        Gives (.rebuild band reads u n) s (fun t => t.red.st = .spared ∧ t.red.rebuildRunning = false ∧ t.red.roles = s.red.roles ∧
          t.map = s.map ∧ guarded t = guarded s)) ∧
      (∀ (band : Nat) (b : Band) (reads : List BlockRead) (n : Bool), nextRebuild s = some band → bandAt s.map.core band = some b → byImage s band b = true →
        (let e := eraseLeftSubsts s slot b; allInside e ((rebuildSubsts e band slot b).map (substKey b)) = true) → Gives (.rebuild band reads [] n) s (fun t => (bandAt t.map.core band).map (fun x => (x.rebuildDone, x.substSlot)) = some (true, some slot) ∧
          t.map.core.entries = s.map.core.entries ∧ isHeld t = false ∧ t.map.tail = s.map.tail ∧ guarded t = guarded s))) ∧
    (∀ lun band : Nat, lun ∈ s.red.lunRebuilds → isHeld s = false → (∀ p ∈ s.map.core.bands, lunPositions s p.2 lun = []) → ∀ lost : List Nat,
      Gives (.lunRebuild lun band lost) s (fun t => lun ∉ t.red.lunRebuilds ∧ (∀ l, l ≠ lun → (l ∈ t.red.lunRebuilds ↔ l ∈ s.red.lunRebuilds)) ∧
        t = { s with red := { s.red with lunRebuilds := t.red.lunRebuilds } })) ∧
    (∀ r : Reshape, s.red.reshape = some r → s.boot.bgStarted = true →
      (r.kind = 1 → s.red.st = .evacuating → s.red.waiting = [] → nextReshape s r = none → sweepLeft s r = 0 → ∀ band : Nat,
        Gives (.reshape band) s (fun t => t.red.st = .spared ∧ t.red.failedSlot = some r.slot ∧ t.red.reshape = none ∧
          t.red.roles = vset s.red.roles r.slot .vacated ∧ t.map = s.map ∧ guarded t = guarded s)) ∧
      (r.kind = 2 → s.red.st = .copyback → s.red.waiting = [] → nextReshape s r = none → sweepLeft s r = 0 → ∀ band : Nat,
        Gives (.reshape band) s (fun t => t.red.st = .normal ∧ t.red.failedSlot = none ∧ t.red.reshape = none ∧
          t.red.roles = vset s.red.roles r.slot .member ∧ t.map.core.entries = s.map.core.entries ∧ guarded t = guarded s)) ∧
      (s.red.st = .evacuating ∨ s.red.st = .copyback → s.red.waiting = [] → ∀ (band : Nat) (b : Band), nextReshape s r = some band → bandAt s.map.core band = some b →
        reshapeInside s r band b = true → Gives (.reshape band) s (fun t => (bandAt t.map.core band).map (·.reshaped) = some true ∧ t.map.core.entries = s.map.core.entries ∧
          (∀ r', t.red.reshape = some r' → r'.position = max r.position (band + 1)) ∧ t.map.tail = s.map.tail)))

/-- The port state machine (R256), its link's start (R252, R255) and its counters (R284). -/
def Obligations.HaloPortStates : Prop :=
  ∀ (s : State) (p : Port),
    ((portAt s (pIdx p)).st = .down → (portAt s (pIdx p)).powered = true → s.halo.eng = true → ringId s ≠ 0 →
      Gives (.portTrainingStart p) s (fun t => (portAt t (pIdx p)).st = .training ∧ (portAt t (pIdx p)).linkChange = true ∧
        (portAt t (pIdx p)).replay = [] ∧ (portAt t (pIdx p)).txSeq = 0 ∧ (portAt t (pIdx p)).rxSeq = 0 ∧ OnlyPort p s t)) ∧
    ((portAt s (pIdx p)).st = .training → (portAt s (pIdx p)).retryWait = false →
      (∀ (rate : Nat) (lanes : BitVec 8), setting s 0x07 3 ≤ rate → (portAt s (pIdx p)).maxRate ≤ rate → rate ≤ 2 → lanes ∈ [0xFF, 0x0F, 0xF0] →
        Gives (.portTrainingDone p rate lanes) s (fun t => (portAt t (pIdx p)).st = .init ∧ (portAt t (pIdx p)).rate = rate ∧
          (portAt t (pIdx p)).lanes = lanes ∧ (portAt t (pIdx p)).failures = 0 ∧ OnlyPort p s t)) ∧
      Gives (.portTrainingTimeout p) s (fun t => portAt t (pIdx p) = { portAt s (pIdx p) with failures := (portAt s (pIdx p)).failures + 1, retryWait := true } ∧
        (((portAt s (pIdx p)).failures + 1) % 10 ≠ 0 → t.alm = s.alm) ∧ (∀ k, k ≠ pIdx p → portAt t k = portAt s k) ∧ OnlyHalo s t)) ∧
    Gives (.portTrainingRetry p) s (fun t => portAt t (pIdx p) = { portAt s (pIdx p) with retryWait := false } ∧ OnlyPort p s t) ∧
    ((portAt s (pIdx p)).st = .init →
      Gives (.initCellTimer p) s (fun t => portAt t (pIdx p) = { portAt s (pIdx p) with initSent := (portAt s (pIdx p)).initSent + 1, lastSlot := 5,
                                                                                        lastCell := .init (initNow s (pIdx p)) } ∧ OnlyPort p s t) ∧
      (∀ c : InitCell, c.ringId = ringId s → c.nodeId ≠ nodeId s → c.protocol = 1 → Gives (.initCellReceive p c) s (fun t =>
        (portAt t (pIdx p)).st = .up ∧ (portAt t (pIdx p)).credits = c.credits ∧ (portAt t (pIdx p)).neighbour = c.nodeId ∧
        (portAt t (pIdx p)).nbValid = true ∧ t.halo.ownToken = some (s.halo.bestEpoch + 1) ∧ t.halo.bestEpoch = s.halo.bestEpoch + 1 ∧
        t.halo.bestOriginator = nodeId s ∧ OnlyHalo s t)) ∧
      (∀ c : InitCell, c.ringId ≠ ringId s ∨ c.nodeId = nodeId s ∨ c.protocol ≠ 1 → Gives (.initCellReceive p c) s (fun t =>
        (portAt t (pIdx p)).st = .init ∧ (portAt t (pIdx p)).refused = true ∧ (portAt t (pIdx p)).credits = (portAt s (pIdx p)).credits ∧
        ((portAt s (pIdx p)).refused = true → t.alm = s.alm) ∧ (∀ k, k ≠ pIdx p → portAt t k = portAt s k) ∧ OnlyHalo s t))) ∧
    ((portAt s (pIdx p)).st = .up →
      ((portAt s (pIdx p)).sleepingSeen = false → Gives (.lossOfSignal p) s (fun t => (portAt t (pIdx p)).st = .training ∧
        (portAt t (pIdx p)).replay = [] ∧ OnlyHalo s t)) ∧
      ((portAt s (pIdx p)).sleepingSeen = true → Gives (.lossOfSignal p) s (fun t => (portAt t (pIdx p)).st = .asleep ∧
        (portAt t (pIdx p)).neighbour = (portAt s (pIdx p)).neighbour ∧ ((portAt s (pIdx p)).neighbour ≠ nodeId s →
          (portAt s (pIdx p)).neighbour ∈ (if p = .east then t.halo.sleepEast else t.halo.sleepWest)) ∧ OnlyHalo s t)) ∧
      Gives (.lossOfDelineation p) s (fun t => (portAt t (pIdx p)).st = .training ∧ (portAt t (pIdx p)).replay = [] ∧ OnlyHalo s t) ∧
      (∀ n : Nat, Gives (.fecErrorLimit p n) s (fun t => (portAt t (pIdx p)).fecUncorr = min ((portAt s (pIdx p)).fecUncorr + n) 0xFFFFFFFF ∧
        (n ≤ 1000 → (portAt t (pIdx p)).st = .up ∧ OnlyPort p s t) ∧
        (1000 < n → (portAt t (pIdx p)).st = .training ∧ (portAt t (pIdx p)).maxRate = min 2 ((portAt s (pIdx p)).rate + 1) ∧ OnlyHalo s t)))) ∧
    ((portAt s (pIdx p)).waking = [] →
      ((portAt s (pIdx p)).st ∈ [.asleep, .waking] → Gives (.trainingFramesReceived p) s (fun t => (portAt t (pIdx p)).st = .training ∧ OnlyPort p s t)) ∧
      ((portAt s (pIdx p)).st = .waking → Gives (.wakeGiveupExpiry p) s (fun t => (portAt t (pIdx p)).st = .asleep ∧ OnlyPort p s t))) ∧
    (∀ node xid, (portAt s (pIdx p)).waking = [(node, xid)] → node ≠ nodeId s → (portAt s (pIdx p)).st = .waking →
      Gives (.trainingFramesReceived p) s (fun t => (portAt t (pIdx p)).st = .training ∧ (portAt t (pIdx p)).waking = [] ∧
        (t.halo.sent.getLast?.map (fun m => (m.dst, m.header.opcode, m.header.response, m.header.status, m.header.xid))) = some (node, 3, true, 0, xid) ∧ OnlyHalo s t) ∧
      Gives (.wakeGiveupExpiry p) s (fun t => (portAt t (pIdx p)).st = .asleep ∧ (portAt t (pIdx p)).waking = [] ∧
        (t.halo.sent.getLast?.map (fun m => (m.dst, m.header.opcode, m.header.response, m.header.status, m.header.xid))) = some (node, 3, true, 8, xid) ∧ OnlyHalo s t)) ∧
    Gives (.halPortClearCounters p) s (fun t => portAt t (pIdx p) = { portAt s (pIdx p) with replays := 0, crcErrors := 0, fecUncorr := 0 } ∧ OnlyPort p s t)

/-- The link layer (R252 to R255) and the slots (R250, R254). -/
def Obligations.HaloCells : Prop :=
  ∀ (s : State) (p : Port), (portAt s (pIdx p)).st = .up →
    (∀ c : DataCell, c.crcOk = true → c.seq = (portAt s (pIdx p)).rxSeq →
      (c.dst = nodeId s → Gives (.dataCellReceive p c) s (fun t =>
        (portAt t (pIdx p)).rxSeq = (portAt s (pIdx p)).rxSeq + 1 ∧ (portAt t (pIdx p)).inDiscard = false ∧
        (c.som = true → c.eom = true → (headerOf (padTo 64 c.payload)).bodyLen = 0 → t.halo.inbox = s.halo.inbox ++
          [{ header := headerOf (padTo 64 c.payload), src := c.src, dst := c.dst, vl := c.vl, body := [], crcOk := true }]) ∧
        (reassemblyUsed (reassemble s c) < Config.reassemblyBytes → (∀ k, (portAt s k).withheld = #v[0, 0, 0, 0]) →
          vget (portAt t (pIdx p)).released 0 c.vl.val = vget (portAt s (pIdx p)).released 0 c.vl.val + 1 ∧
          (∀ k, k ≠ pIdx p → portAt t k = portAt s k)) ∧
        (Config.reassemblyBytes ≤ reassemblyUsed (reassemble s c) → (portAt t (pIdx p)).released = (portAt s (pIdx p)).released ∧
          vget (portAt t (pIdx p)).withheld 0 c.vl.val = vget (portAt s (pIdx p)).withheld 0 c.vl.val + 1 ∧
          (∀ k, k ≠ pIdx p → portAt t k = portAt s k)) ∧ OnlyHalo s t)) ∧
      (consumes s (pIdx p) c = false → c.hops < 31 → (s.halo.entries.any (fun e => e.nodeId == c.dst)) = true → Gives (.dataCellReceive p c) s (fun t =>
        (portAt t (pIdx p)).rxSeq = (portAt s (pIdx p)).rxSeq + 1 ∧ (portAt t (pIdx p)).released = (portAt s (pIdx p)).released ∧
        vget (portAt t (1 - pIdx p)).transit [] c.vl.val = vget (portAt s (1 - pIdx p)).transit [] c.vl.val ++ [{ c with hops := c.hops + 1 }] ∧
        t.halo.inbox = s.halo.inbox ∧ OnlyHalo s t)) ∧
      (consumes s (pIdx p) c = false → 31 ≤ c.hops → Gives (.dataCellReceive p c) s (fun t =>
        t.halo.undeliverable = s.halo.undeliverable + 1 ∧ vget (portAt t (pIdx p)).released 0 c.vl.val = vget (portAt s (pIdx p)).released 0 c.vl.val + 1 ∧
        t.halo.inbox = s.halo.inbox ∧ (∀ k, k ≠ pIdx p → portAt t k = portAt s k) ∧ OnlyHalo s t))) ∧
    (∀ c : DataCell, (c.crcOk = false ∨ c.seq ≠ (portAt s (pIdx p)).rxSeq) → (portAt s (pIdx p)).crcRun < 7 → Gives (.dataCellReceive p c) s (fun t =>
      (portAt t (pIdx p)).st = .up ∧ (portAt t (pIdx p)).rxSeq = (portAt s (pIdx p)).rxSeq ∧ (portAt t (pIdx p)).inDiscard = true ∧
      ((portAt s (pIdx p)).inDiscard = false → (portAt t (pIdx p)).nakPending = true) ∧
      ((portAt s (pIdx p)).inDiscard = true → (portAt t (pIdx p)).nakPending = (portAt s (pIdx p)).nakPending) ∧
      (portAt t (pIdx p)).crcErrors = (if c.crcOk then (portAt s (pIdx p)).crcErrors else min ((portAt s (pIdx p)).crcErrors + 1) 65535) ∧ OnlyPort p s t)) ∧
    (∀ c : DataCell, c.crcOk = false → 7 ≤ (portAt s (pIdx p)).crcRun → Gives (.dataCellReceive p c) s (fun t => (portAt t (pIdx p)).st = .training ∧ OnlyHalo s t)) ∧
    (∀ c : CtrlCell, c.nak = false → Gives (.ctrlCellReceive p c) s (fun t =>
      (∀ v : Fin 4, (portAt t (pIdx p)).credits[v] = (portAt s (pIdx p)).credits[v] + (c.credit[v] - (portAt s (pIdx p)).returned[v]).toNat) ∧
      (portAt t (pIdx p)).returned = c.credit ∧ (c.sleeping = true → (portAt t (pIdx p)).sleepingSeen = true) ∧
      (∀ a x b, (portAt s (pIdx p)).replay = a ++ x :: b → x.seq = c.ackSeq → (∀ y ∈ a, y.seq ≠ c.ackSeq) →
        (portAt t (pIdx p)).replay = b ∧ (portAt t (pIdx p)).lastAck = c.ackSeq ∧ (portAt t (pIdx p)).replaysInRow = 0) ∧
      ((∀ y ∈ (portAt s (pIdx p)).replay, y.seq ≠ c.ackSeq) → (portAt t (pIdx p)).replay = (portAt s (pIdx p)).replay) ∧ OnlyPort p s t)) ∧
    ((portAt s (pIdx p)).replay ≠ [] →
      ((portAt s (pIdx p)).replaysInRow < 7 → Gives (.replayTimerExpiry p) s (fun t => portAt t (pIdx p) = { portAt s (pIdx p) with
        resend := (portAt s (pIdx p)).replay, replays := min ((portAt s (pIdx p)).replays + 1) 65535, replaysInRow := (portAt s (pIdx p)).replaysInRow + 1 } ∧ OnlyPort p s t)) ∧
      (7 ≤ (portAt s (pIdx p)).replaysInRow → Gives (.replayTimerExpiry p) s (fun t => (portAt t (pIdx p)).st = .training ∧
        (portAt t (pIdx p)).replays = min ((portAt s (pIdx p)).replays + 1) 65535 ∧ OnlyHalo s t))) ∧
    ((portAt s (pIdx p)).sinceIdle < 4095 →
      (∀ x rest, (portAt s (pIdx p)).resend = x :: rest → Gives (.cellSlotTransmit p) s (fun t => (portAt t (pIdx p)).resend = rest ∧
        (portAt t (pIdx p)).lastSlot = 1 ∧ (portAt t (pIdx p)).txSeq = (portAt s (pIdx p)).txSeq ∧ OnlyPort p s t)) ∧
      ((portAt s (pIdx p)).resend = [] → 31 ≤ (portAt s (pIdx p)).sinceCtrl → Gives (.cellSlotTransmit p) s (fun t =>
        (portAt t (pIdx p)).lastSlot = 2 ∧ (portAt t (pIdx p)).nakPending = false ∧ (portAt t (pIdx p)).sinceCtrl = 0 ∧ OnlyPort p s t)) ∧
      (∀ x rest, (portAt s (pIdx p)).resend = [] → (portAt s (pIdx p)).sinceCtrl < 31 → (portAt s (pIdx p)).controlInWindow < 5 →
        laneReady (portAt s (pIdx p)) 0 = true → vget (portAt s (pIdx p)).transit [] 0 = [] → vget (portAt s (pIdx p)).own [] 0 = x :: rest →
        Gives (.cellSlotTransmit p) s (fun t => (portAt t (pIdx p)).lastSlot = 3 ∧ vget (portAt t (pIdx p)).own [] 0 = rest ∧
          (portAt t (pIdx p)).replay = (portAt s (pIdx p)).replay ++ [{ x with seq := (portAt s (pIdx p)).txSeq }] ∧
          (portAt t (pIdx p)).txSeq = (portAt s (pIdx p)).txSeq + 1 ∧
          vget (portAt t (pIdx p)).credits 0 0 = vget (portAt s (pIdx p)).credits 0 0 - 1 ∧ OnlyPort p s t)))

/-- Tokens, heartbeats and a silent peer (R260, R268, R270, R281). -/
def Obligations.HaloTokensAndPeers : Prop :=
  ∀ s : State,
    (∀ (p : Port) (k : Token), portUp s (pIdx p) = true → k.originator ≠ nodeId s →
      (s.halo.bestEpoch < k.epoch → k.final = false → portUp s (1 - pIdx p) = true → Gives (.tokenReceive p k) s (fun t =>
        t.halo.bestEpoch = k.epoch ∧ t.halo.bestOriginator = k.originator ∧ t.halo.ownToken = none ∧ t.halo.entries = s.halo.entries ∧
        (t.halo.sent.getLast?.map (fun m => (m.dst, m.header.opcode, m.header.seqno, m.header.nsid, m.body))) =
          some ((portAt s (1 - pIdx p)).neighbour, 2, k.epoch, k.originator, tokenBody (writeEntry k.entries (ownEntry s))) ∧ OnlyHalo s t)) ∧
      (k.epoch < s.halo.bestEpoch → Gives (.tokenReceive p k) s (fun t => t = s)) ∧
      (s.halo.bestEpoch < k.epoch → k.final = true → conflicts s k.entries = false → Gives (.tokenReceive p k) s (fun t =>
        t.halo.entries = k.entries ∧ t.halo.topoEpoch = k.epoch ∧ t.halo.topology = (if k.entries.all (fun e => e.ports % 4 == 3) then 1 else 2) ∧
        t.halo.bestEpoch = k.epoch ∧ OnlyHalo s t))) ∧
    (∀ (p : Port) (k : Token), portUp s (pIdx p) = true → k.originator = nodeId s → s.halo.ownToken = some k.epoch → k.final = false → k.turns = 0 →
      conflicts s k.entries = false → Gives (.tokenReceive p k) s (fun t => t.halo.entries = k.entries ∧ t.halo.topoEpoch = k.epoch ∧ OnlyHalo s t)) ∧
    (s.halo.ownToken.isSome = true → portUp s 0 = true ∨ portUp s 1 = true → Gives .tokenTimeout s (fun t =>
      t.halo.ownToken = some (s.halo.bestEpoch + 1) ∧ t.halo.bestEpoch = s.halo.bestEpoch + 1 ∧ t.halo.bestOriginator = nodeId s ∧ t.alm = s.alm ∧ OnlyHalo s t)) ∧
    (∀ m, accepting s = true → isDeep s.pwr.sleep = false → s.halo.mirrors = [m] → m.secondary = false → s.halo.migration = none → s.halo.securePush = [] →
      s.sealing.seals = [] → Gives .heartbeatTimer s (fun t =>
        t.halo.sent = s.halo.sent ++ [ownMessage s { opcode := 1 } m.peer (descBytes (mirrorDesc s m))] ∧ t.halo.mirrors = s.halo.mirrors ∧ OnlyHalo s t)) ∧
    (∀ (node : Nat) (serial : Bytes) (descs : List SessionDesc) (m : Mirror) (d : SessionDesc), s.halo.mirrors = [m] → m.peer = node →
      (m.peerSerial = [] ∨ m.peerSerial = serial) → descs.find? (fun d => d.session == m.session && d.type == 1) = some d → descMatches s m d = true →
      m.secondary = false → (m.st = .suspended ∨ m.st = .configured) → Gives (.heartbeatReceive node serial descs) s (fun t =>
        ∃ m', t.halo.mirrors = [m'] ∧ m'.session = m.session ∧ m'.st = .active ∧ m'.peerReachable = true ∧ m'.peerLists = true ∧ m'.peerSerial = serial ∧
          (m.st = .suspended → m'.nextSeqno = d.appliedSeqno + 1 ∧ m'.dirty = m.dirty) ∧
          (m.st = .configured → m.activatedOnce = false → ∀ x ∈ liveSpans s m.localNsid, x ∈ m'.dirty))) ∧
    (∀ (node : Nat) (serial : Bytes) (descs : List SessionDesc) (g : Migration) (d : SessionDesc), s.halo.mirrors = [] → s.halo.migration = some g →
      g.peer = node → (g.peerSerial = [] ∨ g.peerSerial = serial) → g.successor = false → g.st = .interrupted → g.resumeDue = false →
      descs.find? (fun d => d.session == g.session && d.type == 2) = some d → Gives (.heartbeatReceive node serial descs) s (fun t =>
        ∃ g', t.halo.migration = some g' ∧ g'.st = .passing ∧ g'.nextSeqno = d.appliedSeqno + 1 ∧ g'.todo = unionSpans g.todo g.dirty ∧ g'.dirty = g.dirty)) ∧
    (∀ node : Nat,
      ((asleepNodes s).contains node = true → Gives (.peerTimeoutExpiry node) s (fun t => t = s)) ∧
      ((asleepNodes s).contains node = false → ∀ m ∈ s.halo.mirrors, m.peer = node → m.st = .active → (s.halo.mirrors.map (·.session)).Nodup →
        Gives (.peerTimeoutExpiry node) s (fun t => (∃ m' ∈ t.halo.mirrors, m'.session = m.session ∧ m'.st = .suspended ∧ m'.peerReachable = false ∧
          m'.inFlight = [] ∧ (∀ x ∈ m.dirty ++ m.inFlight, x ∈ m'.dirty) ∧ m'.secondary = m.secondary ∧ m'.localNsid = m.localNsid) ∧
          t.halo.ports = s.halo.ports ∧ t.map = s.map ∧ t.media = s.media ∧ guarded t = guarded s)))

/-- The requests that other nodes send (R265 to R279, R283). -/
def Obligations.HaloRequestsReceived : Prop :=
  ∀ (s : State) (msg : HaloMessage) (media : List BlockRead) (x : SealXfer) (seals : Nat),
    (∀ (c : Instr) (a : HaloAnswer), HaloRequest c msg media x seals → msg.header.response = false → s.halo.answers.find? (fun a => a.serial == msg.header.serial && a.xid == msg.header.xid &&
        s.time.opMs < a.atMs + 600000) = some a → Gives c s (fun t => t = sendMessage (taken s msg) a.response)) ∧
    (Fresh msg s →
      (haloOpcodes.contains msg.header.opcode = false → Responds (.unknownOpcodeReceive msg) s msg .badOpcode (taken s msg)) ∧
      (s.pwr.sleep ≠ .dusk → appliedOf s msg.header.session = none → Responds (.spanPushReceive msg) s msg .noSession (taken s msg)) ∧
      (∀ a, s.pwr.sleep ≠ .dusk → appliedOf s msg.header.session = some a →
        (msg.header.seqno ≤ a → Responds (.spanPushReceive msg) s msg .ok (taken s msg)) ∧
        (a + 1 < msg.header.seqno → 256 ≤ (heldOf s msg.header.session).length → Responds (.spanPushReceive msg) s msg .destBusy (taken s msg)) ∧
        (a + 1 < msg.header.seqno → (heldOf s msg.header.session).length < 256 → Gives (.spanPushReceive msg) s (fun t =>
          t.map = s.map ∧ appliedOf t msg.header.session = some a ∧ heldOf t msg.header.session = heldOf s msg.header.session ++ [(msg.header.seqno, msg)])) ∧
        (msg.header.seqno = a + 1 → heldOf s msg.header.session = [] →
          (∀ st, pushCheck s msg = some st → Gives (.spanPushReceive msg) s (fun t => t.map = s.map ∧ t.media = s.media ∧ appliedOf t msg.header.session = some a)) ∧
          (pushCheck s msg = none → (msg.header.kind = 1 → msg.header.secure = false) → Gives (.spanPushReceive msg) s (fun t =>
            appliedOf t msg.header.session = some (a + 1) ∧ t.media = s.media ∧ guarded t = guarded s ∧
            (∀ i, i < msg.header.count →
              (msg.header.kind = 2 → mapAt t.map.core msg.header.nsid (msg.header.lba + i) = some .zero) ∧
              (msg.header.kind = 3 → mapAt t.map.core msg.header.nsid (msg.header.lba + i) = some .lost) ∧
              (msg.header.kind = 1 → mapAt t.map.core msg.header.nsid (msg.header.lba + i) = none) ∧
              (msg.header.kind = 0 → ∃ l ∈ t.map.lines, l.nsid = msg.header.nsid ∧ l.lba = msg.header.lba + i ∧ l.stratus = true ∧
                l.data = slice msg.body (4096 * i) 4096)) ∧
            (msg.header.kind = 0 → t.map.core = s.map.core))))) ∧
      (∀ m, accepting s = true → mirrorAt s msg.header.session = some m → m.secondary = false → msg.header.nsid = m.localNsid →
        (nsAt s m.localNsid).elim false (fun n => msg.header.count != 0 && 256 * (msg.header.lba / 256 + msg.header.count) ≤ 256 * divCeil n.nsze 256) = true →
        Responds (.spanPullReceive msg) s msg .ok (modMirror (taken s msg) msg.header.session (fun k => { k with
          dirty := unionSpans k.dirty ((List.range msg.header.count).map (· + msg.header.lba / 256)), sealRefused := [] }))) ∧
      (∀ m n, s.pwr.sleep ≠ .dusk → mirrorAt s msg.header.session = some m → m.secondary = false → msg.header.nsid = m.localNsid → nsAt s m.localNsid = some n →
        1 ≤ msg.header.count → msg.header.lba % 256 + msg.header.count ≤ 256 → msg.header.lba + msg.header.count ≤ n.nsze →
        (m.dirty.contains (msg.header.lba / 256) = true ∨ m.inFlight.contains (msg.header.lba / 256) = true →
          Responds (.repairReqReceive msg media) s msg .notHeld (taken s msg)) ∧
        (m.dirty.contains (msg.header.lba / 256) = false → m.inFlight.contains (msg.header.lba / 256) = false → s.red.st ≠ .held → accepting s = true →
          ∃ (rs : List ReadRes) (s' : State), readBlocks (taken s msg) n msg.header.nsid msg.header.lba msg.header.count (media.map localRead) = (rs, s') ∧
            exec (.repairReqReceive msg media) s = .next (if anyUnrecovered rs || anyGuard rs then respond s' msg .readFail
              else respondWith s' msg .ok (blockBody (mdSize n.lbaf) (okBlocks rs))))) ∧
      (∀ a n, s.pwr.sleep ≠ .dusk → appliedOf s msg.header.session = some a → nsAt s msg.header.nsid = some n → msg.header.seqno ≤ a → sessionNs s msg.header.session msg.header.nsid = true →
        msg.header.lba % 256 = 0 → 1 ≤ field x.record 0x20 8 / 256 → msg.header.lba + 256 * (field x.record 0x20 8 / 256) ≤ n.nsze → isHeld s = false →
        accepting s = true → rangeLocked s msg.header.nsid msg.header.lba (256 * (field x.record 0x20 8 / 256)) = false → x.custody.length < 32 →
        Gives (.sealXferReceive msg x media) s (fun t => (xferVerifies x = false → t.sealing.seals = s.sealing.seals) ∧
          (t.sealing.seals = s.sealing.seals ∨ ∃ y, t.sealing.seals = s.sealing.seals ++ [y] ∧ xferVerifies x = true ∧ y.st = .received ∧ y.nsid = msg.header.nsid ∧
            y.slba = msg.header.lba ∧ y.record = x.record ∧ rootOf y.levels = recordRoot x.record ∧ y.custody.length = x.custody.length + 1))) ∧
      (migrateEntries msg.body ≠ [] → setting s 0x07 13 ≠ 0 → setting s 0x07 13 = ofLE (padTo 20 msg.header.serial) → s.nvme.namespaces = [] → s.red.st = .normal → s.halo.migration = none →
        accepting s = true → sanitizeRuns s = false → 8 * gib * ((migrateEntries msg.body).map (fun e => segmentsOf e.nsze)).sum ≤ exportableNow s →
        ((migrateEntries msg.body).map (·.nsid)).Nodup → Gives (.migrateBeginReceive msg) s (fun t =>
          (∃ g, t.halo.migration = some g ∧ g.session = msg.header.session ∧ g.successor = true ∧ g.st = .passing ∧ g.peer = msg.src ∧
            g.created = (migrateEntries msg.body).map (·.nsid)) ∧
          (∀ e ∈ migrateEntries msg.body, ∃ n, nsAt t e.nsid = some n ∧ n.nsze = e.nsze ∧ n.lbaf = e.lbaf ∧ n.piType = e.piType ∧ n.notReady = true))) ∧
      (∀ g, migAt s msg.header.session = some g → g.successor = true → g.st ≠ .committed →
        Gives (.migrateBeginCancelReceive msg) s (fun t => t.halo.migration = none) ∧
        Responds (.migrateCheckpointReceive msg) s msg .ok (modMig (recordPosition (taken s msg) msg) (fun g => { g with pass := field msg.body 0 4, posNsid := field msg.body 4 4, posSpan := field msg.body 8 8, acked := msg.header.seqno })) ∧
        (g.appliedSeqno < msg.header.seqno ∨ g.sealsReceived < seals → Responds (.migrateCommitReceive msg seals) s msg .incomplete (taken s msg)) ∧
        (msg.header.seqno ≤ g.appliedSeqno → seals ≤ g.sealsReceived → Gives (.migrateCommitReceive msg seals) s (fun t =>
          t.halo.migration.map (·.st) = some .committed ∧ (∀ nsid ∈ g.created, ∀ n, nsAt s nsid = some n → (nsAt t nsid).map (·.notReady) = some false)))) ∧
      (msg.dst ≠ nodeId s → ∀ p : Port, (p = .west → ¬ (((portAt s 0).st = .asleep ∨ (portAt s 0).st = .waking) ∧ (portAt s 0).neighbour = msg.dst)) →
        (portAt s (pIdx p)).st = .asleep → (portAt s (pIdx p)).neighbour = msg.dst → Gives (.wakeReceive msg) s (fun t =>
          (portAt t (pIdx p)).st = .waking ∧ (portAt t (pIdx p)).waking = (portAt s (pIdx p)).waking ++ [(msg.src, msg.header.xid)] ∧ OnlyHalo s t)) ∧
      (msg.dst = nodeId s → Responds (.wakeReceive msg) s msg .ok (taken s msg)))

/-- This node's transactions and sessions (R266 to R283). -/
def Obligations.HaloOwnTransactions : Prop :=
  ∀ s : State,
    (∀ (msg : HaloMessage) (t0 : HaloTxn), txnAt s msg.header.xid = some t0 → msg.header.response = true → msg.header.opcode = t0.msg.header.opcode →
      (msg.header.status = 1 → Gives (.haloResponseReceive msg) s (fun t => ∃ u, txnAt t msg.header.xid = some u ∧ u.msg = t0.msg ∧ u.waiting = false ∧
        u.backoff = (if t0.backoff = 0 then 1 else min 100 (2 * t0.backoff)) ∧ t = { s with halo := t.halo })) ∧
      (∀ m, msg.header.status = 0 → t0.msg.header.opcode = 0x10 → mirrorAt s t0.msg.header.session = some m → s.sealing.seals = [] → (∀ n, (vfAt s n).waiter = none) →
        (s.halo.txns.filter (fun u => u.xid != t0.xid)).any (fun u => u.msg.header.opcode == 0x10 && u.msg.header.session == m.session && u.msg.header.nsid == t0.msg.header.nsid
          && u.msg.header.lba / 256 == t0.msg.header.lba / 256) = false →
        Gives (.haloResponseReceive msg) s (fun t => txnAt t msg.header.xid = none ∧
          (mirrorAt t m.session).map (·.inFlight) = some (m.inFlight.filter (· != t0.msg.header.lba / 256)) ∧ (mirrorAt t m.session).map (·.dirty) = some m.dirty ∧
          t.map = s.map ∧ guarded t = guarded s))) ∧
    (∀ (xid : Nat) (t0 : HaloTxn), txnAt s xid = some t0 → t0.waiting = true →
      (t0.repeated = false → Gives (.haloRequestTimeout xid) s (fun t => (txnAt t xid).map (·.repeated) = some true ∧
        t.halo.sent = s.halo.sent ++ [{ t0.msg with header := { t0.msg.header with retry := true } }] ∧ t = { s with halo := t.halo })) ∧
      (t0.repeated = true → t0.msg.header.opcode = 0x11 → Gives (.haloRequestTimeout xid) s (fun t => txnAt t xid = none ∧ t = { s with halo := t.halo }))) ∧
    (∀ (xid : Nat) (t0 : HaloTxn), txnAt s xid = some t0 → t0.waiting = false → t0.backoff ≠ 0 → Gives (.destBusyRetry xid) s (fun t =>
      (txnAt t xid).map (·.waiting) = some true ∧ t.halo.sent = s.halo.sent ++ [t0.msg] ∧ t = { s with halo := t.halo })) ∧
    (∀ (m : Mirror) (span : Nat) (media : List BlockRead) (n : Namespace), workRuns s = true → ActivePrimary m s → m.resumeDue = false → (∀ p ∈ m.part, p.1 ≠ span) → nsAt s m.localNsid = some n →
      span ∈ m.dirty → 256 * span < n.nsze → (m.synchronous = true ∨ leastSpan (m.dirty.filter (fun x => !m.piSkipped.contains x)) = some span) →
      (∀ i, i < 256 → mapAt s.map.core m.localNsid (256 * span + i) = none ∧ (lineOf s.map.lines m.localNsid (256 * span + i)).isSome = false) →
      Gives (.mirrorPush m.session span media) s (fun t => ∃ m', mirrorAt t m.session = some m' ∧ span ∈ m'.inFlight ∧ span ∉ m'.dirty ∧
        (∃ u, t.halo.txns = s.halo.txns ++ [u] ∧ u.msg.header.opcode = 0x10 ∧ u.msg.header.kind = 1 ∧ u.msg.header.lba = 256 * span ∧
          u.msg.header.count = min 256 (n.nsze - 256 * span) ∧ u.msg.header.session = m.session ∧ u.msg.header.nsid = m.peerNsid ∧ u.msg.dst = m.peer) ∧
        t = { s with halo := t.halo })) ∧
    (∀ m : Mirror, mirrorAt s m.session = some m → m.st = .active → m.synchronous = true → m.secondary = false → (m.inFlight ≠ [] ∨ m.dirty ≠ []) →
      Gives (.mirrorTimeoutExpiry m.session) s (fun t => ∃ m', mirrorAt t m.session = some m' ∧ m'.st = .suspended ∧ m'.inFlight = [] ∧
        (∀ x ∈ m.dirty ++ m.inFlight, x ∈ m'.dirty) ∧ t = { s with halo := t.halo, alm := t.alm })) ∧
    (∀ (g : Migration) (media : List BlockRead), s.halo.migration = some g → g.successor = false →
      (g.st = .final → g.dirty = [] → g.inFlight = [] → g.beginWaiter = none → g.resumeDue = false → workRuns s = true → (asleepNodes s).contains g.peer = false →
        outstandingOf s 0x10 g.session = false → outstandingOf s 0x13 g.session = false → Gives (.migrationPass media) s (fun t =>
          t.halo.migration = some { g with st := .committing } ∧ (∃ u, t.halo.txns = s.halo.txns ++ [u] ∧ u.msg.header.opcode = 0x22 ∧ u.msg.header.seqno = g.nextSeqno - 1 ∧
            u.msg.dst = g.peer) ∧ t = { s with halo := t.halo })) ∧
      (g.st = .final → Gives .commitStallLimitExpiry s (fun t => t.halo.migration = some { g with
        st := .passing, pass := g.pass + 1, todo := g.dirty, sealRefused := [], piSkipped := [] } ∧ OnlyHalo s t)) ∧
      (g.st = .committing → outstandingOf s 0x22 g.session = false → Gives .migrateCommitRepeat s (fun t =>
        t.halo.migration = some g ∧ (∃ u, t.halo.txns = s.halo.txns ++ [u] ∧ u.msg.header.opcode = 0x22 ∧ u.msg.dst = g.peer) ∧ t = { s with halo := t.halo }))) ∧
    (∀ p : Port, s.pwr.phase = .steady → isDeep s.pwr.sleep = true → setting s 0x07 4 = 0 → Gives (.wakeDetect p) s (fun t =>
      t.pwr.phase = .exiting ∧ t.pwr.domainsOff = false ∧ t.pwr.sleep = s.pwr.sleep ∧
      t.pwr.wakeStatus = s.pwr.wakeStatus ||| wakeBit (if p = .east then .haloE else .haloW) ∧
      guarded t = guarded s))

/-- Queues and their commands (R316 to R320). -/
def Obligations.NvmeQueues : Prop :=
  ∀ s : State,
    (∀ (fn : Func) (q v : Nat), (funcAt s fn).memSpace = true → funcExists s fn = true → s.host.perst = false →
      (s.pwr.phase = .steady → s.pwr.sleep ≠ .zenith →
        Gives (.sqTailDoorbell fn q v) s (Wakes 1 s) ∧ Gives (.cqHeadDoorbell fn q v) s (Wakes 1 s)) ∧
      (NoWake s → doorbellsRecorded s fn = true →
        Gives (.sqTailDoorbell fn q v) s (fun t => (ctrlAt t fn).recorded = (ctrlAt s fn).recorded ++ [(false, q, v)] ∧ (ctrlAt t fn).sqs = (ctrlAt s fn).sqs ∧ OnlyCmds s t) ∧
        Gives (.cqHeadDoorbell fn q v) s (fun t => (ctrlAt t fn).recorded = (ctrlAt s fn).recorded ++ [(true, q, v)] ∧ (ctrlAt t fn).cqs = (ctrlAt s fn).cqs ∧ OnlyCmds s t)) ∧
      (NoWake s → doorbellsRecorded s fn = false →
        (∀ x, sqAt s fn q = some x → Gives (.sqTailDoorbell fn q v) s (fun t =>
          sqAt t fn q = some (if v < x.size then { x with tail := v } else x) ∧ (∀ r, r ≠ q → sqAt t fn r = sqAt s fn r) ∧
          (∀ k, k ≠ fn.val → ctrlAt t k = ctrlAt s k) ∧ t.host.ltrUs = 20 ∧ t = { s with nvme := { s.nvme with ctrl := t.nvme.ctrl }, host := t.host })) ∧
        (∀ k, lookup (ctrlAt s fn).cqs q = some k → Gives (.cqHeadDoorbell fn q v) s (fun t =>
          lookup (ctrlAt t fn).cqs q = some (if v < k.size then { k with head := v } else k) ∧ (ctrlAt t fn).sqs = (ctrlAt s fn).sqs ∧
          (∀ k, k ≠ fn.val → ctrlAt t k = ctrlAt s k) ∧ t = { s with nvme := { s.nvme with ctrl := t.nvme.ctrl }, host := t.host })))) ∧
    (∀ (fn : Func) (q : Nat) (e : Sqe) (x : SubQueue), sqAt s fn q = some x → intakeRuns s fn = true → x.head ≠ x.tail → paceAllows s fn e q = true →
      (∀ f ∈ x.cmds, f.sqe.cid ≠ e.cid) → Gives (.commandFetch fn q e) s (fun t =>
        sqAt t fn q = some { x with head := (x.head + 1) % max 1 x.size
                                    cmds := x.cmds ++ [{ sqe := e, order := s.nvme.nextOrder, done := entryRefusal fn q e }] } ∧
        t.nvme.nextOrder = s.nvme.nextOrder + 1 ∧ t.map = s.map ∧ t.media = s.media ∧ guarded t = guarded s)) ∧
    (∀ (c : CmdRef) (f : Fetched) (x : SubQueue) (k : CplQueue) (o : Cpl), (c.fn = 0 ∨ (vfAt s c.fn).st ≠ .quiescing) → cmdAt s c = some f → f.done = some o → postable s c f = true →
      sqAt s c.fn c.sq = some x → lookup (ctrlAt s c.fn).cqs x.cqid = some k → cqRoom k = true → Gives (.completionPost c) s (fun t =>
        cmdAt t c = none ∧ sqAt t c.fn c.sq = some { x with cmds := x.cmds.filter (fun g => g.sqe.cid != c.cid) } ∧
        (lookup (ctrlAt t c.fn).cqs x.cqid).map (·.posted) = some (k.posted ++ [{ sq := c.sq, cid := c.cid, sqHead := x.head, phase := k.phase, cpl := o, out := f.out }]) ∧
        (lookup (ctrlAt t c.fn).cqs x.cqid).map (·.tail) = some ((k.tail + 1) % max 1 k.size) ∧
        ((o.sct = 0 ∧ o.sc = 0) ∨ (ctrlAt t c.fn).errorCount = (ctrlAt s c.fn).errorCount + 1) ∧ t.map.core = s.map.core ∧ t.media = s.media ∧ guarded t = guarded s)) ∧
    (∀ (c : CmdRef) (f : Fetched), c.sq = 0 →
      (CmdTurn c true 0x05 f s → f.sqe.cdw11 % 2 = 1 → 1 ≤ f.sqe.cdw10 % 65536 → f.sqe.cdw10 % 65536 ≤ (ctrlAt s c.fn).granted.elim 0 (fun g => g.2 + 1) →
        lookup (ctrlAt s c.fn).cqs (f.sqe.cdw10 % 65536) = none → 1 ≤ f.sqe.cdw10 / 65536 % 65536 → f.sqe.cdw11 / 65536 < vectorsOf c.fn →
        Gives (.createIoCompletionQueue c) s (fun t => CmdEnds c cplOk t ∧ lookup (ctrlAt t c.fn).cqs (f.sqe.cdw10 % 65536) =
          some { base := f.sqe.prp1, size := f.sqe.cdw10 / 65536 % 65536 + 1, iv := f.sqe.cdw11 / 65536, ien := f.sqe.cdw11 / 2 % 2 == 1 } ∧ OnlyCmds s t)) ∧
      (CmdTurn c true 0x01 f s → f.sqe.cdw11 % 2 = 1 → 1 ≤ f.sqe.cdw10 % 65536 → f.sqe.cdw10 % 65536 ≤ (ctrlAt s c.fn).granted.elim 0 (fun g => g.1 + 1) →
        sqAt s c.fn (f.sqe.cdw10 % 65536) = none → 1 ≤ f.sqe.cdw11 / 65536 → (lookup (ctrlAt s c.fn).cqs (f.sqe.cdw11 / 65536)).isSome = true →
        1 ≤ f.sqe.cdw10 / 65536 % 65536 → Gives (.createIoSubmissionQueue c) s (fun t => CmdEnds c cplOk t ∧
          sqAt t c.fn (f.sqe.cdw10 % 65536) = some { base := f.sqe.prp1, size := f.sqe.cdw10 / 65536 % 65536 + 1, cqid := f.sqe.cdw11 / 65536 } ∧ OnlyCmds s t)) ∧
      (CmdTurn c true 0x00 f s → 1 ≤ f.sqe.cdw10 % 65536 → (sqAt s c.fn (f.sqe.cdw10 % 65536)).isSome = true → Gives (.deleteIoSubmissionQueue c) s (fun t =>
        CmdEnds c cplOk t ∧ sqAt t c.fn (f.sqe.cdw10 % 65536) = none ∧ t.map.core = s.map.core ∧ t.media = s.media ∧ guarded t = guarded s)) ∧
      (CmdTurn c true 0x04 f s → 1 ≤ f.sqe.cdw10 % 65536 → (lookup (ctrlAt s c.fn).cqs (f.sqe.cdw10 % 65536)).isSome = true →
        (ctrlAt s c.fn).sqs.any (fun p => p.1 != 0 && p.2.cqid == f.sqe.cdw10 % 65536) = false → Gives (.deleteIoCompletionQueue c) s (fun t =>
          CmdEnds c cplOk t ∧ lookup (ctrlAt t c.fn).cqs (f.sqe.cdw10 % 65536) = none ∧ OnlyCmds s t)))

/-- Writes, reads, flush and deallocation (R24, R25, R160, R321). -/
def Obligations.NvmeReadWrite : Prop :=
  ∀ (s : State) (c : CmdRef) (f : Fetched) (n : Namespace), c.sq ≠ 0 →
    (∀ blocks : List BlockData, CmdRuns c false 0x01 f s → f.begun = false → (earlier s c).all (fun e => e.begun || e.effect || e.done.isSome) = true →
      IoServed c.fn f.sqe.nsid true n s → transferRefusal s c.fn f.sqe n = none → rangeLocked s f.sqe.nsid (slbaOf f.sqe) (nlbOf f.sqe) = false →
      Gives (.write c blocks) s (fun t =>
        (∀ sc, firstPiFailure n (piAskOf f.sqe) (writeBlocks n f.sqe blocks) = some sc → CmdEnds c (cplMedia sc) t ∧ OnlyCmds s t) ∧
        (firstPiFailure n (piAskOf f.sqe) (writeBlocks n f.sqe blocks) = none → cmdAt t c = some { f with
          begun := true, writeData := writeBlocks n f.sqe blocks, offeredMs := s.time.opMs } ∧ t.nvme.line = s.nvme.line ++ [c] ∧ t.map = s.map ∧
          t = { s with nvme := t.nvme, host := t.host }))) ∧
    (∀ rest, s.nvme.line = c :: rest → cmdAt s c = some f → f.done = none → mayEnter s c f = true → IoServed c.fn f.sqe.nsid true n s →
      rangeLocked s f.sqe.nsid (slbaOf f.sqe) (nlbOf f.sqe) = false → Gives .writeAdmission s (fun t =>
        CmdEnds c cplOk t ∧ t.nvme.line = s.nvme.line.filter (· != c) ∧ t.map.core = s.map.core ∧ t.media = s.media ∧
        (∀ i d, f.writeData[i]? = some d → ∃ l ∈ t.map.lines, l.nsid = f.sqe.nsid ∧ l.lba = slbaOf f.sqe + i ∧ l.data = d.data ∧ l.md = d.md ∧ l.provisional = some c) ∧
        MirrorsDirty f.sqe.nsid (slbaOf f.sqe) (nlbOf f.sqe) s t ∧ guarded t = guarded s)) ∧
    (c ∈ s.nvme.line → cmdAt s c = some f → f.done = none → f.holdTested = false →
      (destagingHeld s = true → Gives (.thermalHoldLimitExpiry c) s (fun t => CmdEnds c thermalHold t ∧ c ∉ t.nvme.line ∧ t.cool.holds = s.cool.holds + 1 ∧
        (s.nvme.holdRun = true → t.alm = s.alm) ∧ t.map = s.map ∧ t.media = s.media ∧ guarded t = guarded s)) ∧
      (destagingHeld s = false → Gives (.thermalHoldLimitExpiry c) s (fun t => cmdAt t c = some { f with holdTested := true } ∧ t.nvme.line = s.nvme.line ∧
        t = { s with nvme := t.nvme }))) ∧
    (IoServed c.fn f.sqe.nsid false n s → ∀ media : List BlockRead,
      (CmdTurn c false 0x02 f s → transferRefusal s c.fn f.sqe n = none → n.piType = 0 →
        (∀ i, i < nlbOf f.sqe → Readable s f.sqe.nsid (slbaOf f.sqe + i) = true) → Gives (.read c media) s (fun t =>
          (∃ g, cmdAt t c = some g ∧ g.done = some cplOk ∧ g.effect = true ∧
            g.out = (List.range (nlbOf f.sqe)).map (fun i => blockNow s n f.sqe.nsid (slbaOf f.sqe + i))) ∧ CmdsAndDram s t)) ∧
      (CmdTurn c false 0x02 f s → transferRefusal s c.fn f.sqe n = none → lineOf s.map.lines f.sqe.nsid (slbaOf f.sqe) = none → nlbOf f.sqe = 1 →
        mapAt s.map.core f.sqe.nsid (slbaOf f.sqe) = some .lost → Gives (.read c media) s (fun t => CmdEnds c unrecovered t ∧ OnlyCmds s t)) ∧
      (CmdTurn c false 0x0C f s → slbaOf f.sqe + nlbOf f.sqe ≤ n.nsze → n.piType = 0 →
        (∀ i, i < nlbOf f.sqe → Readable s f.sqe.nsid (slbaOf f.sqe + i) = true) → Gives (.verify c media) s (fun t =>
          (∃ g, cmdAt t c = some g ∧ g.done = some cplOk ∧ g.out = f.out) ∧ CmdsAndDram s t))) ∧
    (CmdRuns c false 0x00 f s → (earlier s c).all (fun e => e.done.isSome) = true → 
      ((if f.sqe.nsid = 0xFFFFFFFF then sanitizeRuns s = false ∧ s.red.st ≠ .held else ioRefusal s c.fn f.sqe.nsid false = none) →
        Gives (.flush c) s (fun t => CmdEnds c cplOk t ∧ OnlyCmds s t)) ∧
      (f.sqe.nsid = 0xFFFFFFFF → sanitizeRuns s = false → s.red.st = .held → Gives (.flush c) s (fun t => CmdEnds c arrayHeld t ∧ OnlyCmds s t))) ∧
    (CmdTurn c false 0x08 f s → IoServed c.fn f.sqe.nsid true n s → slbaOf f.sqe + nlbOf f.sqe ≤ n.nsze →
      rangeLocked s f.sqe.nsid (slbaOf f.sqe) (nlbOf f.sqe) = false → changeWaits s f.sqe.nsid (slbaOf f.sqe) (nlbOf f.sqe) = false →
      Gives (.writeZeroes c) s (fun t => CmdEnds c cplOk t ∧ (∀ i, i < nlbOf f.sqe →
        mapAt t.map.core f.sqe.nsid (slbaOf f.sqe + i) = (if f.sqe.cdw12 / 2 ^ 25 % 2 = 1 then none else some .zero) ∧
        lineOf t.map.lines f.sqe.nsid (slbaOf f.sqe + i) = none) ∧ TailGrows s t ∧ MirrorsDirty f.sqe.nsid (slbaOf f.sqe) (nlbOf f.sqe) s t ∧
        t.media = s.media ∧ guarded t = guarded s)) ∧
    (∀ ranges : List DsmRange, CmdTurn c false 0x09 f s → IoServed c.fn f.sqe.nsid (f.sqe.cdw11 / 4 % 2 == 1) n s →
      prpBad s c.fn f.sqe (16 * (f.sqe.cdw10 % 256 + 1)) = false →
      (f.sqe.cdw11 / 4 % 2 = 0 → Gives (.datasetManagement c ranges) s (fun t => CmdEnds c cplOk t ∧ OnlyCmds s t)) ∧
      (f.sqe.cdw11 / 4 % 2 = 1 → (∀ r ∈ dsmRanges f.sqe ranges, r.slba + r.len ≤ n.nsze ∧ rangeLocked s f.sqe.nsid r.slba r.len = false ∧
          poolHolds s f.sqe.nsid r.slba r.len = false) → journalHolds s (dsmRanges f.sqe ranges).length = false → migrationHolds s = false →
        Gives (.datasetManagement c ranges) s (fun t => CmdEnds c cplOk t ∧ (∀ r ∈ dsmRanges f.sqe ranges, ∀ i, i < r.len →
          mapAt t.map.core f.sqe.nsid (r.slba + i) = none ∧ lineOf t.map.lines f.sqe.nsid (r.slba + i) = none) ∧ TailGrows s t ∧ t.media = s.media ∧ guarded t = guarded s)))

/-- The vendor commands (R162, R228 to R231, R241 to R244, R327 to R330). -/
def Obligations.NvmeVendorCommands : Prop :=
  ∀ (s : State) (c : CmdRef) (f : Fetched) (n : Namespace), c.sq ≠ 0 →
    (∀ un : List Nat, CmdRuns c false 0x85 f s →
      (f.begun = false → inTurn s c = true → IoServed c.fn f.sqe.nsid true n s → vendorReserved f.sqe false = false → 1 ≤ vendorNlb f.sqe →
        slbaOf f.sqe + vendorNlb f.sqe ≤ n.nsze → rangeLocked s f.sqe.nsid (slbaOf f.sqe) (vendorNlb f.sqe) = false → secureOverlaps s f = false →
        changeWaits s f.sqe.nsid (slbaOf f.sqe) (vendorNlb f.sqe) = false → Gives (.secureDeallocate c un) s (fun t =>
          cmdAt t c = some { f with begun := true, effect := true, bands := bandsHolding s.map.core f.sqe.nsid (slbaOf f.sqe) (vendorNlb f.sqe) } ∧
          (∀ i, i < vendorNlb f.sqe → mapAt t.map.core f.sqe.nsid (slbaOf f.sqe + i) = none ∧ lineOf t.map.lines f.sqe.nsid (slbaOf f.sqe + i) = none) ∧
          (∀ b ∈ bandsHolding s.map.core f.sqe.nsid (slbaOf f.sqe) (vendorNlb f.sqe), (bandAt t.map.core b).map (·.secure) = some true) ∧
          MirrorsDirty f.sqe.nsid (slbaOf f.sqe) (vendorNlb f.sqe) s t ∧ t.media = s.media ∧ guarded t = guarded s)) ∧
      (f.begun = true → isHeld s = false → secureDone s f.bands = true → mirroredSync s f.sqe.nsid (slbaOf f.sqe) (vendorNlb f.sqe) = true →
        Gives (.secureDeallocate c un) s (fun t => CmdEnds c cplOk t ∧ OnlyCmds s t))) ∧
    (∀ media : List BlockRead, CmdRuns c false 0x81 f s → nsAt s f.sqe.nsid = some n →
      (f.begun = false → inTurn s c = true → sealRefusal s c.fn f.sqe n = none → migrationHolds s = false → Gives (.sealCmd c media) s (fun t =>
        cmdAt t c = some { f with begun := true, effect := true, sealId := s.sealing.nextId } ∧ t.sealing.nextId = s.sealing.nextId + 1 ∧
        t.sealing.seals = s.sealing.seals ++ [{ id := s.sealing.nextId, nsid := f.sqe.nsid, st := .sealing, slba := slbaOf f.sqe
                                                spans := vendorNlb f.sqe / 256, busy := true }] ∧ t.map.core = s.map.core ∧
        (lineOf t.map.lines storeNsid (entryLoc s.sealing.nextId / 4096)).isSome = true ∧ t.media = s.media ∧ guarded t = guarded s)) ∧
      (∀ x, f.begun = true → sealById s f.sealId = some x →
        (x.levels = [] → x.nsid = f.sqe.nsid → n.piType = 0 → journalHolds s 1 = false → secureOverlaps s f = false → isHeld s = false →
          (∀ i, i < 256 * x.spans → Readable s x.nsid (x.slba + i) = true) → Gives (.sealCmd c media) s (fun t =>
            let levels := sealLevels ((List.range (256 * x.spans)).map (fun i => blockNow s n x.nsid (x.slba + i)))
            (sealStoreSize s < sealStoreUsed s + sealBytes levels → CmdEnds c capacityExceeded t ∧ sealById t f.sealId = none ∧ t.map.core = s.map.core) ∧
            (sealStoreUsed s + sealBytes levels ≤ sealStoreSize s → (∀ sp, sp < x.spans → spanSealed t.map.core x.nsid (x.slba / 256 + sp) = true) ∧
              (sealById t f.sealId).map (·.levels) = some levels ∧ (∀ k, k ≠ f.sealId → sealById t k = sealById s k) ∧ t.map.core.entries = s.map.core.entries) ∧
            t.media = s.media ∧ guarded t = guarded s)) ∧
        (x.levels ≠ [] → sealJournalWaits s x = false → Gives (.sealCmd c media) s (fun t =>
          (∃ g, cmdAt t c = some g ∧ g.done = some { cplOk with dw0 := x.id % 2 ^ 32, dw1 := x.id / 2 ^ 32 } ∧ g.out = [{ data := x.record }]) ∧
          sealById t f.sealId = some { x with st := .issued, busy := false } ∧ t.map.core = s.map.core ∧ guarded t = guarded s)))) ∧
    (∀ (media : List BlockRead) (rep : List (Nat × List BlockData)), CmdRuns c false 0x8D f s →
      (∀ x, f.outcome = none → inTurn s c = true → nsAt s f.sqe.nsid = some n → auditRefusal s c.fn f.sqe n = none → auditSeal s f.sqe = some x →
        f.sqe.cdw13 = 0 → Gives (.auditRange c media rep) s (fun t =>
          (∃ g o, cmdAt t c = some g ∧ g.done = some o ∧ 1 ≤ o.dw0 ∧ o.dw0 ≤ 4 ∧ (o.dw0 = 3 ↔ o.sct = 7 ∧ o.sc = 0xC3) ∧
            ∃ y, sealById t x.id = some y ∧ y.auditResult = o.dw0 ∧ y.busy = false ∧ y.auditHours = opHours s) ∧ guarded t = guarded s)) ∧
      (∀ o, f.outcome = some o → (∀ b ∈ f.bands, (bandAt s.map.core b).elim true (fun b => b.retQueued == 0) = true) →
        Gives (.auditRange c media rep) s (fun t => CmdEnds c o t ∧ OnlyCmds s t)))

/-- Reports, Abort and features (R316 to R318, R322 to R324, R336 to R339). -/
def Obligations.AdminReportsAndFeatures : Prop :=
  ∀ (s : State) (c : CmdRef) (f : Fetched),
    (CmdTurn c true 0x02 f s → (logPage s c.fn (f.sqe.cdw10 % 256)).isSome = true → (f.sqe.cdw10 % 256 = 2 → f.sqe.nsid = 0 ∨ f.sqe.nsid = 0xFFFFFFFF) →
      prpBad s c.fn f.sqe (4 * (f.sqe.cdw10 / 65536 + f.sqe.cdw11 % 65536 * 65536 + 1)) = false →
      Gives (.getLogPage c) s (fun t => (∃ g, cmdAt t c = some g ∧ g.done = some cplOk ∧ g.out.map (·.data) =
          [padTo (4 * (f.sqe.cdw10 / 65536 + f.sqe.cdw11 % 65536 * 65536 + 1)) (((logPage s c.fn (f.sqe.cdw10 % 256)).map (·.1)).getD [])]) ∧
        (f.sqe.cdw10 % 256 = 4 → f.sqe.cdw10 / 32768 % 2 = 0 → (ctrlAt t c.fn).changedNs = []) ∧ t.map = s.map ∧ t.media = s.media ∧ guarded t = guarded s)) ∧
    (CmdTurn c true 0x06 f s →
      (∀ b, identifyData s c.fn f.sqe = some (.ok b) → prpBad s c.fn f.sqe b.length = false → Gives (.identifyCommand c) s (fun t =>
        (∃ g, cmdAt t c = some g ∧ g.done = some cplOk ∧ g.out = [{ data := b }]) ∧ OnlyCmds s t)) ∧
      (∀ e, identifyData s c.fn f.sqe = some (.error e) → Gives (.identifyCommand c) s (fun t => CmdEnds c e t ∧ OnlyCmds s t)) ∧
      (identifyData s c.fn f.sqe = none → Gives (.identifyCommand c) s (fun t => CmdEnds c invalidField t ∧ OnlyCmds s t))) ∧
    (CmdRuns c true 0x08 f s → (if c.fn = 0 then 8 else 4) ≤ abortsBefore s c → Gives (.abort c) s (fun t => CmdEnds c (cplCmd 0x03) t ∧ OnlyCmds s t)) ∧
    (CmdRuns c true 0x08 f s → abortsBefore s c < (if c.fn = 0 then 8 else 4) → ∀ k : CmdRef, k = { fn := c.fn, sq := f.sqe.cdw10 % 65536, cid := f.sqe.cdw10 / 65536 } →
      (∀ g, cmdAt s k = some g → tooLate s k g = false → k ≠ c → Gives (.abort c) s (fun t =>
        CmdEnds k abortRequested t ∧ CmdEnds c cplOk t ∧ t.map.core = s.map.core ∧ t.media = s.media ∧ guarded t = guarded s)) ∧
      ((∀ g, cmdAt s k = some g → tooLate s k g = true) → Gives (.abort c) s (fun t => CmdEnds c { cplOk with dw0 := 1 } t ∧ OnlyCmds s t))) ∧
    (CmdRuns c true 0x0C f s → c.cid ∉ (ctrlAt s c.fn).aers → (ctrlAt s c.fn).aers.length < (if c.fn = 0 then 16 else 4) →
      ((∀ e ∈ (ctrlAt s c.fn).events, e.1 ∈ (ctrlAt s c.fn).maskedEvents) → Gives (.asynchronousEventRequest c) s (fun t =>
        (ctrlAt t c.fn).aers = (ctrlAt s c.fn).aers ++ [c.cid] ∧ cmdAt t c = some f ∧ OnlyCmds s t)) ∧
      (∀ ty info log rest, (ctrlAt s c.fn).events = (ty, info, log) :: rest → ty ∉ (ctrlAt s c.fn).maskedEvents → Gives (.asynchronousEventRequest c) s (fun t =>
        CmdEnds c { cplOk with dw0 := ty + info * 256 + log * 65536 } t ∧ (ctrlAt t c.fn).events = rest ∧ ty ∈ (ctrlAt t c.fn).maskedEvents ∧ OnlyCmds s t))) ∧
    (FeatureTurn c 0x01 f s → Gives (.setFeaturesArbitration c) s (fun t => CmdEnds c cplOk t ∧ (ctrlAt t c.fn).arbitration = f.sqe.cdw11 ∧ OnlyCmds s t)) ∧
    (FeatureTurn c 0x02 f s →
      (c.fn = 0 → f.sqe.cdw11 % 32 ≤ 6 → Gives (.setFeaturesPowerManagement c) s (fun t => CmdEnds c cplOk t ∧ t.nvme.powerSelected = f.sqe.cdw11 % 32 ∧
        t.nvme.powerReturn = (if f.sqe.cdw11 % 32 ≤ 3 then f.sqe.cdw11 % 32 else s.nvme.powerReturn) ∧ t = { s with nvme := t.nvme })) ∧
      (c.fn ≠ 0 → Gives (.setFeaturesPowerManagement c) s (fun t => CmdEnds c (if f.sqe.cdw11 % 32 = 0 then cplOk else invalidField) t ∧ OnlyCmds s t))) ∧
    (FeatureTurn c 0x04 f s → f.sqe.cdw11 / 2 ^ 20 % 4 ≤ 1 → f.sqe.cdw11 / 65536 % 16 ≤ 3 ∨ f.sqe.cdw11 / 65536 % 16 = 15 →
      Gives (.setFeaturesTemperatureThreshold c) s (fun t => CmdEnds c cplOk t ∧ (∀ i, i ≤ 3 → f.sqe.cdw11 / 65536 % 16 = i ∨ f.sqe.cdw11 / 65536 % 16 = 15 →
        thresholdK (ctrlAt t c.fn) i (f.sqe.cdw11 / 2 ^ 20 % 4) = f.sqe.cdw11 % 65536) ∧ t.map = s.map ∧ t.media = s.media ∧ t.cool = s.cool ∧ guarded t = guarded s)) ∧
    (FeatureTurn c 0x07 f s → (ctrlAt s c.fn).sqs.any (fun p => p.1 != 0) = false → (ctrlAt s c.fn).cqs.any (fun p => p.1 != 0) = false →
      Gives (.setFeaturesNumberOfQueues c) s (fun t => CmdEnds c { cplOk with dw0 := (queuePairs c.fn - 1) + 65536 * (queuePairs c.fn - 1) } t ∧
        (ctrlAt t c.fn).granted = some (queuePairs c.fn - 1, queuePairs c.fn - 1) ∧ OnlyCmds s t)) ∧
    (FeatureTurn c 0x08 f s → Gives (.setFeaturesInterruptCoalescing c) s (fun t => CmdEnds c cplOk t ∧ (ctrlAt t c.fn).intCoal = f.sqe.cdw11 % 65536 ∧ OnlyCmds s t)) ∧
    (FeatureTurn c 0x09 f s → f.sqe.cdw11 % 65536 < vectorsOf c.fn → Gives (.setFeaturesInterruptVectorConfig c) s (fun t => CmdEnds c cplOk t ∧
      (f.sqe.cdw11 % 65536 ∈ (ctrlAt t c.fn).coalDisabled ↔ f.sqe.cdw11 / 65536 % 2 = 1) ∧ OnlyCmds s t)) ∧
    (FeatureTurn c 0x0B f s → Gives (.setFeaturesAsyncEventConfig c) s (fun t => CmdEnds c cplOk t ∧ (ctrlAt t c.fn).aec = f.sqe.cdw11 ∧ OnlyCmds s t)) ∧
    (∀ table : List (Nat × Nat), FeatureTurn c 0x0C f s → (∀ e ∈ table, e.2 = 0 ∨ (4 ≤ e.1 ∧ e.1 ≤ 6)) → Gives (.setFeaturesApst c table) s (fun t =>
      CmdEnds c cplOk t ∧ t.nvme.apst = table.take 32 ∧ t.nvme.apstEnable = (f.sqe.cdw11 % 2 == 1) ∧ t = { s with nvme := t.nvme })) ∧
    (∀ v : BitVec 48, FeatureTurn c 0x0E f s → Gives (.setFeaturesTimestamp c v) s (fun t => CmdEnds c cplOk t ∧ t.time = { s.time with calendar := v } ∧
      (max s.time.calendar.toNat v.toNat - min s.time.calendar.toNat v.toNat ≤ 1000 → t.alm = s.alm) ∧ t.map = s.map ∧ guarded t = guarded s)) ∧
    (FeatureTurn c 0x10 f s → hctmAllowed (f.sqe.cdw11 / 65536 % 65536) (f.sqe.cdw11 % 65536) = true → Gives (.setFeaturesHctm c) s (fun t =>
      CmdEnds c cplOk t ∧ t.nvme.tmt1 = f.sqe.cdw11 / 65536 % 65536 ∧ t.nvme.tmt2 = f.sqe.cdw11 % 65536 ∧ t = { s with nvme := t.nvme })) ∧
    (∀ dw0 data, CmdTurn c true 0x0A f s → f.sqe.cdw10 / 256 % 8 = 0 → featureValue s c.fn f.sqe = some (dw0, data) → Gives (.getFeatures c) s (fun t =>
      (∃ g, cmdAt t c = some g ∧ g.done = some { cplOk with dw0 := dw0 } ∧ (data ≠ [] → g.out = [{ data := data }])) ∧ OnlyCmds s t))

/-- Namespaces, Format and Sanitize (R225, R333 to R335). -/
def Obligations.NamespacesAndSanitize : Prop :=
  ∀ (s : State) (c : CmdRef) (f : Fetched),
    (∀ (p : NsParams) (nsid : Nat), CmdTurn c true 0x0D f s → f.sqe.cdw10 % 16 = 0 → managementRefusal s = none → p.ncap = p.nsze → 1 ≤ p.nsze →
      formatAllowed (p.flbas % 16) (p.dps % 8) = true → p.flbas < 32 → p.dps < 16 → freeNsid s = some nsid → capacityHolds s p.nsze = true →
      journalHolds s 1 = false → Gives (.namespaceCreate c p) s (fun t => CmdEnds c { cplOk with dw0 := nsid } t ∧
        nsAt t nsid = some { nsze := p.nsze, lbaf := p.flbas % 16, piType := p.dps % 8, piFirst := p.dps / 8 % 2 == 1, extended := p.flbas / 16 % 2 == 1 } ∧
        (∀ k, k ≠ nsid → nsAt t k = nsAt s k) ∧ (s.mbx.mediaEncrypt = true → (lookup t.sealing.keys nsid).isSome = true) ∧
        t.map.core = { s.map.core with segs := t.map.core.segs } ∧ TailGrows s t ∧
        lookup t.map.core.segs nsid = some (readAt [] s.map.core.segs nsid ++ newSegments s.map.core (segmentsOf p.nsze)) ∧
        t.media = s.media ∧ guarded t = { guarded s with settings := removeSetting s.settings (0x01, 9, nsid) })) ∧
    (CmdTurn c true 0x0D f s → f.sqe.cdw10 % 16 = 1 → namedNs s f.sqe.nsid ≠ [] →
      (f.begun = false → managementRefusal s = none → (∀ n ∈ namedNs s f.sqe.nsid, nsSealed s n = false ∧ beingSealed s n 0 ((nsAt s n).elim 0 (·.nsze)) = false) →
        journalHolds s (2 * (namedNs s f.sqe.nsid).length) = false → Gives (.namespaceDelete c) s (fun t =>
          (cmdAt t c).map (·.begun) = some true ∧ (∀ n ∈ namedNs s f.sqe.nsid, ∀ x, nsAt s n = some x → (nsAt t n).map (·.attached) = some [] ∧
            ∀ lba, lba < x.nsze → mapAt t.map.core n lba = none) ∧ t.media = s.media ∧ guarded t = guarded s)) ∧
      (f.begun = true → (∀ n ∈ namedNs s f.sqe.nsid, nsJournalWaits s n = false) → Gives (.namespaceDelete c) s (fun t =>
        CmdEnds c cplOk t ∧ (∀ n ∈ namedNs s f.sqe.nsid, nsAt t n = none ∧ lookup t.sealing.keys n = none) ∧
        (∀ k, k ∉ namedNs s f.sqe.nsid → nsAt t k = nsAt s k) ∧ t.map = s.map ∧ t.media = s.media ∧
        guarded t = { guarded s with settings := (namedNs s f.sqe.nsid).foldl (fun l n => removeSetting l (0x01, 9, n)) s.settings }))) ∧
    (∀ (l : List Nat) (n : Namespace), CmdTurn c true 0x15 f s → sanitizeRuns s = false → nsAt s f.sqe.nsid = some n → ctrlsValid s l = true →
      (f.sqe.cdw10 % 16 = 0 → (∀ id ∈ l, id - 1 ∉ n.attached ∧ (id = 1 ∨ vfAttachments s (id - 1) < 64)) → Gives (.namespaceAttach c l) s (fun t =>
        CmdEnds c cplOk t ∧ nsAt t f.sqe.nsid = some { n with attached := unionSpans n.attached (l.map (· - 1)) } ∧
        (∀ k, k ≠ f.sqe.nsid → nsAt t k = nsAt s k) ∧ t.map = s.map ∧ guarded t = guarded s)) ∧
      (f.sqe.cdw10 % 16 = 1 → (∀ id ∈ l, id - 1 ∈ n.attached) → Gives (.namespaceDetach c l) s (fun t =>
        CmdEnds c cplOk t ∧ (∀ id ∈ l, ∀ x, nsAt t f.sqe.nsid = some x → id - 1 ∉ x.attached) ∧ (nsAt t f.sqe.nsid).map (·.nsze) = some n.nsze ∧
        (∀ k, k ≠ f.sqe.nsid → nsAt t k = nsAt s k) ∧ t.map = s.map ∧ guarded t = guarded s))) ∧
    (∀ n : Namespace, CmdTurn c true 0x80 f s → nsAt s f.sqe.nsid = some n →
      (f.begun = false → managementRefusal s = none → f.sqe.cdw10 / 512 % 8 = 0 → formatAllowed (f.sqe.cdw10 % 16) (f.sqe.cdw10 / 32 % 8) = true →
        f.sqe.cdw10 / 4096 % 4 = 0 → nsSealed s f.sqe.nsid = false → nsBusy s f.sqe.nsid = false → journalHolds s 1 = false → Gives (.formatNvm c) s (fun t =>
          (cmdAt t c).map (·.begun) = some true ∧ nsAt t f.sqe.nsid = some { n with lbaf := f.sqe.cdw10 % 16, piType := f.sqe.cdw10 / 32 % 8, piFirst := f.sqe.cdw10 / 256 % 2 == 1, extended := f.sqe.cdw10 / 16 % 2 == 1 } ∧
          (∀ lba, lba < n.nsze → mapAt t.map.core f.sqe.nsid lba = none ∧ lineOf t.map.lines f.sqe.nsid lba = none) ∧
          (∀ k, k ≠ f.sqe.nsid → nsAt t k = nsAt s k) ∧ t.media = s.media ∧ guarded t = guarded s)) ∧
      (f.begun = true → nsJournalWaits s f.sqe.nsid = false → Gives (.formatNvm c) s (fun t => CmdEnds c cplOk t ∧ OnlyCmds s t))) ∧
    (CmdTurn c true 0x84 f s → sanitizeRuns s = false → f.sqe.cdw10.testBit 9 = false → sessionsForbidSanitize s = false →
      (f.sqe.cdw10 % 8 = 2 → grantValid s 1 = true → ∀ un, Gives (.sanitizeBlockErase c un) s (fun t => CmdEnds c cplOk t ∧ t.nvme.sanitize.running = 1 ∧
        t.nvme.sanitize.sstat = 2 ∧ (∀ g ∈ t.nvme.sanitize.grants, g.1 ≠ 1) ∧ t.sealing.seals = [] ∧ t.map.lines = [] ∧ t.map.core = s.map.core ∧ guarded t = guarded s)) ∧
      (f.sqe.cdw10 % 8 = 4 → grantValid s 2 = true → s.mbx.mediaEncrypt = true → Gives (.sanitizeCryptoErase c) s (fun t => CmdEnds c cplOk t ∧
        t.nvme.sanitize.running = 2 ∧ t.nvme.sanitize.sstat = 2 ∧ (∀ g ∈ t.nvme.sanitize.grants, g.1 ≠ 2) ∧ t.sealing.seals = [] ∧ t.map.lines = [] ∧ guarded t = guarded s))) ∧
    (cmdAt s c = none → s.boot.intake = true →
      (s.nvme.sanitize.running = 1 → ∀ un, Gives (.sanitizeBlockErase c un) s (fun t => t.nvme.sanitize.running = 0 ∧ t.nvme.sanitize.sstat = 1 ∧
        t.map.core.entries = [] ∧ t.map.tail = [] ∧ guarded t = guarded s)) ∧
      (s.nvme.sanitize.running = 2 → Gives (.sanitizeCryptoErase c) s (fun t => t.nvme.sanitize.running = 0 ∧ t.nvme.sanitize.sstat = 1 ∧
        t.map.core.entries = [] ∧ t.map.tail = [] ∧ guarded t = guarded s)))

/-- Controllers, firmware, self-test and VFs by command (R172, R320, R341, R342, R346 to R351, R505 to R510). -/
def Obligations.ControllersTestsAndCommits : Prop :=
  ∀ s : State,
    (barReached s 0 = true → (ctrlAt s 0).cc &&& 1 = 0 → (ctrlAt s 0).rdy = false → s.boot.intake = true → Gives (.ccEnSet 0) s (fun t =>
      (ctrlAt t 0).rdy = true ∧ (ctrlAt t 0).cc = (ctrlAt s 0).cc ||| 1 ∧
      sqAt t 0 0 = some { base := (ctrlAt s 0).asq.toNat, size := (ctrlAt s 0).aqa.toNat % 4096 + 1, cqid := 0 } ∧
      lookup (ctrlAt t 0).cqs 0 = some { base := (ctrlAt s 0).acq.toNat, size := (ctrlAt s 0).aqa.toNat / 65536 % 4096 + 1, iv := 0, ien := true } ∧
      (∀ k, k ≠ 0 → ctrlAt t k = ctrlAt s k) ∧ t.map.core = s.map.core ∧ guarded t = guarded s)) ∧
    (∀ fn : Func, barReached s fn = true → (ctrlAt s fn).cc &&& 1 ≠ 0 →
      (s.fw.intakeStalled = false → Gives (.ccEnClear fn) s (fun t => (ctrlAt t fn).rdy = false ∧ (ctrlAt t fn).cc = 0 ∧ (ctrlAt t fn).sqs = [] ∧ (ctrlAt t fn).cqs = [] ∧
        (ctrlAt t fn).aqa = (ctrlAt s fn).aqa ∧ (ctrlAt t fn).asq = (ctrlAt s fn).asq ∧ (ctrlAt t fn).acq = (ctrlAt s fn).acq ∧ t.map.core = s.map.core ∧ t.media = s.media ∧ guarded t = guarded s)) ∧
      (s.fw.intakeStalled = true → Gives (.ccEnClear fn) s (fun t => t = { s with fw := { s.fw with deferred := s.fw.deferred ++ [(fn.val, 0)] } })) ∧
      ((ctrlAt s fn).shst = 0 → Gives (.shutdownNotification fn) s (fun t =>
        (ctrlAt t fn).shst = (if fn = 0 ∧ ¬ ((dirtyLines s.map.lines).isEmpty = true ∧ s.map.tail.isEmpty = true) then 1 else 2) ∧
        (fn ≠ 0 → OnlyCmds s t) ∧ t.map.core = s.map.core ∧ guarded t = guarded s))) ∧
    ((ctrlAt s 0).shst = 1 → Gives .cleanStopDestageTimeout s (fun t => (ctrlAt t 0).shst = 2 ∧ t.map.cleanStop = true ∧
      (anyInService s = true → t.map.emergency.length = s.map.emergency.length + 1 ∧ t.map.emergency.getLast?.map (·.cause) = some 3) ∧
      t.map.core = s.map.core ∧ (s.map.emergencyReady = false → t.media = s.media) ∧ guarded t = guarded s)) ∧
    (∀ (c : CmdRef) (f : Fetched),
      (∀ data, CmdTurn c true 0x11 f s → 4 * (f.sqe.cdw10 + 1) % 65536 = 0 → 4 * f.sqe.cdw11 % 65536 = 0 → 4 * (f.sqe.cdw10 + 1) ≤ 2 * mib →
        4 * f.sqe.cdw11 + 4 * (f.sqe.cdw10 + 1) ≤ 16 * mib → prpBad s c.fn f.sqe (4 * (f.sqe.cdw10 + 1)) = false →
        (f.sqe.cdw11 = 0 ∨ s.fw.staged.any (fun p => p.1 < 4 * f.sqe.cdw11 + 4 * (f.sqe.cdw10 + 1) && 4 * f.sqe.cdw11 < p.1 + p.2.length) = false) →
        Gives (.firmwareImageDownload c data) s (fun t => CmdEnds c cplOk t ∧ t.fw = { s.fw with staged := (if f.sqe.cdw11 = 0 then [] else s.fw.staged) ++ [(4 * f.sqe.cdw11, padTo (4 * (f.sqe.cdw10 + 1)) data)] } ∧
          t = { s with fw := t.fw, nvme := { s.nvme with ctrl := t.nvme.ctrl } })) ∧
      (CommitTurn c 0 f s → Gives (.firmwareCommitAction0 c true) s (fun t => t.fw.staged = [] ∧ t.fw.namedSlot = s.fw.namedSlot ∧ t.fw.activeSlot = s.fw.activeSlot ∧
        (∀ x, slotWrite s.fw false true = .ok x → CmdEnds c cplOk t ∧ slotAt t.fw (inactiveSlot s.fw) = x) ∧
        (∀ e, slotWrite s.fw false true = .error e → CmdEnds c e t ∧ slotAt t.fw (inactiveSlot s.fw) = {}) ∧ guarded t = guarded s)) ∧
      (CommitTurn c 1 f s → Gives (.firmwareCommitAction1 c true) s (fun t => t.fw.staged = [] ∧ t.fw.activeSlot = s.fw.activeSlot ∧
        (∀ x, slotWrite s.fw false true = .ok x → CmdEnds c cplOk t ∧ slotAt t.fw (inactiveSlot s.fw) = x ∧ t.fw.namedSlot.val = inactiveSlot s.fw) ∧
        (∀ e, slotWrite s.fw false true = .error e → CmdEnds c e t ∧ t.fw.namedSlot = s.fw.namedSlot) ∧ guarded t = guarded s)) ∧
      (CommitTurn c 2 f s → (slotAt s.fw (f.sqe.cdw10 % 8 - 1)).state = .committed → s.fw.antiRollback ≤ (slotAt s.fw (f.sqe.cdw10 % 8 - 1)).rollback →
        (s.fw.policy = true → (slotAt s.fw (f.sqe.cdw10 % 8 - 1)).countersignature.isSome = true) → Gives (.firmwareCommitAction2 c) s (fun t =>
          CmdEnds c cplOk t ∧ t.fw.namedSlot.val = f.sqe.cdw10 % 8 - 1 ∧ t.fw.slots = s.fw.slots ∧ guarded t = guarded s)) ∧
      (CommitTurn c 3 f s → Gives (.firmwareCommitAction3 c true) s (fun t =>
        (∀ x, slotWrite s.fw true true = .ok x → t.fw.handover = .loading ∧ t.fw.commit = some (c.fn.val, c.sq, c.cid, 3) ∧ slotAt t.fw (inactiveSlot s.fw) = x ∧ cmdAt t c = some f) ∧
        (∀ e, slotWrite s.fw true true = .error e → CmdEnds c e t ∧ t.fw.handover = s.fw.handover) ∧ guarded t = guarded s)) ∧
      (CmdTurn c true 0x14 f s →
        (sanitizeRuns s = false → s.nvme.selfTest.kind = 0 → (f.sqe.nsid = 0 ∨ f.sqe.nsid = 0xFFFFFFFF ∨ (nsAt s f.sqe.nsid).isSome = true) →
          (f.sqe.cdw10 % 16 = 1 → Gives (.deviceSelfTestShort c) s (fun t => CmdEnds c cplOk t ∧ t.nvme.selfTest.kind = 1 ∧ t.nvme.selfTest.fn = c.fn.val ∧
            t.nvme.selfTest.results = s.nvme.selfTest.results ∧ t = { s with nvme := t.nvme })) ∧
          (f.sqe.cdw10 % 16 = 2 → Gives (.deviceSelfTestExtended c) s (fun t => CmdEnds c cplOk t ∧ t.nvme.selfTest.kind = 2 ∧ t = { s with nvme := t.nvme }))) ∧
        (f.sqe.cdw10 % 16 = 15 → Gives (.deviceSelfTestAbort c) s (fun t => CmdEnds c cplOk t ∧ t.nvme.selfTest.kind = 0 ∧
          (s.nvme.selfTest.kind ≠ 0 → t.nvme.selfTest.results.head?.map (·.1) = some (16 * s.nvme.selfTest.kind + 1)) ∧ t = { s with nvme := t.nvme }))) ∧
      (∀ n, c.fn = 0 → CmdTurn c true 0x1C f s → n = f.sqe.cdw10 / 65536 - 1 → 1 ≤ n → n ≤ 127 →
        (f.sqe.cdw10 % 16 = 9 → (vfAt s n).st = .offline → (vfAt s n).configured = true → Gives (.virtualizationManagementOnline c) s (fun t =>
          CmdEnds c cplOk t ∧ (vfAt t n).st = .online ∧ t.map = s.map ∧ guarded t = guarded s)) ∧
        (f.sqe.cdw10 % 16 = 7 → (vfAt s n).st ≠ .none → Gives (.virtualizationManagementOffline c) s (fun t =>
          CmdEnds c cplOk t ∧ (vfAt t n).st = .offline ∧ ((vfAt s n).st ≠ .offline → (ctrlAt t n).sqs = [] ∧ (ctrlAt t n).rdy = false) ∧ t.map.core = s.map.core ∧ guarded t = guarded s)))) ∧
    (s.nvme.selfTest.kind ≠ 0 → s.nvme.selfTest.segment + 1 < segmentsOfTest s.nvme.selfTest.kind → deviceIdle s = true → s.dram.frozen = false →
      Gives (.selfTestResume [true]) s (fun t => t.nvme.selfTest.segment = s.nvme.selfTest.segment + 1 ∧ t.nvme.selfTest.kind = s.nvme.selfTest.kind ∧
        t.nvme.selfTest.percent = 100 * (s.nvme.selfTest.segment + 1) / segmentsOfTest s.nvme.selfTest.kind ∧ t = { s with nvme := t.nvme }) ∧
      Gives (.selfTestResume [false]) s (fun t => t.nvme.selfTest.kind = 0 ∧ t.nvme.selfTest.results.head? =
        some (16 * s.nvme.selfTest.kind + 7, s.nvme.selfTest.segment + 1, opHours s, s.nvme.selfTest.nsid) ∧ guarded t = guarded s))

/-- Resets and power states of functions (R301, R307 to R310, R349, R351). -/
def Obligations.PcieResets : Prop :=
  ∀ s : State,
    (∀ fn : Func, funcExists s fn = true → s.host.perst = false → s.host.configReady = true → (funcAt s fn).flrWait = false →
      (s.fw.intakeStalled = false → Gives (.functionLevelReset fn) s (fun t => (funcAt t fn).flrWait = true ∧ t.host.counters.flr = s.host.counters.flr + 1 ∧
        (∀ k, k ≠ fn.val → funcAt t k = funcAt s k) ∧ t = { s with host := t.host })) ∧
      (s.fw.intakeStalled = true → Gives (.functionLevelReset fn) s (fun t => t = { s with fw := { s.fw with deferred := s.fw.deferred ++ [(fn.val, 1)] } }))) ∧
    (∀ (fn : Func) (n : Nat), (funcAt s fn).flrWait = true → Gives (.flrWaitEnd fn n) s (fun t => (funcAt t fn).flrWait = false ∧ (funcAt t fn).busMaster = false ∧
      (funcAt t fn).msixEnable = false ∧ (funcAt t fn).msixTable = [] ∧ (funcAt t fn).d = .d0 ∧ (funcAt t fn).aerUncor = (funcAt s fn).aerUncor ∧
      (ctrlAt t fn).rdy = false ∧ (ctrlAt t fn).sqs = [] ∧ (ctrlAt t fn).asq = 0 ∧ (fn = 0 → t.host.vfEnable = false ∧ t.host.numVfs = 0) ∧
      (fn ≠ 0 → (vfAt s fn).st = .online ∨ (vfAt s fn).st = .saved → (vfAt t fn).st = .offline) ∧ t.map.core = s.map.core ∧ t.media = s.media ∧ guarded t = guarded s)) ∧
    (s.host.perst = false → (funcAt s 0).d ≠ .d3hot → Gives .perstAssert s (fun t => t.host.perst = true ∧ t.host.linkUp = false ∧ t.host.vfEnable = false ∧
      (funcAt t 0).busMaster = false ∧ (ctrlAt t 0).rdy = false ∧ (ctrlAt t 0).sqs = [] ∧ (∀ n, 1 ≤ n → n ≤ 127 → (vfAt t n).st = .none) ∧
      t.pwr = s.pwr ∧ t.map.core = s.map.core ∧ t.media = s.media ∧ guarded t = guarded s)) ∧
    (s.host.perst = true →
      ((funcAt s 0).d ≠ .d3cold → Gives .perstDeassert s (fun t => t = { s with host := { s.host with perst := false, training := s.boot.linkArmed } })) ∧
      ((funcAt s 0).d = .d3cold → s.pwr.phase = .steady → s.pwr.sleep ≠ .zenith → Gives .perstDeassert s (fun t => t.host.perst = false ∧ (funcAt t 0).d = .d0 ∧
        t.host.configReady = false ∧ t.pwr.phase = .exiting ∧ guarded t = guarded s))) ∧
    (∀ fn : Func, cfgReached s fn = true →
      ((funcAt s fn).busMaster = true → outstanding s fn = 0 → s.fw.intakeStalled = false → Gives (.busMasterEnableClear fn) s (fun t =>
        (funcAt t fn).busMaster = false ∧ (ctrlAt t fn).cfs = (ctrlAt s fn).cfs ∧ t.host.counters = s.host.counters ∧ t.map = s.map ∧ guarded t = guarded s)) ∧
      ((funcAt s fn).busMaster = true → outstanding s fn ≠ 0 → s.fw.intakeStalled = false → Gives (.busMasterEnableClear fn) s (fun t =>
        (funcAt t fn).busMaster = false ∧ (ctrlAt t fn).cfs = true ∧ outstanding t fn = 0 ∧ t.host.counters.bmeFatal = s.host.counters.bmeFatal + 1 ∧
        t.map.core = s.map.core ∧ t.media = s.media ∧ guarded t = guarded s)) ∧
      ((funcAt s fn).busMaster = true → s.fw.intakeStalled = true → Gives (.busMasterEnableClear fn) s (fun t => (funcAt t fn).busMaster = false ∧
        t.fw.deferred = s.fw.deferred ++ [(fn.val, 2)] ∧ t.nvme = s.nvme)) ∧
      (fn ≠ 0 → (funcAt s fn).d = .d0 → Gives (.d3hotEntry fn) s (fun t => (funcAt t fn).d = .d3hot ∧
        ((vfAt s fn).st = .online → (vfAt t fn).st = .offline ∧ (ctrlAt t fn).sqs = [] ∧ (outstanding s fn ≠ 0 → (ctrlAt t fn).cfs = true)) ∧
        ((vfAt s fn).st = .quiesced → (vfAt t fn).st = .quiesced) ∧ t.map.core = s.map.core ∧ guarded t = guarded s)) ∧
      (fn = 0 → (funcAt s 0).d = .d0 → Gives (.d3hotEntry fn) s (fun t => (funcAt t 0).d = .d3hot ∧ guarded t = guarded s)) ∧
      ((funcAt s fn).d = .d3hot → (fn ≠ 0 ∨ s.pwr.phase ≠ .entering) → Gives (.d3hotExit fn) s (fun t => funcAt t fn = { funcAt s fn with d := .d0 } ∧
        (∀ k, k ≠ fn.val → funcAt t k = funcAt s k) ∧ t = { s with host := t.host })))

/-- The link, errors and SR-IOV (R295, R297, R298, R303 to R306, R311, R349, R351). -/
def Obligations.PcieLinkErrorsAndVfs : Prop :=
  ∀ s : State,
    (∀ rate width : Nat, s.host.training = true → s.host.perst = false → linkMode rate width = true → Gives (.linkTrainingComplete rate width) s (fun t =>
      t.host.linkUp = true ∧ t.host.training = false ∧ t.host.rate = rate ∧ t.host.width = width ∧
      (rate = 6 → width = 16 → s.host.rate = 0 ∨ (s.host.rate = 6 ∧ s.host.width = 16) → t.alm = s.alm) ∧
      t.host.counters.rateWidthChanges = s.host.counters.rateWidthChanges + (if s.host.rate ≠ 0 ∧ (s.host.rate ≠ rate ∨ s.host.width ≠ width) then 1 else 0) ∧
      t = { s with host := t.host, alm := t.alm })) ∧
    (∀ fn : Func, (funcAt s fn).ctoDisable = false → mayRequest s fn = true →
      (∀ sq cid f, cmdAt s { fn := fn, sq := sq, cid := cid } = some f → f.done = none → f.effect = false → Gives (.completionTimeout fn (.data sq cid)) s (fun t =>
        CmdEnds { fn := fn, sq := sq, cid := cid } transferError t ∧ (funcAt t fn).aerUncor.getLsbD 14 = true ∧ (funcAt t fn).timedOut = (funcAt s fn).timedOut + 1 ∧
        t.host.counters.completionTimeout = s.host.counters.completionTimeout + 1 ∧ t.map.core = s.map.core ∧ t.media = s.media ∧ guarded t = guarded s)) ∧
      (∀ q, q ∉ (funcAt s fn).fetchRetry → Gives (.completionTimeout fn (.entry q)) s (fun t => q ∈ (funcAt t fn).fetchRetry ∧ (ctrlAt t fn).cfs = (ctrlAt s fn).cfs ∧
        t.nvme = s.nvme ∧ t.map = s.map ∧ guarded t = guarded s)) ∧
      (∀ q, q ∈ (funcAt s fn).fetchRetry → Gives (.completionTimeout fn (.entry q)) s (fun t => q ∉ (funcAt t fn).fetchRetry ∧ (ctrlAt t fn).cfs = true ∧
        t.map.core = s.map.core ∧ guarded t = guarded s))) ∧
    (∀ fn : Func, funcExists s fn = true → s.host.perst = false →
      ((funcAt s fn).timedOut ≠ 0 → Gives (.unexpectedCompletion fn) s (fun t => (funcAt t fn).timedOut = (funcAt s fn).timedOut - 1 ∧ (funcAt t fn).aerUncor.getLsbD 16 = true ∧
        (funcAt t fn).aerCor.getLsbD 13 = true ∧ t.host.counters.unexpectedCompletion = s.host.counters.unexpectedCompletion + 1 ∧ t = { s with host := t.host, alm := t.alm })) ∧
      (∀ sq cid f, cmdAt s { fn := fn, sq := sq, cid := cid } = some f → f.done = none → f.effect = false → Gives (.poisonedTlpReceived fn (.data sq cid)) s (fun t =>
        CmdEnds { fn := fn, sq := sq, cid := cid } transferError t ∧ (funcAt t fn).aerUncor.getLsbD 12 = true ∧ t.map.core = s.map.core ∧ guarded t = guarded s)) ∧
      Gives (.poisonedTlpReceived fn .barWrite) s (fun t => (funcAt t fn).aerUncor.getLsbD 12 = true ∧ t.host.counters.poisonedTlp = s.host.counters.poisonedTlp + 1 ∧
        t = { s with host := t.host, alm := t.alm }) ∧
      Gives (.ecrcError fn) s (fun t => (funcAt t fn).aerUncor = (funcAt s fn).aerUncor ||| 0x80000 ∧ t.host.counters.ecrcError = s.host.counters.ecrcError + 1 ∧
        t = { s with host := t.host }) ∧
      (∀ rd : Bool, Gives (.unsupportedRequest fn rd) s (fun t => (funcAt t fn).aerUncor = (funcAt s fn).aerUncor ||| 0x100000 ∧
        t.host.counters.unsupportedRequest = s.host.counters.unsupportedRequest + (if rd then 1 else 0) ∧ t = { s with host := t.host }))) ∧
    (s.host.linkUp = true →
      Gives .fatalLinkError s (fun t => t.host.linkUp = false ∧ t.host.training = true ∧ (ctrlAt t 0).rdy = false ∧ (∀ n, 1 ≤ n → n ≤ 127 → (vfAt t n).st = .none) ∧
        t.host.counters.linkRetrains = s.host.counters.linkRetrains + 1 ∧ t.map.core = s.map.core ∧ guarded t = guarded s) ∧
      Gives .correctableLinkError s (fun t => t.host.linkUp = true ∧ t.host.linkCorrectable = s.host.linkCorrectable + 1 ∧ (funcAt t 0).aerCor ≠ 0 ∧
        t = { s with host := t.host, freeCtr := t.freeCtr }) ∧
      ((funcAt s 0).aspmL1 = true → (∀ fn, fn < 128 → outstanding s fn = 0) → Gives .aspmL1Entry s (fun t => t.host.l1 = true ∧ t = { s with host := t.host }))) ∧
    ((∀ fn, fn < 128 → ∀ p ∈ (ctrlAt s fn).sqs, p.2.head = p.2.tail ∧ (p.1 = 0 ∨ p.2.cmds = [])) → Gives .ltrUpdate s (fun t =>
      t = { s with host := { s.host with ltrUs := 3000 } })) ∧
    (cfgReached s 0 = true →
      (∀ n, n ≤ 127 → (n ≤ 7 ∨ s.host.ariHierarchy = true) → s.host.vfEnable = false → (∀ k, 1 ≤ k → k ≤ 127 → (vfAt s k).st = .none) → Gives (.vfEnable n) s (fun t =>
        t.host.vfEnable = true ∧ t.host.numVfs = n ∧ (∀ k, 1 ≤ k → k ≤ 127 → (vfAt t k).st = if k ≤ n then .offline else .none) ∧ t.nvme = s.nvme ∧ t.map = s.map ∧ guarded t = guarded s)) ∧
      (∀ n, s.host.vfEnable = true → n < s.host.numVfs → Gives (.vfDisable n) s (fun t => t.host.vfEnable = (n != 0) ∧ t.host.numVfs = n ∧
        (∀ k, n < k → k ≤ 127 → (vfAt t k).st = .none) ∧ (∀ k, 1 ≤ k → k ≤ n → (vfAt t k).st = (vfAt s k).st) ∧ t.map.core = s.map.core ∧ guarded t = guarded s)))

/-- Registers and buffers (R11, R290, R358 to R363, R417, R418). -/
def Obligations.RegisterAccess : Prop :=
  ∀ (s : State) (fn : Func),
    (∀ off v, off % 4 ≠ 0 → Gives (.registerWrite fn .config off v) s (fun t => t = s)) ∧
    (∀ space off v, space ≠ .config → (barReached s fn = false ∨ off % 4 ≠ 0) → memArrives s fn = true → Gives (.registerWrite fn space off v) s (fun t =>
      (funcAt t fn).aerUncor = (funcAt s fn).aerUncor ||| 0x100000 ∧ t = { s with host := t.host })) ∧
    (cfgReached s fn = true → ∀ v : Word32,
      Gives (.registerWrite fn .config 0x104 v) s (fun t => (funcAt t fn).aerUncor = (funcAt s fn).aerUncor &&& ~~~v ∧ (∀ k, k ≠ fn.val → funcAt t k = funcAt s k) ∧ t = { s with host := t.host }) ∧
      Gives (.registerWrite fn .config 0x110 v) s (fun t => (funcAt t fn).aerCor = (funcAt s fn).aerCor &&& ~~~v ∧ (∀ k, k ≠ fn.val → funcAt t k = funcAt s k) ∧ t = { s with host := t.host })) ∧
    (barReached s fn = true → ∀ v : Word32,
      Gives (.registerWrite fn .bar0 0x24 v) s (fun t => (ctrlAt t fn).aqa = v &&& 0x0FFF0FFF ∧ readRegister t fn .bar0 0x24 = (v &&& 0x0FFF0FFF).toNat ∧ (∀ k, k ≠ fn.val → ctrlAt t k = ctrlAt s k) ∧
        t = { s with nvme := { s.nvme with ctrl := t.nvme.ctrl }, host := t.host }) ∧
      Gives (.registerWrite fn .bar0 0x0C v) s (fun t => (ctrlAt t fn).intMask = (ctrlAt s fn).intMask ||| v ∧ (ctrlAt t fn).sqs = (ctrlAt s fn).sqs) ∧
      Gives (.registerWrite fn .bar0 0x10 v) s (fun t => (ctrlAt t fn).intMask = (ctrlAt s fn).intMask &&& ~~~v ∧ (ctrlAt t fn).sqs = (ctrlAt s fn).sqs) ∧
      (∀ m : Nat, m < boxesOf fn →
        ((boxAt s (boxKey fn m)).busy = false → Gives (.registerWrite fn .bar2 ((if fn = 0 then 0x10000 else 0x1000) + 0x1000 * m) v) s (fun t =>
          boxAt t (boxKey fn m) = { boxAt s (boxKey fn m) with opcode := v.setWidth 16 } ∧ (∀ k, k ≠ boxKey fn m → boxAt t k = boxAt s k))) ∧
        ((boxAt s (boxKey fn m)).busy = true → Gives (.registerWrite fn .bar2 ((if fn = 0 then 0x10000 else 0x1000) + 0x1000 * m) v) s (fun t =>
          boxAt t (boxKey fn m) = boxAt s (boxKey fn m))) ∧
        Gives (.registerWrite fn .bar2 ((if fn = 0 then 0x10000 else 0x1000) + 0x1000 * m + 0x14) v) s (fun t => boxAt t (boxKey fn m) = { boxAt s (boxKey fn m) with
          overrun := (boxAt s (boxKey fn m)).overrun && !v.getLsbD 2, done := (boxAt s (boxKey fn m)).done && !v.getLsbD 1 }))) ∧
    (barReached s 0 = true → ∀ v : Word32,
      (apertureAnswers s 0x210004 = false → Gives (.registerWrite 0 .bar2 0x210004 v) s (fun t => t = { s with host := t.host })) ∧
      (apertureAnswers s 0x210004 = true → Gives (.registerWrite 0 .bar2 0x210004 v) s (fun t => t.pwr = { s.pwr with wakeStatus := s.pwr.wakeStatus &&& ~~~(v.setWidth 9) } ∧ t = { s with pwr := t.pwr, host := t.host })) ∧
      Gives (.registerWrite 0 .bar2 0x20F00C v) s (fun t => t.alm = { s.alm with event := s.alm.event &&& ~~~(v.setWidth 4) } ∧ t = { s with alm := t.alm, host := t.host })) ∧
    (∀ (off : Nat) (m o : Nat) (data : Bytes), barReached s fn = true → payloadAt fn off data.length = some (m, o) → data ≠ [] →
      (bufferAccess s off data.length = false → Gives (.apertureBufferWrite fn off data) s (fun t =>
        (funcAt t fn).aerUncor = (funcAt s fn).aerUncor ||| 0x100000 ∧ t = { s with host := t.host })) ∧
      (bufferAccess s off data.length = true →
       ((boxAt s (boxKey fn m)).busy = false → (boxAt s (boxKey fn m)).badWords = [] → Gives (.apertureBufferWrite fn off data) s (fun t =>
        bufferBytes (boxAt t (boxKey fn m)) o data.length = data ∧ (∀ a, a < o ∨ o + data.length ≤ a → bufferBytes (boxAt t (boxKey fn m)) a 1 = bufferBytes (boxAt s (boxKey fn m)) a 1) ∧
        (∀ k, k ≠ boxKey fn m → boxAt t k = boxAt s k) ∧ t = { s with mbx := { s.mbx with boxes := t.mbx.boxes }, host := t.host })) ∧
       ((boxAt s (boxKey fn m)).busy = true → Gives (.apertureBufferWrite fn off data) s (fun t => t = { s with host := t.host })))) ∧
    (∀ off n : Nat, barReached s fn = true → payloadAt fn off n = none → n = 4 ∨ n = 8 → off % n = 0 →
      (fn = 0 → mdRange off n = false ∧ logWindow off n = false ∧ diagWindow off = false) → Gives (.apertureBufferRead fn off n) s (fun t =>
        t.host.readData = registerBytes s fn off n ∧ t.host.readPoisoned = false ∧ t = { s with host := t.host })) ∧
    (∀ off n m o : Nat, barReached s fn = true → bufferAccess s off n = true → payloadAt fn off n = some (m, o) →
      ((boxAt s (boxKey fn m)).busy = true → Gives (.apertureBufferRead fn off n) s (fun t => t.host.readData = List.replicate n 0 ∧ t.host.readPoisoned = false ∧ t = { s with host := t.host })) ∧
      ((boxAt s (boxKey fn m)).busy = false → (boxAt s (boxKey fn m)).badWords = [] → Gives (.apertureBufferRead fn off n) s (fun t =>
        t.host.readData = bufferBytes (boxAt s (boxKey fn m)) o n ∧ t.host.readPoisoned = false ∧ t = { s with host := t.host })) ∧
      (∀ w, (boxAt s (boxKey fn m)).busy = false → w ∈ (boxAt s (boxKey fn m)).badWords → o < 8 * w + 8 → 8 * w < o + n → Gives (.apertureBufferRead fn off n) s (fun t =>
        t.host.readPoisoned = true ∧ t.host.readData = [] ∧ t.dram.sramUe = s.dram.sramUe + 1 ∧ t.mbx = s.mbx ∧ guarded t = guarded s)))

/-- Attestation (R312 to R316). -/
def Obligations.SpdmResponder : Prop :=
  ∀ s : State,
    (spdmReached s 0 = true →
      (∀ i, Gives (.doeDiscovery i) s (fun t => t.host.spdm.answer = s.host.spdm.answer.set 0 (doeEntry i) ∧ t.host.spdm.conn = s.host.spdm.conn ∧
        t.host.spdm.transcript = s.host.spdm.transcript ∧ (readAt 0 (funcAt s 0).cfg 0x308 &&& 2 ≠ 0#32 → t.host.spdm.intStatus = true) ∧ t = { s with host := t.host })) ∧
      Gives .doeAbort s (fun t => t.host.spdm = { s.host.spdm with answer := s.host.spdm.answer.set 0 [] } ∧ t = { s with host := t.host })) ∧
    (∀ k : Fin 2, spdmReached s k = true →
      Gives (.spdmGetVersion k) s (fun t => spdmConn t k = .version ∧ (∀ j, j ≠ k → spdmConn t j = spdmConn s j) ∧
        t.host.spdm.transcript[k] = spdmHead 0x10 0x84 0 0 ++ t.host.spdm.answer[k] ∧ t = { s with host := t.host }) ∧
      (spdmConn s k = .version → Gives (.spdmGetCapabilities k) s (fun t => spdmConn t k = .capabilities ∧ (∀ j, j ≠ k → spdmConn t j = spdmConn s j) ∧
        t.host.spdm.transcript[k] = s.host.spdm.transcript[k] ++ spdmHead 0x12 0xE1 0 0 ++ t.host.spdm.answer[k] ∧ t = { s with host := t.host })) ∧
      (∀ asym hash : Nat, spdmConn s k = .capabilities →
        (asym.testBit 9 = true → hash.testBit 6 = true → Gives (.spdmNegotiateAlgorithms k asym hash) s (fun t => spdmConn t k = .negotiated ∧ t = { s with host := t.host })) ∧
        (asym.testBit 9 = false ∨ hash.testBit 6 = false → Gives (.spdmNegotiateAlgorithms k asym hash) s (fun t => spdmConn t k = .capabilities ∧
          t.host.spdm.answer[k] = [0x12, 0x7F, 0x01, 0x00] ∧ t.host.spdm.transcript = s.host.spdm.transcript))) ∧
      (spdmConn s k = .negotiated →
        Gives (.spdmGetDigests k) s (fun t => spdmConn t k = .negotiated ∧ t.host.spdm.answer[k] = spdmHead 0x12 0x01 0 1 ++ digestBytes (Config.sm3 attestationChain) ∧ t = { s with host := t.host }) ∧
        (∀ off len, Gives (.spdmGetCertificate k 0 off len) s (fun t => spdmConn t k = .negotiated ∧
          (off < attestationChain.length → ∃ part, part = (attestationChain.drop off).take (min len 65528) ∧
            t.host.spdm.answer[k] = spdmHead 0x12 0x02 0 0 ++ b2 part.length ++ b2 (attestationChain.length - off - part.length) ++ part) ∧
          (attestationChain.length ≤ off → t.host.spdm.answer[k] = [0x12, 0x7F, 0x01, 0x00]) ∧ t = { s with host := t.host })) ∧
        (∀ nonce : Bytes, Gives (.spdmChallenge k 0 nonce) s (fun t => spdmConn t k = .negotiated ∧ t.freeCtr = s.freeCtr + 2 ∧
          (∃ head, t.host.spdm.answer[k] = head ++ octets64 (Config.sm2Sign 1 (s.freeCtr + 1) (s.host.spdm.transcript[k] ++ (spdmHead 0x12 0x83 0 0 ++ padTo 32 nonce) ++ head)) ∧
            head.take 4 = spdmHead 0x12 0x03 0 1) ∧ t = { s with host := t.host, freeCtr := t.freeCtr })) ∧
        (∀ (index : Nat) (nonce : Bytes), index ≤ 7 ∨ index = 0xFF → Gives (.spdmGetMeasurements k index nonce) s (fun t => spdmConn t k = .negotiated ∧ t.freeCtr = s.freeCtr + 2 ∧
          (∃ head, t.host.spdm.answer[k] = head ++ octets64 (Config.sm2Sign 1 (s.freeCtr + 1)
              (s.host.spdm.transcript[k] ++ (spdmHead 0x12 0xE0 1 index ++ padTo 32 nonce ++ b1 0) ++ head)) ∧
            (1 ≤ index → index ≤ 7 → slice head 8 (measurement s index).length = measurement s index)) ∧ t = { s with host := t.host, freeCtr := t.freeCtr }))) ∧
      (spdmConn s k ≠ .negotiated → ∀ nonce, Gives (.spdmChallenge k 0 nonce) s (fun t => spdmConn t k = spdmConn s k ∧ t.host.spdm.answer[k] = [0x12, 0x7F, 0x04, 0x00] ∧
        t.host.spdm.transcript = s.host.spdm.transcript ∧ t = { s with host := t.host }))) ∧
    (∀ (c : CmdRef) (f : Fetched),
      (∀ data : Bytes, CmdTurn c true 0x81 f s → f.sqe.cdw10 / 2 ^ 24 % 256 = 0xE8 → data ≠ [] → data.length ≤ 65536 → Gives (.securitySend c data) s (fun t => CmdEnds c cplOk t ∧ OnlyCmds s t)) ∧
      (CmdTurn c true 0x82 f s →
        (f.sqe.cdw10 / 2 ^ 24 % 256 = 0xE8 → prpBad s c.fn f.sqe ((s.host.spdm.answer[(1 : Fin 2)]).take f.sqe.cdw11).length = false → Gives (.securityReceive c) s (fun t => (∃ g, cmdAt t c = some g ∧ g.done = some cplOk ∧
          g.out.map (·.data) = [(s.host.spdm.answer[(1 : Fin 2)]).take f.sqe.cdw11]) ∧ OnlyCmds s t)) ∧
        (f.sqe.cdw10 / 2 ^ 24 % 256 ≠ 0xE8 → f.sqe.cdw10 / 2 ^ 24 % 256 ≠ 0 → Gives (.securityReceive c) s (fun t => CmdEnds c invalidField t ∧ OnlyCmds s t))))

/-- The Almanac (R487 to R500). -/
def Obligations.AlmanacStore : Prop :=
  ∀ s : State,
    (∀ (code : Word16) (sev : Fin 4) (ps : Bytes),
      (inCatalogue code.toNat sev.val = false → Gives (.almanacRecordAccept code sev ps) s (fun t => t = s)) ∧
      (inCatalogue code.toNat sev.val = true →
        (∀ o, s.alm.openRec = some o → isRepeat (newRecord s code.toNat (severityOf sev) ps) o.body = true → Gives (.almanacRecordAccept code sev ps) s (fun t =>
          t.alm.openRec = some { o with repeats := min (o.repeats + 1) 0xFFFFFFFF, lastStamp := stampNow s } ∧ t.alm.staged = s.alm.staged ∧
          t.alm.records = s.alm.records ∧ t = { s with alm := t.alm, host := t.host })) ∧
        (s.alm.openRec = none → s.alm.staged.length < stagingSize → Gives (.almanacRecordAccept code sev ps) s (fun t =>
          t.alm.staged = s.alm.staged ++ [(newRecord s code.toNat (severityOf sev) ps, none)] ∧ t.alm.event.getLsbD sev.val = true ∧
          t.alm.openRec = some { body := newRecord s code.toNat (severityOf sev) ps, repeats := 1, lastStamp := stampNow s } ∧
          t.alm.records = s.alm.records ∧ t.alm.drops = s.alm.drops ∧ t = { s with alm := t.alm, host := t.host })) ∧
        (s.alm.openRec = none → stagingSize ≤ s.alm.staged.length → (∀ p ∈ s.alm.staged, sev.val < p.1.severity.toNat) → Gives (.almanacRecordAccept code sev ps) s (fun t =>
          t.alm = { s.alm with drops := t.alm.drops } ∧ vget t.alm.drops 0 sev.val = min (vget s.alm.drops 0 sev.val + 1) 0xFFFFFFFF ∧
          (∀ k, k ≠ sev.val → vget t.alm.drops 0 k = vget s.alm.drops 0 k))))) ∧
    (∀ r cl rest, s.alm.staged = (r, cl) :: rest → s.alm.stampLoaded = true → s.alm.clearing = false → s.alm.writeSlot < almSlots → s.pwr.pwrfail = false →
      (∀ a k, s.media.csErase = some (a, k) → almFull s.alm = false →
        (k < 16 → Gives .almanacRecordProgram s (fun t => t.alm.records.map (·.body) = s.alm.records.map (·.body) ++ [r] ∧ t.alm.staged = rest ∧
          t = { s with alm := t.alm, media := { s.media with csErase := some (a, k + 1) } })) ∧
        (16 ≤ k → Gives .almanacRecordProgram s (fun t => t = s))) ∧
      (s.media.csErase = none → almFull s.alm = false → Gives .almanacRecordProgram s (fun t => ∃ x, t.alm.records = s.alm.records ++ [x] ∧ x.body = r ∧ x.sequence = s.alm.nextSequence ∧
        x.prevChain = s.alm.lastChain ∧ verifiesAlone x = true ∧ x.live = true ∧ t.alm.lastChain = x.chain ∧ t.alm.nextSequence = s.alm.nextSequence + 1 ∧
        t.alm.staged = rest ∧ t = { s with alm := t.alm })) ∧
      (s.media.csErase = none → almFull s.alm = true → s.alm.indexed = true → (∃ x ∈ liveRecords s.alm, x.body.severity.toNat ≤ r.severity.toNat) → Gives .almanacRecordProgram s (fun t =>
        (liveRecords t.alm).length = (liveRecords s.alm).length ∧ (t.alm.records.getLast?.map (·.body)) = some r ∧ t.alm.staged = rest ∧
        (∀ x ∈ liveRecords s.alm, r.severity.toNat < x.body.severity.toNat → x ∈ liveRecords t.alm) ∧ t = { s with alm := t.alm }))) ∧
    (almSlots ≤ s.alm.writeSlot → s.media.csErase = none → Gives .almanacCompaction s (fun t => t.alm.writeSector = s.alm.spareSector ∧
      (liveRecords t.alm).map (fun r => (r.sequence, r.body, r.prevChain, r.chain)) = (liveRecords s.alm).map (fun r => (r.sequence, r.body, r.prevChain, r.chain)) ∧
      (∀ r ∈ t.alm.records, r.sector ≠ t.alm.spareSector) ∧ t.media.csErase = some (almSectorBase t.alm.spareSector, 0) ∧
      t = { s with alm := t.alm, media := { s.media with csErase := t.media.csErase, csOwn := true } })) ∧
    (s.alm.writeSlot < almSlots ∨ s.media.csErase.isSome = true → Gives .almanacCompaction s (fun t => t = s)) ∧
    (s.alm.stampLoaded = true → Gives .almanacIndexRead s (fun t => t.alm.indexed = true ∧ (∀ r ∈ t.alm.records, r ∈ s.alm.records) ∧ t = { s with alm := t.alm, media := t.media })) ∧
    Gives .dropCounterSave s (fun t => t = { s with alm := { s.alm with dropsSaved := s.alm.drops } }) ∧
    (s.boot.phase ≠ .noStore → ∀ lo : Word32, Gives (.almCursorWrite lo) s (fun t => t.alm.ready = true ∧ t.alm.cursor.toNat % 2 ^ 32 = lo.toNat ∧
      t.alm.cursor.toNat / 2 ^ 32 = s.alm.cursor.toNat / 2 ^ 32 ∧
      t.alm.window.length = min 960 ((liveRecords s.alm).countP (fun r => t.alm.cursor.toNat ≤ r.sequence)) ∧ t.alm.records = s.alm.records ∧ t = { s with alm := t.alm }))

/-- The hot handover (R508 to R513) and JTAG (R534). -/
def Obligations.HandoverAndJtag : Prop :=
  ∀ s : State,
    (s.fw.handover = .loading →
      (pageCrcsHold (incomingImage s) = true → compatible s = true → Gives (.standbySetLoad true) s (fun t =>
        t = { s with fw := { s.fw with handover := .rolling, microcodeRolled := 0 } })) ∧
      Gives (.standbySetLoad false) s (fun t => t.fw.handover = .none ∧ t.fw.commit = none ∧ t.fw.staged = [] ∧ t.fw.lastActivation = 2 ∧
        t.fw.activeSlot = s.fw.activeSlot ∧ (slotAt t.fw (inactiveSlot s.fw)).state = .invalid ∧ t.map = s.map ∧ guarded t = guarded s) ∧
      (pageCrcsHold (incomingImage s) = true → compatible s = false → Gives (.standbySetLoad true) s (fun t => t.fw.handover = .none ∧ t.fw.commit = none ∧
        t.fw.lastActivation = 3 ∧ t.fw.activeSlot = s.fw.activeSlot ∧ t.fw.namedSlot.val = inactiveSlot s.fw ∧ t.fw.slots = s.fw.slots ∧ guarded t = guarded s))) ∧
    (∀ ch : Channel, s.fw.handover = .rolling → s.fw.microcodeRolled = ch.val → Gives (.microcodeRoll ch) s (fun t =>
      t = { s with fw := { s.fw with microcodeRolled := ch.val + 1 } })) ∧
    (s.fw.handover = .rolling → s.fw.microcodeRolled = 64 → Gives .intakeStall s (fun t =>
      t = { s with fw := { s.fw with handover := .stalled, intakeStalled := true } } ∧ ∀ fn, intakeRuns t fn = false)) ∧
    (s.fw.handover = .rolling → s.fw.microcodeRolled < 64 → Gives .intakeStall s (fun t => t = s)) ∧
    (s.fw.handover = .stalled → Gives .handoverReady s (fun t => t.fw.handover = .none ∧ t.fw.intakeStalled = false ∧ t.fw.commit = none ∧
      t.fw.activeSlot.val = inactiveSlot s.fw ∧ t.fw.namedSlot.val = inactiveSlot s.fw ∧ t.fw.setB = !s.fw.setB ∧ t.fw.lastActivation = 1 ∧
      t.fw.antiRollback = max s.fw.antiRollback (slotAt s.fw (inactiveSlot s.fw)).rollback ∧ t.fw.slots = s.fw.slots ∧ t.fw.deferred = [] ∧
      guarded t = { guarded s with antiRollback := t.fw.antiRollback } ∧ t.map.core = s.map.core ∧ t.media = s.media)) ∧
    (s.fw.handover = .stalled → Gives .handoverReadyTimeout s (fun t => t.fw.handover = .none ∧ t.fw.intakeStalled = false ∧ t.fw.commit = none ∧
      t.fw.activeSlot = s.fw.activeSlot ∧ t.fw.setB = s.fw.setB ∧ t.fw.lastActivation = 2 ∧ t.fw.deferred = [] ∧ guarded t = guarded s)) ∧
    (∀ ir : Nat,
      (ir ≤ 5 ∨ s.pins.jtagAuthenticated = true → Gives (.jtagInstruction ir) s (fun t => t = { s with pins := { s.pins with jtag := ir, extest := isExtest ir } })) ∧
      (5 < ir → s.pins.jtagAuthenticated = false → Gives (.jtagInstruction ir) s (fun t => t = s)))

/-- Issuing a mailbox command (R362, R363, R365, R369). -/
def Obligations.MailboxIssue : Prop :=
  ∀ (s : State) (fn : Func) (m : Fin 16), ∀ key, key = boxKey fn m →
    (barReached s fn = false ∨ boxesOf fn ≤ m.val ∨ s.pwr.pwrfail = true → Gives (.mbxGo fn m) s (fun t => t = s)) ∧
    (barReached s fn = true → m.val < boxesOf fn → s.pwr.pwrfail = false → s.pwr.phase = .steady → s.pwr.sleep ≠ .zenith → Gives (.mbxGo fn m) s (Wakes 2 s)) ∧
    (barReached s fn = true → m.val < boxesOf fn → s.pwr.pwrfail = false → NoWake s →
      ((boxAt s key).busy = true → Gives (.mbxGo fn m) s (fun t => boxAt t key = { boxAt s key with overrun := true } ∧
        (∀ k, k ≠ key → boxAt t k = boxAt s k) ∧ t = { s with mbx := { s.mbx with boxes := t.mbx.boxes } })) ∧
      ((boxAt s key).busy = false → ∃ t, GoAccepted key s t ∧
        (answered fn (boxAt s key).opcode.toNat = false →
          exec (.mbxGo fn m) s = .next (mbxEnd t key (latchedExec (boxAt s key) s.mbx.nextExec) .badOpcode 0 [])) ∧
        (answered fn (boxAt s key).opcode.toNat = true →
          (65536 < (boxAt s key).len.toNat →
            exec (.mbxGo fn m) s = .next (mbxEnd t key (latchedExec (boxAt s key) s.mbx.nextExec) .lenRange 0 [])) ∧
          ((boxAt s key).len.toNat ≤ 65536 →
            ((boxAt s key).hostPayload = false → requestBad (boxAt s key) (boxAt s key).len.toNat = true →
              exec (.mbxGo fn m) s = .next (mbxEnd t key (latchedExec (boxAt s key) s.mbx.nextExec) .hostXfer 0 [])) ∧
            ((boxAt s key).hostPayload = true ∨ requestBad (boxAt s key) (boxAt s key).len.toNat = false → exec (.mbxGo fn m) s = .next t))))) ∧
    (∀ (e : MbxExec) (data : Bytes), (boxAt s key).exec = some e → e.begun = false → e.hostPayload = true → mayRequest s fn = true →
      Gives (.mbxHostPayloadArrival fn m data) s (fun t =>
        boxAt t key = { boxAt s key with exec := some { e with begun := true, request := padTo e.len data } } ∧
        (∀ k, k ≠ key → boxAt t k = boxAt s k) ∧ t = { s with mbx := { s.mbx with boxes := t.mbx.boxes }, host := t.host }))

/-- The completion of a mailbox command (R362 steps 7 and 8, R364, R369). -/
def Obligations.MailboxCompletion : Prop :=
  ∀ (s : State) (fn : Func) (m : Fin 16) (e x : MbxExec) (st : MbxStatus) (detail : Nat) (result : Bytes), ∀ key b t, key = boxKey fn m →
    b = boxAt s key → t = mbxEnd s key e st detail result →
    (b.exec = some x → x.id = e.id → result.length ≤ 65536 →
      (boxAt t key).status = st.code ∧ (boxAt t key).detail = detail ∧ (boxAt t key).done = true ∧ (boxAt t key).busy = false ∧
      (boxAt t key).exec = none ∧ (boxAt t key).resultLen = (if st = .success then result.length else 0) ∧
      (e.hostPayload = true → (boxAt t key).buffer = b.buffer ∧
        (boxAt t key).hostResult = (if e.registersOnly = true then b.hostResult else if st = .success then result else [])) ∧
      (e.hostPayload = false → (boxAt t key).hostResult = b.hostResult ∧
        (st ≠ .success → (boxAt t key).buffer = b.buffer) ∧
        (st = .success → ∀ i, (i < result.length → (i / 8 ∉ b.badWords ∨ 8 * (i / 8) + 8 ≤ result.length) →
            readAt 0 (boxAt t key).buffer i = result.getD i 0) ∧
          (result.length ≤ i → readAt 0 (boxAt t key).buffer i = readAt 0 b.buffer i))) ∧
      (b.cplAddr ≠ 0 → e.registersOnly = false → (boxAt t key).records = b.records ++
        [b2 e.opcode.toNat ++ b2 e.seq.toNat ++ b2 st.code ++ b2 1 ++ b4 (if st = .success then result.length else 0) ++ b4 detail]) ∧
      (b.cplAddr = 0 ∨ e.registersOnly = true → (boxAt t key).records = b.records) ∧
      (∀ k, k ≠ key → boxAt t k = boxAt s k) ∧
      (b.irqEn = false → e.hostPayload = false → t = { s with mbx := { s.mbx with boxes := t.mbx.boxes } }) ∧
      t = { s with mbx := { s.mbx with boxes := t.mbx.boxes }, host := t.host } ∧
      (b.irqEn = true → (funcAt s fn).msixEnable = true → mayRequest s fn = true → vectorMasked (funcAt s fn) b.vector = false →
        (funcAt t fn).messages = (funcAt s fn).messages ++ [b.vector]) ∧ guarded t = guarded s) ∧
    ((∀ y, b.exec = some y → y.id ≠ e.id) → t = { s with mbx := { s.mbx with orphans := t.mbx.orphans } } ∧ ∀ o ∈ t.mbx.orphans, o.2.id ≠ e.id)

/-- The settings (R372). -/
def Obligations.SettingsGetAndSet : Prop :=
  GetsSetting 0x01 0x01F0 .deviceGetSetting ∧ SetsSetting 0x01 0x01F1 (fun _ _ t => t) .deviceSetSetting ∧
  GetsSetting 0x04 0x04F0 .redundancyGetSetting ∧ SetsSetting 0x04 0x04F1 (fun _ _ t => t) .redundancySetSetting ∧
  GetsSetting 0x05 0x05F0 .retentionGetSetting ∧ SetsSetting 0x05 0x05F1 (fun _ _ t => t) .retentionSetSetting ∧
  GetsSetting 0x07 0x07F0 .haloGetSetting ∧ SetsSetting 0x07 0x07F1 (fun i _ t => if i ≤ 3 then haloChanged t i else t) .haloSetSetting ∧
  GetsSetting 0x08 0x08F0 .almanacGetSetting ∧
  SetsSetting 0x08 0x08F1 (fun i s t => if setting t 0x08 i = setting s 0x08 i then t else { t with alm := closeOpen t.alm }) .almanacSetSetting ∧
  GetsSetting 0x09 0x09F0 .powerHealthGetSetting ∧ SetsSetting 0x09 0x09F1 (fun _ _ t => t) .powerHealthSetSetting ∧
  GetsSetting 0x0A 0x0AF0 .coolingGetSetting ∧ SetsSetting 0x0A 0x0AF1 (fun i _ t => if i = 1 ∨ i = 2 then refreshWindows t else t) .coolingSetSetting

/-- The Device, Calibration and Carrier families (R371, R373). -/
def Obligations.DeviceCalibrationAndCarriers : Prop :=
  ∀ (s : State) (fn : Func) (m : Fin 16) (e : MbxExec), ∀ r, r = e.request →
    (Served fn m 0x0101 0 e s → Answers (.identify fn m) s fn m e .success 0 (identifyResult s) s ∧ (identifyResult s).length = 128) ∧
    (Served fn m 0x0102 8 e s →
      (field r 6 2 ≠ 0 → Answers (.calendarSet fn m) s fn m e .badPayload 6 [] s) ∧
      (field r 6 2 = 0 → Answers (.calendarSet fn m) s fn m e .success 0 [] (setCalendar s (BitVec.ofNat 48 (field r 0 6))) ∧
        (setCalendar s (BitVec.ofNat 48 (field r 0 6))).time.calendar.toNat = field r 0 6)) ∧
    (Served fn m 0x0103 0 e s → Answers (.calendarGet fn m) s fn m e .success 0 (leBytes 8 s.time.calendar.toNat) s) ∧
    (Served fn m 0x0104 0 e s → ∃ l : List Nat, l.length = 10 ∧ Answers (.portCounters fn m) s fn m e .success 0 (l.flatMap (fun n => b4 (min n 0xFFFFFFFF)) ++ zeros 24) s ∧
      l = [s.host.counters.unexpectedCompletion, s.host.counters.completionTimeout, s.host.counters.poisonedTlp, s.host.counters.ecrcError,
        s.host.counters.unsupportedRequest, s.host.counters.discardedAfterReset, s.host.counters.linkRetrains, s.host.counters.rateWidthChanges,
        s.host.counters.bmeFatal, s.host.counters.flr]) ∧
    (Served fn m 0x0105 0 e s → Answers (.exportSettings fn m) s fn m e .success (exportEntries s).length (exportEntries s).flatten s ∧
      ∀ x ∈ exportEntries s, x.length = 40) ∧
    (Served fn m 0x0201 4 e s →
      (field r 0 4 % 65536 ≠ 0 ∨ 262144 ≤ field r 0 4 → Answers (.calExport fn m) s fn m e .badPayload 0 [] s) ∧
      (field r 0 4 % 65536 = 0 → field r 0 4 < 262144 → ∃ l, Answers (.calExport fn m) s fn m e .success 0 l s ∧ l.length = 65536 ∧
        ∀ i, i < 65536 → l[i]? = some (readAt 0xFF s.pwr.cal (field r 0 4 + i)))) ∧
    (Served fn m 0x0202 0 e s → Answers (.calDigest fn m) s fn m e .success 0 (digestBytes (Config.sm3 (calBytes s 0 262144))) s) ∧
    (∀ (storeOk : Bool) (off len : Nat) (data : Bytes), MbxServed fn m 0x0203 e s → off = field r 0x100 4 → len = field r 0x104 4 → data = r.drop 272 →
      1 ≤ len → len ≤ 32768 → off + len ≤ 262144 → slice r 0x108 8 = zeros 8 → data.length = len → e.len = 272 + len →
      UnderKey (.calOverwrite fn m storeOk) s fn m 0x0203 e (
        (off < 0x110 → 0x100 < off + len → Answers (.calOverwrite fn m storeOk) s fn m e .notPermitted 0 [] (accepted s fn m 0x0203)) ∧
        (0x110 ≤ off ∨ off + len ≤ 0x100 →
          (storeOk = true → ∃ t, Answers (.calOverwrite fn m storeOk) s fn m e .success 0 [] t ∧ t = { accepted s fn m 0x0203 with pwr := { s.pwr with cal := t.pwr.cal } } ∧
            (∀ i, i < len → readAt 0xFF t.pwr.cal (off + i) = data.getD i 0) ∧
            (∀ i, i < off ∨ off + len ≤ i → readAt 0xFF t.pwr.cal i = readAt 0xFF s.pwr.cal i)) ∧
          (storeOk = false → ∃ t d, Answers (.calOverwrite fn m storeOk) s fn m e .csFail d [] t ∧ (d = 0x20 ∨ d = 0x24) ∧
            ∀ i, i / 65536 < off / 65536 ∨ (off + len - 1) / 65536 < i / 65536 → readAt 0xFF t.pwr.cal i = readAt 0xFF s.pwr.cal i)))) ∧
    (Served fn m 0x0204 4 e s →
      (s.mbx.subsystem.isSome = true → Answers (.subsystemSet fn m) s fn m e .notPermitted 0 [] s) ∧
      (s.mbx.subsystem = none → ∃ t, Answers (.subsystemSet fn m) s fn m e .success 0 [] t ∧ t.mbx = { s.mbx with subsystem := some (field r 0 2, field r 2 2) } ∧
        t = { s with mbx := t.mbx, pwr := { s.pwr with cal := t.pwr.cal } })) ∧
    (Served fn m 0x0301 0 e s → ∃ l, Answers (.carrierStatus fn m) s fn m e .success 0 l (drawNat s).2 ∧ l.length = 512 ∧
      ∀ c : Carrier, field l (32 * c.val) 1 = c.val ∧ field l (32 * c.val + 1) 1 = (carrierAt s c).st.code ∧
        ∀ x, (carrierAt s c).lomril = some x → x.serial.length = 16 → slice l (32 * c.val + 4) 16 = x.serial) ∧
    (Served fn m 0x0302 1 e s →
      (∀ x, field r 0 1 < 16 → (carrierAt s (field r 0 1)).lomril = some x → Answers (.carrierDescriptor fn m) s fn m e .success 0 (padTo 1024 x.bytes) s) ∧
      (field r 0 1 < 16 → (carrierAt s (field r 0 1)).lomril = none → Answers (.carrierDescriptor fn m) s fn m e .carrierState 0 [] s) ∧
      (16 ≤ field r 0 1 → Answers (.carrierDescriptor fn m) s fn m e .badPayload 0 [] s)) ∧
    (∀ c, c = field r 0 1 →
      (Served fn m 0x0303 1 e s →
        (16 ≤ c → Answers (.carrierRemove fn m) s fn m e .badPayload 0 [] s) ∧
        (c < 16 → (carrierAt s c).st ≠ .inService → Answers (.carrierRemove fn m) s fn m e .carrierState 0 [] s) ∧
        (c < 16 → (carrierAt s c).st = .inService → s.red.st ≠ .none → roleOf s c ∉ [.empty, .nonMember, .failed, .vacated] →
          Answers (.carrierRemove fn m) s fn m e .arrayState 0 [] s) ∧
        (c < 16 → (carrierAt s c).st = .inService → (s.red.st = .none ∨ roleOf s c ∈ [.empty, .nonMember, .failed, .vacated]) →
         (carrierIdle s c = false → Gives (.carrierRemove fn m) s (fun t => carrierAt t c = { carrierAt s c with drain := 1 } ∧ Waits fn m e s t)) ∧
         (carrierIdle s c = true → ∃ t, Answers (.carrierRemove fn m) s fn m e .success 0 [] t ∧ (carrierAt t c).st = .emptyPending ∧ (carrierAt t c).pwrEn = false ∧
            (carrierAt t c).padsIsolated = true ∧ (∀ k, k ≠ c → (carrierAt t k).st = (carrierAt s k).st) ∧ t.red.st = s.red.st ∧ t.red.roles = s.red.roles ∧ guarded t = guarded s))) ∧
      (Served fn m 0x0304 1 e s →
        (16 ≤ c → Answers (.carrierOut fn m) s fn m e .badPayload 0 [] s) ∧
        (c < 16 → (carrierAt s c).st ≠ .inService → Answers (.carrierOut fn m) s fn m e .carrierState 0 [] s) ∧
        (c < 16 → (carrierAt s c).st = .inService → (s.red.st ≠ .normal ∨ s.red.reshape.isSome = true) → Answers (.carrierOut fn m) s fn m e .arrayState 0 [] s) ∧
        (c < 16 → (carrierAt s c).st = .inService → s.red.st = .normal → s.red.reshape = none →
         (carrierIdle s c = false → Gives (.carrierOut fn m) s (fun t => carrierAt t c = { carrierAt s c with drain := 2 } ∧ Waits fn m e s t)) ∧
         (carrierIdle s c = true → ∃ t, Answers (.carrierOut fn m) s fn m e .success 0 [] t ∧ (carrierAt t c).st = .outOfService ∧ (∀ k, k ≠ c → carrierAt t k = carrierAt s k) ∧
            (roleOf s c = .member → t.red.st = .degraded ∧ t.red.failedSlot = some c ∧ t.red.rebuildDeferred = true ∧ roleOf t c = .outOfService) ∧
            (roleOf s c ≠ .member → t.red = s.red ∧ t.map = s.map) ∧ guarded t = guarded s))) ∧
      (Served fn m 0x0305 1 e s →
        (16 ≤ c → Answers (.carrierReturn fn m) s fn m e .badPayload 0 [] s) ∧
        (c < 16 → (carrierAt s c).st ≠ .outOfService → Answers (.carrierReturn fn m) s fn m e .carrierState 0 [] s) ∧
        (c < 16 → (carrierAt s c).st = .outOfService → ∃ t, Answers (.carrierReturn fn m) s fn m e .success 0 [] t ∧
          (s.red.offeringOpen = false → (carrierAt t c).st = .ready ∧ (∀ k, k ≠ c → carrierAt t k = carrierAt s k) ∧ t.red = s.red ∧ t.map = s.map) ∧
          guarded t = guarded s)))

/-- The Redundancy and Retention families (R127, R129, R202 to R205, R210). -/
def Obligations.ArraysAndRetention : Prop :=
  ∀ (s : State) (fn : Func) (m : Fin 16) (e : MbxExec), ∀ r, r = e.request →
    (Served fn m 0x0401 0 e s → ∃ l, Answers (.arrayStatus fn m) s fn m e .success 0 l (drawNat s).2 ∧ l.length = 576 ∧ field l 2 1 = s.red.st.code ∧
      ∀ c : Carrier, field l (64 + 32 * c.val) 1 = c.val ∧ (roleOf s c ≠ .empty → field l (65 + 32 * c.val) 1 = (roleOf s c).code)) ∧
    (Served fn m 0x0402 4 e s → ∃ l, Answers (.lostStripes fn m) s fn m e .success l.length (l.flatMap lostStripeEntry) s ∧
      l = (s.red.lostStripes.drop (field r 0 4)).take 4096 ∧ ∀ x, (lostStripeEntry x).length = 16) ∧
    (∀ findings, MbxServed fn m 0x0403 e s → e.len = 257 → field r 256 1 = 1 → UnderKey (.heldRecoverReadOnly fn m findings) s fn m 0x0403 e (
      (s.red.st ≠ .held → Answers (.heldRecoverReadOnly fn m findings) s fn m e .arrayState 0 [] (accepted s fn m 0x0403)) ∧
      (s.red.st = .held → ∃ t, Answers (.heldRecoverReadOnly fn m findings) s fn m e .success 0 [] t ∧ t.red.st = .heldReadOnly ∧
        t = { accepted s fn m 0x0403 with red := { s.red with st := .heldReadOnly, lostStripes := t.red.lostStripes } } ∧
        ∀ x ∈ t.red.lostStripes, ∃ b, (x.band, b) ∈ s.map.core.bands ∧ x.blocks ≠ 0))) ∧
    (MbxServed fn m 0x0403 e s → e.len = 257 → field r 256 1 = 2 → UnderKey (.heldRecoverResume fn m) s fn m 0x0403 e (
      (isHeld s = false ∨ (∃ c : Carrier, slotResumes s c = false) → Answers (.heldRecoverResume fn m) s fn m e .arrayState 0 [] (accepted s fn m 0x0403)) ∧
      (isHeld s = true → (∀ c : Carrier, slotResumes s c = true) → s.red.returned = [] → s.red.waiting = [] →
        ∃ t, Answers (.heldRecoverResume fn m) s fn m e .success 0 [] t ∧ t.red.st = s.red.before ∧ t.red.heldCause = 0 ∧ t.red.failedBeforeHeld = none ∧
          t.red.lostStripes = [] ∧ t.red.roles = s.red.roles ∧ (∀ b, b ∈ t.map.core.bands → b.2.resyncDone = false) ∧ guarded t = guarded s))) ∧
    (∀ c, c = field r 0 1 →
      (Served fn m 0x0404 1 e s →
        (16 ≤ c → Answers (.retire fn m) s fn m e .badPayload 0 [] s) ∧
        (c < 16 → s.red.st ≠ .normal ∨ s.red.reshape.isSome = true ∨ roleOf s c ≠ .member → Answers (.retire fn m) s fn m e .arrayState 0 [] s) ∧
        (c < 16 → s.red.st = .normal → s.red.reshape = none → roleOf s c = .member → ∃ t, Answers (.retire fn m) s fn m e .success 0 [] t ∧
          t.red.st = .evacuating ∧ roleOf t c = .retiring ∧ (∀ k, k ≠ c → roleOf t k = roleOf s k) ∧
          t.red.reshape = some { kind := 1, slot := c, serial := serialOf s c, startHours := opHours s } ∧
          (∀ b, b ∈ t.map.core.bands → b.2.reshaped = false) ∧ t.media = s.media ∧ guarded t = guarded s)) ∧
      (Served fn m 0x0405 1 e s →
        (16 ≤ c → Answers (.copyback fn m) s fn m e .badPayload 0 [] s) ∧
        (c < 16 → s.red.st ≠ .spared ∨ s.red.reshape.isSome = true ∨ roleOf s c ≠ .replacement → Answers (.copyback fn m) s fn m e .arrayState 0 [] s) ∧
        (c < 16 → s.red.st = .spared → s.red.reshape = none → roleOf s c = .replacement → setting s 0x04 9 = 0 →
          ∃ t, Answers (.copyback fn m) s fn m e .success 0 [] t ∧ t.red.st = .copyback ∧
            t.red.reshape.map (fun x => (x.kind, x.slot, x.position)) = some (2, c, 0) ∧ t.red.roles = s.red.roles ∧
            (∀ b, b ∈ t.map.core.bands → b.2.reshaped = false) ∧ t.media = s.media ∧ guarded t = guarded s))) ∧
    (Served fn m 0x0501 0 e s → ∃ l, Answers (.starlightReport fn m) s fn m e .success 0 l (drawNat s).2 ∧ l.length = 2112 ∧
      field l 8 1 = dawnState s ∧ field l 12 4 = s.ret.prepareTarget % 2 ^ 32) ∧
    (Served fn m 0x0502 4 e s →
      (field r 0 4 = 0 → prepareNow s ≠ 1 → Answers (.darkPrepare fn m) s fn m e .success 0 [] s) ∧
      (field r 0 4 = 0 → prepareNow s = 1 → ∃ t, Answers (.darkPrepare fn m) s fn m e .success 0 [] t ∧ t.ret.prepareState = 0 ∧ t.ret.prepareBands = [] ∧
        (∀ n b, bandAt t.map.core n = some b → ∃ b', bandAt s.map.core n = some b' ∧ (b.retQueued = b'.retQueued ∨ (b.retQueued = 0 ∧ n ∈ s.ret.prepareBands))) ∧
        t.media.pages = s.media.pages ∧ guarded t = guarded s) ∧
      (field r 0 4 ≠ 0 → isHeld s = true → Answers (.darkPrepare fn m) s fn m e .arrayState 0 [] s) ∧
      (field r 0 4 ≠ 0 → isHeld s = false → ∃ t, Answers (.darkPrepare fn m) s fn m e .success 0 [] t ∧ t.ret.prepareState = 1 ∧ t.ret.prepareTarget = field r 0 4 ∧
        (∀ n ∈ t.ret.prepareBands, ∃ b, bandAt s.map.core n = some b ∧ isEvaluated b = true) ∧ t.media.pages = s.media.pages ∧ t.red = s.red ∧ guarded t = guarded s))

/-- The Seal and Halo families (R235 to R240, R261 to R283). -/
def Obligations.SealsAndSessions : Prop :=
  ∀ (s : State) (fn : Func) (m : Fin 16) (e : MbxExec), ∀ r id, r = e.request → id = field r 0 8 →
    (Served fn m 0x0601 8 e s → ∃ l : List Seal, Answers (.sealList fn m) s fn m e .success l.length (l.flatMap sealEntry) s ∧ l.length ≤ 1024 ∧
      l.Pairwise (fun a b => a.id ≤ b.id) ∧ (∀ y ∈ l, y ∈ s.sealing.seals ∧ id ≤ y.id ∧ sealVisible s fn y = true) ∧
      (∀ y ∈ s.sealing.seals, id ≤ y.id → sealVisible s fn y = true → y ∈ l ∨ (l.length = 1024 ∧ ∀ z ∈ l, z.id ≤ y.id)) ∧ ∀ y, (sealEntry y).length = 64) ∧
    ((sealById s id).filter (sealVisible s fn) = none →
      (Served fn m 0x0602 8 e s → Answers (.sealRecord fn m) s fn m e .sealUnknown 0 [] s) ∧
      (Served fn m 0x0603 12 e s → Answers (.sealTree fn m) s fn m e .sealUnknown 0 [] s)) ∧
    (∀ y, (sealById s id).filter (sealVisible s fn) = some y →
      (Served fn m 0x0602 8 e s →
        (y.st = .sealing → Answers (.sealRecord fn m) s fn m e .sealBusy 0 [] s) ∧
        (y.st ≠ .sealing → Answers (.sealRecord fn m) s fn m e .success y.custody.length (y.record ++ y.custody.flatten) s)) ∧
      (Served fn m 0x0603 12 e s →
        (y.st = .sealing → Answers (.sealTree fn m) s fn m e .sealBusy 0 [] s) ∧
        (y.st = .unsealed → Answers (.sealTree fn m) s fn m e .notPermitted 0 [] s) ∧
        (y.st ≠ .sealing → y.st ≠ .unsealed → ∃ l, l = (y.levels.flatten.drop (field r 8 4)).take 2048 ∧
          Answers (.sealTree fn m) s fn m e .success l.length (l.flatMap digestBytes) s))) ∧
    (Served fn m 0x0604 0 e s → ∃ chain, chain = Config.certChain sealKeyId ∧
      Answers (.sealIdentity fn m) s fn m e .success 0 (leBytes 4 chain.length ++ chain) s) ∧
    (∀ c k, c = Instr.unseal fn m → k = field r 256 8 → Served fn m 0x0605 264 e s → UnderKey c s fn m 0x0605 e (
      ((sealById s k).filter (sealVisible s fn) = none → Answers c s fn m e .sealUnknown 0 [] (accepted s fn m 0x0605)) ∧
      (∀ y, (sealById s k).filter (sealVisible s fn) = some y →
        (y.st = .sealing → Answers c s fn m e .sealBusy 0 [] (accepted s fn m 0x0605)) ∧
        (y.st = .unsealed → Answers c s fn m e .success 0 [] (accepted s fn m 0x0605)) ∧
        (y.st ≠ .sealing → y.st ≠ .unsealed → sealAtWork s y = true → Answers c s fn m e .sealBusy 0 [] (accepted s fn m 0x0605)) ∧
        (y.st ≠ .sealing → y.st ≠ .unsealed → sealAtWork s y = false → isHeld s = true → Answers c s fn m e .arrayState 0 [] (accepted s fn m 0x0605)) ∧
        (y.st ≠ .sealing → y.st ≠ .unsealed → sealAtWork s y = false → isHeld s = false → ∃ t, Answers c s fn m e .success 0 [] t ∧
          sealById t k = some { y with st := .unsealed, levels := [] } ∧ (∀ j, j ≠ k → sealById t j = sealById s j) ∧
          (∀ i, i < y.spans → lookup t.map.core.sealed (spanKey y.nsid (y.slba / 256 + i)) = none) ∧ t.map.tail = [] ∧
          t.map.core.entries = s.map.core.entries ∧ guarded t = guarded s)))) ∧
    (Served fn m 0x0701 0 e s → Answers (.haloTopology fn m) s fn m e .success s.halo.entries.length (tokenBody s.halo.entries) s ∧
      (tokenBody s.halo.entries).length = 1024) ∧
    (Served fn m 0x0702 24 e s →
      (∀ o, sessionBad s r = some o → Answers (.sessionCreate fn m) s fn m e .badPayload o [] s) ∧
      (sessionBad s r = none → 64 ≤ s.halo.mirrors.length ∨ (mirrorAt s (newMirror s r).session).isSome = true →
        Answers (.sessionCreate fn m) s fn m e .sessionState 0 [] s) ∧
      (sessionBad s r = none → s.halo.mirrors.length < 64 → mirrorAt s (newMirror s r).session = none → ∃ t,
        Answers (.sessionCreate fn m) s fn m e .success 0 (leBytes 4 (newMirror s r).session) t ∧ t.halo.mirrors = s.halo.mirrors ++ [newMirror s r] ∧
        t.halo.nextSession = s.halo.nextSession + (if (newMirror s r).secondary then 0 else 1) ∧
        t = { s with halo := { s.halo with mirrors := t.halo.mirrors, nextSession := t.halo.nextSession } })) ∧
    (∀ x, x = field r 0 4 → Served fn m 0x0703 4 e s →
      (mirrorAt s x = none → Answers (.sessionRemove fn m) s fn m e .sessionState 0 [] s) ∧
      (∀ k, mirrorAt s x = some k → ∃ t, Answers (.sessionRemove fn m) s fn m e .success 0 [] t ∧ mirrorAt t x = none ∧
        (∀ y, y ≠ x → mirrorAt t y = mirrorAt s y) ∧ (∀ n, nsAt t k.localNsid = some n → n.locked = false) ∧
        (∀ j, j ≠ k.localNsid → nsAt t j = nsAt s j) ∧ t.map = s.map ∧ guarded t = guarded s)) ∧
    (Served fn m 0x0704 0 e s → Answers (.sessionList fn m) s fn m e .success (sessionDescs s).length ((sessionDescs s).flatMap descBytes) s ∧
      ∀ d, (descBytes d).length = 40) ∧
    (∀ p, p = field r 0 1 → Served fn m 0x0705 1 e s →
      (32 ≤ p ∨ p = nodeId s → Answers (.migrateStart fn m) s fn m e .badPayload 0 [] s) ∧
      (p < 32 → p ≠ nodeId s → s.red.st = .held → Answers (.migrateStart fn m) s fn m e .arrayState 0 [] s) ∧
      (p < 32 → p ≠ nodeId s → s.red.st ≠ .held → s.halo.migration.isSome = true → Answers (.migrateStart fn m) s fn m e .sessionState 0 [] s) ∧
      (p < 32 → p ≠ nodeId s → s.red.st ≠ .held → s.halo.migration = none → Gives (.migrateStart fn m) s (fun t =>
        t.halo.migration = some { session := newSession s, peer := p, todo := firstPass s, beginWaiter := some (boxKey fn m, e.id) } ∧
        (boxAt t (boxKey fn m)).exec = some { e with waiting := true } ∧ (boxAt t (boxKey fn m)).done = (boxAt s (boxKey fn m)).done ∧
        t.halo.nextSession = s.halo.nextSession + 1 ∧ t.halo.mirrors = s.halo.mirrors ∧ t.map = s.map ∧ guarded t = guarded s))) ∧
    (∀ f, f = field r 0 1 → Served fn m 0x0706 1 e s →
      (1 < f → Answers (.migrateCancel fn m) s fn m e .badPayload 0 [] s) ∧
      (f ≤ 1 → s.halo.migration = none → Answers (.migrateCancel fn m) s fn m e .sessionState 0 [] s) ∧
      (∀ g, f ≤ 1 → s.halo.migration = some g →
        (g.successor = true ∨ g.st = .committed ∨ (g.st = .committing ∧ f = 0) → Answers (.migrateCancel fn m) s fn m e .sessionState 0 [] s) ∧
        (g.successor = false → g.st ≠ .committed → (g.st = .committing → f = 1) → ∃ t, Answers (.migrateCancel fn m) s fn m e .success 0 [] t ∧
          t.halo.migration = none ∧ t.halo.mirrors = s.halo.mirrors ∧ t.map = s.map ∧ guarded t = guarded s))) ∧
    (Served fn m 0x0707 0 e s → Answers (.migrateStatus fn m) s fn m e .success 0 (migrateResult s) s ∧ (migrateResult s).length = 64 ∧
      (s.halo.migration = none → migrateResult s = zeros 64)) ∧
    (∀ p, p = field r 0 1 → Served fn m 0x0708 1 e s →
      (32 ≤ p ∨ p = nodeId s → Answers (.wakeNode fn m) s fn m e .badPayload 0 [] s) ∧
      (p < 32 → p ≠ nodeId s → Gives (.wakeNode fn m) s (fun t => (boxAt t (boxKey fn m)).exec = some { e with waiting := true } ∧
        t.halo.wakeWaiter = s.halo.wakeWaiter ++ [(s.halo.nextXid, (boxKey fn m, e.id))] ∧ t.halo.nextXid = (s.halo.nextXid + 1) % 2 ^ 32 ∧
        t.halo.migration = s.halo.migration ∧ t.halo.mirrors = s.halo.mirrors ∧ t.map = s.map ∧ guarded t = guarded s)))

/-- The Almanac, Power/Health, Cooling and Firmware families (R441, R444, R451, R479, R485, R498, R508). -/
def Obligations.HealthCoolingAndFirmware : Prop :=
  ∀ (s : State) (fn : Func) (m : Fin 16) (e : MbxExec), ∀ r, r = e.request →
    (Served fn m 0x0801 256 e s → UnderKey (.almClear fn m) s fn m 0x0801 e (Gives (.almClear fn m) s (fun t =>
      Waits fn m e (accepted s fn m 0x0801) t ∧ t.alm.clearing = true ∧ t.alm.clearWaiter = some (boxKey fn m, e.id) ∧ t.alm.openRec = none ∧
      (∃ x, t.alm.records.getLast? = some x ∧ x.body.code = 0x0A01 ∧ x.body.severity = .critical ∧ x.live = true ∧
        x.sequence = s.alm.nextSequence ∧ x.sector = s.alm.spareSector) ∧
      t.alm.clearLeft = (List.range almSectors).filter (· != s.alm.spareSector) ∧ t.alm.event.getLsbD 3 = true ∧
      (s.media.csErase = none → t.media.csOwn = true ∧ t.media.csErase = some (almSectorBase (t.alm.clearLeft.headD 0), 0)) ∧
      t = { accepted s fn m 0x0801 with alm := t.alm, media := t.media, mbx := t.mbx }))) ∧
    (∀ a k (o : DieOutcome), o.ok = true → s.media.csErase = some (a, k) → s.media.csOwn = true → s.media.csWaiting = [] → s.alm.clearing = true → almSectorOf a = some (s.alm.clearLeft.headD 0) →
      s.alm.clearLeft = [s.alm.clearLeft.headD 0] → s.alm.clearFailed = false → s.alm.clearWaiter = some (boxKey fn m, e.id) →
      (boxAt s (boxKey fn m)).exec = some e → ∃ t, exec (.dieOperationDone .configStore o) s = .next (mbxEnd t (boxKey fn m) e .success 0 []) ∧
        t.alm.clearing = false ∧ t.alm.clearLeft = [] ∧ t.alm.drops = Vector.replicate 4 0 ∧ t.alm.dropsSaved = Vector.replicate 4 0 ∧
        (∀ x, x ∈ t.alm.records ↔ x ∈ s.alm.records ∧ x.sector ≠ s.alm.clearLeft.headD 0) ∧ t.media.csErase = none ∧ guarded t = guarded s) ∧
    (Served fn m 0x0802 0 e s → ∃ l, Answers (.almInfo fn m) s fn m e .success 0 l (drawNat s).2 ∧ l.length = 64 ∧
      field l 0 4 = (liveRecords s.alm).length % 2 ^ 32 ∧ field l 0x28 4 = s.alm.lastChain.toNat ∧
      (∀ x y, (liveRecords s.alm).head? = some x → (liveRecords s.alm).getLast? = some y →
        field l 8 8 = x.sequence % 2 ^ 64 ∧ field l 16 8 = y.sequence % 2 ^ 64)) ∧
    (Served fn m 0x0901 0 e s → Answers (.healthReport fn m) s fn m e .success 0 (healthResult s) s ∧ (healthResult s).length = 256) ∧
    (Served fn m 0x0902 0 e s → Gives (.holdupMeasure fn m) s (fun t => t.pwr.measuring = true ∧ t.pwr.measureWaiter = some (boxKey fn m, e.id) ∧
      (boxAt t (boxKey fn m)).exec = some { e with waiting := true } ∧ (∀ k, k ≠ boxKey fn m → boxAt t k = boxAt s k) ∧
      (s.pwr.measuring = false → t.pins.holdupTest = true ∧ t.pwr.measureDue = false) ∧ (s.pwr.measuring = true → t.pins = s.pins) ∧
      t = { s with pwr := t.pwr, pins := t.pins, mbx := { s.mbx with boxes := t.mbx.boxes } })) ∧
    (∀ sample, Served fn m 0x0903 0 e s → Answers (.ageingReplan fn m sample) s fn m e .success 0 [] (replan s sample) ∧
      (∀ i, i < 16 → vget s.pwr.offset 0 i ≤ vget (replan s sample).pwr.offset 0 i) ∧ (replan s sample).pwr.p0Freq ≤ s.pwr.p0Freq ∧
      (replan s sample).pwr.lastReplan = opHours s ∧ (replan s sample).map = s.map ∧ guarded (replan s sample) = guarded s) ∧
    (∀ sample, begunCommand s (boxKey fn m) 0x0903 = none → replanMayRun s = true → Gives (.ageingReplan fn m sample) s (fun t => t = replan s sample)) ∧
    (Served fn m 0x0A01 0 e s → ∃ l, Answers (.coolingStatus fn m) s fn m e .success 0 l (drawNat s).2 ∧ l.length = 192 ∧
      ∀ k : Fin 4, field l (64 + 32 * k.val) 1 = (motorAt s k).st.code) ∧
    (Served fn m 0x0A02 0 e s → ∃ t, Answers (.loopSave fn m) s fn m e .success 0 [] t ∧ t = { s with cool := { s.cool with saved := t.cool.saved } } ∧
      ∃ v, t.cool.saved = some v ∧ ∀ k : Fin 16, v[k].active = s.cool.slot[k].active ∧ v[k].enable = s.cool.slot[k].enable ∧ v[k].sp = s.cool.slot[k].sp ∧
        v[k].outMin = s.cool.slot[k].outMin ∧ v[k].outMax = s.cool.slot[k].outMax) ∧
    (Served fn m 0x0B01 0 e s → ∃ l, Answers (.fwStatus fn m) s fn m e .success 0 l s ∧ l.length = 64 ∧ field l 0 1 = s.fw.activeSlot.val ∧
      field l 2 1 = (if s.fw.policy = true then 1 else 0) ∧ field l 4 4 = s.fw.antiRollback % 2 ^ 32 ∧
      slice l 8 8 = padTo 8 (slotAt s.fw 0).fwVersion ∧ slice l 16 8 = padTo 8 (slotAt s.fw 1).fwVersion) ∧
    (∀ x, x = slotAt s.fw (inactiveSlot s.fw) → Served fn m 0x0B02 96 e s →
      (s.mbx.custodianKey = none → Answers (.fwCountersign fn m) s fn m e .authRequired 0 [] s) ∧
      (∀ pub, s.mbx.custodianKey = some pub →
        (x.state ≠ .committed ∨ slice r 0 32 ≠ digestBytes x.digest → Answers (.fwCountersign fn m) s fn m e .notPermitted 0 [] s) ∧
        (x.state = .committed → slice r 0 32 = digestBytes x.digest →
          (Config.sm2Verify pub (slice r 0 32) (signatureAt r 32) = false → Answers (.fwCountersign fn m) s fn m e .authFailed 0 [] (noteAuthFailed s 0x0B02)) ∧
          (Config.sm2Verify pub (slice r 0 32) (signatureAt r 32) = true → ∃ t, Answers (.fwCountersign fn m) s fn m e .success 0 [] t ∧
            slotAt t.fw (inactiveSlot s.fw) = { x with countersignature := some (signatureAt r 32), keyIndex := s.mbx.keyIndex } ∧
            slotAt t.fw s.fw.activeSlot.val = slotAt s.fw s.fw.activeSlot.val ∧ t = { s with fw := { s.fw with slots := t.fw.slots } })))) ∧
    (Served fn m 0x0B03 0 e s →
      (s.mbx.custodianKey = none → Answers (.fwPolicy fn m) s fn m e .notPermitted 0 [] s) ∧
      (s.mbx.custodianKey.isSome = true → Answers (.fwPolicy fn m) s fn m e .success 0 [] { s with fw := { s.fw with policy := true } }))

/-- The Security and Diagnostics families (R221, R334, R374 to R379, R410 to R412). -/
def Obligations.SecurityAndDiagnostics : Prop :=
  (∀ (s : State) (fn : Func) (m : Fin 16) (e : MbxExec), ∀ r, r = e.request →
    (Served fn m 0x0D01 257 e s → UnderKey (.sanitizeGrant fn m) s fn m 0x0D01 e (
      (field r 256 1 = 1 ∨ field r 256 1 = 2 → ∃ t, Answers (.sanitizeGrant fn m) s fn m e .success 0 [] t ∧
        t = { accepted s fn m 0x0D01 with nvme := { s.nvme with sanitize := { s.nvme.sanitize with
          grants := s.nvme.sanitize.grants.filter (fun g => g.1 != field r 256 1) ++ [(field r 256 1, s.time.opMs)] } } }) ∧
      (field r 256 1 ≠ 1 → field r 256 1 ≠ 2 → Answers (.sanitizeGrant fn m) s fn m e .badPayload 256 [] (accepted s fn m 0x0D01)))) ∧
    (Served fn m 0x0D02 1 e s →
      (1 < field r 0 1 → Answers (.mediaEncryptSet fn m) s fn m e .badPayload 0 [] s) ∧
      (field r 0 1 ≤ 1 → s.nvme.namespaces ≠ [] → Answers (.mediaEncryptSet fn m) s fn m e .nsPresent 0 [] s) ∧
      (field r 0 1 ≤ 1 → s.nvme.namespaces = [] → Answers (.mediaEncryptSet fn m) s fn m e .success 0 []
        { s with mbx := { s.mbx with mediaEncrypt := (field r 0 1 == 1) } })) ∧
    (Served fn m 0x0D10 0 e s →
      (s.mbx.lockout = true → Answers (.challenge fn m) s fn m e .authLockout 0 [] s) ∧
      (s.mbx.lockout = false → ∃ t l, Answers (.challenge fn m) s fn m e .success 0 l t ∧ l.length = 64 ∧
        slice l 0 32 = digestBytes (Config.random s.freeCtr) ∧ field l 0x34 4 = 60000 ∧
        (boxAt t (boxKey fn m)).challenge = some (Config.random s.freeCtr, s.time.opMs) ∧ (∀ k, k ≠ boxKey fn m → boxAt t k = boxAt s k) ∧
        t = { s with freeCtr := s.freeCtr + 1, mbx := { s.mbx with boxes := t.mbx.boxes } })) ∧
    (∀ k, k = pubKeyAt r 0 → Served fn m 0x0D11 160 e s →
      (s.mbx.custodianKey.isSome = true → Answers (.custodianEnrol fn m) s fn m e .notPermitted 0 [] s) ∧
      (s.mbx.custodianKey = none → challengeLive s (boxKey fn m) (slice r 0x40 32) = false → Answers (.custodianEnrol fn m) s fn m e .authStale 0 [] s) ∧
      (s.mbx.custodianKey = none → challengeLive s (boxKey fn m) (slice r 0x40 32) = true →
        (Config.sm2Verify k (slice r 0 0x60) (signatureAt r 0x60) = false → Answers (.custodianEnrol fn m) s fn m e .authFailed 0 [] (rejected s fn m 0x0D11)) ∧
        (Config.sm2Verify k (slice r 0 0x60) (signatureAt r 0x60) = true → ∃ t, Answers (.custodianEnrol fn m) s fn m e .success 0 [] t ∧
          t.mbx.custodianKey = some k ∧ t.mbx.keyIndex = 0 ∧ (∃ kr, t.mbx.keyRecords = s.mbx.keyRecords ++ [kr] ∧ kr.length = 128 ∧ slice kr 0 4 = ascii "CKEY" ∧
            field kr 6 2 = 0 ∧ slice kr 0x10 64 = octets64 k ∧ field kr 0x7C 4 = (crc32c (slice kr 0 0x7C)).toNat) ∧
          (boxAt t (boxKey fn m)).challenge = none ∧
          t = { s with mbx := { s.mbx with boxes := t.mbx.boxes, custodianKey := t.mbx.custodianKey, keyIndex := t.mbx.keyIndex, keyRecords := t.mbx.keyRecords } }))) ∧
    (fn ≠ 0 → begunCommand s (boxKey fn m) 0x0D11 = some e → s.fw.intakeStalled = false → s.pwr.sleep = .zenith → s.pwr.phase = .steady →
      Answers (.custodianEnrol fn m) s fn m e .notPermitted 0 [] s) ∧
    (∀ k c, k = pubKeyAt r 256 → c = Instr.custodianRotate fn m → Served fn m 0x0D12 384 e s → UnderKey c s fn m 0x0D12 e (
      (256 ≤ s.mbx.keyRecords.length → Answers c s fn m e .csFull 0 [] (accepted s fn m 0x0D12)) ∧
      (s.mbx.keyRecords.length < 256 →
        (Config.sm2Verify k (slice r 256 64 ++ slice r 0x10 32) (signatureAt r 320) = false →
          Answers c s fn m e .authFailed 0 [] (noteAuthFailed (accepted s fn m 0x0D12) 0x0D12)) ∧
        (Config.sm2Verify k (slice r 256 64 ++ slice r 0x10 32) (signatureAt r 320) = true → ∃ t, Answers c s fn m e .success 0 [] t ∧
          t.mbx.custodianKey = some k ∧ t.mbx.keyIndex = s.mbx.keyIndex + 1 ∧ (∀ b, (boxAt t b).challenge = none) ∧
          (∃ kr, t.mbx.keyRecords = s.mbx.keyRecords ++ [kr] ∧ kr.length = 128 ∧ field kr 6 2 = (s.mbx.keyIndex + 1) % 65536 ∧
            slice kr 0x10 64 = octets64 k) ∧ t.mbx.lockout = s.mbx.lockout ∧
          t = { accepted s fn m 0x0D12 with mbx := t.mbx } ∧ t.mbx.mediaEncrypt = s.mbx.mediaEncrypt)))) ∧
    (Served fn m 0x0D13 0 e s → ∃ l, Answers (.custodianKey fn m) s fn m e .success 0 l s ∧ l.length = 100 ∧
      (s.mbx.custodianKey = none → l = zeros 96 ++ [0xFF, 0xFF, 0xFF, 0xFF]) ∧
      (∀ k, s.mbx.custodianKey = some k → slice l 0 64 = octets64 k ∧ slice l 64 32 = digestBytes (keyId k) ∧ field l 96 4 = s.mbx.keyIndex % 2 ^ 32)) ∧
    (Served fn m 0x0F01 0 e s → ∃ l, Answers (.dgnStatus fn m) s fn m e .success 0 l s ∧ l.length = 208 ∧ field l 8 8 = s.dram.freezeAddr % 2 ^ 64 ∧
      ∀ c : Fin 8, field l (80 + 16 * c.val) 1 = s.dram.ch[c].st.code) ∧
    (Served fn m 0x0F02 8 e s →
      (field r 0 8 % 2 ^ 24 ≠ 0 → Answers (.dgnWindow fn m) s fn m e .badPayload 0 [] s) ∧
      (field r 0 8 % 2 ^ 24 = 0 → s.dram.frozen = false → Answers (.dgnWindow fn m) s fn m e .notPermitted 0 [] s) ∧
      (field r 0 8 % 2 ^ 24 = 0 → s.dram.frozen = true → Answers (.dgnWindow fn m) s fn m e .success 0 []
        { s with dram := { s.dram with windowBase := field r 0 8, windowValid := true, windowUe := 0 } }))) ∧
  (∀ (s : State) (off len ue : Nat) (stored : Bytes),
    (barReached s 0 = false ∨ 2 ^ 24 < off + len → Gives (.diagnosticWindowRead off len stored ue) s (fun t => t = s)) ∧
    (barReached s 0 = true → off + len ≤ 2 ^ 24 → s.dram.frozen = false ∨ s.dram.windowValid = false →
      Gives (.diagnosticWindowRead off len stored ue) s (fun t => t = { s with dram := { s.dram with windowData := zeros len } })) ∧
    (barReached s 0 = true → off + len ≤ 2 ^ 24 → s.dram.frozen = true → s.dram.windowValid = true →
      Gives (.diagnosticWindowRead off len stored ue) s (fun t => t.dram.windowData.length = len ∧
        (∀ i, i < len → t.dram.windowData.getD i 0 = if s.dram.windowBase + off + i < dramBytes s then stored.getD i 0 else 0) ∧
        min s.dram.windowUe 0xFFFFFFFF ≤ t.dram.windowUe ∧ t.dram.windowUe ≤ 0xFFFFFFFF ∧
        t = { s with dram := { s.dram with windowData := t.dram.windowData, windowUe := t.dram.windowUe } }))) ∧
  (∀ s : State, Gives .sanitizeGrantExpiry s (fun t => (s.nvme.sanitize.grants.length ≤ 1 → grantValid t 1 = false ∧ grantValid t 2 = false) ∧
      t = { s with nvme := { s.nvme with sanitize := { s.nvme.sanitize with grants := s.nvme.sanitize.grants.drop 1 } } }) ∧
    Gives .authLockoutExpiry s (fun t => t = { s with mbx := { s.mbx with lockout := false } }) ∧
    ∀ (fn : Func) (m : Fin 16), Gives (.challengeExpiry fn m) s (fun t => (∀ nonce, challengeLive t (boxKey fn m) nonce = false) ∧
      (∀ k, k ≠ boxKey fn m → boxAt t k = boxAt s k) ∧ t = { s with mbx := { s.mbx with boxes := t.mbx.boxes } }))

/-- The VF Manager family (R347 to R357). -/
def Obligations.VfLifecycle : Prop :=
  (∀ (s : State) (fn : Func) (m : Fin 16) (e : MbxExec), ∀ r n v key, r = e.request → n = field r 0 2 → v = vfAt s n → key = boxKey fn m →
    (∀ c op, (c, op) ∈ [(Instr.vfConfigure fn m, 0x0C02), (.vfQuiesce fn m, 0x0C03), (.vfSave fn m, 0x0C04), (.vfRestore fn m, 0x0C05), (.vfResume fn m, 0x0C06)] →
      fn = 0 → begunCommand s key op = some e → s.fw.intakeStalled = false → s.pwr.sleep = .zenith → s.pwr.phase = .steady → e.len ≤ 65536 →
      familyServed s op = true → objectBusy s e.id (0x0C, n) = true → Answers c s fn m e .busyOrder 0 [] s) ∧
    (1 ≤ n → n ≤ 127 →
    (v.st = .none →
      (Served fn m 0x0C01 2 e s → Answers (.vfStatus fn m) s fn m e .vfState 0 [] s) ∧
      (Served fn m 0x0C02 6 e s → Answers (.vfConfigure fn m) s fn m e .vfState 0 [] s) ∧
      (Served fn m 0x0C03 8 e s → Answers (.vfQuiesce fn m) s fn m e .vfState 0 [] s) ∧
      (Served fn m 0x0C04 8 e s → Answers (.vfSave fn m) s fn m e .vfState 0 [] s) ∧
      (Served fn m 0x0C05 9600 e s → Answers (.vfRestore fn m) s fn m e .vfState 0 [] s) ∧
      (Served fn m 0x0C06 3 e s → Answers (.vfResume fn m) s fn m e .vfState 0 [] s)) ∧
    (v.st ≠ .none →
      (Served fn m 0x0C01 2 e s → ∃ l, Answers (.vfStatus fn m) s fn m e .success 0 l s ∧ l.length = 64 ∧ field l 0 2 = n ∧ field l 2 1 = v.st.code ∧
        field l 0x0C 4 = outstanding s n % 2 ^ 32 ∧ field l 0x10 1 = (if v.configured = true then 1 else 0)) ∧
      (Served fn m 0x0C02 6 e s →
        (960 < field r 2 2 → Answers (.vfConfigure fn m) s fn m e .badPayload 2 [] s) ∧
        (field r 2 2 ≤ 960 → 960 < field r 4 2 → Answers (.vfConfigure fn m) s fn m e .badPayload 4 [] s) ∧
        (field r 2 2 ≤ 960 → field r 4 2 ≤ 960 → ∃ t, Answers (.vfConfigure fn m) s fn m e .success 0 [] t ∧ t = { s with vf := t.vf } ∧
          vfAt t n = { v with readLimit := field r 2 2, writeLimit := field r 4 2, configured := true } ∧ ∀ k, 1 ≤ k → k ≠ n → vfAt t k = vfAt s k)) ∧
      (Served fn m 0x0C03 8 e s → field r 2 2 = 0 → field r 4 4 ≤ 60000 →
        (v.st ≠ .online → v.st ≠ .quiescing → Answers (.vfQuiesce fn m) s fn m e .vfState 0 [] s) ∧
        (v.st = .online ∨ v.st = .quiescing →
          (outstanding s n ≠ 0 → Gives (.vfQuiesce fn m) s (fun t => vfAt t n = { v with st := .quiescing, waiter := some (key, e.id) } ∧
            (boxAt t key).exec = some { e with waiting := true } ∧ (∀ k, 1 ≤ k → k ≠ n → vfAt t k = vfAt s k) ∧
            t = { s with vf := t.vf, mbx := { s.mbx with boxes := t.mbx.boxes } })) ∧
          (outstanding s n = 0 → ∃ t, Answers (.vfQuiesce fn m) s fn m { e with waiting := true } .success 0 [] t ∧
            vfAt t n = { v with st := .quiesced, waiter := none } ∧ (boxAt t key).exec = some { e with waiting := true } ∧
            (∀ k, 1 ≤ k → k ≠ n → vfAt t k = vfAt s k) ∧ t.nvme = s.nvme ∧ t.map = s.map ∧ guarded t = guarded s))) ∧
      (Served fn m 0x0C04 8 e s → field r 2 2 = 0 → field r 4 4 ≤ 600000 →
        (v.st ≠ .quiesced → Answers (.vfSave fn m) s fn m e .vfState 0 [] s) ∧
        (v.st = .quiesced →
          ((∃ i ∈ attachedNs s n, aloneOn s n i = false) → Answers (.vfSave fn m) s fn m e .nsShared 0 [] s) ∧
          ((∀ i ∈ attachedNs s n, aloneOn s n i = true) →
            ((∃ i ∈ attachedNs s n, mirrorActive s i = false) → Answers (.vfSave fn m) s fn m e .notInStep 0 [] s) ∧
            ((∀ i ∈ attachedNs s n, mirrorActive s i = true) →
              (vfInStep s n = true → ∃ t, Answers (.vfSave fn m) s fn m e .success 0 (stateBlob s n) t ∧ (stateBlob s n).length = 9536 ∧
                slice (stateBlob s n) 0 4 = ascii "VFST" ∧ field (stateBlob s n) 0x3C 4 = blobCrc (stateBlob s n) ∧
                vfAt t n = { v with st := .saved, savedNs := attachedNs s n, waiter := none } ∧
                (∀ i x, nsAt t i = some x → ∃ y, nsAt s i = some y ∧ x = (if i ∈ attachedNs s n then { y with locked := true } else y)) ∧
                (∀ k, 1 ≤ k → k ≠ n → vfAt t k = vfAt s k) ∧ t.nvme.ctrl = s.nvme.ctrl ∧ t.map = s.map ∧ guarded t = guarded s) ∧
              (vfInStep s n = false → field r 4 4 = 0 → Answers (.vfSave fn m) s fn m e .notInStep 0 [] s) ∧
              (vfInStep s n = false → field r 4 4 ≠ 0 → Gives (.vfSave fn m) s (fun t => vfAt t n = { v with waiter := some (key, e.id) } ∧
                (boxAt t key).exec = some { e with waiting := true } ∧ (∀ k, 1 ≤ k → k ≠ n → vfAt t k = vfAt s k) ∧
                t = { s with vf := t.vf, mbx := { s.mbx with boxes := t.mbx.boxes } })))))) ∧
      (Served fn m 0x0C05 9600 e s → slice r 2 62 = zeros 62 →
        (v.st ≠ .offline ∨ attachedNs s n ≠ [] → Answers (.vfRestore fn m) s fn m e .vfState 0 [] s) ∧
        (v.st = .offline → attachedNs s n = [] →
          (∀ st, restoreRefusal s (r.drop 64) = some st → Answers (.vfRestore fn m) s fn m e st 0 [] s) ∧
          (restoreRefusal s (r.drop 64) = none → ∃ t, Answers (.vfRestore fn m) s fn m e .success 0 [] t ∧
            (vfAt t n).st = .quiesced ∧ (vfAt t n).savedNs = [] ∧ (vfAt t n).waiter = none ∧ ctrlAt t n = loadedCtrl (r.drop 64) ∧
            (funcAt t n).msixTable = (loadMsix (funcAt s n) (r.drop 64)).msixTable ∧
            (∀ x ∈ blobNsList (r.drop 64), mirrorAt t (field x 4 4) = none ∧ ∃ y, nsAt t (field x 0 4) = some y ∧ n ∈ y.attached) ∧
            (∀ k, 1 ≤ k → k ≠ n → vfAt t k = vfAt s k) ∧ t.map = s.map ∧ guarded t = guarded s))) ∧
      (Served fn m 0x0C06 3 e s →
        (1 < field r 2 1 → Answers (.vfResume fn m) s fn m e .badPayload 2 [] s) ∧
        (field r 2 1 ≤ 1 → v.st ≠ .quiescing → v.st ≠ .quiesced → v.st ≠ .saved → Answers (.vfResume fn m) s fn m e .vfState 0 [] s) ∧
        (field r 2 1 ≤ 1 → v.st = .quiescing ∨ v.st = .quiesced → ∃ t, Answers (.vfResume fn m) s fn m e .success 0 [] t ∧ (vfAt t n).st = .online ∧
          (ctrlAt t n).recorded = [] ∧ (∀ k, k ≠ n → ctrlAt t k = ctrlAt s k) ∧ (∀ i, nsAt t i = nsAt s i) ∧ guarded t = guarded s) ∧
        (field r 2 1 ≤ 1 → v.st = .saved →
          ((∃ i ∈ v.savedNs, ∀ k, primaryMirror s i = some k → k.peerReachable = true ∧ k.peerLists = false) →
            Answers (.vfResume fn m) s fn m e .promoted 0 [] s) ∧
          ((∀ i ∈ v.savedNs, ∃ k, primaryMirror s i = some k ∧ (k.peerReachable = true → k.peerLists = true)) →
            ((∃ i ∈ v.savedNs, ∃ k, primaryMirror s i = some k ∧ k.peerReachable = false) → field r 2 1 = 0 →
              Answers (.vfResume fn m) s fn m e .peerUnknown 0 [] s) ∧
            ((∀ i ∈ v.savedNs, ∀ k, primaryMirror s i = some k → k.peerReachable = true) ∨ field r 2 1 = 1 →
              ∃ t, Answers (.vfResume fn m) s fn m e .success 0 [] t ∧ (vfAt t n).st = .online ∧ (vfAt t n).savedNs = [] ∧
                (∀ i ∈ v.savedNs, ∀ x, nsAt t i = some x → x.locked = false) ∧ (∀ i, i ∉ v.savedNs → nsAt t i = nsAt s i) ∧ guarded t = guarded s))))))) ∧
  (∀ (s : State) (vf : Fin 127) (key : Nat) (e : MbxExec), ∀ v, v = vfAt s (vf.val + 1) →
    (v.st ≠ .quiescing → Gives (.quiesceWaitExpiry vf) s (fun t => t = s)) ∧
    (v.st ≠ .quiesced → Gives (.vfSaveStepWaitExpiry vf) s (fun t => t = s)) ∧
    (v.waiter = some (key, e.id) → (boxAt s key).exec = some e →
      (v.st = .quiescing → ∃ t, exec (.quiesceWaitExpiry vf) s = .next (mbxEnd t key e .quiescePending (outstanding s (vf.val + 1)) []) ∧
        vfAt t (vf.val + 1) = { v with waiter := none } ∧ t = { s with vf := t.vf }) ∧
      (v.st = .quiesced → ∃ t, exec (.vfSaveStepWaitExpiry vf) s = .next (mbxEnd t key e .notInStep 0 []) ∧
        vfAt t (vf.val + 1) = { v with waiter := none } ∧ t = { s with vf := t.vf })))

/-- The anti-rollback counter (R503): raised in its two cases and never lowered. -/
def Obligations.AntiRollbackNeverFalls : Prop :=
  (∀ s t : State, step s = .next t → s.fw.antiRollback ≤ t.fw.antiRollback) ∧
  (∀ (c : Instr) (s t : State), exec c s = .next t → t.fw.antiRollback ≠ s.fw.antiRollback →
    (c = .handoverReady ∧ s.fw.handover = .stalled) ∨ (∃ r : StepResult, c = .bootStepEnd r ∧ StepRuns 13 s)) ∧
  (∀ s : State, s.fw.handover = .stalled → Gives .handoverReady s (fun t =>
    t.fw.activeSlot.val = inactiveSlot s.fw ∧ t.fw.antiRollback = max s.fw.antiRollback (slotAt s.fw (inactiveSlot s.fw)).rollback)) ∧
  (∀ (s : State) (r : StepResult), StepRuns 13 s → r.ok = true → s.red.resyncFirst = [] → Gives (.bootStepEnd r) s (fun t =>
    t.fw.activeSlot = s.fw.activeSlot ∧ t.fw.antiRollback = max s.fw.antiRollback (slotAt s.fw s.fw.activeSlot.val).rollback))

/-- Whole-machine rules on the registers that only certain commands may change (R221, R287, R372, R377 to R379, R449, R479, R508). -/
def Obligations.OnlyTheirCommandsChange : Prop :=
  ∀ (c : Instr) (s t : State), exec c s = .next t →
    (t.settings ≠ s.settings → SettingCommand c) ∧
    (t.mbx.custodianKey ≠ s.mbx.custodianKey ∨ t.mbx.keyIndex ≠ s.mbx.keyIndex ∨ t.mbx.keyRecords ≠ s.mbx.keyRecords →
      ∃ fn m, c = .custodianEnrol fn m ∨ c = .custodianRotate fn m) ∧
    (t.mbx.mediaEncrypt ≠ s.mbx.mediaEncrypt → ∃ fn m, c = .mediaEncryptSet fn m) ∧
    (t.mbx.subsystem ≠ s.mbx.subsystem → s.mbx.subsystem = none ∧ ∃ fn m, c = .subsystemSet fn m) ∧
    (t.pwr.cal ≠ s.pwr.cal → ∃ fn m, c = .subsystemSet fn m ∨ ∃ ok, c = .calOverwrite fn m ok) ∧
    (t.fw.policy ≠ s.fw.policy → t.fw.policy = true ∧ ∃ fn m, c = .fwPolicy fn m) ∧
    (t.cool.saved ≠ s.cool.saved → ∃ fn m, c = .loopSave fn m) ∧
    t.host.serial = s.host.serial ∧ t.host.lot = s.host.lot ∧ t.host.dateCode = s.host.dateCode ∧ t.pending = s.pending

/-- The registers that outlive every reset keep their relations under every step (R372, R377 to R379, R508). -/
def Obligations.KeysHoldKept : Prop :=
  ∀ s t : State, KeysHold s → step s = .next t → KeysHold t

/-- The invariant holds after reset. -/
def Obligations.ResetKeysHold : Prop := KeysHold State.reset

/-- Every command completes and leaves the queue behind it alone. The conclusion holds for all 337 constructors of Instr, with no condition on
the state or the operands:
sqTailDoorbell, cqHeadDoorbell, commandFetch, write, writeAdmission, thermalHoldLimitExpiry, read, flush, writeZeroes, datasetManagement, verify,
sealCmd, secureDeallocate, auditRange, completionPost, createIoSubmissionQueue, deleteIoSubmissionQueue, createIoCompletionQueue,
deleteIoCompletionQueue, getLogPage, identifyCommand, abort, setFeaturesArbitration, setFeaturesPowerManagement, setFeaturesTemperatureThreshold,
setFeaturesNumberOfQueues, setFeaturesInterruptCoalescing, setFeaturesInterruptVectorConfig, setFeaturesAsyncEventConfig, setFeaturesApst,
setFeaturesTimestamp, setFeaturesHctm, getFeatures, asynchronousEventRequest, namespaceCreate, namespaceDelete, namespaceAttach, namespaceDetach,
formatNvm, firmwareImageDownload, firmwareCommitAction0, firmwareCommitAction1, firmwareCommitAction2, firmwareCommitAction3, deviceSelfTestShort,
deviceSelfTestExtended, deviceSelfTestAbort, selfTestResume, virtualizationManagementOnline, virtualizationManagementOffline, securitySend,
securityReceive, sanitizeBlockErase, sanitizeCryptoErase, ccEnSet, ccEnClear, shutdownNotification, cleanStopDestageTimeout, apstIdleTimer,
registerWrite, functionLevelReset, flrWaitEnd, perstAssert, perstDeassert, busMasterEnableClear, d3hotEntry, d3hotExit, completionTimeout,
unexpectedCompletion, poisonedTlpReceived, ecrcError, fatalLinkError, linkTrainingComplete, aspmL1Entry, ltrUpdate, doeDiscovery, doeAbort,
spdmGetVersion, spdmGetCapabilities, spdmNegotiateAlgorithms, spdmGetDigests, spdmGetCertificate, spdmChallenge, spdmGetMeasurements, vfEnable,
vfDisable, mbxGo, mbxHostPayloadArrival, identify, calendarSet, calendarGet, portCounters, exportSettings, deviceGetSetting, deviceSetSetting,
calExport, calDigest, calOverwrite, subsystemSet, carrierStatus, carrierDescriptor, carrierRemove, carrierOut, carrierReturn, arrayStatus,
lostStripes, heldRecoverReadOnly, heldRecoverResume, retire, copyback, redundancyGetSetting, redundancySetSetting, starlightReport, darkPrepare,
retentionGetSetting, retentionSetSetting, sealList, sealRecord, sealTree, sealIdentity, unseal, haloTopology, sessionCreate, sessionRemove,
sessionList, migrateStart, migrateCancel, migrateStatus, wakeNode, haloGetSetting, haloSetSetting, almClear, almInfo, almanacGetSetting,
almanacSetSetting, healthReport, holdupMeasure, ageingReplan, powerHealthGetSetting, powerHealthSetSetting, coolingStatus, loopSave,
coolingGetSetting, coolingSetSetting, fwStatus, fwCountersign, fwPolicy, vfStatus, vfConfigure, vfQuiesce, quiesceWaitExpiry, vfSave,
vfSaveStepWaitExpiry, vfRestore, vfResume, sanitizeGrant, sanitizeGrantExpiry, mediaEncryptSet, challenge, challengeExpiry, authLockoutExpiry,
custodianEnrol, custodianRotate, custodianKey, mdEnable, mdDisable, dgnStatus, dgnWindow, diagnosticWindowRead, carrierPresenceFall,
carrierDebounceExpiry, carrierPowerUp, carrierPowerSettleExpiry, carrierDescriptorReadDone, carrierTrainingDone, blockStatusLoadDone,
carrierPresenceRise, carrierResumeDone, zqCalibrationTimer, mediaRead, program, erase, recharge, sweep, mediaGetFeatures, mediaSetFeatures,
readStatus, lunReset, zqCal, dieOperationDone, dieTimeout, mediaQueueReset, csRead, csProgram, csErase, mdrSqDoorbell, mdRingCopy, mdrRingReset,
mdrRingCtrlWrite, mdrCqHeadWrite, housekeepingRound, polestarDailyTimer, polestarSweep, polestarReprogram, rechargePass, marginPatrol, dawnScan,
stripeWrite, gatherTimeout, groupDeclaration, stripeCommit, journalPageWrite, checkpointCycle, bandClose, bandRelease, garbageCollection, relocation,
spanConsolidation, resynchronisation, rebuild, lunRebuild, reshape, dataPlaneBurst, portTrainingStart, portTrainingDone, portTrainingTimeout,
portTrainingRetry, initCellTimer, initCellReceive, dataCellReceive, ctrlCellReceive, replayTimerExpiry, lossOfSignal, fecErrorLimit,
trainingFramesReceived, tokenReceive, tokenTimeout, heartbeatTimer, heartbeatReceive, peerTimeoutExpiry, spanPushReceive, spanPullReceive,
repairReqReceive, sealXferReceive, migrateBeginReceive, migrateBeginCancelReceive, migrateCheckpointReceive, migrateCommitReceive, wakeReceive,
wakeDetect, wakeGiveupExpiry, unknownOpcodeReceive, haloResponseReceive, haloRequestTimeout, destBusyRetry, mirrorPush, mirrorTimeoutExpiry,
migrationPass, commitStallLimitExpiry, migrateCommitRepeat, halPortClearCounters, sysRstNFall, sysRstNRise, powerGood, internalRestart, bootStepEnd,
bootStepWatchdog, safeStartRetry, configStoreRetry, dramInitGranule, dramPatrolScrub, dramAlert, dramFreeze, bufferClassError, msramScrub, sramScrub,
codeFetchError, msramDataError, internalDmaHalt, sleepEntry, eclipseDestageTimeout, isolationCommit, wakeEvent, wakeTimerExpiry, sleepExitDone,
perfLevelChange, avsbusTimeout, voltageMonitorEvent, coreFaultLift, periodic720hTimer, holdupMeasurementDone, pwrfailAssert, flushComplete,
pwrfailDeassert, diodeReading, thermalDemandFallback, rateDemandLift, thermalShutdown, loopSlotUpdate, ctlSlotCommit, motorEnable, motorRestart,
motorDetectDone, brakeEnd, brakeTimeout, alignDone, rampDone, keCheckDone, observerLock, rotorLoss, overcurrent, cdFaultNFall, coastDone,
motorFaultDemandLift, trcArm, trcTrigger, traceTriggerEvent, traceSample, almanacRecordAccept, almanacRecordProgram, almanacCompaction,
almanacIndexRead, dropCounterSave, almCursorWrite, standbySetLoad, microcodeRoll, intakeStall, handoverReady, handoverReadyTimeout, lossOfDelineation,
cellSlotTransmit, correctableLinkError, unsupportedRequest, apertureBufferWrite, apertureBufferRead, jtagInstruction, powerLoss. -/
def Obligations.EveryCommandCompletes : Prop :=
  (∀ (c : Instr) (s : State), ∃ t : State, Sys2Proof.Machine.exec c s = .next t ∧ t.pending = s.pending) ∧
  (∀ s : State, ∃ t, step s = .next t ∧ t.pending = s.pending.tail)

/-- STAMP (R499). -/
def Obligations.StampSettingRule : Prop :=
  (∀ (s : State) (idx : Nat), (settingInfo s 0x08 idx).isSome = true ↔ idx = 1) ∧
  (∀ s : State, settingInfo s 0x08 1 = some { dflt := 0, lo := 0, hi := 1 } ∧
    ((∀ x ∈ s.settings, x.1 ≠ (0x08, 1, 0)) → setting s 0x08 1 = 0)) ∧
  (∀ (s : State) (fn : Func) (m : Fin 16) (e : MbxExec) (v : Nat), Served fn m 0x08F1 40 e s → field e.request 0 2 = 1 → field e.request 2 2 = 0 →
    field e.request 4 4 = 0 → v = field e.request 8 32 → v ≤ 1 → ∃ t, Answers (.almanacSetSetting fn m) s fn m e .success 0 [] t ∧
      setting t 0x08 1 = v ∧
      (v ≠ setting s 0x08 1 → t.alm.openRec = none ∧ t.alm.records.length = s.alm.records.length ∧ t.alm.staged.length = s.alm.staged.length) ∧
      (v = setting s 0x08 1 → t.alm = s.alm) ∧
      (∀ code sev ps, newRecord t code sev ps = { newRecord s code sev ps with
        calStamp := (s.alm.stampLoaded && v == 1 && s.time.calendar != 0),
        firstStamp := if s.alm.stampLoaded = true ∧ v = 1 ∧ s.time.calendar ≠ 0 then s.time.calendar.setWidth 64 else BitVec.ofNat 64 (s.time.opMs % 2 ^ 48) }) ∧
      t = { s with settings := t.settings, alm := t.alm })
end

