-- ==== Sys2Proof/Laws/Sparse.lean ====
section
/-! SUPPORT. Laws of the containers: vectors read at a number, and sparse tables in their canonical form. -/
namespace Sys2Proof.Machine

theorem vget_vset_eq {α : Type} {n : Nat} (v : Vector α n) (d x : α) (i : Nat) (h : i < n) : vget (vset v i x) d i = x := by
  simp [vget, vset, h]

theorem vget_vset_ne {α : Type} {n : Nat} (v : Vector α n) (d x : α) (i j : Nat) (h : i ≠ j) : vget (vset v i x) d j = vget v d j := by
  unfold vget vset
  rw [Vector.getElem?_setIfInBounds_ne h]

/-- A sparse table read at the key just set. -/
theorem lookup_insert_eq {α : Type} (m : List (Nat × α)) (k : Nat) (v : α) : lookup (insert m k v) k = some v := by
  induction m with
  | nil => simp [insert, lookup]
  | cons p t ih =>
    obtain ⟨k', v'⟩ := p
    unfold insert
    split
    · simp [lookup]
    · split
      · simp [lookup]
      · rename_i h; simp [lookup, h, ih]

/-- Setting one key leaves every other key as it read. -/
theorem lookup_insert_ne {α : Type} (m : List (Nat × α)) (k j : Nat) (v : α) (h : j ≠ k) : lookup (insert m k v) j = lookup m j := by
  induction m with
  | nil => simp [insert, lookup, h]
  | cons p t ih =>
    obtain ⟨k', v'⟩ := p
    unfold insert
    split
    · simp [lookup, h]
    · split
      · rename_i e; subst e; simp [lookup, h, ih]
      · simp [lookup, ih]

/-- Every key of a table lies above a bound. -/
def above {α : Type} (b : Nat) (m : List (Nat × α)) : Prop := ∀ p ∈ m, b < p.1

theorem canonical_cons {α : Type} [DecidableEq α] (d v : α) (k : Nat) (t : List (Nat × α)) :
    canonical d ((k, v) :: t) = true ↔ v ≠ d ∧ above k t ∧ canonical d t = true := by
  induction t generalizing k v with
  | nil => simp [canonical, above]
  | cons p t ih =>
    obtain ⟨k', v'⟩ := p
    rw [show canonical d ((k, v) :: (k', v') :: t) = (decide (v ≠ d) && decide (k < k') && canonical d ((k', v') :: t)) from rfl]
    simp only [Bool.and_eq_true, decide_eq_true_eq]
    constructor
    · rintro ⟨⟨hv, hk⟩, hc⟩
      refine ⟨hv, ?_, hc⟩
      intro q hq
      rcases List.mem_cons.1 hq with rfl | hq
      · exact hk
      · exact Nat.lt_trans hk (((ih v' k').1 hc).2.1 q hq)
    · rintro ⟨hv, ha, hc⟩
      exact ⟨⟨hv, ha _ (List.mem_cons_self ..)⟩, hc⟩

theorem above_insert {α : Type} (b k : Nat) (v : α) (m : List (Nat × α)) (hk : b < k) (h : above b m) : above b (insert m k v) := by
  induction m with
  | nil => intro p hp; simp [insert] at hp; subst hp; exact hk
  | cons q t ih =>
    obtain ⟨k', v'⟩ := q
    have ht : above b t := fun p hp => h p (List.mem_cons_of_mem _ hp)
    have hq : b < k' := h (k', v') (List.mem_cons_self ..)
    unfold insert
    split
    · intro p hp
      rcases List.mem_cons.1 hp with rfl | hp
      · exact hk
      · exact h p hp
    · split
      · intro p hp
        rcases List.mem_cons.1 hp with rfl | hp
        · exact hk
        · exact ht p hp
      · intro p hp
        rcases List.mem_cons.1 hp with rfl | hp
        · exact hq
        · exact ih ht p hp

/-- Setting a key to a value other than the unlisted one keeps the canonical form. -/
theorem canonical_insert {α : Type} [DecidableEq α] (d v : α) (k : Nat) (m : List (Nat × α)) (hv : v ≠ d) (h : canonical d m = true) :
    canonical d (insert m k v) = true := by
  induction m with
  | nil => simp [insert, canonical, hv]
  | cons q t ih =>
    obtain ⟨k', v'⟩ := q
    have hc := (canonical_cons d v' k' t).1 h
    unfold insert
    split
    · rename_i hlt
      refine (canonical_cons d v k _).2 ⟨hv, ?_, h⟩
      intro p hp
      rcases List.mem_cons.1 hp with rfl | hp
      · exact hlt
      · exact Nat.lt_trans hlt (hc.2.1 p hp)
    · split
      · rename_i e
        subst e
        exact (canonical_cons d v k t).2 ⟨hv, hc.2.1, hc.2.2⟩
      · rename_i h1 h2
        exact (canonical_cons d v' k' _).2 ⟨hc.1, above_insert k' k v t (by omega) hc.2.1, ih hc.2.2⟩

theorem above_remove {α : Type} (b k : Nat) (m : List (Nat × α)) (h : above b m) : above b (remove m k) := by
  induction m with
  | nil => exact h
  | cons q t ih =>
    obtain ⟨k', v'⟩ := q
    have ht : above b t := fun p hp => h p (List.mem_cons_of_mem _ hp)
    unfold remove
    split
    · exact ih ht
    · intro p hp
      rcases List.mem_cons.1 hp with rfl | hp
      · exact h _ (List.mem_cons_self ..)
      · exact ih ht p hp

/-- Taking a key out keeps the canonical form. -/
theorem canonical_remove {α : Type} [DecidableEq α] (d : α) (k : Nat) (m : List (Nat × α)) (h : canonical d m = true) :
    canonical d (remove m k) = true := by
  induction m with
  | nil => exact h
  | cons q t ih =>
    obtain ⟨k', v'⟩ := q
    have hc := (canonical_cons d v' k' t).1 h
    unfold remove
    split
    · exact ih hc.2.2
    · exact (canonical_cons d v' k' _).2 ⟨hc.1, above_remove k' k t hc.2.1, ih hc.2.2⟩

/-- A write keeps the canonical form. -/
theorem canonical_writeAt {α : Type} [DecidableEq α] (d v : α) (k : Nat) (m : List (Nat × α)) (h : canonical d m = true) :
    canonical d (writeAt d m k v) = true := by
  unfold writeAt
  split
  · exact canonical_remove d k m h
  · rename_i hv
    exact canonical_insert d v k m hv h

theorem lookup_above {α : Type} (b k : Nat) (m : List (Nat × α)) (h : above b m) (hk : k ≤ b) : lookup m k = none := by
  induction m with
  | nil => rfl
  | cons q t ih =>
    obtain ⟨k', v'⟩ := q
    have h1 : b < k' := h (k', v') (List.mem_cons_self ..)
    have h2 : k ≠ k' := by omega
    simp only [lookup, h2, if_false]
    exact ih (fun p hp => h p (List.mem_cons_of_mem _ hp))

theorem lookup_remove_eq {α : Type} (k : Nat) (m : List (Nat × α)) : lookup (remove m k) k = none := by
  induction m with
  | nil => rfl
  | cons q t ih =>
    obtain ⟨k', v'⟩ := q
    unfold remove
    split
    · exact ih
    · rename_i e
      simp only [lookup, e, if_false]
      exact ih

theorem lookup_remove_ne {α : Type} (k j : Nat) (m : List (Nat × α)) (h : j ≠ k) : lookup (remove m k) j = lookup m j := by
  induction m with
  | nil => rfl
  | cons q t ih =>
    obtain ⟨k', v'⟩ := q
    unfold remove
    split
    · rename_i e; subst e; simp [lookup, h, ih]
    · simp [lookup, ih]

/-- What a write leaves at its key, in any table. -/
theorem readAt_writeAt_eq {α : Type} [DecidableEq α] (d v : α) (k : Nat) (m : List (Nat × α)) :
    readAt d (writeAt d m k v) k = v := by
  unfold readAt writeAt
  split
  · rename_i e; rw [lookup_remove_eq k m, e]; rfl
  · rw [lookup_insert_eq]; rfl

/-- A write leaves every other key as it read. -/
theorem readAt_writeAt_ne {α : Type} [DecidableEq α] (d v : α) (k j : Nat) (m : List (Nat × α)) (h : j ≠ k) :
    readAt d (writeAt d m k v) j = readAt d m j := by
  unfold readAt writeAt
  split
  · rw [lookup_remove_ne k j m h]
  · rw [lookup_insert_ne m k j v h]

end Sys2Proof.Machine
end

