-- ==== Sys2Proof/Laws/Dram.lean ====
section
/-! SUPPORT. What an access of DRAM can do to the state: it moves requests through its channels' queues and changes nothing else. -/
namespace Sys2Proof.Machine

/-- A channel without its queues. -/
def DramChan.settled (c : DramChan) : DramChan := { c with reads := [], writes := [], served := [] }

@[simp] theorem serveChannel_settled (fuel : Nat) (c : DramChan) : (serveChannel fuel c).settled = c.settled := by
  induction fuel generalizing c with
  | zero => rfl
  | succ n ih =>
    unfold serveChannel
    split
    · rfl
    · rw [ih]; rfl
    · rw [ih]; rfl

@[simp] theorem enterRequest_settled (c : DramChan) (write : Bool) (r : DramReq) : (enterRequest c write r).settled = c.settled := by
  unfold enterRequest
  rw [serveChannel_settled]
  split <;> rfl

/-- One request changes no field of any channel but its queues, and no other field of the state. -/
theorem modDram_settled (s : State) (ch : Nat) (f : DramChan → DramChan) (hf : ∀ c, (f c).settled = c.settled) (k : Nat) :
    (dramAt (modDram s ch f) k).settled = (dramAt s k).settled := by
  by_cases h : ch = k
  · subst h
    by_cases h8 : ch < 8
    · simp only [dramAt, modDram]; rw [vget_vset_eq _ _ _ _ h8]; exact hf _
    · simp [dramAt, modDram, vget, vset, Vector.getElem?_eq_none (Nat.le_of_not_lt h8)]
  · simp only [dramAt, modDram]; rw [vget_vset_ne _ _ _ _ _ h]

/-- A range's access changes only the queues of the channels. -/
theorem dramPort_settled (s : State) (write : Bool) (addr len k : Nat) :
    (dramAt (dramPort s write addr len) k).settled = (dramAt s k).settled := by
  unfold dramPort
  generalize grainPieces (dramGrain s) (len / dramGrain s + 2) addr len = l
  suffices h : ∀ t : State, (dramAt (l.foldl (fun s p => modDram s (dramChannelOf s p.1) (fun c =>
      enterRequest c write { unit := p.1 / 64, units := (p.1 + p.2 - 1) / 64 - p.1 / 64 + 1, table := isTableAddr s p.1 })) t) k).settled = (dramAt t k).settled from h s
  induction l with
  | nil => intro t; rfl
  | cons p ps ih => intro t; rw [List.foldl_cons, ih]; exact modDram_settled _ _ _ (fun c => by simp) k

/-- What an access of DRAM leaves: every channel but for its queues. -/
@[simp] theorem dramAccess_settled (s : State) (write : Bool) (addr len k : Nat) :
    (dramAt (dramAccess s write addr len) k).settled = (dramAt s k).settled := by
  unfold dramAccess; split
  · rfl
  · exact dramPort_settled s write addr len k

/-- What an access of DRAM leaves: every other field of the state. -/
theorem dramAccess_rest (s : State) (write : Bool) (addr len : Nat) :
    dramAccess s write addr len = { s with dram := { s.dram with ch := (dramAccess s write addr len).dram.ch } } := by
  unfold dramAccess dramPort; split
  · rfl
  generalize grainPieces (dramGrain s) (len / dramGrain s + 2) addr len = l
  suffices h : ∀ v, ∃ v', l.foldl (fun s p => modDram s (dramChannelOf s p.1) (fun c =>
      enterRequest c write { unit := p.1 / 64, units := (p.1 + p.2 - 1) / 64 - p.1 / 64 + 1, table := isTableAddr s p.1 }))
      { s with dram := { s.dram with ch := v } } = { s with dram := { s.dram with ch := v' } } by
    obtain ⟨v', hv⟩ := h s.dram.ch
    exact hv.trans (by rw [show s.dram = { s.dram with ch := s.dram.ch } from rfl] at hv; rw [hv])
  induction l with
  | nil => exact fun v => ⟨v, rfl⟩
  | cons p ps ih => exact fun v => ih _

@[simp] theorem dramAccess_ce (s : State) (write : Bool) (addr len k : Nat) : (dramAt (dramAccess s write addr len) k).ce = (dramAt s k).ce := by
  show (dramAt _ k).settled.ce = (dramAt s k).settled.ce; rw [dramAccess_settled]
@[simp] theorem dramAccess_ue (s : State) (write : Bool) (addr len k : Nat) : (dramAt (dramAccess s write addr len) k).ue = (dramAt s k).ue := by
  show (dramAt _ k).settled.ue = (dramAt s k).settled.ue; rw [dramAccess_settled]
@[simp] theorem dramAccess_st (s : State) (write : Bool) (addr len k : Nat) : (dramAt (dramAccess s write addr len) k).st = (dramAt s k).st := by
  show (dramAt _ k).settled.st = (dramAt s k).settled.st; rw [dramAccess_settled]
@[simp] theorem dramAccess_map (s : State) (write : Bool) (addr len : Nat) : (dramAccess s write addr len).map = s.map := by rw [dramAccess_rest]
@[simp] theorem dramAccess_frozen (s : State) (write : Bool) (addr len : Nat) : (dramAccess s write addr len).dram.frozen = s.dram.frozen := by rw [dramAccess_rest]

end Sys2Proof.Machine
end

