-- ==== Sys2Proof/Laws/Guarded.lean ====
section
/-! SUPPORT. What every shared operation does to the guarded registers of Sys2Proof.Safety: nothing, one lemma for each
operation. The operations that change one of them (setSetting, calWrite, installKey, openIntake, handoverReady, and what calls
them) have no lemma here. -/
namespace Sys2Proof.Machine
@[simp] theorem guarded_mk (a b c d e f g h i j k l m n o p q r t u v) : guarded (State.mk a b c d e f g h i j k l m n o p q r t u v) =
  { settings := c, custodianKey := n.custodianKey, keyIndex := n.keyIndex, keyRecords := n.keyRecords
    mediaEncrypt := n.mediaEncrypt, subsystem := n.subsystem, policy := d.policy, antiRollback := d.antiRollback
    cal := q.cal, saved := r.saved, serial := k.serial, lot := k.lot, dateCode := k.dateCode
    pending := u } := rfl
@[simp] theorem guarded_eta (s : State) : Guarded.mk s.settings s.mbx.custodianKey s.mbx.keyIndex s.mbx.keyRecords s.mbx.mediaEncrypt s.mbx.subsystem s.fw.policy s.fw.antiRollback s.pwr.cal s.cool.saved s.host.serial s.host.lot s.host.dateCode s.pending = guarded s := rfl
@[simp] theorem guarded_ite (c : Prop) [Decidable c] (a b : State) : guarded (if c then a else b) = if c then guarded a else guarded b := by split <;> rfl
theorem foldl_guarded {α : Type} (f : State → α → State) (h : ∀ s a, guarded (f s a) = guarded s) (l : List α) (s : State) :
    guarded (l.foldl f s) = guarded s := by
  induction l generalizing s with
  | nil => rfl
  | cons a l ih => simp [List.foldl, ih, h]


/-! ### Ops -/
@[simp] theorem drawNat_guarded (s : State) : guarded (drawNat s).2 = guarded s := by simp [drawNat]
@[simp] theorem drawBool_guarded (s : State) : guarded (drawBool s).2 = guarded s := by simp [drawBool]
@[simp] theorem drawRandom_guarded (s : State) : guarded (drawRandom s).2 = guarded s := by simp [drawRandom]
@[simp] theorem beginOwnErase_guarded (s : State) (addr : Nat) : guarded (beginOwnErase s addr) = guarded s := by simp [beginOwnErase]
@[simp] theorem csWait_guarded (s : State) (op : CsOp) : guarded (csWait s op) = guarded s := by simp [csWait]
@[simp] theorem signalPme_guarded (s : State) : guarded (signalPme s) = guarded s := by
  simp only [signalPme]; repeat' split
  all_goals simp
@[simp] theorem reportUncor_guarded (s : State) (fn bit : Nat) : guarded (reportUncor s fn bit) = guarded s := by simp [reportUncor]
@[simp] theorem reportCor_guarded (s : State) (fn bit : Nat) : guarded (reportCor s fn bit) = guarded s := by simp [reportCor]
@[simp] theorem acceptRecord_guarded (s : State) (code : Nat) (sev : Severity) (params : Bytes) : guarded (acceptRecord s code sev params) = guarded s := by unfold acceptRecord; split <;> simp
@[simp] theorem record_guarded (s : State) (code : Nat) (sev : Severity) (params : Bytes) : guarded (record s code sev params) = guarded s := by simp [record]
@[simp] theorem recordIf_guarded (c : Bool) (s : State) (code : Nat) (sev : Severity) (params : Bytes) : guarded (recordIf c s code sev params) = guarded s := by simp [recordIf]

/-! ### Almanac -/
@[simp] theorem submitAlmErase_guarded (s : State) (sector : Nat) : guarded (submitAlmErase s sector) = guarded s := by simp [submitAlmErase]
@[simp] theorem beginClearErases_guarded (s : State) (sectors : List Nat) : guarded (beginClearErases s sectors) = guarded s := by
  unfold beginClearErases; (repeat' split) <;> simp [foldl_guarded]
@[simp] theorem compactNow_guarded (s : State) : guarded (compactNow s) = guarded s := by simp [compactNow]
theorem csTurn_guarded (s t : State) (h : csTurn s = some t) : guarded t = guarded s := by
  unfold csTurn at h; split at h
  · simp at h; rw [h]
  · split at h <;> simp at h; rw [← h]; rfl
@[simp] theorem csTurn_getD_guarded (s : State) : guarded ((csTurn s).getD s) = guarded s := by
  cases h : csTurn s with
  | none => rfl
  | some t => exact csTurn_guarded s t h
@[simp] theorem clearAlmanac_guarded (s : State) (keyIndex : Nat) : guarded (clearAlmanac s keyIndex) = guarded s := by
  simp only [clearAlmanac, beginClearErases_guarded]
  exact csTurn_getD_guarded s
@[simp] theorem writeCursor_guarded (s : State) (lo : Word32) : guarded (writeCursor s lo) = guarded s := by simp [writeCursor]

/-! ### DramQueue -/
@[simp] theorem modDram_guarded (s : State) (ch : Nat) (f : DramChan → DramChan) : guarded (modDram s ch f) = guarded s := by simp [modDram]
@[simp] theorem dramPort_guarded (s : State) (write : Bool) (addr len : Nat) : guarded (dramPort s write addr len) = guarded s := by
  unfold dramPort; (repeat' split) <;> simp [foldl_guarded]
@[simp] theorem dramAccess_guarded (s : State) (write : Bool) (addr len : Nat) : guarded (dramAccess s write addr len) = guarded s := by simp [dramAccess]

/-! ### MapOps -/
theorem background_guarded (s : State) (f : State → State) (h : guarded (f s) = guarded s) : guarded (background s f) = guarded s := by
  unfold background; split <;> simp [h]
theorem afterStart_guarded (s : State) (f : State → State) (h : guarded (f s) = guarded s) : guarded (afterStart s f) = guarded s := by
  unfold afterStart; split
  · exact background_guarded s f h
  · rfl
@[simp] theorem journalWait_guarded (s : State) : guarded (journalWait s) = guarded s := by simp [journalWait]
@[simp] theorem addRecords_guarded (s : State) (rs : List JrnRecord) : guarded (addRecords s rs) = guarded s := by simp [addRecords]
@[simp] theorem setCore_guarded (s : State) (c : MapCore) : guarded (setCore s c) = guarded s := by simp [setCore]
@[simp] theorem takeMsn_guarded (s : State) (n : Nat) : guarded (takeMsn s n).2 = guarded s := by simp [takeMsn]
@[simp] theorem readLine_guarded (s : State) (l : CacheLine) : guarded (readLine s l) = guarded s := by simp [readLine]
@[simp] theorem writeLine_guarded (s : State) (l : CacheLine) : guarded (writeLine s l) = guarded s := by simp [writeLine]
@[simp] theorem markWritten_guarded (s : State) (nsid lba count : Nat) : guarded (markWritten s nsid lba count) = guarded s := by simp [markWritten]
@[simp] theorem cacheWrite_guarded (s : State) (nsid lba : Nat) (blocks : List BlockData) (owner : Option CmdRef) (stratus : Bool) : guarded (cacheWrite s nsid lba blocks owner stratus) = guarded s := by
  unfold cacheWrite; repeat' (first | rfl | (simp; done) | (apply foldl_guarded; intro _ _) | split)
@[simp] theorem deallocRange_guarded (s : State) (nsid lba count : Nat) (secure : Bool) : guarded (deallocRange s nsid lba count secure) = guarded s := by simp [deallocRange]
@[simp] theorem zeroRange_guarded (s : State) (nsid lba count : Nat) : guarded (zeroRange s nsid lba count) = guarded s := by simp [zeroRange]
@[simp] theorem loseBlock_guarded (s : State) (nsid lba addr : Nat) : guarded (loseBlock s nsid lba addr) = guarded s := by simp [loseBlock]
@[simp] theorem loseOrWait_guarded (s : State) (nsid lba addr : Nat) : guarded (loseOrWait s nsid lba addr) = guarded s := by simp [loseOrWait]
@[simp] theorem settleCleanStop_guarded (s : State) : guarded (settleCleanStop s) = guarded s := by simp [settleCleanStop]

/-! ### StripeOps -/
@[simp] theorem modCarrier_guarded (s : State) (c : Nat) (f : CarrierState → CarrierState) : guarded (modCarrier s c f) = guarded s := by simp [modCarrier]
@[simp] theorem modBlock_guarded (s : State) (key : Nat) (f : BlockStatus → BlockStatus) : guarded (modBlock s key f) = guarded s := by simp [modBlock]
@[simp] theorem modLun_guarded (s : State) (lun : Nat) (f : LunState → LunState) : guarded (modLun s lun f) = guarded s := by simp [modLun]
@[simp] theorem modStar_guarded (s : State) (c : Nat) (f : StarCarrier → StarCarrier) : guarded (modStar s c f) = guarded s := by simp [modStar]
@[simp] theorem settleScan_guarded (s : State) (c : Nat) : guarded (settleScan s c) = guarded s := by simp [settleScan]
@[simp] theorem rebudget_guarded (s : State) (key : Nat) : guarded (rebudget s key) = guarded s := by unfold rebudget; split <;> simp
@[simp] theorem erasePages_guarded (s : State) (key : Nat) : guarded (erasePages s key) = guarded s := by simp [erasePages]
@[simp] theorem eraseBlock_guarded (s : State) (key : Nat) : guarded (eraseBlock s key) = guarded s := by simp [eraseBlock]
@[simp] theorem programPage_guarded (s : State) (key page : Nat) (content : PageContent) : guarded (programPage s key page content) = guarded s := by simp [programPage]
@[simp] theorem formEmergency_guarded (s : State) : guarded (formEmergency s) = guarded s := by simp [formEmergency]

/-! ### FlushOps -/
@[simp] theorem noteLostSlots_guarded (s : State) (l : List EmergencySlot) : guarded (noteLostSlots s l) = guarded s := by
  unfold noteLostSlots; (repeat' split) <;> simp [foldl_guarded]
theorem elim_guarded {α : Type} (o : Option α) (d : State) (g : α → State) (s : State) (hd : guarded d = guarded s) (hg : ∀ r, guarded (g r) = guarded s) :
    guarded (o.elim d g) = guarded s := by cases o <;> simp [hd, hg]
@[simp] theorem putFlushPage_guarded (s : State) (place : Option (Nat × Nat)) (bytes : Bytes) : guarded (putFlushPage s place bytes) = guarded s := by
  unfold putFlushPage; apply elim_guarded <;> simp
@[simp] theorem putFlushStripe_guarded (s : State) (f : EmergencyFlush) (stripe : Nat) (pages : List FlushPage) : guarded (putFlushStripe s f stripe pages) = guarded s := by
  unfold putFlushStripe; (repeat' split) <;> simp [foldl_guarded]
@[simp] theorem putFlush_guarded (s : State) (f : EmergencyFlush) : guarded (putFlush s f) = guarded s := by
  unfold putFlush; (repeat' split) <;> simp [foldl_guarded]
@[simp] theorem spoilFlush_guarded (s : State) (bad : List (Nat × Nat × Bool)) : guarded (spoilFlush s bad) = guarded s := by unfold spoilFlush; split <;> simp
@[simp] theorem emergencyFlush_guarded (s : State) (cause : Nat) : guarded (emergencyFlush s cause) = guarded s := by
  unfold emergencyFlush; (repeat' split) <;> simp [foldl_guarded]

/-! ### RedOps -/
@[simp] theorem enterHeld_guarded (s : State) (cause : Nat) (slots : List Nat) : guarded (enterHeld s cause slots) = guarded s := by simp [enterHeld]
@[simp] theorem startRebuild_guarded (s : State) (slot : Nat) : guarded (startRebuild s slot) = guarded s := by simp [startRebuild]
@[simp] theorem memberFail_guarded (s : State) (slot cause : Nat) : guarded (memberFail s slot cause) = guarded s := by unfold memberFail; split <;> simp
@[simp] theorem lunFail_guarded (s : State) (lun : Nat) : guarded (lunFail s lun) = guarded s := by simp [lunFail]
@[simp] theorem putSummary_guarded (s : State) (x : SummaryRecord) : guarded (putSummary s x) = guarded s := by simp [putSummary]
@[simp] theorem appendSummary_guarded (s : State) (x : SummaryRecord) : guarded (appendSummary s x) = guarded s := by unfold appendSummary; split <;> simp
@[simp] theorem eraseCarrier_guarded (s : State) (slot : Nat) : guarded (eraseCarrier s slot) = guarded s := by simp [eraseCarrier]
@[simp] theorem enterService_guarded (s : State) (slot : Nat) : guarded (enterService s slot) = guarded s := by simp [enterService]
@[simp] theorem fixOpenCounts_guarded (s : State) : guarded (fixOpenCounts s) = guarded s := by simp [fixOpenCounts]
@[simp] theorem formArray_guarded (s : State) : guarded (formArray s) = guarded s := by
  unfold formArray; (repeat' split) <;> simp [foldl_guarded]
@[simp] theorem startCopyback_guarded (s : State) (slot : Nat) (absenceOnly : Bool) : guarded (startCopyback s slot absenceOnly) = guarded s := by simp [startCopyback]
@[simp] theorem offerRecord_guarded (s : State) (slot treatment : Nat) : guarded (offerRecord s slot treatment) = guarded s := by simp [offerRecord]
@[simp] theorem takeReplacement_guarded (s : State) (slot : Nat) : guarded (takeReplacement s slot) = guarded s := by simp [takeReplacement]
@[simp] theorem offerCarrier_guarded (s : State) (slot : Nat) : guarded (offerCarrier s slot) = guarded s := by
  have k : ∀ (c : Prop) [Decidable c] (t u : State), guarded t = guarded s → guarded u = guarded s → guarded (if c then t else u) = guarded s := by
    intro c _ t u h1 h2; split <;> assumption
  have o : ∀ (t : State) (x : Nat), guarded t = guarded s → guarded (offerRecord t slot x) = guarded s :=
    fun t x h => (offerRecord_guarded t slot x).trans h
  have r : ∀ (t : State) (b : RedState), guarded t = guarded s → guarded { t with red := b } = guarded s := fun _ _ h => h
  unfold offerCarrier
  apply k _ _ _ rfl
  split
  · rfl
  · repeat'
      first
      | with_reducible apply k
      | with_reducible exact formArray_guarded s
      | with_reducible exact takeReplacement_guarded s slot
      | with_reducible apply o
      | with_reducible exact memberFail_guarded s slot 4
      | with_reducible exact record_guarded s _ _ _
      | with_reducible exact enterService_guarded s slot
      | with_reducible exact r s _ rfl
    · rw [startCopyback_guarded, offerRecord_guarded]
      exact r _ _ ((enterService_guarded _ slot).trans (r s _ rfl))
    · exact r _ _ ((enterService_guarded _ slot).trans (r s _ rfl))
@[simp] theorem offerWaiting_guarded (s : State) : guarded (offerWaiting s) = guarded s := by
  unfold offerWaiting; (repeat' split) <;> simp [foldl_guarded]

/-! ### MediaOps -/
@[simp] theorem modChannel_guarded (s : State) (ch : Nat) (f : ChannelState → ChannelState) : guarded (modChannel s ch f) = guarded s := by simp [modChannel]
@[simp] theorem modRing_guarded (s : State) (n : Fin 4) (f : MdRing → MdRing) : guarded (modRing s n f) = guarded s := by simp [modRing]
@[simp] theorem postCompletion_guarded (s : State) (ch : Nat) (o : Owner) (c : MediaCompletion) : guarded (postCompletion s ch o c) = guarded s := by unfold postCompletion; split <;> simp
@[simp] theorem scheduleBand_guarded (s : State) (band : Nat) : guarded (scheduleBand s band) = guarded s := by simp [scheduleBand]
@[simp] theorem scheduleBlock_guarded (s : State) (key : Nat) : guarded (scheduleBlock s key) = guarded s := by unfold scheduleBlock; split <;> simp
@[simp] theorem markGrownBad_guarded (s : State) (key status : Nat) : guarded (markGrownBad s key status) = guarded s := by simp [markGrownBad]
@[simp] theorem noteRead_guarded (s : State) (key decodeStep corrected : Nat) : guarded (noteRead s key decodeStep corrected) = guarded s := by simp [noteRead]
@[simp] theorem noteUnit_guarded (s : State) (o : Owner) (result : Nat) : guarded (noteUnit s o result) = guarded s := by unfold noteUnit; split <;> simp
@[simp] theorem finish_guarded (s : State) (ch : Nat) (q : Fin 4) (e : QEntry) (c : MediaCompletion) : guarded (finish s ch q e c) = guarded s := by
  simp only [finish]; repeat' split
  all_goals simp
@[simp] theorem takeEntry_guarded (s : State) (ch : Nat) (q : Fin 4) (e : QEntry) : guarded (takeEntry s ch q e) = guarded s := by simp [takeEntry]
@[simp] theorem unrun_guarded (s : State) (lun status : Nat) : guarded (unrun s lun status).2 = guarded s := by simp [unrun]
@[simp] theorem start_guarded (s : State) (ch : Nat) (q : Fin 4) (e : QEntry) : guarded (start s ch q e) = guarded s := by
  simp only [start]; repeat' split
  all_goals simp
theorem dispatch_guarded (ch ranUs n : Nat) (s : State) : guarded (dispatch ch ranUs n s) = guarded s := by
  induction n generalizing s with
  | zero => rfl
  | succ n ih => unfold dispatch; split <;> simp [ih]
@[simp] theorem dispatchAll_guarded (s : State) (ch ranUs : Nat) : guarded (dispatchAll s ch ranUs) = guarded s := by
  simp [dispatchAll, dispatch_guarded]
@[simp] theorem submit_guarded (s : State) (ch : Nat) (q : Fin 4) (d : MediaDesc) (payload : PageContent) (o : Owner) : guarded (submit s ch q d payload o) = guarded s := by simp [submit]
@[simp] theorem mdDeliver_guarded (s : State) (q : Fin 4) (d : MediaDesc) (b : Bytes) : guarded (mdDeliver s q d b) = guarded s := by simp [mdDeliver]
@[simp] theorem deliverMeta_guarded (s : State) (q : Fin 4) (d : MediaDesc) (l : List Bytes) : guarded (deliverMeta s q d l) = guarded s := by simp [deliverMeta]
@[simp] theorem releaseLun_guarded (s : State) (lun : Nat) : guarded (releaseLun s lun) = guarded s := by simp [releaseLun]
@[simp] theorem leavePartly_guarded (s : State) (key page : Nat) (p : PageContent) : guarded (leavePartly s key page p) = guarded s := by simp [leavePartly]
@[simp] theorem endRead_guarded (s : State) (ch : Nat) (l : Lomril) (r : RunningOp) (o : DieOutcome) (c : MediaCompletion) : guarded (endRead s ch l r o c) = guarded s := by
  simp only [endRead]; repeat' split
  all_goals simp
@[simp] theorem endProgram_guarded (s : State) (ch : Nat) (r : RunningOp) (o : DieOutcome) (c : MediaCompletion) : guarded (endProgram s ch r o c) = guarded s := by simp [endProgram]
@[simp] theorem endErase_guarded (s : State) (ch : Nat) (r : RunningOp) (o : DieOutcome) (c : MediaCompletion) : guarded (endErase s ch r o c) = guarded s := by simp [endErase]
@[simp] theorem endRecharge_guarded (s : State) (ch : Nat) (l : Lomril) (r : RunningOp) (o : DieOutcome) (c : MediaCompletion) : guarded (endRecharge s ch l r o c) = guarded s := by
  simp only [endRecharge]; repeat' split
  all_goals simp
@[simp] theorem endOther_guarded (s : State) (ch : Nat) (r : RunningOp) (o : DieOutcome) (c : MediaCompletion) : guarded (endOther s ch r o c) = guarded s := by
  simp only [endOther]; repeat' split
  all_goals simp
@[simp] theorem endOperation_guarded (s : State) (ch lun : Nat) (o : DieOutcome) : guarded (endOperation s ch lun o) = guarded s := by
  simp only [endOperation]; repeat' (first | rfl | (simp; done) | (rw [foldl_guarded]; · skip; intro _ _) | split)
@[simp] theorem leaveProgram_guarded (s : State) (ch : Nat) (r : RunningOp) : guarded (leaveProgram s ch r) = guarded s := by simp [leaveProgram]
@[simp] theorem dieTimeout_guarded (s : State) (ch lun : Nat) : guarded (dieTimeout s ch lun) = guarded s := by
  simp only [dieTimeout]; repeat' (first | rfl | (simp; done) | (rw [foldl_guarded]; · skip; intro _ _) | split)
@[simp] theorem abortWaiting_guarded (s : State) (ch : Nat) (q : Fin 4) (p : QEntry → Bool) : guarded (abortWaiting s ch q p) = guarded s := by
  unfold abortWaiting; (repeat' split) <;> simp [foldl_guarded]
@[simp] theorem absentRunning_guarded (s : State) (ch : Nat) : guarded (absentRunning s ch) = guarded s := by
  unfold absentRunning
  apply foldl_guarded
  intro s l
  simp only
  have hd : ∀ (s : State) (r : RunningOp), guarded (finish (unrun (leaveProgram (if r.entry.desc.opcode == 2 || r.entry.desc.opcode == 3 then
      modBlock s (descKey ch r.entry.desc) (fun b => { b with wp := none }) else s) ch r) (lunIndex ch l) 0x11).2 ch r.queue r.entry
      { (unrun (leaveProgram (if r.entry.desc.opcode == 2 || r.entry.desc.opcode == 3 then
      modBlock s (descKey ch r.entry.desc) (fun b => { b with wp := none }) else s) ch r) (lunIndex ch l) 0x11).1 with suspends := r.suspends }) = guarded s := by
    intro s r; simp only [finish_guarded, unrun_guarded, leaveProgram_guarded, guarded_ite, modBlock_guarded, ite_self]
  split
  · rfl
  · apply elim_guarded
    · apply elim_guarded
      · simp
      · intro r; rw [hd]; simp
    · intro r; rw [hd]; apply elim_guarded
      · simp
      · intro r; rw [hd]; simp
@[simp] theorem removeDescriptors_guarded (s : State) (c : Nat) : guarded (removeDescriptors s c) = guarded s := by
  unfold removeDescriptors; (repeat' split) <;> simp [foldl_guarded]
@[simp] theorem forgetLuns_guarded (s : State) (c : Nat) : guarded (forgetLuns s c) = guarded s := by simp [forgetLuns]

/-! ### RetOps -/
@[simp] theorem accrueReading_guarded (s : State) (c : Nat) (hottest : Int) : guarded (accrueReading s c hottest) = guarded s := by simp [accrueReading]
@[simp] theorem accrueSleep_guarded (s : State) (c ms : Nat) : guarded (accrueSleep s c ms) = guarded s := by simp [accrueSleep]
@[simp] theorem markQueued_guarded (s : State) (n choice : Nat) : guarded (markQueued s n choice) = guarded s := by
  unfold markQueued; (repeat' split) <;> simp [foldl_guarded]
@[simp] theorem exhaustBand_guarded (s : State) (n : Nat) : guarded (exhaustBand s n) = guarded s := by simp [exhaustBand]
@[simp] theorem queueBand_guarded (s : State) (n : Nat) (choice risk : Nat) : guarded (queueBand s n choice risk) = guarded s := by
  unfold queueBand; (repeat' split) <;> simp [foldl_guarded]
@[simp] theorem queueRelocation_guarded (s : State) (n : Nat) : guarded (queueRelocation s n) = guarded s := by unfold queueRelocation; split <;> simp
@[simp] theorem evaluateBand_guarded (s : State) (n : Nat) : guarded (evaluateBand s n) = guarded s := by unfold evaluateBand; split <;> simp
@[simp] theorem evaluateCarrier_guarded (s : State) (c : Nat) : guarded (evaluateCarrier s c) = guarded s := by
  unfold evaluateCarrier; (repeat' split) <;> simp [foldl_guarded]
@[simp] theorem prepareShortfall_guarded (s : State) (n : Nat) : guarded (prepareShortfall s n) = guarded s := by simp [prepareShortfall]
@[simp] theorem issuePage_guarded (l : Lomril) (c : Nat) (sweeps : List PageSweep) (i page : Nat) (start : Int) (s : State) : guarded (issuePage l c sweeps i page start s) = guarded s := by
  unfold issuePage; (repeat' split) <;> simp [foldl_guarded]
@[simp] theorem issueSweeps_guarded (l : Lomril) (c : Nat) (sweeps : List PageSweep) (i : Nat) (start : Int) (s : State) : guarded (issueSweeps l c sweeps i start s) = guarded s := by
  unfold issueSweeps; (repeat' split) <;> simp [foldl_guarded]
@[simp] theorem rotationDue_guarded (s : State) (c : Nat) : guarded (rotationDue s c) = guarded s := by
  simp only [rotationDue]; repeat' split
  all_goals simp
@[simp] theorem startDawn_guarded (s : State) (c : Nat) : guarded (startDawn s c) = guarded s := by
  unfold startDawn; (repeat' split) <;> simp [foldl_guarded]
@[simp] theorem resumeDawn_guarded (s : State) (c : Nat) : guarded (resumeDawn s c) = guarded s := by simp [resumeDawn]
@[simp] theorem endPowerUpSweep_guarded (s : State) (c : Nat) : guarded (endPowerUpSweep s c) = guarded s := by simp [endPowerUpSweep]
@[simp] theorem sweepNotices_guarded (s : State) (c : Nat) (l : Lomril) (copies : Vector PolestarCopy 32) (sweeps : List PageSweep) (gens : List (Nat × Nat × Nat)) : guarded (sweepNotices s c l copies sweeps gens) = guarded s := by
  unfold sweepNotices; (repeat' split) <;> simp [foldl_guarded]
@[simp] theorem sweepFallback_guarded (s : State) (c : Nat) : guarded (sweepFallback s c) = guarded s := by simp [sweepFallback]
@[simp] theorem sweepEstimate_guarded (s : State) (c : Nat) (gens : List (Nat × Nat × Nat)) : guarded (sweepEstimate s c gens) = guarded s := by unfold sweepEstimate; split <;> simp
@[simp] theorem applySweep_guarded (s : State) (c : Nat) (sweeps : List PageSweep) : guarded (applySweep s c sweeps) = guarded s := by
  unfold applySweep; (repeat' split) <;> simp [foldl_guarded]

/-! ### DestageOps -/
@[simp] theorem submitAll_guarded (s : State) (q : Fin 4) (subs : List Submission) : guarded (submitAll s q subs) = guarded s := by
  simp [submitAll, foldl_guarded]
@[simp] theorem writeStripe_guarded (s : State) (band : Nat) (b : Band) (cws : List Codeword) (blocks : List StripeBlock) : guarded (writeStripe s band b cws blocks) = guarded s := by simp [writeStripe]
@[simp] theorem takeGathered_guarded (s : State) (st : Stream) (blocks : List StripeBlock) : guarded (takeGathered s st blocks) = guarded s := by
  unfold takeGathered; (repeat' split) <;> simp [foldl_guarded]
@[simp] theorem summaryWrite_guarded (s : State) (band : Nat) (b : Band) : guarded (summaryWrite s band b) = guarded s := by simp [summaryWrite]
@[simp] theorem afterStripe_guarded (s : State) (st : Stream) (band : Nat) (wholes : List (Nat × (Nat × Nat))) (blocks : List StripeBlock) :
    guarded (afterStripe s st band wholes blocks) = guarded s := by
  simp only [afterStripe]; repeat' split
  all_goals simp
@[simp] theorem dataWrite_guarded (s : State) (st : Stream) (band : Nat) (b : Band) (pad : Bool) : guarded (dataWrite s st band b pad) = guarded s := by
  simp only [dataWrite]; repeat' split
  all_goals simp
@[simp] theorem openBand_guarded (s : State) (st : Stream) : guarded (openBand s st) = guarded s := by unfold openBand; split <;> simp
@[simp] theorem stripeWrite_guarded (s : State) (st : Stream) (band : Nat) (pad : Bool) : guarded (stripeWrite s st band pad) = guarded s := by
  simp only [stripeWrite]; repeat' split
  all_goals simp
@[simp] theorem declareGroups_guarded (s : State) (band : Nat) : guarded (declareGroups s band) = guarded s := by unfold declareGroups; split <;> simp
@[simp] theorem commitBlock_guarded (s : State) (band offset : Nat) (b : StripeBlock) : guarded (commitBlock s band offset b) = guarded s := by
  simp only [commitBlock]; repeat' split
  all_goals simp
@[simp] theorem voidStripe_guarded (s : State) (f : StripeFlight) : guarded (voidStripe s f) = guarded s := by simp [voidStripe]
@[simp] theorem stripeCommit_guarded (s : State) (band stripe : Nat) : guarded (stripeCommit s band stripe) = guarded s := by
  unfold stripeCommit; (repeat' split) <;> simp [foldl_guarded]
@[simp] theorem programMeta_guarded (s : State) (slot : Nat) (content : Bytes) : guarded (programMeta s slot content) = guarded s := by simp [programMeta]
@[simp] theorem programJournal_guarded (s : State) (c : Nat) (first second : Bool) : guarded (programJournal s c first second) = guarded s := by simp [programJournal]
@[simp] theorem pageDurable_guarded (s : State) : guarded (pageDurable s) = guarded s := by
  unfold pageDurable; (repeat' split) <;> simp [foldl_guarded]
@[simp] theorem programCheckpoint_guarded (s : State) (stripes : Nat) : guarded (programCheckpoint s stripes) = guarded s := by
  unfold programCheckpoint; (repeat' split) <;> simp [foldl_guarded]
theorem guarded_map_ret (s : State) (m : MapState) (r : RetState) : guarded { s with map := m, ret := r } = guarded s := rfl
@[simp] theorem checkpointCycle_guarded (s : State) : guarded (checkpointCycle s) = guarded s := by
  unfold checkpointCycle
  exact (guarded_map_ret _ _ _).trans (programCheckpoint_guarded _ _)
@[simp] theorem completeGroup_guarded (s : State) (band : Nat) (b : Band) (group : Nat) : guarded (completeGroup s band b group) = guarded s := by simp [completeGroup]
@[simp] theorem bandClose_guarded (s : State) (band : Nat) : guarded (bandClose s band) = guarded s := by unfold bandClose; split <;> simp
@[simp] theorem noteRecovery_guarded (s : State) (band off step : Nat) (counted : Option Nat) : guarded (noteRecovery s band off step counted) = guarded s := by
  simp only [noteRecovery]
  repeat' split
  all_goals first | simp | (apply elim_guarded <;> simp)
@[simp] theorem noteException_guarded (s : State) (band index kind slot : Nat) : guarded (noteException s band index kind slot) = guarded s := by simp [noteException]
@[simp] theorem gatherBlock_guarded (s : State) (band off step : Nat) (cw : Codeword) : guarded (gatherBlock s band off step cw) = guarded s := by
  simp only [gatherBlock]; repeat' split
  all_goals simp
@[simp] theorem collectBlock_guarded (s : State) (band : Nat) (p : (Nat × Nat × Nat) × BlockRead) : guarded (collectBlock s band p) = guarded s := by
  simp only [collectBlock]; repeat' split
  all_goals simp
@[simp] theorem collect_guarded (s : State) (band : Nat) (summaryOk : Bool) (reads : List BlockRead) : guarded (collect s band summaryOk reads) = guarded s := by
  unfold collect; (repeat' split) <;> simp [foldl_guarded]
@[simp] theorem countRelocated_guarded (s : State) (b : Band) : guarded (countRelocated s b) = guarded s := by simp [countRelocated]
@[simp] theorem eraseBand_guarded (s : State) (band : Nat) (unerased : List Nat) : guarded (eraseBand s band unerased) = guarded s := by
  unfold eraseBand; (repeat' split) <;> simp [foldl_guarded]
@[simp] theorem bandRelease_guarded (s : State) (band : Nat) (unerased : List Nat) : guarded (bandRelease s band unerased) = guarded s := by unfold bandRelease; split <;> simp

/-! ### Translation -/
@[simp] theorem consolidateSpan_guarded (s : State) (k : Nat) (reads : List BlockRead) : guarded (consolidateSpan s k reads) = guarded s := by
  unfold consolidateSpan; (repeat' split) <;> simp [foldl_guarded]
@[simp] theorem consolidate_guarded (s : State) (reads : List BlockRead) : guarded (consolidate s reads) = guarded s := by
  simp only [consolidate]; repeat' split
  all_goals simp

/-! ### Redundancy -/
@[simp] theorem resyncUnit_guarded (s : State) (band : Nat) (f : ResyncFinding) (slot : Nat) : guarded (resyncUnit s band f slot) = guarded s := by
  unfold resyncUnit; (repeat' split) <;> simp [foldl_guarded]
@[simp] theorem resyncReads_guarded (s : State) (band : Nat) (f : ResyncFinding) : guarded (resyncReads s band f) = guarded s := by
  unfold resyncReads; (repeat' split) <;> simp [foldl_guarded]
@[simp] theorem resyncStripe_guarded (s : State) (band : Nat) (f : ResyncFinding) : guarded (resyncStripe s band f) = guarded s := by
  unfold resyncStripe; (repeat' split) <;> simp [foldl_guarded]
@[simp] theorem resyncGroupDone_guarded (s : State) (band group : Nat) (findings : List ResyncFinding) (xorBad : List Nat) : guarded (resyncGroupDone s band group findings xorBad) = guarded s := by
  unfold resyncGroupDone; (repeat' split) <;> simp [foldl_guarded]
@[simp] theorem resyncBandDone_guarded (s : State) (band : Nat) : guarded (resyncBandDone s band) = guarded s := by
  unfold resyncBandDone; (repeat' split) <;> simp [foldl_guarded]
@[simp] theorem resyncNotice_guarded (s : State) (phase : Nat) : guarded (resyncNotice s phase) = guarded s := by simp [resyncNotice]
@[simp] theorem resyncAdvance_guarded (s : State) (band group : Nat) : guarded (resyncAdvance s band group) = guarded s := by unfold resyncAdvance; split <;> simp
@[simp] theorem resync_guarded (s : State) (band group : Nat) (findings : List ResyncFinding) (xorBad : List Nat) : guarded (resync s band group findings xorBad) = guarded s := by simp [resync]
@[simp] theorem copyBlock_guarded (s : State) (src dst : Nat) : guarded (copyBlock s src dst) = guarded s := by simp [copyBlock]
@[simp] theorem eraseLeftSubsts_guarded (s : State) (slot : Nat) (b : Band) : guarded (eraseLeftSubsts s slot b) = guarded s := by
  unfold eraseLeftSubsts; apply foldl_guarded; intro s x; simp
@[simp] theorem rebuildImage_guarded (s : State) (band slot : Nat) (b : Band) : guarded (rebuildImage s band slot b) = guarded s := by
  unfold rebuildImage
  simp only
  split
  · simp
  · rw [setCore_guarded, foldl_guarded, eraseLeftSubsts_guarded]
    intro s x
    apply foldl_guarded
    intro s p
    split <;> simp
@[simp] theorem gatherPeer_guarded (s : State) (band : Nat) (blocks : List (Nat × Nat × Nat)) (reads : List BlockRead) : guarded (gatherPeer s band blocks reads) = guarded s := by
  unfold gatherPeer; (repeat' split) <;> simp [foldl_guarded]
@[simp] theorem endRebuild_guarded (s : State) (slot : Nat) : guarded (endRebuild s slot) = guarded s := by simp [endRebuild]
theorem recoverUnit_guarded (s : State) (band failed : Nat) (namesLost : Bool) (p : Nat × Nat) (reads : List BlockRead) :
    guarded (recoverUnit s band failed namesLost p reads).1 = guarded s := by
  unfold recoverUnit; simp only; repeat' split
  all_goals simp
@[simp] theorem rebuildBand_guarded (s : State) (band slot : Nat) (b : Band) (reads : List BlockRead) (unreadable : List (Nat × Nat)) (namesLost : Bool) : guarded (rebuildBand s band slot b reads unreadable namesLost) = guarded s := by
  unfold rebuildBand
  simp only
  have key : ∀ (l : List (Nat × Nat)) (acc : State × List BlockRead), guarded acc.1 = guarded s →
      guarded (l.foldl (fun acc p => recoverUnit acc.1 band slot namesLost p acc.2) acc).1 = guarded s := by
    intro l
    induction l with
    | nil => intro acc h; exact h
    | cons a l ih => intro acc h; apply ih; rw [recoverUnit_guarded]; exact h
  have h := key unreadable (s, reads) rfl
  generalize List.foldl _ (s, reads) unreadable = q at h ⊢
  repeat' split
  all_goals simp [h]
@[simp] theorem lunPage_guarded (s from_ : State) (band slot : Nat) (b : Band) (lost : List Nat) (dst : Nat) (p : Nat × Nat × Option Nat) :
    guarded (lunPage s from_ band slot b lost dst p) = guarded s := by
  unfold lunPage; split <;> simp [foldl_guarded]
@[simp] theorem rebuildPosition_guarded (s : State) (band : Nat) (b : Band) (lost : List Nat) (p : Nat × Nat) : guarded (rebuildPosition s band b lost p) = guarded s := by
  simp only [rebuildPosition]; repeat' split
  all_goals simp [foldl_guarded]
@[simp] theorem evacuateBand_guarded (s : State) (band slot : Nat) (b : Band) : guarded (evacuateBand s band slot b) = guarded s := by
  unfold evacuateBand; (repeat' split) <;> simp [foldl_guarded]
@[simp] theorem copybackBand_guarded (s : State) (band slot : Nat) (b : Band) : guarded (copybackBand s band slot b) = guarded s := by
  simp only [copybackBand]
  apply foldl_guarded; intro s a; repeat' split
  all_goals simp
@[simp] theorem eraseSources_guarded (s : State) (slot boundary : Nat) : guarded (eraseSources s slot boundary) = guarded s := by
  unfold eraseSources; (repeat' split) <;> simp [foldl_guarded]
@[simp] theorem reshapeCheckpoint_guarded (s : State) (r : Reshape) : guarded (reshapeCheckpoint s r) = guarded s := by simp [reshapeCheckpoint]
@[simp] theorem endReshape_guarded (s : State) (r : Reshape) : guarded (endReshape s r) = guarded s := by simp [endReshape]
@[simp] theorem reshapeBand_guarded (s : State) (r : Reshape) (band : Nat) : guarded (reshapeBand s r band) = guarded s := by
  simp only [reshapeBand]; repeat' split
  all_goals simp

/-! ### HostOps -/
@[simp] theorem modNs_guarded (s : State) (nsid : Nat) (f : Namespace → Namespace) : guarded (modNs s nsid f) = guarded s := by unfold modNs; split <;> simp
@[simp] theorem peerServed_guarded (s : State) (nsid lba band off : Nat) (r : BlockRead) : guarded (peerServed s nsid lba band off r) = guarded s := by
  unfold peerServed; (repeat' split) <;> simp [foldl_guarded]
@[simp] theorem blockLost_guarded (s : State) (nsid lba band off : Nat) (r : BlockRead) : guarded (blockLost s nsid lba band off r) = guarded s := by simp [blockLost]
@[simp] theorem readMapped_guarded (s : State) (n : Namespace) (nsid lba band off : Nat) (r : BlockRead) : guarded (readMapped s n nsid lba band off r).2 = guarded s := by
  simp only [readMapped]; repeat' split
  all_goals simp
@[simp] theorem readBlock_guarded (s : State) (n : Namespace) (nsid lba : Nat) (r : BlockRead) : guarded (readBlock s n nsid lba r).2 = guarded s := by
  simp only [readBlock]; repeat' split
  all_goals simp
theorem foldl_pair_guarded {α β : Type} (f : β × State → α → β × State) (h : ∀ acc a, guarded (f acc a).2 = guarded acc.2) (l : List α)
    (acc : β × State) : guarded (l.foldl f acc).2 = guarded acc.2 := by
  induction l generalizing acc with
  | nil => rfl
  | cons a l ih => rw [List.foldl_cons, ih, h]
@[simp] theorem readBlocks_guarded (s : State) (n : Namespace) (nsid lba count : Nat) (media : List BlockRead) : guarded (readBlocks s n nsid lba count media).2 = guarded s := by
  unfold readBlocks
  rw [foldl_pair_guarded]
  intro acc i
  simp
@[simp] theorem noteChange_guarded (s : State) (nsid lba count : Nat) : guarded (noteChange s nsid lba count) = guarded s := by simp [noteChange]
@[simp] theorem noteSecure_guarded (s : State) (nsid lba count : Nat) : guarded (noteSecure s nsid lba count) = guarded s := by simp [noteSecure]
@[simp] theorem makeKey_guarded (s : State) (nsid gen : Nat) : guarded (makeKey s nsid gen) = guarded s := by simp [makeKey]
@[simp] theorem destroyKey_guarded (s : State) (nsid : Nat) : guarded (destroyKey s nsid) = guarded s := by simp [destroyKey]

/-! ### SealOps -/
@[simp] theorem modSeal_guarded (s : State) (id : Nat) (f : Seal → Seal) : guarded (modSeal s id f) = guarded s := by simp [modSeal]
@[simp] theorem signSeal_guarded (s : State) (b : Bytes) : guarded (signSeal s b).2 = guarded s := by simp [signSeal]
@[simp] theorem makeSealRecord_guarded (s : State) (n : Namespace) (x : Seal) (root : Digest) : guarded (makeSealRecord s n x root).2 = guarded s := by simp [makeSealRecord]
@[simp] theorem makeCustody_guarded (s : State) (hop sealId prev : Nat) (piChecked : Bool) (root : Digest) (nsid slba : Nat) : guarded (makeCustody s hop sealId prev piChecked root nsid slba).2 = guarded s := by simp [makeCustody]
@[simp] theorem storeWrite_guarded (s : State) (off len : Nat) : guarded (storeWrite s off len) = guarded s := by
  unfold storeWrite; (repeat' split) <;> simp [foldl_guarded]
@[simp] theorem writeSealEntry_guarded (s : State) (id : Nat) : guarded (writeSealEntry s id) = guarded s := by simp [writeSealEntry]
@[simp] theorem writeSeal_guarded (s : State) (x : Seal) : guarded (writeSeal s x) = guarded s := by simp [writeSeal]
@[simp] theorem dropSeal_guarded (s : State) (id : Nat) : guarded (dropSeal s id) = guarded s := by simp [dropSeal]
@[simp] theorem journalSeal_guarded (s : State) (x : Seal) (on : Bool) : guarded (journalSeal s x on) = guarded s := by simp [journalSeal]
@[simp] theorem rewriteSpan_guarded (s : State) (nsid lba : Nat) (reads : Nat → BlockRead) : guarded (rewriteSpan s nsid lba reads) = guarded s := by
  simp only [rewriteSpan]
  apply foldl_guarded; intro s a; repeat' split
  all_goals simp
@[simp] theorem auditSpan_guarded (s : State) (n : Namespace) (x : Seal) (index : Nat) (media : List BlockRead) (peer : List BlockData) : guarded (auditSpan s n x index media peer).2 = guarded s := by
  simp only [auditSpan]; repeat' split
  all_goals simp
@[simp] theorem auditRecords_guarded (s : State) (id : Nat) (l : List SpanAudit) : guarded (auditRecords s id l) = guarded s := by
  unfold auditRecords; (repeat' split) <;> simp [foldl_guarded]
@[simp] theorem repairLevels_guarded (s : State) (n : Namespace) (x : Seal) : guarded (repairLevels s n x).2 = guarded s := by
  unfold repairLevels
  split
  · rfl
  · simp only
    split <;> simp

/-! ### NvmeOps -/
theorem repairLevels_some (s : State) (n : Namespace) (x : Seal) (t : State) (h : (repairLevels s n x).1 = some t) : guarded t = guarded s := by
  unfold repairLevels at h
  split at h
  · simp at h; rw [h]
  · simp only at h
    split at h
    · simp at h; rw [← h]; simp
    · simp at h
@[simp] theorem modFunc_guarded (s : State) (fn : Nat) (f : PciFunc → PciFunc) : guarded (modFunc s fn f) = guarded s := by simp [modFunc]
@[simp] theorem modCtrl_guarded (s : State) (fn : Nat) (f : Ctrl → Ctrl) : guarded (modCtrl s fn f) = guarded s := by simp [modCtrl]
@[simp] theorem modSq_guarded (s : State) (fn q : Nat) (f : SubQueue → SubQueue) : guarded (modSq s fn q f) = guarded s := by unfold modSq; split <;> simp
@[simp] theorem modVf_guarded (s : State) (n : Nat) (f : VfState → VfState) : guarded (modVf s n f) = guarded s := by simp [modVf]
@[simp] theorem noteHostWrite_guarded (s : State) (n : Nat) : guarded (noteHostWrite s n) = guarded s := by simp [noteHostWrite]
@[simp] theorem noteHostRead_guarded (s : State) (n : Nat) : guarded (noteHostRead s n) = guarded s := by simp [noteHostRead]
@[simp] theorem noteCompletion_guarded (s : State) (n : Nat) : guarded (noteCompletion s n) = guarded s := by simp [noteCompletion]
@[simp] theorem leaveL1_guarded (s : State) : guarded (leaveL1 s) = guarded s := by simp [leaveL1]
@[simp] theorem sendMsix_guarded (s : State) (fn v : Nat) : guarded (sendMsix s fn v) = guarded s := by simp [sendMsix]
@[simp] theorem modCmd_guarded (s : State) (c : CmdRef) (f : Fetched → Fetched) : guarded (modCmd s c f) = guarded s := by simp [modCmd]
@[simp] theorem endCmd_guarded (s : State) (c : CmdRef) (o : Cpl) : guarded (endCmd s c o) = guarded s := by simp [endCmd]
@[simp] theorem takeEffect_guarded (s : State) (c : CmdRef) (o : Cpl) : guarded (takeEffect s c o) = guarded s := by simp [takeEffect]
@[simp] theorem putData_guarded (s : State) (c : CmdRef) (out : List BlockData) : guarded (putData s c out) = guarded s := by simp [putData]
@[simp] theorem answer_guarded (s : State) (c : CmdRef) (bytes : Bytes) : guarded (answer s c bytes) = guarded s := by simp [answer]
theorem onCommand_guarded (s : State) (c : CmdRef) (admin : Bool) (opc : Nat) (k : Fetched → State → State) (h : ∀ f, guarded (k f s) = guarded s) :
    guarded (onCommand s c admin opc k) = guarded s := by
  unfold onCommand; split
  · rfl
  · split <;> simp [h]
theorem onTurn_guarded (s : State) (c : CmdRef) (admin : Bool) (opc : Nat) (k : Fetched → State → State) (h : ∀ f, guarded (k f s) = guarded s) :
    guarded (onTurn s c admin opc k) = guarded s := by
  unfold onTurn; apply onCommand_guarded; intro f; split
  · exact h f
  · rfl
@[simp] theorem raiseEvent_guarded (s : State) (fn type info log : Nat) : guarded (raiseEvent s fn type info log) = guarded s := by
  simp only [raiseEvent]; repeat' split
  all_goals simp
@[simp] theorem healthEvent_guarded (s : State) (changed info : Nat) : guarded (healthEvent s changed info) = guarded s := by
  unfold healthEvent; (repeat' split) <;> simp [foldl_guarded]
@[simp] theorem nsChanged_guarded (s : State) (fn nsid : Nat) : guarded (nsChanged s fn nsid) = guarded s := by simp [nsChanged]
@[simp] theorem countCommand_guarded (s : State) (c : CmdRef) (f : Fetched) (o : Cpl) : guarded (countCommand s c f o) = guarded s := by simp [countCommand]
@[simp] theorem logError_guarded (s : State) (c : CmdRef) (f : Fetched) (o : Cpl) : guarded (logError s c f o) = guarded s := by simp [logError]
@[simp] theorem writeCqe_guarded (s : State) (c : CmdRef) (f : Fetched) (o : Cpl) : guarded (writeCqe s c f o) = guarded s := by
  simp only [writeCqe]; repeat' split
  all_goals simp
@[simp] theorem postCompletionOf_guarded (s : State) (c : CmdRef) (f : Fetched) (o : Cpl) : guarded (postCompletionOf s c f o) = guarded s := by simp [postCompletionOf]
@[simp] theorem postNow_guarded (s : State) (c : CmdRef) : guarded (postNow s c) = guarded s := by
  simp only [postNow]; repeat' split
  all_goals simp
@[simp] theorem leaveLine_guarded (s : State) (c : CmdRef) : guarded (leaveLine s c) = guarded s := by simp [leaveLine]
@[simp] theorem abandonSeal_guarded (s : State) (f : Fetched) : guarded (abandonSeal s f) = guarded s := by unfold abandonSeal; split <;> simp
@[simp] theorem terminate_guarded (s : State) (c : CmdRef) (f : Fetched) : guarded (terminate s c f) = guarded s := by simp [terminate]
@[simp] theorem terminateAll_guarded (s : State) (fn : Func) : guarded (terminateAll s fn) = guarded s := by
  unfold terminateAll; (repeat' split) <;> simp [foldl_guarded]
@[simp] theorem endSelfTest_guarded (s : State) (code segment : Nat) : guarded (endSelfTest s code segment) = guarded s := by simp [endSelfTest]
@[simp] theorem endWithController_guarded (s : State) (fn : Nat) : guarded (endWithController s fn) = guarded s := by simp [endWithController]
@[simp] theorem resetController_guarded (s : State) (fn : Func) : guarded (resetController s fn) = guarded s := by simp [resetController]
@[simp] theorem settleReady_guarded (s : State) (fn : Nat) : guarded (settleReady s fn) = guarded s := by simp [settleReady]

/-! ### NvmeIo -/
@[simp] theorem setTail_guarded (s : State) (fn q value : Nat) : guarded (setTail s fn q value) = guarded s := by simp [setTail]
@[simp] theorem setHead_guarded (s : State) (fn q value : Nat) : guarded (setHead s fn q value) = guarded s := by simp [setHead]
@[simp] theorem replayDoorbells_guarded (s : State) (fn : Nat) : guarded (replayDoorbells s fn) = guarded s := by
  unfold replayDoorbells; (repeat' split) <;> simp [foldl_guarded]
@[simp] theorem doorbell_guarded (s : State) (fn : Nat) (cq : Bool) (q value : Nat) : guarded (doorbell s fn cq q value) = guarded s := by simp [doorbell]
@[simp] theorem chargePace_guarded (s : State) (fn : Nat) (e : Sqe) (q : Nat) : guarded (chargePace s fn e q) = guarded s := by simp [chargePace]
@[simp] theorem hostRead_guarded (s : State) (c : CmdRef) (q : Sqe) (n : Namespace) (media : List BlockRead) (transfer : Bool) : guarded (hostRead s c q n media transfer) = guarded s := by simp [hostRead]
@[simp] theorem secureBegin_guarded (s : State) (nsid lba count : Nat) : guarded (secureBegin s nsid lba count).2 = guarded s := by simp [secureBegin]
@[simp] theorem secureErase_guarded (s : State) (marked : List Nat) (unerased : List Nat) : guarded (secureErase s marked unerased) = guarded s := by
  simp only [secureErase]
  apply foldl_guarded; intro s a; repeat' split
  all_goals simp
@[simp] theorem secureStart_guarded (s : State) (c : CmdRef) (f : Fetched) : guarded (secureStart s c f) = guarded s := by
  simp only [secureStart]; repeat' split
  all_goals simp
@[simp] theorem sealAdmit_guarded (s : State) (c : CmdRef) (q : Sqe) : guarded (sealAdmit s c q) = guarded s := by simp [sealAdmit]
@[simp] theorem sealFail_guarded (s : State) (c : CmdRef) (x : Seal) (o : Cpl) (sev : Option Severity) (lba : Nat) : guarded (sealFail s c x o sev lba) = guarded s := by unfold sealFail; split <;> simp
@[simp] theorem sealWork_guarded (s : State) (c : CmdRef) (x : Seal) (n : Namespace) (media : List BlockRead) : guarded (sealWork s c x n media) = guarded s := by
  simp only [sealWork]; repeat' split
  all_goals simp
@[simp] theorem auditSpans_guarded (s : State) (n : Namespace) (x : Seal) (first count : Nat) (media : List BlockRead) (repair : List (Nat × List BlockData)) : guarded (auditSpans s n x first count media repair).2 = guarded s := by
  unfold auditSpans
  rw [foldl_pair_guarded]
  intro acc i
  simp only [auditSpan_guarded]
@[simp] theorem auditWhole_guarded (s : State) (c : CmdRef) (x : Seal) : guarded (auditWhole s c x) = guarded s := by simp [auditWhole]
@[simp] theorem queueRange_guarded (s : State) (bands : List Nat) : guarded (queueRange s bands) = guarded s := by
  simp only [queueRange]
  apply foldl_guarded; intro s a; repeat' split
  all_goals simp
@[simp] theorem auditWork_guarded (s : State) (c : CmdRef) (q : Sqe) (x : Seal) (n : Namespace) (media : List BlockRead) (repair : List (Nat × List BlockData)) : guarded (auditWork s c q x n media repair) = guarded s := by
  have h1 := auditSpans_guarded s n x ((slbaOf q - x.slba) / 256) (vendorNlb q / 256) media repair
  unfold auditWork
  simp only
  generalize auditSpans s n x ((slbaOf q - x.slba) / 256) (vendorNlb q / 256) media repair = p at h1 ⊢
  have h2 := repairLevels_guarded p.2 n x
  have h3 := repairLevels_some p.2 n x
  split
  · rename_i heq; rw [auditWhole_guarded, ← h1, ← h2, heq]
  · rename_i t _ heq
    have := h3 t (by rw [heq])
    rw [h1] at this
    split <;> simp [this]

/-! ### AdminOps -/
@[simp] theorem noteHealth_guarded (s : State) : guarded (noteHealth s) = guarded s := by simp [noteHealth]
@[simp] theorem smartPage_guarded (s : State) : guarded (smartPage s).2 = guarded s := by
  unfold smartPage; simp only [drawNat_guarded]
theorem logPage_guarded (s : State) (fn lid : Nat) (p : Bytes × State) (h : logPage s fn lid = some p) : guarded p.2 = guarded s := by
  unfold logPage at h
  simp only at h
  split at h <;> (try split at h) <;> simp at h <;> rw [← h] <;> simp
@[simp] theorem setCalendar_guarded (s : State) (v : BitVec 48) : guarded (setCalendar s v) = guarded s := by simp [setCalendar]
@[simp] theorem takeSegments_guarded (s : State) (nsid : Nat) (r : Nat × Nat) : guarded (takeSegments s nsid r) = guarded s := by simp [takeSegments]
@[simp] theorem resetPolicy_guarded (s : State) (nsid : Nat) :
    guarded (resetPolicy s nsid) = { guarded s with settings := removeSetting s.settings (0x01, 9, nsid) } := rfl
@[simp] theorem createNamespace_guarded (s : State) (nsid : Nat) (n : Namespace) :
    guarded (createNamespace s nsid n) = { guarded s with settings := removeSetting s.settings (0x01, 9, nsid) } := by
  have h : ∀ (l : List (Nat × Nat)) (s : State), guarded (l.foldl (fun s r => takeSegments s nsid r) s) = guarded s := by
    intro l s; apply foldl_guarded; intro s r; simp
  simp only [createNamespace]
  split <;> simp [h]
@[simp] theorem beginDelete_guarded (s : State) (nsid : Nat) (n : Namespace) : guarded (beginDelete s nsid n) = guarded s := by simp [beginDelete]
@[simp] theorem endDelete_guarded (s : State) (nsid : Nat) :
    guarded (endDelete s nsid) = { guarded s with settings := removeSetting s.settings (0x01, 9, nsid) } := by
  simp only [endDelete]
  rw [foldl_guarded _ (fun s fn => by simp)]
  simp
theorem foldl_endDelete_guarded (l : List Nat) (s : State) :
    guarded (l.foldl endDelete s) = { guarded s with settings := l.foldl (fun m n => removeSetting m (0x01, 9, n)) s.settings } := by
  induction l generalizing s with
  | nil => rfl
  | cons a l ih =>
    have h := congrArg Guarded.settings (endDelete_guarded s a)
    rw [List.foldl_cons, ih, endDelete_guarded, List.foldl_cons]
    simp only [guarded] at h
    rw [h]

/-! ### MbxOps -/
@[simp] theorem modBox_guarded (s : State) (key : Nat) (f : Mailbox → Mailbox) : guarded (modBox s key f) = guarded s := by simp [modBox]
@[simp] theorem mbxEnd_guarded (s : State) (key : Nat) (e : MbxExec) (st : MbxStatus) (detail : Nat) (result : Bytes) : guarded (mbxEnd s key e st detail result) = guarded s := by simp [mbxEnd]
@[simp] theorem endWaiter_guarded (s : State) (w : Option (Nat × Nat)) (st : MbxStatus) (detail : Nat) (result : Bytes) : guarded (endWaiter s w st detail result) = guarded s := by
  simp only [endWaiter]; repeat' split
  all_goals simp
@[simp] theorem consumeChallenge_guarded (s : State) (key : Nat) : guarded (consumeChallenge s key) = guarded s := by simp [consumeChallenge]
@[simp] theorem noteAuthFailed_guarded (s : State) (opcode : Nat) : guarded (noteAuthFailed s opcode) = guarded s := by simp [noteAuthFailed]
@[simp] theorem authorise_guarded (s : State) (key : Nat) (e : MbxExec) : guarded (authorise s key e).2 = guarded s := by
  unfold authorise
  simp only
  repeat' split
  all_goals simp
@[simp] theorem mbxOk_guarded (x : MbxCtx) (result : Bytes) (detail : Nat) (s : State) : guarded (mbxOk x result detail s) = guarded s := by simp [mbxOk]
@[simp] theorem mbxDone_guarded (x : MbxCtx) (s : State) : guarded (mbxDone x s) = guarded s := by simp [mbxDone]
@[simp] theorem mbxFail_guarded (x : MbxCtx) (st : MbxStatus) (detail : Nat) (s : State) : guarded (mbxFail x st detail s) = guarded s := by simp [mbxFail]
@[simp] theorem mbxWait_guarded (x : MbxCtx) (s : State) : guarded (mbxWait x s) = guarded s := by simp [mbxWait]
theorem runMbx_guarded (fn m opcode : Nat) (sizes : Nat → Bool) (work : MbxCtx → Bytes → State → State) (s : State)
    (h : ∀ x r s, guarded (work x r s) = guarded s) : guarded (runMbx fn m opcode sizes work s) = guarded s := by
  unfold runMbx
  simp only
  split
  · rfl
  · rename_i e _
    have ha := authorise_guarded s (boxKey fn m) e
    split
    · rfl
    · split
      · simp
      · split
        · simp
        · split
          · simp
          · split
            · simp
            · split
              · generalize authorise s (boxKey fn m) e = q at ha
                obtain ⟨q1, q2⟩ := q
                simp only at ha
                cases q1 with
                | some st => simpa using ha
                | none =>
                  simp only
                  split
                  · simpa using ha
                  · split
                    · simpa using ha
                    · rw [h]; exact ha
              · split
                · simp
                · rw [h]
@[simp] theorem mbxBad_guarded (x : MbxCtx) (off : Nat) (s : State) : guarded (mbxBad x off s) = guarded s := by simp [mbxBad]
@[simp] theorem resetMailboxes_guarded (s : State) (fn : Nat) : guarded (resetMailboxes s fn) = guarded s := by
  unfold resetMailboxes; (repeat' split) <;> simp [foldl_guarded]
@[simp] theorem mailboxesNoMaster_guarded (s : State) (fn : Nat) : guarded (mailboxesNoMaster s fn) = guarded s := by
  simp only [mailboxesNoMaster]
  apply foldl_guarded; intro s a; repeat' split
  all_goals simp

/-! ### FwOps -/
@[simp] theorem endCommit_guarded (s : State) (o : Cpl) : guarded (endCommit s o) = guarded s := by unfold endCommit; split <;> simp
@[simp] theorem resumeIntake_guarded (s : State) : guarded (resumeIntake s) = guarded s := by
  unfold resumeIntake; (repeat' split) <;> simp [foldl_guarded]
@[simp] theorem handoverOver_guarded (s : State) : guarded (handoverOver s) = guarded s := by simp [handoverOver]
@[simp] theorem revertImage_guarded (s : State) : guarded (revertImage s) = guarded s := by
  simp [revertImage, setSlot]
@[simp] theorem revertIncompatible_guarded (s : State) : guarded (revertIncompatible s) = guarded s := by simp [revertIncompatible]
@[simp] theorem abandonHandover_guarded (s : State) : guarded (abandonHandover s) = guarded s := by simp [abandonHandover]

/-! ### Mailbox -/
@[simp] theorem latchCommand_guarded (s : State) (fn m : Nat) : guarded (latchCommand s fn m) = guarded s := by simp [latchCommand]
@[simp] theorem writeGo_guarded (s : State) (fn m : Nat) : guarded (writeGo s fn m) = guarded s := by simp [writeGo]

/-! ### CtrlOps -/
@[simp] theorem vfRecord_guarded (s : State) (sev : Severity) (n : Nat) (c : VfCause) (count : Nat) : guarded (vfRecord s sev n c count) = guarded s := by
  unfold vfRecord; repeat' (first | rfl | (simp; done) | (apply foldl_guarded; intro _ _) | split)
@[simp] theorem vfOutcome_guarded (s : State) (n : Nat) (c : VfCause) : guarded (vfOutcome s n c) = guarded s := by
  unfold vfOutcome; repeat' (first | rfl | (simp; done) | (apply foldl_guarded; intro _ _) | split)
@[simp] theorem settleQuiesce_guarded (s : State) (n : Nat) : guarded (settleQuiesce s n) = guarded s := by
  unfold settleQuiesce; repeat' (first | rfl | (simp; done) | (apply foldl_guarded; intro _ _) | split)
@[simp] theorem ccEnSet_guarded (s : State) (fn : Nat) : guarded (ccEnSet s fn) = guarded s := by simp [ccEnSet]
@[simp] theorem controllerReset_guarded (s : State) (fn : Nat) : guarded (controllerReset s fn) = guarded s := by simp [controllerReset]
@[simp] theorem ccEnClear_guarded (s : State) (fn : Nat) : guarded (ccEnClear s fn) = guarded s := by simp [ccEnClear]
@[simp] theorem shutdownNotify_guarded (s : State) (fn : Nat) : guarded (shutdownNotify s fn) = guarded s := by simp [shutdownNotify]
@[simp] theorem enterFatal_guarded (s : State) (fn : Nat) : guarded (enterFatal s fn) = guarded s := by simp [enterFatal]
@[simp] theorem stopRequests_guarded (s : State) (fn : Nat) : guarded (stopRequests s fn) = guarded s := by simp [stopRequests]
@[simp] theorem resetFunction_guarded (s : State) (fn : Nat) : guarded (resetFunction s fn) = guarded s := by simp [resetFunction]
@[simp] theorem removeVf_guarded (s : State) (n : Nat) : guarded (removeVf s n) = guarded s := by simp [removeVf]
@[simp] theorem removeVfsAbove_guarded (s : State) (n : Nat) : guarded (removeVfsAbove s n) = guarded s := by
  unfold removeVfsAbove; (repeat' split) <;> simp [foldl_guarded]
@[simp] theorem endFlr_guarded (s : State) (fn : Nat) : guarded (endFlr s fn) = guarded s := by
  unfold endFlr; repeat' (first | rfl | (simp; done) | (apply foldl_guarded; intro _ _) | split)
@[simp] theorem beginFlr_guarded (s : State) (fn : Nat) : guarded (beginFlr s fn) = guarded s := by simp [beginFlr]
@[simp] theorem runDeferred_guarded (s : State) : guarded (runDeferred s) = guarded s := by
  unfold runDeferred; (repeat' split) <;> simp [foldl_guarded]
@[simp] theorem enableVfs_guarded (s : State) (n : Nat) : guarded (enableVfs s n) = guarded s := by
  unfold enableVfs; (repeat' split) <;> simp [foldl_guarded]

/-! ### NvmeAdmin -/
theorem onFeature_guarded (s : State) (c : CmdRef) (fid : Nat) (k : Sqe → State → State) (h : ∀ q, guarded (k q s) = guarded s) :
    guarded (onFeature s c fid k) = guarded s := by
  unfold onFeature; apply onTurn_guarded; intro f; split <;> simp [h]
@[simp] theorem startDelete_guarded (s : State) (nsid : Nat) : guarded (startDelete s nsid) = guarded s := by
  unfold startDelete; (repeat' split) <;> simp [foldl_guarded]
theorem onCommit_guarded (s : State) (c : CmdRef) (action : Nat) (k : Nat → State → State) (h : ∀ n, guarded (k n s) = guarded s) :
    guarded (onCommit s c action k) = guarded s := by
  unfold onCommit; apply onTurn_guarded; intro f; repeat' split
  all_goals simp [h]
theorem writeSlot_guarded (s : State) (c : CmdRef) (activates storeOk : Bool) (k : State → State) (h : ∀ s, guarded (k s) = guarded s) :
    guarded (writeSlot s c activates storeOk k) = guarded s := by
  unfold writeSlot
  simp only
  split
  · simp [setSlot]
  · rw [h]; simp [setSlot]
@[simp] theorem commitDone_guarded (s : State) (c : CmdRef) : guarded (commitDone s c) = guarded s := by simp [commitDone]
@[simp] theorem startSelfTest_guarded (s : State) (c : CmdRef) (code : Nat) : guarded (startSelfTest s c code) = guarded s := by
  unfold startSelfTest; apply onTurn_guarded; intro f; simp only; repeat' split
  all_goals simp
theorem onSecondary_guarded (s : State) (c : CmdRef) (action : Nat) (k : Nat → State → State) (h : ∀ n, guarded (k n s) = guarded s) :
    guarded (onSecondary s c action k) = guarded s := by
  unfold onSecondary; apply onTurn_guarded; intro f; simp only; repeat' split
  all_goals simp [h]

/-! ### LedgerOps -/
@[simp] theorem setLedger_guarded (s : State) (k : Nat) (f : LedgerWord → LedgerWord) : guarded (setLedger s k f) = guarded s := by
  simp only [setLedger]
  repeat' split
  · rfl
  · rename_i t h; simpa using csTurn_guarded s t h
  · simp
@[simp] theorem beginMark_guarded (s : State) (k mode : Nat) : guarded (beginMark s k mode) = guarded s := by simp [beginMark]
@[simp] theorem endMark_guarded (s : State) (k result : Nat) : guarded (endMark s k result) = guarded s := by simp [endMark]
@[simp] theorem beginMarkFailed_guarded (s : State) (k : Nat) : guarded (beginMarkFailed s k) = guarded s := by simp [beginMarkFailed]
@[simp] theorem endMarkFailed_guarded (s : State) (k : Nat) : guarded (endMarkFailed s k) = guarded s := by simp [endMarkFailed]
@[simp] theorem beginLedgerErase_guarded (s : State) (carry : CarryRecord) : guarded (beginLedgerErase s carry) = guarded s := by simp [beginLedgerErase]
@[simp] theorem submitLedgerErase_guarded (s : State) (carry : CarryRecord) : guarded (submitLedgerErase s carry) = guarded s := by unfold submitLedgerErase; split <;> simp

/-! ### ConfigStore -/
@[simp] theorem csDone_guarded (s : State) (tag : Word16) (status offset : Nat) : guarded (csDone s tag status offset) = guarded s := by simp [csDone]
@[simp] theorem csRead_guarded (s : State) (d : CsDesc) (buffer : Nat) : guarded (csRead s d buffer) = guarded s := by
  unfold csRead; repeat' (first | rfl | (simp; done) | (apply foldl_guarded; intro _ _) | split)
theorem csProgramWords_guarded (addr : Nat) (tag : Word16) (failAt : Option Nat) (l : List Word64) (i : Nat) (s : State) :
    guarded (csProgramWords addr tag failAt i s l) = guarded s := by
  induction l generalizing i s with
  | nil => simp [csProgramWords]
  | cons v t ih =>
    unfold csProgramWords
    simp only
    split
    · simp
    · split
      · simp
      · split
        · simp [drawNat]
        · rw [ih]; simp
@[simp] theorem csProgram_guarded (s : State) (d : CsDesc) (data : Bytes) (failAt : Option Nat) : guarded (csProgram s d data failAt) = guarded s := by
  unfold csProgram
  repeat' split
  all_goals first | exact csDone_guarded .. | exact csProgramWords_guarded ..
@[simp] theorem csErase_guarded (s : State) (d : CsDesc) : guarded (csErase s d) = guarded s := by simp [csErase]
@[simp] theorem csSubmit_guarded (s : State) (op : CsOp) : guarded (csSubmit s op) = guarded s := by
  unfold csSubmit
  repeat' split
  all_goals first | rfl | (simp; done) | (rename_i t h; simpa using csTurn_guarded s t h)
@[simp] theorem settleClear_guarded (s : State) : guarded (settleClear s) = guarded s := by simp [settleClear]
@[simp] theorem csEraseEnd_guarded (s : State) (ok : Bool) : guarded (csEraseEnd s ok) = guarded s := by
  unfold csEraseEnd
  split
  · rfl
  · rename_i addr _ _
    have h : ∀ (c : Bool) (t : State) (o : Option Nat), guarded t = guarded s →
        guarded (if c = true then o.elim t (fun k => { t with alm := sectorErased t.alm k ok }) else t) = guarded s := by
      intro c t o ht; split
      · apply elim_guarded
        · exact ht
        · intro k; exact ht
      · exact ht
    have hd : ∀ (c : Bool) (t : State) (x : Word16) (y : Nat), guarded t = guarded s →
        guarded (if c = true then t else csDone t x y 0) = guarded s := by
      intro c t x y ht; split
      · exact ht
      · rw [csDone_guarded]; exact ht
    simp only
    rw [settleClear_guarded, foldl_guarded _ csSubmit_guarded]
    apply hd
    apply h
    repeat' split
    all_goals first | rfl | (simp only [record_guarded]; rfl)

/-! ### PowerOps -/
@[simp] theorem requestRow_guarded (s : State) (row : Nat) : guarded (requestRow s row) = guarded s := by simp [requestRow]
@[simp] theorem setLevel_guarded (s : State) (l : Nat) : guarded (setLevel s l) = guarded s := by simp [setLevel]
@[simp] theorem stepLevel_guarded (s : State) : guarded (stepLevel s) = guarded s := by unfold stepLevel; split <;> simp
@[simp] theorem avsTimeout_guarded (s : State) : guarded (avsTimeout s) = guarded s := by simp [avsTimeout]
@[simp] theorem recomputeLimit_guarded (s : State) (carriers : Nat) (valid : Bool) : guarded (recomputeLimit s carriers valid) = guarded s := by simp [recomputeLimit]
@[simp] theorem settleHoldup_guarded (s : State) : guarded (settleHoldup s) = guarded s := by simp [settleHoldup]
@[simp] theorem startMeasure_guarded (s : State) : guarded (startMeasure s) = guarded s := by simp [startMeasure]
@[simp] theorem endMeasure_guarded (s : State) (x : HoldupSample) (carriers : Nat) : guarded (endMeasure s x carriers) = guarded s := by
  simp only [endMeasure]; repeat' split
  all_goals simp
@[simp] theorem replan_guarded (s : State) (x : ReplanSample) : guarded (replan s x) = guarded s := by simp [replan]

/-! ### CarrierOps -/
@[simp] theorem monitorEvent_guarded (s : State) (n : Nat) (st : MonSt) (mv : Nat) : guarded (monitorEvent s n st mv) = guarded s := by
  unfold monitorEvent; repeat' (first | rfl | (simp; done) | (apply foldl_guarded; intro _ _) | split)
@[simp] theorem carrierNotice_guarded (s : State) (c : Nat) : guarded (carrierNotice s c) = guarded s := by simp [carrierNotice]
@[simp] theorem carrierFault_guarded (s : State) (c check : Nat) : guarded (carrierFault s c check) = guarded s := by simp [carrierFault]
@[simp] theorem isolate_guarded (s : State) (c : Nat) (st : CarrierSt) : guarded (isolate s c st) = guarded s := by simp [isolate]
@[simp] theorem settleDisable_guarded (s : State) : guarded (settleDisable s) = guarded s := by
  unfold settleDisable; (repeat' split) <;> simp [foldl_guarded]
@[simp] theorem endRemoval_guarded (s : State) (c : Nat) : guarded (endRemoval s c) = guarded s := by simp [endRemoval]
@[simp] theorem endOut_guarded (s : State) (c : Nat) : guarded (endOut s c) = guarded s := by simp [endOut]
@[simp] theorem endDrainWaiters_guarded (s : State) (c : Nat) : guarded (endDrainWaiters s c) = guarded s := by
  unfold endDrainWaiters; (repeat' split) <;> simp [foldl_guarded]
@[simp] theorem settleCarrier_guarded (s : State) (c : Nat) : guarded (settleCarrier s c) = guarded s := by simp [settleCarrier]
@[simp] theorem reportFailed_guarded (s : State) (c cause : Nat) : guarded (reportFailed s c cause) = guarded s := by simp [reportFailed]
@[simp] theorem powerUp_guarded (s : State) (c : Nat) : guarded (powerUp s c) = guarded s := by simp [powerUp]
@[simp] theorem presenceFall_guarded (s : State) (c : Nat) : guarded (presenceFall s c) = guarded s := by simp [presenceFall]
@[simp] theorem presenceRise_guarded (s : State) (c : Nat) : guarded (presenceRise s c) = guarded s := by
  simp only [presenceRise]; repeat' split
  all_goals simp
@[simp] theorem identified_guarded (s : State) (c copy : Nat) (l : Lomril) : guarded (identified s c copy l) = guarded s := by
  unfold identified; (repeat' split) <;> simp [foldl_guarded]
@[simp] theorem trainedAt_guarded (s : State) (c r : Nat) : guarded (trainedAt s c r) = guarded s := by simp [trainedAt]
@[simp] theorem failCarrier_guarded (s : State) (c check : Nat) (known : Bool) : guarded (failCarrier s c check known) = guarded s := by simp [failCarrier]
@[simp] theorem makeReady_guarded (s : State) (c : Nat) : guarded (makeReady s c) = guarded s := by simp [makeReady]
@[simp] theorem refreshWindows_guarded (s : State) : guarded (refreshWindows s) = guarded s := by
  unfold refreshWindows; (repeat' split) <;> simp [foldl_guarded]
@[simp] theorem powerDownCarrier_guarded (s : State) (c : Nat) : guarded (powerDownCarrier s c) = guarded s := by
  simp only [powerDownCarrier]; repeat' split
  all_goals simp
@[simp] theorem loadEntries_guarded (s : State) (c : Nat) : guarded (loadEntries s c) = guarded s := by
  unfold loadEntries; (repeat' split) <;> simp [foldl_guarded]
@[simp] theorem sweepAfterSleep_guarded (s : State) (c : Nat) : guarded (sweepAfterSleep s c) = guarded s := by simp [sweepAfterSleep]
@[simp] theorem wakeCarrier_guarded (s : State) (c : Nat) : guarded (wakeCarrier s c) = guarded s := by simp [wakeCarrier]

/-! ### CoolOps -/
@[simp] theorem modMotor_guarded (s : State) (m : Nat) (f : MotorState → MotorState) : guarded (modMotor s m f) = guarded s := by simp [modMotor]
@[simp] theorem modLoop_guarded (s : State) (n : Nat) (f : LoopState → LoopState) : guarded (modLoop s n f) = guarded s := by simp [modLoop]
@[simp] theorem modTrace_guarded (s : State) (b : Nat) (f : TraceState → TraceState) : guarded (modTrace s b f) = guarded s := by simp [modTrace]
@[simp] theorem setCdEn_guarded (s : State) (m : Nat) (on : Bool) : guarded (setCdEn s m on) = guarded s := by simp [setCdEn]
@[simp] theorem setFaultPin_guarded (s : State) (m : Nat) (high : Bool) : guarded (setFaultPin s m high) = guarded s := by simp [setFaultPin]
@[simp] theorem triggerWhere_guarded (s : State) (p : TraceState → Bool) : guarded (triggerWhere s p) = guarded s := by simp [triggerWhere]
@[simp] theorem settleSetpoints_guarded (s : State) : guarded (settleSetpoints s) = guarded s := by
  unfold settleSetpoints; (repeat' split) <;> simp [foldl_guarded]
@[simp] theorem noteDemand_guarded (before : Nat) (s : State) : guarded (noteDemand before s) = guarded s := by simp [noteDemand]
@[simp] theorem settleDemand_guarded (s : State) : guarded (settleDemand s) = guarded s := by simp [settleDemand]
@[simp] theorem judgeThreshold_guarded (s : State) (i : Nat) : guarded (judgeThreshold s i) = guarded s := by simp [judgeThreshold]
@[simp] theorem fallBack_guarded (s : State) : guarded (fallBack s) = guarded s := by simp [fallBack]
@[simp] theorem judgeRate_guarded (s : State) : guarded (judgeRate s) = guarded s := by simp [judgeRate]
@[simp] theorem judgeHctm_guarded (s : State) : guarded (judgeHctm s) = guarded s := by simp [judgeHctm]
@[simp] theorem takeReading_guarded (s : State) (diode : Int) : guarded (takeReading s diode) = guarded s := by simp [takeReading]
@[simp] theorem slotValue_guarded (s : State) (l : LoopState) (e : Int) : guarded (slotValue s l e).2 = guarded s := by
  simp only [slotValue]; repeat' split
  all_goals simp
@[simp] theorem updateSlot_guarded (s : State) (n : Nat) (meas : Int) : guarded (updateSlot s n meas) = guarded s := by simp [updateSlot]
@[simp] theorem valley_guarded (s : State) (m : Nat) : guarded (valley s m) = guarded s := by simp [valley]
@[simp] theorem judgePlausible_guarded (s : State) (m : Nat) : guarded (judgePlausible s m) = guarded s := by simp [judgePlausible]
@[simp] theorem noteUpdate_guarded (s : State) (n : Nat) (meas : Int) : guarded (noteUpdate s n meas) = guarded s := by simp [noteUpdate]
@[simp] theorem motorTo_guarded (s : State) (m : Nat) (st : MotorSt) : guarded (motorTo s m st) = guarded s := by simp [motorTo]
@[simp] theorem motorFaultRecord_guarded (s : State) (m cause : Nat) : guarded (motorFaultRecord s m cause) = guarded s := by simp [motorFaultRecord]
@[simp] theorem faultMotor_guarded (s : State) (m cause : Nat) : guarded (faultMotor s m cause) = guarded s := by simp [faultMotor]
@[simp] theorem countFault_guarded (s : State) (m : Nat) : guarded (countFault s m) = guarded s := by simp [countFault]
@[simp] theorem startMotor_guarded (s : State) (m : Nat) : guarded (startMotor s m) = guarded s := by simp [startMotor]
@[simp] theorem stopMotor_guarded (s : State) (m : Nat) : guarded (stopMotor s m) = guarded s := by simp [stopMotor]
@[simp] theorem enableMotor_guarded (s : State) (m : Nat) (on : Bool) : guarded (enableMotor s m on) = guarded s := by simp [enableMotor]
@[simp] theorem loseRotor_guarded (s : State) (m : Nat) : guarded (loseRotor s m) = guarded s := by simp [loseRotor]
@[simp] theorem judgeKe_guarded (s : State) (m ke : Nat) : guarded (judgeKe s m ke) = guarded s := by simp [judgeKe]
@[simp] theorem startMotors_guarded (s : State) : guarded (startMotors s) = guarded s := by
  unfold startMotors; (repeat' split) <;> simp [foldl_guarded]
@[simp] theorem motorsOff_guarded (s : State) : guarded (motorsOff s) = guarded s := by
  unfold motorsOff; (repeat' split) <;> simp [foldl_guarded]
@[simp] theorem motorsCoast_guarded (s : State) : guarded (motorsCoast s) = guarded s := by simp [motorsCoast]
@[simp] theorem startCooling_guarded (s : State) : guarded (startCooling s) = guarded s := by simp [startCooling]

/-! ### DramOps -/
@[simp] theorem modDramState_guarded (s : State) (f : DramState → DramState) : guarded (modDramState s f) = guarded s := by simp [modDramState]
@[simp] theorem fatalAll_guarded (s : State) : guarded (fatalAll s) = guarded s := by
  unfold fatalAll; (repeat' split) <;> simp [foldl_guarded]
@[simp] theorem internalError_guarded (s : State) : guarded (internalError s) = guarded s := by simp [internalError]
@[simp] theorem freeze_guarded (s : State) (cause ch addr : Nat) : guarded (freeze s cause ch addr) = guarded s := by simp [freeze]
@[simp] theorem leaveOut_guarded (s : State) (ch : Nat) (st : DramSt) : guarded (leaveOut s ch st) = guarded s := by
  unfold leaveOut; repeat' (first | rfl | (simp; done) | (apply foldl_guarded; intro _ _) | split)
@[simp] theorem failChannel_guarded (s : State) (ch : Nat) : guarded (failChannel s ch) = guarded s := by
  unfold failChannel; repeat' (first | rfl | (simp; done) | (apply foldl_guarded; intro _ _) | split)
@[simp] theorem countCorrected_guarded (s : State) (ch addr : Nat) : guarded (countCorrected s ch addr) = guarded s := by simp [countCorrected]
@[simp] theorem countUncorrectable_guarded (s : State) (addr : Nat) : guarded (countUncorrectable s addr) = guarded s := by simp [countUncorrectable]
@[simp] theorem bufferRecord_guarded (s : State) (sev : Severity) (addr : Nat) : guarded (bufferRecord s sev addr) = guarded s := by simp [bufferRecord]
@[simp] theorem moveFrame_guarded (s : State) (l : CacheLine) : guarded (moveFrame s l) = guarded s := by simp [moveFrame]
@[simp] theorem loseLine_guarded (s : State) (l : CacheLine) : guarded (loseLine s l) = guarded s := by unfold loseLine; split <;> simp
@[simp] theorem copyError_guarded (s : State) (l : CacheLine) (copy : Nat) (rewriteFails : Bool) : guarded (copyError s l copy rewriteFails) = guarded s := by simp [copyError]
@[simp] theorem bufferError_guarded (s : State) (loc : BufferLoc) : guarded (bufferError s loc) = guarded s := by
  simp only [bufferError]; repeat' split
  all_goals simp
@[simp] theorem reloadPage_guarded (s : State) (addr : Nat) : guarded (reloadPage s addr) = guarded s := by simp [reloadPage]
@[simp] theorem codeError_guarded (s : State) (addr : Nat) (storeOk frameOk : Bool) : guarded (codeError s addr storeOk frameOk) = guarded s := by simp [codeError]
@[simp] theorem dataError_guarded (s : State) (use : MsramUse) : guarded (dataError s use) = guarded s := by unfold dataError; split <;> simp
@[simp] theorem listFault_guarded (s : State) (f : Nat × Nat) : guarded (listFault s f) = guarded s := by simp [listFault]
@[simp] theorem dmaHalt_guarded (s : State) (u : DmaUser) : guarded (dmaHalt s u) = guarded s := by
  simp only [dmaHalt]; repeat' split
  all_goals simp

/-! ### HaloOps -/
@[simp] theorem modPort_guarded (s : State) (i : Nat) (f : HaloPort → HaloPort) : guarded (modPort s i f) = guarded s := by simp [modPort]
@[simp] theorem modHalo_guarded (s : State) (f : HaloState → HaloState) : guarded (modHalo s f) = guarded s := by simp [modHalo]
@[simp] theorem sendOn_guarded (s : State) (i : Nat) (m : HaloMessage) : guarded (sendOn s i m) = guarded s := by simp [sendOn]
@[simp] theorem sendMessage_guarded (s : State) (m : HaloMessage) : guarded (sendMessage s m) = guarded s := by
  simp only [sendMessage]; repeat' split
  all_goals simp
@[simp] theorem sendToken_guarded (s : State) (i : Nat) (t : Token) : guarded (sendToken s i t) = guarded s := by simp [sendToken]
@[simp] theorem installTopology_guarded (s : State) (topology epoch : Nat) (l : List TokenEntry) : guarded (installTopology s topology epoch l) = guarded s := by simp [installTopology]
@[simp] theorem startToken_guarded (s : State) : guarded (startToken s) = guarded s := by simp [startToken]
@[simp] theorem setPort_guarded (s : State) (i : Nat) (st : PortSt) : guarded (setPort s i st) = guarded s := by simp [setPort]
@[simp] theorem retrain_guarded (s : State) (i : Nat) : guarded (retrain s i) = guarded s := by simp [retrain]
@[simp] theorem portDown_guarded (s : State) (i : Nat) : guarded (portDown s i) = guarded s := by simp [portDown]
@[simp] theorem portsDown_guarded (s : State) : guarded (portsDown s) = guarded s := by simp [portsDown]
@[simp] theorem setEngaged_guarded (s : State) (on : Bool) : guarded (setEngaged s on) = guarded s := by simp [setEngaged]
@[simp] theorem engage_guarded (s : State) : guarded (engage s) = guarded s := by simp [engage]
@[simp] theorem loopbackAgain_guarded (s : State) : guarded (loopbackAgain s) = guarded s := by simp [loopbackAgain]
@[simp] theorem haloChanged_guarded (s : State) (idx : Nat) : guarded (haloChanged s idx) = guarded s := by
  simp only [haloChanged]; repeat' split
  all_goals simp
@[simp] theorem replayFrom_guarded (s : State) (i : Nat) : guarded (replayFrom s i) = guarded s := by simp [replayFrom]
@[simp] theorem releaseCredit_guarded (s : State) (i lane : Nat) : guarded (releaseCredit s i lane) = guarded s := by simp [releaseCredit]
@[simp] theorem reassemblyCredit_guarded (s : State) (i lane : Nat) : guarded (reassemblyCredit s i lane) = guarded s := by simp [reassemblyCredit]
@[simp] theorem reassemble_guarded (s : State) (c : DataCell) : guarded (reassemble s c) = guarded s := by
  simp only [reassemble]; repeat' split
  all_goals simp
@[simp] theorem acceptCell_guarded (s : State) (i : Nat) (c : DataCell) : guarded (acceptCell s i c) = guarded s := by simp [acceptCell]
@[simp] theorem sendCell_guarded (s : State) (i v kind : Nat) : guarded (sendCell s i v kind) = guarded s := by
  simp only [sendCell]; repeat' split
  all_goals simp
@[simp] theorem fillSlot_guarded (s : State) (i : Nat) : guarded (fillSlot s i) = guarded s := by
  simp only [fillSlot]; repeat' split
  all_goals simp
@[simp] theorem request_guarded (s : State) (h : HaloHeader) (dst : Nat) (body : Bytes) : guarded (request s h dst body) = guarded s := by
  unfold request; repeat' (first | rfl | (simp; done) | (apply foldl_guarded; intro _ _) | split)
@[simp] theorem respondWith_guarded (s : State) (m : HaloMessage) (st : HaloStatus) (body : Bytes) : guarded (respondWith s m st body) = guarded s := by simp [respondWith]
@[simp] theorem respond_guarded (s : State) (m : HaloMessage) (st : HaloStatus) : guarded (respond s m st) = guarded s := by simp [respond]
theorem onRequest_guarded (s : State) (m : HaloMessage) (f : State → State) (h : ∀ s, guarded (f s) = guarded s) :
    guarded (onRequest s m f) = guarded s := by
  unfold onRequest
  simp only
  split
  · simp
  · split
    · simp
    · split <;> simp [h]
@[simp] theorem modMirror_guarded (s : State) (session : Nat) (f : Mirror → Mirror) : guarded (modMirror s session f) = guarded s := by simp [modMirror]
@[simp] theorem modMig_guarded (s : State) (f : Migration → Migration) : guarded (modMig s f) = guarded s := by simp [modMig]
@[simp] theorem sessionRecord_guarded (s : State) (sev : Severity) (session : Nat) : guarded (sessionRecord s sev session) = guarded s := by simp [sessionRecord]
@[simp] theorem recallMirror_guarded (s : State) (session : Nat) : guarded (recallMirror s session) = guarded s := by simp [recallMirror]
@[simp] theorem suspend_guarded (s : State) (session : Nat) : guarded (suspend s session) = guarded s := by unfold suspend; split <;> simp
@[simp] theorem recallMig_guarded (s : State) : guarded (recallMig s) = guarded s := by unfold recallMig; split <;> simp
@[simp] theorem pushBlock_guarded (s : State) (n : Namespace) (nsid lba : Nat) (r : BlockRead) : guarded (pushBlock s n nsid lba r).2 = guarded s := by
  have h := readBlock_guarded s n nsid lba r
  have key : guarded (match readBlock s n nsid lba r with
        | (.ok d, s) => (some ((0 : Nat), d), s)
        | (_, s) => (none, s)).2 = guarded s := by
    generalize readBlock s n nsid lba r = q at h ⊢
    obtain ⟨a, b⟩ := q
    cases a <;> exact h
  unfold pushBlock
  simp only
  repeat' split
  all_goals first | rfl | exact key | (rename_i heq; rw [heq] at h; exact h)
@[simp] theorem pushSpan_guarded (s : State) (n : Namespace) (nsid span : Nat) (only : Option (List Nat)) (media : List BlockRead) : guarded (pushSpan s n nsid span only media).2 = guarded s := by
  unfold pushSpan
  simp only
  rw [foldl_pair_guarded]
  intro acc i
  obtain ⟨o, t⟩ := acc
  cases o with
  | none => rfl
  | some l =>
    have hp := pushBlock_guarded t n nsid (256 * span + i) (media.getD i {})
    simp only
    generalize pushBlock t n nsid (256 * span + i) (media.getD i {}) = q at hp
    obtain ⟨x, y⟩ := q
    cases x <;> exact hp
@[simp] theorem pushMirror_guarded (s : State) (m : Mirror) (span : Nat) (media : List BlockRead) : guarded (pushMirror s m span media) = guarded s := by
  unfold pushMirror
  split
  · rfl
  · rename_i n _
    have hp := pushSpan_guarded s n m.localNsid span ((m.part.find? (fun p => p.1 == span)).map (·.2)) media
    generalize pushSpan s n m.localNsid span ((m.part.find? (fun p => p.1 == span)).map (·.2)) media = q at hp
    obtain ⟨x, y⟩ := q
    cases x with
    | none => exact hp
    | some l =>
      simp only
      rw [foldl_guarded]
      · simpa using hp
      · intro s r; split <;> simp
@[simp] theorem pushMig_guarded (s : State) (nsid span : Nat) (media : List BlockRead) : guarded (pushMig s nsid span media) = guarded s := by
  unfold pushMig
  split
  · simp
  · rename_i n _
    have hp := pushSpan_guarded s n nsid span none media
    generalize pushSpan s n nsid span none media = q at hp
    obtain ⟨x, y⟩ := q
    cases x with
    | none => exact hp
    | some l =>
      simp only
      rw [foldl_guarded]
      · simpa using hp
      · intro s r; split <;> simp
@[simp] theorem sendSeal_guarded (s : State) (x : Seal) (session seqno peer nsid : Nat) : guarded (sendSeal s x session seqno peer nsid) = guarded s := by
  unfold sendSeal; repeat' (first | rfl | (simp; done) | (apply foldl_guarded; intro _ _) | split)
@[simp] theorem sendReadySeals_guarded (s : State) : guarded (sendReadySeals s) = guarded s := by
  unfold sendReadySeals
  simp only
  generalize hx : List.foldl _ s s.halo.mirrors = t
  have ht : guarded t = guarded s := by
    rw [← hx]; apply foldl_guarded; intro s m; repeat' split
    all_goals simp
  repeat' split
  all_goals simp [ht]
@[simp] theorem endMirrorPush_guarded (s : State) (m : Mirror) (h : HaloHeader) (st : Nat) : guarded (endMirrorPush s m h st) = guarded s := by simp [endMirrorPush]
@[simp] theorem sendCheckpoint_guarded (s : State) : guarded (sendCheckpoint s) = guarded s := by
  unfold sendCheckpoint; repeat' (first | rfl | (simp; done) | (apply foldl_guarded; intro _ _) | split)
@[simp] theorem endMigPush_guarded (s : State) (g : Migration) (h : HaloHeader) (st : Nat) : guarded (endMigPush s g h st) = guarded s := by simp [endMigPush]
@[simp] theorem endSealXfer_guarded (s : State) (h : HaloHeader) (st : Nat) : guarded (endSealXfer s h st) = guarded s := by
  simp only [endSealXfer]; repeat' split
  all_goals simp
@[simp] theorem endMigrateBegin_guarded (s : State) (st : Nat) : guarded (endMigrateBegin s st) = guarded s := by unfold endMigrateBegin; split <;> simp
@[simp] theorem endMigrateCommit_guarded (s : State) (session st : Nat) : guarded (endMigrateCommit s session st) = guarded s := by unfold endMigrateCommit; split <;> simp
@[simp] theorem recordPosition_guarded (s : State) (m : HaloMessage) : guarded (recordPosition s m) = guarded s := by simp [recordPosition]
@[simp] theorem endWake_guarded (s : State) (xid dst st : Nat) : guarded (endWake s xid dst st) = guarded s := by simp [endWake]
@[simp] theorem endTxn_guarded (s : State) (t : HaloTxn) (st : Nat) : guarded (endTxn s t st) = guarded s := by
  simp only [endTxn]; repeat' split
  all_goals simp
@[simp] theorem sendWake_guarded (s : State) (node : Nat) (waiter : Option (Nat × Nat)) : guarded (sendWake s node waiter) = guarded s := by
  simp only [sendWake]; repeat' (first | rfl | (simp; done) | (rw [foldl_guarded]; · skip; intro _ _) | split)
@[simp] theorem answerWake_guarded (s : State) (i : Nat) (st : HaloStatus) : guarded (answerWake s i st) = guarded s := by
  unfold answerWake; repeat' (first | rfl | (simp; done) | (apply foldl_guarded; intro _ _) | split)

/-! ### SleepOps -/
@[simp] theorem beginSleep_guarded (s : State) (t : SleepTarget) (commanded : Bool) : guarded (beginSleep s t commanded) = guarded s := by simp [beginSleep]
@[simp] theorem abortSleep_guarded (s : State) : guarded (abortSleep s) = guarded s := by simp [abortSleep]
@[simp] theorem tellSleeping_guarded (s : State) : guarded (tellSleeping s) = guarded s := by simp [tellSleeping]
@[simp] theorem sleepPorts_guarded (s : State) : guarded (sleepPorts s) = guarded s := by simp [sleepPorts]
@[simp] theorem commitSleep_guarded (s : State) : guarded (commitSleep s) = guarded s := by
  unfold commitSleep; (repeat' split) <;> simp [foldl_guarded]
@[simp] theorem beginExit_guarded (s : State) : guarded (beginExit s) = guarded s := by
  have hn : ∀ s : State, guarded ((List.range 16).foldl (fun s c => wakeCarrier (accrueSleep s c (s.time.opMs - s.pwr.sleepSince)) c) s) = guarded s := by
    intro s; apply foldl_guarded; intro s c; simp
  unfold beginExit
  repeat' split
  all_goals simp [hn]
@[simp] theorem wake_guarded (s : State) (src : WakeSource) (lostWindow : Bool) : guarded (wake s src lostWindow) = guarded s := by
  unfold wake; repeat' (first | rfl | (simp; done) | (apply foldl_guarded; intro _ _) | split)
@[simp] theorem restoreFail_guarded (s : State) (f : RestoreFail) : guarded (restoreFail s f) = guarded s := by unfold restoreFail; split <;> simp
@[simp] theorem endExit_guarded (s : State) (fails : List RestoreFail) : guarded (endExit s fails) = guarded s := by
  unfold endExit; (repeat' split) <;> simp [foldl_guarded]
@[simp] theorem sleepIfAsked_guarded (s : State) : guarded (sleepIfAsked s) = guarded s := by unfold sleepIfAsked; split <;> simp
@[simp] theorem interruptStep_guarded (s : State) : guarded (interruptStep s) = guarded s := by simp [interruptStep]
@[simp] theorem powerFail_guarded (s : State) : guarded (powerFail s) = guarded s := by
  unfold powerFail; repeat' (first | rfl | (simp; done) | (apply foldl_guarded; intro _ _) | split)
@[simp] theorem flushComplete_guarded (s : State) (bad : List (Nat × Nat × Bool)) : guarded (flushComplete s bad) = guarded s := by simp [flushComplete]
@[simp] theorem powerBack_guarded (s : State) : guarded (powerBack s) = guarded s := by simp [powerBack]

/-! ### ResetOps -/
@[simp] theorem cutFlush_guarded (s : State) : guarded (cutFlush s) = guarded s := by
  unfold cutFlush; repeat' (first | rfl | (simp; done) | (simp [foldl_guarded]; done) | (rw [foldl_guarded]; · skip; intro _ _) | split)
@[simp] theorem interruptDies_guarded (s : State) : guarded (interruptDies s) = guarded s := by
  unfold interruptDies
  apply foldl_guarded
  intro s p
  simp only
  have h : ∀ (o : Option RunningOp) (g : RunningOp → State) (d : State), guarded d = guarded s → (∀ r, guarded (g r) = guarded s) → guarded (o.elim d g) = guarded s := by
    intro o g d hd hg; cases o <;> simp [hd, hg]
  apply h
  · apply h
    · rfl
    · intro r; split <;> simp
  · intro r
    split
    · simp only [modBlock_guarded]
      apply h
      · rfl
      · intro r; split <;> simp
    · apply h
      · rfl
      · intro r; split <;> simp
@[simp] theorem cutErase_guarded (s : State) : guarded (cutErase s) = guarded s := by unfold cutErase; split <;> simp
@[simp] theorem cutReprogram_guarded (s : State) (c : Nat) : guarded (cutReprogram s c) = guarded s := by unfold cutReprogram; split <;> simp
theorem resetBlock_guarded (s : State) (power internal : Bool) (a fw md mp rd rt sl hl) (ho nv vf) (mb : MbxState) (bt dr) (pw : PwrState) (cl : CoolState) (pn)
    (hfw : fw = resetFw s.fw) (hho : ho = resetHost s.host power) (hmb : mb = resetMbx s.mbx) (hpw : pw = resetPwr s.pwr) (hcl : cl = resetCool s.cool power) :
    guarded { s with time := (if power then { s.time with calendar := 0 } else s.time), alm := a, fw := fw, media := md, map := mp, red := rd, ret := rt,
                     sealing := sl, halo := hl, host := ho, nvme := nv, vf := vf, mbx := mb, boot := bt, dram := dr, pwr := pw, cool := cl, pins := pn }
      = guarded s := by
  subst hfw hho hmb hpw hcl
  cases power <;> rfl
@[simp] theorem resetDevice_guarded (s : State) (power internal : Bool) : guarded (resetDevice s power internal) = guarded s := by
  have ht : guarded ((List.range 16).foldl cutReprogram (cutErase (interruptDies (cutFlush s)))) = guarded s := by
    rw [foldl_guarded _ cutReprogram_guarded]; simp
  simp only [resetDevice]
  generalize (List.range 16).foldl cutReprogram (cutErase (interruptDies (cutFlush s))) = t at ht ⊢
  rw [← ht]
  exact resetBlock_guarded t power internal _ _ _ _ _ _ _ _ _ _ _ _ _ _ _ _ _ rfl rfl rfl rfl rfl

/-! ### BootOps -/
theorem programAll_guarded (n : Nat) (s : State) : guarded (programAll n s) = guarded s := by
  induction n generalizing s with
  | zero => rfl
  | succ n ih =>
    unfold programAll
    simp only
    rw [ih]
    exact compactNow_guarded s
@[simp] theorem programWaiting_guarded (s : State) : guarded (programWaiting s) = guarded s := programAll_guarded _ s
@[simp] theorem startAlmanac_guarded (s : State) : guarded (startAlmanac s) = guarded s := by simp [startAlmanac]
@[simp] theorem skipHoldup_guarded (s : State) : guarded (skipHoldup s) = guarded s := by simp [skipHoldup]
@[simp] theorem bringCarriers_guarded (s : State) : guarded (bringCarriers s) = guarded s := by
  unfold bringCarriers; (repeat' split) <;> simp [foldl_guarded]
@[simp] theorem matchArray_guarded (s : State) : guarded (matchArray s) = guarded s := by
  unfold matchArray; (repeat' split) <;> simp [foldl_guarded]
@[simp] theorem eraseOrphans_guarded (s : State) : guarded (eraseOrphans s) = guarded s := by
  unfold eraseOrphans; (repeat' split) <;> simp [foldl_guarded]
@[simp] theorem sessionsAfterStart_guarded (s : State) (unclean : Bool) (cp : Checkpoint) (rs : List JrnRecord) : guarded (sessionsAfterStart s unclean cp rs) = guarded s := by simp [sessionsAfterStart]
@[simp] theorem settleSeals_guarded (s : State) : guarded (settleSeals s) = guarded s := by simp [settleSeals]
/-- The guarded registers but for the settings: what a namespace's end leaves, whose STREAM_POLICY goes with it. -/
def guardedRest (s : State) : Guarded := { guarded s with settings := [] }
theorem guardedRest_of {s t : State} (h : guarded t = guarded s) : guardedRest t = guardedRest s := by simp [guardedRest, h]
@[simp] theorem endDelete_rest (s : State) (nsid : Nat) : guardedRest (endDelete s nsid) = guardedRest s := by simp [guardedRest]
theorem foldl_rest {α : Type} (f : State → α → State) (h : ∀ s a, guardedRest (f s a) = guardedRest s) (l : List α) (s : State) :
    guardedRest (l.foldl f s) = guardedRest s := by
  induction l generalizing s with
  | nil => rfl
  | cons a l ih => rw [List.foldl_cons, ih, h]
@[simp] theorem settleNamespaces_rest (s : State) : guardedRest (settleNamespaces s) = guardedRest s := by
  simp only [settleNamespaces]
  rw [foldl_rest _ endDelete_rest]
  apply guardedRest_of
  apply foldl_guarded
  intro s n
  exact destroyKey_guarded s n
@[simp] theorem loadMap_rest (s : State) (r : StepResult) : guardedRest (loadMap s r) = guardedRest s := by
  have hm : ∀ (s : State) (l : List (Nat × Band)), guardedRest (l.foldl (fun s p => bandRelease s p.1 []) s) = guardedRest s := by
    intro s l; apply foldl_rest; intro s p; exact guardedRest_of (bandRelease_guarded ..)
  unfold loadMap
  extract_lets m cp journal reached s1 flush s2 s3 both s4 emergency next
  have h1 : guardedRest s1 = guardedRest s := guardedRest_of (recordIf_guarded ..)
  generalize rebuildCore cp journal flush r.lostSlots = q
  obtain ⟨core, made⟩ := q
  dsimp -zeta only
  extract_lets s5 core1 core2 m5 s6 r6 s7 s8 s9 s10 s11 m11 s12 table d12 s13
  have h2 : guardedRest s2 = guardedRest s := by
    rw [← h1]; simp only [s2]; generalize flush = o; cases o
    · rfl
    · apply foldl_rest; intro s p; exact guardedRest_of (record_guarded ..)
  have h3 : guardedRest s3 = guardedRest s := (guardedRest_of (recordIf_guarded ..)).trans h2
  have h4 : guardedRest s4 = guardedRest s := (guardedRest_of (recordIf_guarded ..)).trans h3
  have h6 : guardedRest s6 = guardedRest s := h4
  have h7 : guardedRest s7 = guardedRest s := by simp only [s7]; split <;> exact h6
  have h8 : guardedRest s8 = guardedRest s := (guardedRest_of (sessionsAfterStart_guarded ..)).trans h7
  have h9 : guardedRest s9 = guardedRest s := (settleNamespaces_rest _).trans ((guardedRest_of (settleSeals_guarded _)).trans h8)
  have h10 : guardedRest s10 = guardedRest s := (guardedRest_of (eraseOrphans_guarded _)).trans h9
  have h13 : guardedRest s13 = guardedRest s := (hm _ _).trans h10
  split
  · exact (guardedRest_of (formEmergency_guarded _)).trans h13
  · exact h13
@[simp] theorem checkKeys_guarded (s : State) (r : StepResult) : guarded (checkKeys s r) = guarded s := by
  unfold checkKeys; (repeat' split) <;> simp [foldl_guarded]
@[simp] theorem openBegin_guarded (s : State) (r : StepResult) : guarded (openBegin s r) = guarded s := by
  simp only [openBegin]; repeat' split
  all_goals simp
@[simp] theorem startBackground_guarded (s : State) : guarded (startBackground s) = guarded s := by simp [startBackground]

/-! ### Boot -/
@[simp] theorem uartStep_guarded (s : State) (k : Nat) (ended : Bool) : guarded (uartStep s k ended) = guarded s := by simp [uartStep]
@[simp] theorem stepBegins_guarded (s : State) (k : Nat) (r : StepResult) : guarded (stepBegins s k r) = guarded s := by unfold stepBegins; split <;> simp
@[simp] theorem stepSkipped_guarded (s : State) (k : Nat) : guarded (stepSkipped s k) = guarded s := by simp [stepSkipped]
@[simp] theorem enterSafeStart_guarded (s : State) (k : Nat) : guarded (enterSafeStart s k) = guarded s := by
  unfold enterSafeStart
  simp only
  have hm : ∀ (s : State) (l : List Nat), guarded (l.foldl (fun s i => if k ≤ i + 1 then setLedger s (i + 1) (fun w => { w with mode := 4 }) else s) s) = guarded s := by
    intro s l; apply foldl_guarded; intro s p; split <;> simp
  repeat' split
  all_goals simp [hm]
@[simp] theorem beginStart_guarded (s : State) (useLedger : Bool) : guarded (beginStart s useLedger) = guarded s := by simp [beginStart]
theorem enterStep_guarded (fuel k : Nat) (r : StepResult) (s : State) : guarded (enterStep fuel k r s) = guarded s := by
  induction fuel generalizing k s with
  | zero => rfl
  | succ n ih =>
    unfold enterStep
    simp only
    repeat' split
    all_goals simp [ih]
@[simp] theorem stepEnded_guarded (s : State) (k : Nat) (r : StepResult) : guarded (stepEnded s k r) = guarded s := by
  unfold stepEnded; simp only; repeat' split
  all_goals simp [enterStep_guarded]
@[simp] theorem stepFailed_guarded (s : State) (k : Nat) : guarded (stepFailed s k) = guarded s := by
  unfold stepFailed; simp only; repeat' split
  all_goals simp [enterStep_guarded]

/-! ### Retention -/
@[simp] theorem programCopy_guarded (s : State) (key seed : Nat) (head : Bytes) (tc : Nat) : guarded (programCopy s key seed head tc) = guarded s := by simp [programCopy]
@[simp] theorem baseShiftOf_guarded (s : State) (gen : Nat) (baseline : List PageSweep) : guarded (baseShiftOf s gen baseline).2 = guarded s := by unfold baseShiftOf; split <;> simp
@[simp] theorem reprogram_guarded (s : State) (c gen seed : Nat) (temp : Int) (failed : List Nat) (baseline : List PageSweep) : guarded (reprogram s c gen seed temp failed baseline) = guarded s := by simp [reprogram]
@[simp] theorem passStatus_guarded (s : State) (band key status : Nat) : guarded (passStatus s band key status) = guarded s := by unfold passStatus; split <;> simp
@[simp] theorem stopPass_guarded (s : State) (band key status : Nat) : guarded (stopPass s band key status) = guarded s := by
  unfold stopPass; (repeat' split) <;> simp [foldl_guarded]
@[simp] theorem endPass_guarded (s : State) (band : Nat) (b : Band) : guarded (endPass s band b) = guarded s := by
  unfold endPass; (repeat' split) <;> simp [foldl_guarded]
@[simp] theorem beginPass_guarded (s : State) (band : Nat) : guarded (beginPass s band) = guarded s := by simp [beginPass]
theorem rechargePage_guarded (s : State) (key page : Nat) (p : PassPage) : guarded (rechargePage s key page p).1 = guarded s := by
  simp only [rechargePage]; repeat' split
  all_goals simp
theorem passPages_guarded (band key : Nat) (l : List PassPage) (s : State) : guarded (passPages band key s l).1 = guarded s := by
  induction l generalizing s with
  | nil => rfl
  | cons x t ih =>
    unfold passPages
    split
    · rfl
    · split
      · rfl
      · rename_i b _ _
        have hr := rechargePage_guarded s key b.passPage x
        split
        · rename_i h
          rw [h] at hr
          rw [ih]; simpa using hr
        · exact hr
theorem passBlocks_guarded (band : Nat) (l : List PassBlock) (s : State) : guarded (passBlocks band s l).1 = guarded s := by
  induction l generalizing s with
  | nil => rfl
  | cons x t ih =>
    have hp := passPages_guarded band x.key x.pages s
    unfold passBlocks
    split
    · rfl
    · split
      · rename_i h
        rw [h] at hp
        split
        · rw [ih]; simpa using hp
        · exact hp
      · exact hp
@[simp] theorem runPass_guarded (s : State) (band : Nat) (blocks : List PassBlock) : guarded (runPass s band blocks) = guarded s := by
  have h := passBlocks_guarded band blocks s
  unfold runPass
  generalize passBlocks band s blocks = q at h ⊢
  obtain ⟨t, e⟩ := q
  simp only at h ⊢
  rw [← h]
  repeat' split
  all_goals first | rfl | (simp; done)
@[simp] theorem noteScan_guarded (s : State) (band : Option Nat) (key step corrected : Nat) : guarded (noteScan s band key step corrected) = guarded s := by
  simp only [noteScan]; split
  · simp
  · apply elim_guarded <;> simp
@[simp] theorem scanBlock_guarded (s : State) (key decodeStep corrected : Nat) : guarded (scanBlock s key decodeStep corrected) = guarded s := by
  simp only [scanBlock, settleScan_guarded]
  apply elim_guarded <;> simp

/-! ### Cooling -/
@[simp] theorem noteTemp_guarded (s : State) (lun : Nat) (t : Option Int) : guarded (noteTemp s lun t) = guarded s := by unfold noteTemp; split <;> simp
@[simp] theorem noteCarrier_guarded (s : State) (c : Nat) (temps : List (Nat × Option Int)) : guarded (noteCarrier s c temps) = guarded s := by
  simp only [noteCarrier]; repeat' split
  all_goals simp
@[simp] theorem commitSlot_guarded (s : State) (n : Nat) (updating : Bool) : guarded (commitSlot s n updating) = guarded s := by simp [commitSlot]
@[simp] theorem restartMotor_guarded (s : State) (m : Nat) : guarded (restartMotor s m) = guarded s := by simp [restartMotor]
@[simp] theorem takeSample_guarded (s : State) (m free : Nat) (c : ConverterSample) : guarded (takeSample s m free c) = guarded s := by simp [takeSample]
@[simp] theorem triggerTrace_guarded (s : State) (b : Nat) : guarded (triggerTrace s b) = guarded s := by simp [triggerTrace]

/-! ### MbxDevice -/
@[simp] theorem getSetting_guarded (fam : Nat) (x : MbxCtx) (r : Bytes) (s : State) : guarded (getSetting fam x r s) = guarded s := by unfold getSetting; split <;> simp
@[simp] theorem takeOut_guarded (s : State) (c : Nat) : guarded (takeOut s c) = guarded s := by simp [takeOut]

/-! ### Sanitize -/
@[simp] theorem consumeGrant_guarded (s : State) (action : Nat) : guarded (consumeGrant s action) = guarded s := by simp [consumeGrant]
@[simp] theorem endRunning_guarded (s : State) (c : CmdRef) : guarded (endRunning s c) = guarded s := by
  unfold endRunning; (repeat' split) <;> simp [foldl_guarded]
@[simp] theorem stopForSanitize_guarded (s : State) : guarded (stopForSanitize s) = guarded s := by
  unfold stopForSanitize; (repeat' split) <;> simp [foldl_guarded]
@[simp] theorem clearSeals_guarded (s : State) : guarded (clearSeals s) = guarded s := by simp [clearSeals]
@[simp] theorem beginSanitize_guarded (s : State) (c : CmdRef) (kind : Nat) : guarded (beginSanitize s c kind) = guarded s := by simp [beginSanitize]
@[simp] theorem sanitizeCommand_guarded (s : State) (c : CmdRef) (f : Fetched) (kind : Nat) : guarded (sanitizeCommand s c f kind) = guarded s := by simp [sanitizeCommand]
@[simp] theorem redrawKeys_guarded (s : State) : guarded (redrawKeys s) = guarded s := by
  unfold redrawKeys; (repeat' split) <;> simp [foldl_guarded]
@[simp] theorem eraseInService_guarded (s : State) (slots : List Nat) (unerased : List Nat) : guarded (eraseInService s slots unerased) = guarded s := by
  unfold eraseInService; (repeat' split) <;> simp [foldl_guarded]
@[simp] theorem clearArray_guarded (s : State) (slots : List Nat) (erased : Bool) : guarded (clearArray s slots erased) = guarded s := by
  unfold clearArray; (repeat' split) <;> simp [foldl_guarded]
@[simp] theorem endSanitize_guarded (s : State) (unerased : List Nat) : guarded (endSanitize s unerased) = guarded s := by simp [endSanitize]
@[simp] theorem sanitizeRow_guarded (s : State) (c : CmdRef) (action kind : Nat) (unerased : List Nat) : guarded (sanitizeRow s c action kind unerased) = guarded s := by
  unfold sanitizeRow
  split
  · split
    · apply onTurn_guarded; intro f; split
      · simp
      · rfl
    · split
      · simp
      · rfl
  · split
    · simp
    · rfl

/-! ### Custodian -/
@[simp] theorem dropChallenges_guarded (s : State) : guarded (dropChallenges s) = guarded s := by simp [dropChallenges]

/-! ### Dram -/
@[simp] theorem patrolHit_guarded (s : State) (h : PatrolHit) : guarded (patrolHit s h) = guarded s := by
  simp only [patrolHit]; repeat' split
  all_goals simp

/-! ### HaloSession -/
@[simp] theorem installFinal_guarded (s : State) (t : Token) : guarded (installFinal s t) = guarded s := by simp [installFinal]
@[simp] theorem passToken_guarded (s : State) (i : Nat) (t : Token) : guarded (passToken s i t) = guarded s := by simp [passToken]
@[simp] theorem ownTokenBack_guarded (s : State) (i : Nat) (t : Token) : guarded (ownTokenBack s i t) = guarded s := by simp [ownTokenBack]
@[simp] theorem tokenReceived_guarded (s : State) (i : Nat) (t : Token) : guarded (tokenReceived s i t) = guarded s := by simp [tokenReceived]
@[simp] theorem setApplied_guarded (s : State) (session n : Nat) : guarded (setApplied s session n) = guarded s := by simp [setApplied]
@[simp] theorem setHeldMsgs_guarded (s : State) (session : Nat) (l : List (Nat × HaloMessage)) : guarded (setHeldMsgs s session l) = guarded s := by simp [setHeldMsgs]
@[simp] theorem setLost_guarded (s : State) (nsid lba : Nat) : guarded (setLost s nsid lba) = guarded s := by simp [setLost]
@[simp] theorem sendPull_guarded (s : State) (session peer nsid span : Nat) : guarded (sendPull s session peer nsid span) = guarded s := by
  unfold sendPull; repeat' (first | rfl | (simp; done) | (apply foldl_guarded; intro _ _) | split)
@[simp] theorem notePiFail_guarded (s : State) (session nsid span : Nat) : guarded (notePiFail s session nsid span) = guarded s := by
  simp only [notePiFail]; repeat' split
  all_goals simp
@[simp] theorem notePushedLost_guarded (s : State) (h : HaloHeader) : guarded (notePushedLost s h) = guarded s := by simp [notePushedLost]
@[simp] theorem applyPush_guarded (s : State) (m : HaloMessage) : guarded (applyPush s m) = guarded s := by
  unfold applyPush
  simp only
  have hl : ∀ (s : State) (l : List Nat) (n b : Nat), guarded (l.foldl (fun s i => setLost s n (b + i)) s) = guarded s := by
    intro s l n b; apply foldl_guarded; intro s p; simp
  repeat' split
  all_goals simp [hl]
theorem drainHeld_guarded (fuel : Nat) (s : State) (session : Nat) : guarded (drainHeld fuel s session) = guarded s := by
  induction fuel generalizing s with
  | zero => rfl
  | succ n ih =>
    unfold drainHeld
    repeat' split
    all_goals simp [ih]
@[simp] theorem pushReceived_guarded (s : State) (m : HaloMessage) : guarded (pushReceived s m) = guarded s := by
  unfold pushReceived; simp only; repeat' split
  all_goals simp [drainHeld_guarded]
@[simp] theorem settleSecurePushes_guarded (s : State) : guarded (settleSecurePushes s) = guarded s := by
  unfold settleSecurePushes
  apply foldl_guarded
  intro s p
  split <;> simp [drainHeld_guarded]
@[simp] theorem sendPulls_guarded (s : State) : guarded (sendPulls s) = guarded s := by
  unfold sendPulls
  simp only
  rw [foldl_guarded]
  · repeat' split
    all_goals first | rfl | (simp; done)
  · intro s m; repeat' split
    all_goals first | rfl | (simp; done)
@[simp] theorem pullReceived_guarded (s : State) (m : HaloMessage) : guarded (pullReceived s m) = guarded s := by
  simp only [pullReceived]; repeat' split
  all_goals simp
@[simp] theorem repairReceived_guarded (s : State) (m : HaloMessage) (media : List BlockRead) : guarded (repairReceived s m media) = guarded s := by
  simp only [repairReceived]; repeat' split
  all_goals simp
@[simp] theorem enterReceived_guarded (s : State) (m : HaloMessage) (n : Namespace) (x : SealXfer) (levels : List (List Digest)) (spans : Nat) : guarded (enterReceived s m n x levels spans) = guarded s := by simp [enterReceived]
@[simp] theorem sealReceived_guarded (s : State) (m : HaloMessage) (x : SealXfer) (media : List BlockRead) : guarded (sealReceived s m x media) = guarded s := by
  simp only [sealReceived]; repeat' split
  all_goals simp
@[simp] theorem dropMigrated_rest (s : State) (nsid : Nat) : guardedRest (dropMigrated s nsid) = guardedRest s := by
  unfold dropMigrated
  split
  · rfl
  · simp only [endDelete_rest]
    apply guardedRest_of
    rw [beginDelete_guarded]
    rfl
@[simp] theorem cancelReceived_rest (s : State) (m : HaloMessage) : guardedRest (cancelReceived s m) = guardedRest s := by
  unfold cancelReceived
  repeat' split
  any_goals exact guardedRest_of (respond_guarded ..)
  rw [guardedRest_of (respond_guarded ..), guardedRest_of (modHalo_guarded ..), foldl_rest _ dropMigrated_rest]
@[simp] theorem checkpointReceived_guarded (s : State) (m : HaloMessage) : guarded (checkpointReceived s m) = guarded s := by
  simp only [checkpointReceived]; repeat' split
  all_goals simp
@[simp] theorem commitReceived_guarded (s : State) (m : HaloMessage) (seals : Nat) : guarded (commitReceived s m seals) = guarded s := by
  unfold commitReceived; (repeat' split) <;> simp [foldl_guarded]
@[simp] theorem mirrorHears_guarded (s : State) (m : Mirror) (serial : Bytes) (descs : List SessionDesc) : guarded (mirrorHears s m serial descs) = guarded s := by
  simp only [mirrorHears]; repeat' split
  all_goals simp
@[simp] theorem migHears_guarded (s : State) (g : Migration) (serial : Bytes) (descs : List SessionDesc) : guarded (migHears s g serial descs) = guarded s := by
  simp only [migHears]; repeat' split
  all_goals simp
@[simp] theorem heartbeatReceived_guarded (s : State) (node : Nat) (serial : Bytes) (descs : List SessionDesc) : guarded (heartbeatReceived s node serial descs) = guarded s := by
  unfold heartbeatReceived
  simp only
  generalize hx : List.foldl _ s s.halo.mirrors = t
  have ht : guarded t = guarded s := by
    rw [← hx]; apply foldl_guarded; intro s m; split <;> simp
  repeat' split
  all_goals simp [ht]
@[simp] theorem heartbeatTimer_guarded (s : State) : guarded (heartbeatTimer s) = guarded s := by
  unfold heartbeatTimer; (repeat' split) <;> simp [foldl_guarded]
@[simp] theorem peerSilent_guarded (s : State) (node : Nat) : guarded (peerSilent s node) = guarded s := by
  unfold peerSilent
  simp only
  split
  · rfl
  · generalize hx : List.foldl _ s s.halo.mirrors = t
    have ht : guarded t = guarded s := by
      rw [← hx]; apply foldl_guarded; intro s m; split <;> simp
    repeat' split
    all_goals simp [ht]
@[simp] theorem mirrorPush_guarded (s : State) (session span : Nat) (media : List BlockRead) : guarded (mirrorPush s session span media) = guarded s := by unfold mirrorPush; split <;> simp
@[simp] theorem endMigPass_guarded (s : State) (g : Migration) : guarded (endMigPass s g) = guarded s := by simp [endMigPass]
@[simp] theorem sendCommit_guarded (s : State) (g : Migration) : guarded (sendCommit s g) = guarded s := by
  unfold sendCommit; repeat' (first | rfl | (simp; done) | (apply foldl_guarded; intro _ _) | split)
@[simp] theorem migrationWork_guarded (s : State) (media : List BlockRead) : guarded (migrationWork s media) = guarded s := by
  simp only [migrationWork]; repeat' split
  all_goals simp
@[simp] theorem endWaitingWrites_guarded (s : State) : guarded (endWaitingWrites s) = guarded s := by
  unfold endWaitingWrites; (repeat' split) <;> simp [foldl_guarded]
@[simp] theorem stallLimit_guarded (s : State) : guarded (stallLimit s) = guarded s := by
  simp only [stallLimit]; repeat' split
  all_goals simp

/-! ### VfOps -/
@[simp] theorem saveVf_guarded (s : State) (n : Nat) : guarded (saveVf s n).2 = guarded s := by
  unfold saveVf; repeat' (first | rfl | (simp; done) | (apply foldl_guarded; intro _ _) | split)
@[simp] theorem settleSave_guarded (s : State) (n : Nat) : guarded (settleSave s n) = guarded s := by simp [settleSave]
@[simp] theorem settleSaves_guarded (s : State) : guarded (settleSaves s) = guarded s := by
  unfold settleSaves; (repeat' split) <;> simp [foldl_guarded]

/-! ### Halo -/
@[simp] theorem clearPortCounters_guarded (s : State) (p : Nat) : guarded (clearPortCounters s p) = guarded s := by simp [clearPortCounters]
@[simp] theorem needsMedia_guarded (s : State) : guarded (needsMedia s) = guarded s := by
  unfold needsMedia; repeat' (first | rfl | (simp; done) | (apply foldl_guarded; intro _ _) | split)
@[simp] theorem modTxn_guarded (s : State) (xid : Nat) (f : HaloTxn → HaloTxn) : guarded (modTxn s xid f) = guarded s := by simp [modTxn]

/-! ### MbxArray -/
@[simp] theorem resumeArray_guarded (s : State) : guarded (resumeArray s) = guarded s := by
  unfold resumeArray; (repeat' split) <;> simp [foldl_guarded]
@[simp] theorem startEvacuation_guarded (s : State) (slot : Nat) : guarded (startEvacuation s slot) = guarded s := by simp [startEvacuation]
@[simp] theorem prepareBand_guarded (target : Nat) (s : State) (n : Nat) : guarded (prepareBand target s n) = guarded s := by unfold prepareBand; split <;> simp
@[simp] theorem stopPrepare_guarded (s : State) : guarded (stopPrepare s) = guarded s := by
  unfold stopPrepare; (repeat' split) <;> simp [foldl_guarded]
@[simp] theorem beginPrepare_guarded (s : State) (target : Nat) : guarded (beginPrepare s target) = guarded s := by
  unfold beginPrepare; (repeat' split) <;> simp [foldl_guarded]

/-! ### MbxHalo -/
theorem onSeal_guarded (x : MbxCtx) (r : Bytes) (s : State) (f : Seal → State) (h : ∀ y, guarded (f y) = guarded s) : guarded (onSeal x r s f) = guarded s := by
  unfold onSeal; split
  · simp
  · split <;> simp [h]
theorem journalDurable_guarded (n : Nat) (s : State) : guarded (journalDurable n s) = guarded s := by
  induction n generalizing s with
  | zero => rfl
  | succ n ih =>
    unfold journalDurable
    split
    · rfl
    · rw [ih, pageDurable_guarded]; apply elim_guarded <;> simp
@[simp] theorem unsealRange_guarded (s : State) (y : Seal) : guarded (unsealRange s y) = guarded s := by
  simp [unsealRange, journalDurable_guarded]
@[simp] theorem takeSession_guarded (s : State) : guarded (takeSession s) = guarded s := by simp [takeSession]
@[simp] theorem removeMirror_guarded (s : State) (session : Nat) : guarded (removeMirror s session) = guarded s := by simp [removeMirror]
@[simp] theorem beginMigration_guarded (x : MbxCtx) (s : State) (peer : Nat) : guarded (beginMigration x s peer) = guarded s := by
  unfold beginMigration; repeat' (first | rfl | (simp; done) | (apply foldl_guarded; intro _ _) | split)
@[simp] theorem cancelMigration_guarded (s : State) (g : Migration) : guarded (cancelMigration s g) = guarded s := by
  unfold cancelMigration; repeat' (first | rfl | (simp; done) | (apply foldl_guarded; intro _ _) | split)

/-! ### Media -/
@[simp] theorem submitDirect_guarded (s : State) (ch : Channel) (q : Fin 4) (d : MediaDesc) (opcode : Nat) (payload : PageContent) (ranUs : Nat) : guarded (submitDirect s ch q d opcode payload ranUs) = guarded s := by
  unfold submitDirect; repeat' (first | rfl | (simp; done) | (apply foldl_guarded; intro _ _) | split)
@[simp] theorem ringDoorbell_guarded (s : State) (n : Fin 4) (count : Nat) : guarded (ringDoorbell s n count) = guarded s := by simp [ringDoorbell]
@[simp] theorem copyDescriptor_guarded (s : State) (n : Fin 4) : guarded (copyDescriptor s n) = guarded s := by
  unfold copyDescriptor; repeat' (first | rfl | (simp; done) | (apply foldl_guarded; intro _ _) | split)
theorem abortSlots_guarded (n : Fin 4) (k : Nat) (s : State) : guarded (abortSlots n k s) = guarded s := by
  induction k generalizing s with
  | zero => rfl
  | succ k ih => unfold abortSlots; simp [ih]
@[simp] theorem abortRing_guarded (s : State) (n : Fin 4) : guarded (abortRing s n) = guarded s := by
  simp [abortRing, abortSlots_guarded]
@[simp] theorem resetRing_guarded (s : State) (n : Fin 4) : guarded (resetRing s n) = guarded s := by simp [resetRing]
@[simp] theorem writeRingCtrl_guarded (s : State) (n : Fin 4) (value : Nat) : guarded (writeRingCtrl s n value) = guarded s := by simp [writeRingCtrl]
@[simp] theorem writeCqHead_guarded (s : State) (n : Fin 4) (value : Nat) : guarded (writeCqHead s n value) = guarded s := by
  unfold writeCqHead; repeat' (first | rfl | (simp; done) | (apply foldl_guarded; intro _ _) | split)
@[simp] theorem writeRingStatus_guarded (s : State) (n : Fin 4) (value : Nat) : guarded (writeRingStatus s n value) = guarded s := by simp [writeRingStatus]

/-! ### Spdm -/
@[simp] theorem doeInterrupt_guarded (s : State) (t : Fin 2) : guarded (doeInterrupt s t) = guarded s := by simp [doeInterrupt]
@[simp] theorem spdmAnswer_guarded (s : State) (t : Fin 2) (st : SpdmSt) (fresh : Bool) (request response : Bytes) : guarded (spdmAnswer s t st fresh request response) = guarded s := by simp [spdmAnswer]
@[simp] theorem spdmError_guarded (s : State) (t : Fin 2) (code : Nat) : guarded (spdmError s t code) = guarded s := by simp [spdmError]
theorem spdmServe_guarded (s : State) (t : Fin 2) (allowed : SpdmSt → Bool) (k : State → State) (h : guarded (k s) = guarded s) :
    guarded (spdmServe s t allowed k) = guarded s := by
  unfold spdmServe; repeat' split
  all_goals simp [h]
@[simp] theorem signAttestation_guarded (s : State) (b : Bytes) : guarded (signAttestation s b).2 = guarded s := by simp [signAttestation]
@[simp] theorem setDoeAnswer_guarded (s : State) (b : Bytes) : guarded (setDoeAnswer s b) = guarded s := by simp [setDoeAnswer]

/-! ### PcieOps -/
@[simp] theorem count_guarded (s : State) (f : PortCounters → PortCounters) : guarded (count s f) = guarded s := by simp [count]
@[simp] theorem clearBusMaster_guarded (s : State) (fn : Nat) : guarded (clearBusMaster s fn) = guarded s := by simp [clearBusMaster]
@[simp] theorem enterD3hot_guarded (s : State) (fn : Nat) : guarded (enterD3hot s fn) = guarded s := by simp [enterD3hot]
@[simp] theorem exitD3hot_guarded (s : State) (fn : Nat) : guarded (exitD3hot s fn) = guarded s := by simp [exitD3hot]
@[simp] theorem clearPme_guarded (s : State) (fn : Nat) : guarded (clearPme s fn) = guarded s := by simp [clearPme]
@[simp] theorem portReset_guarded (s : State) : guarded (portReset s) = guarded s := by simp [portReset]
@[simp] theorem assertPerst_guarded (s : State) : guarded (assertPerst s) = guarded s := by simp [assertPerst]
@[simp] theorem deassertPerst_guarded (s : State) : guarded (deassertPerst s) = guarded s := by
  unfold deassertPerst; repeat' (first | rfl | (simp; done) | (apply foldl_guarded; intro _ _) | split)
@[simp] theorem linkTrained_guarded (s : State) (rate width : Nat) : guarded (linkTrained s rate width) = guarded s := by simp [linkTrained]
@[simp] theorem fatalLink_guarded (s : State) : guarded (fatalLink s) = guarded s := by simp [fatalLink]
@[simp] theorem correctableLink_guarded (s : State) : guarded (correctableLink s) = guarded s := by simp [correctableLink]
@[simp] theorem failTransfer_guarded (s : State) (fn : Func) (sq cid : Nat) : guarded (failTransfer s fn sq cid) = guarded s := by
  simp only [failTransfer]; repeat' split
  all_goals simp
@[simp] theorem failPayload_guarded (s : State) (fn : Nat) (m : Nat) : guarded (failPayload s fn m) = guarded s := by
  simp only [failPayload]; repeat' split
  all_goals simp
@[simp] theorem reportAdvisory_guarded (s : State) (fn bit : Nat) : guarded (reportAdvisory s fn bit) = guarded s := by simp [reportAdvisory]
@[simp] theorem fetchTimedOut_guarded (s : State) (fn : Nat) (q : Nat) : guarded (fetchTimedOut s fn q) = guarded s := by
  unfold fetchTimedOut; repeat' (first | rfl | (simp; done) | (apply foldl_guarded; intro _ _) | split)
@[simp] theorem requestTimedOut_guarded (s : State) (fn : Func) (what : FetchWhat) : guarded (requestTimedOut s fn what) = guarded s := by
  unfold requestTimedOut; repeat' (first | rfl | (simp; done) | (apply foldl_guarded; intro _ _) | split)
@[simp] theorem lateCompletion_guarded (s : State) (fn : Nat) : guarded (lateCompletion s fn) = guarded s := by simp [lateCompletion]
@[simp] theorem poisoned_guarded (s : State) (fn : Func) (what : PoisonWhat) : guarded (poisoned s fn what) = guarded s := by
  simp only [poisoned]; repeat' split
  all_goals simp
@[simp] theorem setVfs_guarded (s : State) (n : Nat) : guarded (setVfs s n) = guarded s := by
  unfold setVfs; (repeat' split) <;> simp [foldl_guarded]
@[simp] theorem lowerVfs_guarded (s : State) (n : Nat) : guarded (lowerVfs s n) = guarded s := by simp [lowerVfs]

/-! ### RegOps -/
@[simp] theorem holdCfg_guarded (s : State) (fn off : Nat) (v : Word32) : guarded (holdCfg s fn off v) = guarded s := by simp [holdCfg]
@[simp] theorem sendPending_guarded (s : State) (fn : Nat) : guarded (sendPending s fn) = guarded s := by
  unfold sendPending; (repeat' split) <;> simp [foldl_guarded]
@[simp] theorem writeCommand_guarded (s : State) (fn : Nat) (v : Word32) : guarded (writeCommand s fn v) = guarded s := by simp [writeCommand]
@[simp] theorem writePower_guarded (s : State) (fn : Nat) (v : Word32) : guarded (writePower s fn v) = guarded s := by simp [writePower]
@[simp] theorem writeDeviceControl_guarded (s : State) (fn : Nat) (v : Word32) : guarded (writeDeviceControl s fn v) = guarded s := by simp [writeDeviceControl]
@[simp] theorem writeSriov_guarded (s : State) (v : Word32) : guarded (writeSriov s v) = guarded s := by
  unfold writeSriov; (repeat' split) <;> simp [foldl_guarded]
@[simp] theorem writeNumVfs_guarded (s : State) (v : Word32) : guarded (writeNumVfs s v) = guarded s := by simp [writeNumVfs]
@[simp] theorem writeConfig_guarded (s : State) (fn off : Nat) (v : Word32) : guarded (writeConfig s fn off v) = guarded s := by unfold writeConfig; split <;> simp
@[simp] theorem hostDoorbell_guarded (s : State) (fn : Nat) (cq : Bool) (q value : Nat) : guarded (hostDoorbell s fn cq q value) = guarded s := by simp [hostDoorbell]
@[simp] theorem hostGo_guarded (s : State) (fn m : Nat) : guarded (hostGo s fn m) = guarded s := by simp [hostGo]
@[simp] theorem writeCc_guarded (s : State) (fn : Nat) (v : Word32) : guarded (writeCc s fn v) = guarded s := by simp [writeCc]
@[simp] theorem writeMsix_guarded (s : State) (fn i : Nat) (v : Word32) : guarded (writeMsix s fn i v) = guarded s := by simp [writeMsix]
@[simp] theorem writeNvmeReg_guarded (s : State) (fn off : Nat) (v : Word32) : guarded (writeNvmeReg s fn off v) = guarded s := by unfold writeNvmeReg; split <;> simp
@[simp] theorem writeBar0_guarded (s : State) (fn off : Nat) (v : Word32) : guarded (writeBar0 s fn off v) = guarded s := by simp [writeBar0]
@[simp] theorem writeMailbox_guarded (s : State) (fn m reg : Nat) (v : Word32) : guarded (writeMailbox s fn m reg v) = guarded s := by unfold writeMailbox; split <;> simp
@[simp] theorem writeLoopCfg_guarded (s : State) (n : Nat) (v : Word32) : guarded (writeLoopCfg s n v) = guarded s := by simp [writeLoopCfg]
@[simp] theorem writeLoop_guarded (s : State) (n reg : Nat) (v : Word32) : guarded (writeLoop s n reg v) = guarded s := by unfold writeLoop; split <;> simp
@[simp] theorem writeMotor_guarded (s : State) (m reg : Nat) (v : Word32) : guarded (writeMotor s m reg v) = guarded s := by unfold writeMotor; split <;> simp
@[simp] theorem writeTrace_guarded (s : State) (b reg : Nat) (v : Word32) : guarded (writeTrace s b reg v) = guarded s := by unfold writeTrace; split <;> simp
@[simp] theorem writeMdr_guarded (s : State) (off : Nat) (v : Word32) : guarded (writeMdr s off v) = guarded s := by
  simp only [writeMdr]; repeat' split
  all_goals simp
@[simp] theorem writeHalPort_guarded (s : State) (p : Nat) (v : Word32) : guarded (writeHalPort s p v) = guarded s := by simp [writeHalPort]
@[simp] theorem writePfAperture_guarded (s : State) (off : Nat) (v : Word32) : guarded (writePfAperture s off v) = guarded s := by simp [writePfAperture]
@[simp] theorem writeVfAperture_guarded (s : State) (fn off : Nat) (v : Word32) : guarded (writeVfAperture s fn off v) = guarded s := by simp [writeVfAperture]
@[simp] theorem unsupportedWrite_guarded (s : State) (fn : Nat) : guarded (unsupportedWrite s fn) = guarded s := by simp [unsupportedWrite]
@[simp] theorem writeRegister_guarded (s : State) (fn : Nat) (space : RegSpace) (off : Nat) (v : Word32) : guarded (writeRegister s fn space off v) = guarded s := by
  simp only [writeRegister]; repeat' split
  all_goals simp
theorem writeDwords_guarded (n : Nat) (s : State) (fn off : Nat) (data : Bytes) : guarded (writeDwords n s fn off data) = guarded s := by
  induction n generalizing s off data with
  | zero => rfl
  | succ n ih => unfold writeDwords; simp [ih]
@[simp] theorem writeAperture_guarded (s : State) (fn off : Nat) (data : Bytes) : guarded (writeAperture s fn off data) = guarded s := by
  simp only [writeAperture]
  repeat' split
  all_goals first | rfl | (simp [writeDwords_guarded]; done)
@[simp] theorem returned_guarded (s : State) (data : Bytes) : guarded (returned s data) = guarded s := by simp [returned]
@[simp] theorem returnedPoisoned_guarded (s : State) (off : Nat) : guarded (returnedPoisoned s off) = guarded s := by simp [returnedPoisoned]

/-! ### RegRead -/
@[simp] theorem unsupportedRead_guarded (s : State) (fn : Nat) : guarded (unsupportedRead s fn) = guarded s := by simp [unsupportedRead]
@[simp] theorem readAperture_guarded (s : State) (fn off n : Nat) : guarded (readAperture s fn off n) = guarded s := by
  simp only [readAperture]; repeat' split
  all_goals simp

/-! ### VfManager -/
theorem onVf_guarded (x : MbxCtx) (r : Bytes) (s : State) (f : Nat → VfState → State) (h : ∀ n v, guarded (f n v) = guarded s) :
    guarded (onVf x r s f) = guarded s := by
  unfold onVf; simp only; repeat' split
  all_goals simp [h]
@[simp] theorem restoreVf_guarded (s : State) (n : Nat) (b : Bytes) : guarded (restoreVf s n b) = guarded s := by
  simp [restoreVf, foldl_guarded]
@[simp] theorem resumeVf_guarded (s : State) (n : Nat) (sev : Severity) (cause : VfCause) : guarded (resumeVf s n sev cause) = guarded s := by
  unfold resumeVf; repeat' (first | rfl | (simp; done) | (apply foldl_guarded; intro _ _) | split)
@[simp] theorem releaseLock_guarded (s : State) (ns : List Nat) : guarded (releaseLock s ns) = guarded s := by simp [releaseLock]
@[simp] theorem abandonSave_guarded (x : MbxCtx) (s : State) (n : Nat) (v : VfState) (force : Bool) : guarded (abandonSave x s n v force) = guarded s := by simp [abandonSave]
end Sys2Proof.Machine
end

