-- ==== Sys2Proof/Laws/State.lean ====
section
/-! SUPPORT. What the named updates leave alone: one lemma for each update and each part of the state that it does not touch. -/
namespace Sys2Proof.Machine

/-- Two states with equal parts are equal: a frame is proved part by part. -/
theorem State.eq_of_parts (s t : State)
    (h_time : s.time = t.time)
    (h_alm : s.alm = t.alm)
    (h_settings : s.settings = t.settings)
    (h_fw : s.fw = t.fw)
    (h_media : s.media = t.media)
    (h_map : s.map = t.map)
    (h_red : s.red = t.red)
    (h_ret : s.ret = t.ret)
    (h_sealing : s.sealing = t.sealing)
    (h_halo : s.halo = t.halo)
    (h_host : s.host = t.host)
    (h_nvme : s.nvme = t.nvme)
    (h_vf : s.vf = t.vf)
    (h_mbx : s.mbx = t.mbx)
    (h_boot : s.boot = t.boot)
    (h_dram : s.dram = t.dram)
    (h_pwr : s.pwr = t.pwr)
    (h_cool : s.cool = t.cool)
    (h_pins : s.pins = t.pins)
    (h_pending : s.pending = t.pending)
    (h_freeCtr : s.freeCtr = t.freeCtr) : s = t := by
  cases s; cases t; simp_all

@[simp] theorem drawNat_time (s : State) : (drawNat s).2.time = s.time := rfl
@[simp] theorem drawNat_alm (s : State) : (drawNat s).2.alm = s.alm := rfl
@[simp] theorem drawNat_settings (s : State) : (drawNat s).2.settings = s.settings := rfl
@[simp] theorem drawNat_fw (s : State) : (drawNat s).2.fw = s.fw := rfl
@[simp] theorem drawNat_media (s : State) : (drawNat s).2.media = s.media := rfl
@[simp] theorem drawNat_map (s : State) : (drawNat s).2.map = s.map := rfl
@[simp] theorem drawNat_red (s : State) : (drawNat s).2.red = s.red := rfl
@[simp] theorem drawNat_ret (s : State) : (drawNat s).2.ret = s.ret := rfl
@[simp] theorem drawNat_sealing (s : State) : (drawNat s).2.sealing = s.sealing := rfl
@[simp] theorem drawNat_halo (s : State) : (drawNat s).2.halo = s.halo := rfl
@[simp] theorem drawNat_host (s : State) : (drawNat s).2.host = s.host := rfl
@[simp] theorem drawNat_nvme (s : State) : (drawNat s).2.nvme = s.nvme := rfl
@[simp] theorem drawNat_vf (s : State) : (drawNat s).2.vf = s.vf := rfl
@[simp] theorem drawNat_mbx (s : State) : (drawNat s).2.mbx = s.mbx := rfl
@[simp] theorem drawNat_boot (s : State) : (drawNat s).2.boot = s.boot := rfl
@[simp] theorem drawNat_dram (s : State) : (drawNat s).2.dram = s.dram := rfl
@[simp] theorem drawNat_pwr (s : State) : (drawNat s).2.pwr = s.pwr := rfl
@[simp] theorem drawNat_cool (s : State) : (drawNat s).2.cool = s.cool := rfl
@[simp] theorem drawNat_pins (s : State) : (drawNat s).2.pins = s.pins := rfl
@[simp] theorem drawNat_pending (s : State) : (drawNat s).2.pending = s.pending := rfl
@[simp] theorem drawBool_time (s : State) : (drawBool s).2.time = s.time := rfl
@[simp] theorem drawBool_alm (s : State) : (drawBool s).2.alm = s.alm := rfl
@[simp] theorem drawBool_settings (s : State) : (drawBool s).2.settings = s.settings := rfl
@[simp] theorem drawBool_fw (s : State) : (drawBool s).2.fw = s.fw := rfl
@[simp] theorem drawBool_media (s : State) : (drawBool s).2.media = s.media := rfl
@[simp] theorem drawBool_map (s : State) : (drawBool s).2.map = s.map := rfl
@[simp] theorem drawBool_red (s : State) : (drawBool s).2.red = s.red := rfl
@[simp] theorem drawBool_ret (s : State) : (drawBool s).2.ret = s.ret := rfl
@[simp] theorem drawBool_sealing (s : State) : (drawBool s).2.sealing = s.sealing := rfl
@[simp] theorem drawBool_halo (s : State) : (drawBool s).2.halo = s.halo := rfl
@[simp] theorem drawBool_host (s : State) : (drawBool s).2.host = s.host := rfl
@[simp] theorem drawBool_nvme (s : State) : (drawBool s).2.nvme = s.nvme := rfl
@[simp] theorem drawBool_vf (s : State) : (drawBool s).2.vf = s.vf := rfl
@[simp] theorem drawBool_mbx (s : State) : (drawBool s).2.mbx = s.mbx := rfl
@[simp] theorem drawBool_boot (s : State) : (drawBool s).2.boot = s.boot := rfl
@[simp] theorem drawBool_dram (s : State) : (drawBool s).2.dram = s.dram := rfl
@[simp] theorem drawBool_pwr (s : State) : (drawBool s).2.pwr = s.pwr := rfl
@[simp] theorem drawBool_cool (s : State) : (drawBool s).2.cool = s.cool := rfl
@[simp] theorem drawBool_pins (s : State) : (drawBool s).2.pins = s.pins := rfl
@[simp] theorem drawBool_pending (s : State) : (drawBool s).2.pending = s.pending := rfl
@[simp] theorem drawRandom_time (s : State) : (drawRandom s).2.time = s.time := rfl
@[simp] theorem drawRandom_alm (s : State) : (drawRandom s).2.alm = s.alm := rfl
@[simp] theorem drawRandom_settings (s : State) : (drawRandom s).2.settings = s.settings := rfl
@[simp] theorem drawRandom_fw (s : State) : (drawRandom s).2.fw = s.fw := rfl
@[simp] theorem drawRandom_media (s : State) : (drawRandom s).2.media = s.media := rfl
@[simp] theorem drawRandom_map (s : State) : (drawRandom s).2.map = s.map := rfl
@[simp] theorem drawRandom_red (s : State) : (drawRandom s).2.red = s.red := rfl
@[simp] theorem drawRandom_ret (s : State) : (drawRandom s).2.ret = s.ret := rfl
@[simp] theorem drawRandom_sealing (s : State) : (drawRandom s).2.sealing = s.sealing := rfl
@[simp] theorem drawRandom_halo (s : State) : (drawRandom s).2.halo = s.halo := rfl
@[simp] theorem drawRandom_host (s : State) : (drawRandom s).2.host = s.host := rfl
@[simp] theorem drawRandom_nvme (s : State) : (drawRandom s).2.nvme = s.nvme := rfl
@[simp] theorem drawRandom_vf (s : State) : (drawRandom s).2.vf = s.vf := rfl
@[simp] theorem drawRandom_mbx (s : State) : (drawRandom s).2.mbx = s.mbx := rfl
@[simp] theorem drawRandom_boot (s : State) : (drawRandom s).2.boot = s.boot := rfl
@[simp] theorem drawRandom_dram (s : State) : (drawRandom s).2.dram = s.dram := rfl
@[simp] theorem drawRandom_pwr (s : State) : (drawRandom s).2.pwr = s.pwr := rfl
@[simp] theorem drawRandom_cool (s : State) : (drawRandom s).2.cool = s.cool := rfl
@[simp] theorem drawRandom_pins (s : State) : (drawRandom s).2.pins = s.pins := rfl
@[simp] theorem drawRandom_pending (s : State) : (drawRandom s).2.pending = s.pending := rfl
@[simp] theorem setSetting_time (s : State) (fam idx nsid v : Nat) : (setSetting s fam idx nsid v).time = s.time := rfl
@[simp] theorem setSetting_alm (s : State) (fam idx nsid v : Nat) : (setSetting s fam idx nsid v).alm = s.alm := rfl
@[simp] theorem setSetting_fw (s : State) (fam idx nsid v : Nat) : (setSetting s fam idx nsid v).fw = s.fw := rfl
@[simp] theorem setSetting_media (s : State) (fam idx nsid v : Nat) : (setSetting s fam idx nsid v).media = s.media := rfl
@[simp] theorem setSetting_map (s : State) (fam idx nsid v : Nat) : (setSetting s fam idx nsid v).map = s.map := rfl
@[simp] theorem setSetting_red (s : State) (fam idx nsid v : Nat) : (setSetting s fam idx nsid v).red = s.red := rfl
@[simp] theorem setSetting_ret (s : State) (fam idx nsid v : Nat) : (setSetting s fam idx nsid v).ret = s.ret := rfl
@[simp] theorem setSetting_sealing (s : State) (fam idx nsid v : Nat) : (setSetting s fam idx nsid v).sealing = s.sealing := rfl
@[simp] theorem setSetting_halo (s : State) (fam idx nsid v : Nat) : (setSetting s fam idx nsid v).halo = s.halo := rfl
@[simp] theorem setSetting_host (s : State) (fam idx nsid v : Nat) : (setSetting s fam idx nsid v).host = s.host := rfl
@[simp] theorem setSetting_nvme (s : State) (fam idx nsid v : Nat) : (setSetting s fam idx nsid v).nvme = s.nvme := rfl
@[simp] theorem setSetting_vf (s : State) (fam idx nsid v : Nat) : (setSetting s fam idx nsid v).vf = s.vf := rfl
@[simp] theorem setSetting_mbx (s : State) (fam idx nsid v : Nat) : (setSetting s fam idx nsid v).mbx = s.mbx := rfl
@[simp] theorem setSetting_boot (s : State) (fam idx nsid v : Nat) : (setSetting s fam idx nsid v).boot = s.boot := rfl
@[simp] theorem setSetting_dram (s : State) (fam idx nsid v : Nat) : (setSetting s fam idx nsid v).dram = s.dram := rfl
@[simp] theorem setSetting_pwr (s : State) (fam idx nsid v : Nat) : (setSetting s fam idx nsid v).pwr = s.pwr := rfl
@[simp] theorem setSetting_cool (s : State) (fam idx nsid v : Nat) : (setSetting s fam idx nsid v).cool = s.cool := rfl
@[simp] theorem setSetting_pins (s : State) (fam idx nsid v : Nat) : (setSetting s fam idx nsid v).pins = s.pins := rfl
@[simp] theorem setSetting_pending (s : State) (fam idx nsid v : Nat) : (setSetting s fam idx nsid v).pending = s.pending := rfl
@[simp] theorem setSetting_freeCtr (s : State) (fam idx nsid v : Nat) : (setSetting s fam idx nsid v).freeCtr = s.freeCtr := rfl
@[simp] theorem addRecords_time (s : State) (rs : List JrnRecord) : (addRecords s rs).time = s.time := rfl
@[simp] theorem addRecords_alm (s : State) (rs : List JrnRecord) : (addRecords s rs).alm = s.alm := rfl
@[simp] theorem addRecords_settings (s : State) (rs : List JrnRecord) : (addRecords s rs).settings = s.settings := rfl
@[simp] theorem addRecords_fw (s : State) (rs : List JrnRecord) : (addRecords s rs).fw = s.fw := rfl
@[simp] theorem addRecords_media (s : State) (rs : List JrnRecord) : (addRecords s rs).media = s.media := rfl
@[simp] theorem addRecords_red (s : State) (rs : List JrnRecord) : (addRecords s rs).red = s.red := rfl
@[simp] theorem addRecords_ret (s : State) (rs : List JrnRecord) : (addRecords s rs).ret = s.ret := rfl
@[simp] theorem addRecords_sealing (s : State) (rs : List JrnRecord) : (addRecords s rs).sealing = s.sealing := rfl
@[simp] theorem addRecords_halo (s : State) (rs : List JrnRecord) : (addRecords s rs).halo = s.halo := rfl
@[simp] theorem addRecords_host (s : State) (rs : List JrnRecord) : (addRecords s rs).host = s.host := rfl
@[simp] theorem addRecords_nvme (s : State) (rs : List JrnRecord) : (addRecords s rs).nvme = s.nvme := rfl
@[simp] theorem addRecords_vf (s : State) (rs : List JrnRecord) : (addRecords s rs).vf = s.vf := rfl
@[simp] theorem addRecords_mbx (s : State) (rs : List JrnRecord) : (addRecords s rs).mbx = s.mbx := rfl
@[simp] theorem addRecords_boot (s : State) (rs : List JrnRecord) : (addRecords s rs).boot = s.boot := rfl
@[simp] theorem addRecords_dram (s : State) (rs : List JrnRecord) : (addRecords s rs).dram = s.dram := rfl
@[simp] theorem addRecords_pwr (s : State) (rs : List JrnRecord) : (addRecords s rs).pwr = s.pwr := rfl
@[simp] theorem addRecords_cool (s : State) (rs : List JrnRecord) : (addRecords s rs).cool = s.cool := rfl
@[simp] theorem addRecords_pins (s : State) (rs : List JrnRecord) : (addRecords s rs).pins = s.pins := rfl
@[simp] theorem addRecords_pending (s : State) (rs : List JrnRecord) : (addRecords s rs).pending = s.pending := rfl
@[simp] theorem addRecords_freeCtr (s : State) (rs : List JrnRecord) : (addRecords s rs).freeCtr = s.freeCtr := rfl
@[simp] theorem setCore_time (s : State) (c : MapCore) : (setCore s c).time = s.time := rfl
@[simp] theorem setCore_alm (s : State) (c : MapCore) : (setCore s c).alm = s.alm := rfl
@[simp] theorem setCore_settings (s : State) (c : MapCore) : (setCore s c).settings = s.settings := rfl
@[simp] theorem setCore_fw (s : State) (c : MapCore) : (setCore s c).fw = s.fw := rfl
@[simp] theorem setCore_media (s : State) (c : MapCore) : (setCore s c).media = s.media := rfl
@[simp] theorem setCore_red (s : State) (c : MapCore) : (setCore s c).red = s.red := rfl
@[simp] theorem setCore_ret (s : State) (c : MapCore) : (setCore s c).ret = s.ret := rfl
@[simp] theorem setCore_sealing (s : State) (c : MapCore) : (setCore s c).sealing = s.sealing := rfl
@[simp] theorem setCore_halo (s : State) (c : MapCore) : (setCore s c).halo = s.halo := rfl
@[simp] theorem setCore_host (s : State) (c : MapCore) : (setCore s c).host = s.host := rfl
@[simp] theorem setCore_nvme (s : State) (c : MapCore) : (setCore s c).nvme = s.nvme := rfl
@[simp] theorem setCore_vf (s : State) (c : MapCore) : (setCore s c).vf = s.vf := rfl
@[simp] theorem setCore_mbx (s : State) (c : MapCore) : (setCore s c).mbx = s.mbx := rfl
@[simp] theorem setCore_boot (s : State) (c : MapCore) : (setCore s c).boot = s.boot := rfl
@[simp] theorem setCore_dram (s : State) (c : MapCore) : (setCore s c).dram = s.dram := rfl
@[simp] theorem setCore_pwr (s : State) (c : MapCore) : (setCore s c).pwr = s.pwr := rfl
@[simp] theorem setCore_cool (s : State) (c : MapCore) : (setCore s c).cool = s.cool := rfl
@[simp] theorem setCore_pins (s : State) (c : MapCore) : (setCore s c).pins = s.pins := rfl
@[simp] theorem setCore_pending (s : State) (c : MapCore) : (setCore s c).pending = s.pending := rfl
@[simp] theorem setCore_freeCtr (s : State) (c : MapCore) : (setCore s c).freeCtr = s.freeCtr := rfl
@[simp] theorem takeMsn_time (s : State) (n : Nat) : (takeMsn s n).2.time = s.time := rfl
@[simp] theorem takeMsn_alm (s : State) (n : Nat) : (takeMsn s n).2.alm = s.alm := rfl
@[simp] theorem takeMsn_settings (s : State) (n : Nat) : (takeMsn s n).2.settings = s.settings := rfl
@[simp] theorem takeMsn_fw (s : State) (n : Nat) : (takeMsn s n).2.fw = s.fw := rfl
@[simp] theorem takeMsn_media (s : State) (n : Nat) : (takeMsn s n).2.media = s.media := rfl
@[simp] theorem takeMsn_red (s : State) (n : Nat) : (takeMsn s n).2.red = s.red := rfl
@[simp] theorem takeMsn_ret (s : State) (n : Nat) : (takeMsn s n).2.ret = s.ret := rfl
@[simp] theorem takeMsn_sealing (s : State) (n : Nat) : (takeMsn s n).2.sealing = s.sealing := rfl
@[simp] theorem takeMsn_halo (s : State) (n : Nat) : (takeMsn s n).2.halo = s.halo := rfl
@[simp] theorem takeMsn_host (s : State) (n : Nat) : (takeMsn s n).2.host = s.host := rfl
@[simp] theorem takeMsn_nvme (s : State) (n : Nat) : (takeMsn s n).2.nvme = s.nvme := rfl
@[simp] theorem takeMsn_vf (s : State) (n : Nat) : (takeMsn s n).2.vf = s.vf := rfl
@[simp] theorem takeMsn_mbx (s : State) (n : Nat) : (takeMsn s n).2.mbx = s.mbx := rfl
@[simp] theorem takeMsn_boot (s : State) (n : Nat) : (takeMsn s n).2.boot = s.boot := rfl
@[simp] theorem takeMsn_dram (s : State) (n : Nat) : (takeMsn s n).2.dram = s.dram := rfl
@[simp] theorem takeMsn_pwr (s : State) (n : Nat) : (takeMsn s n).2.pwr = s.pwr := rfl
@[simp] theorem takeMsn_cool (s : State) (n : Nat) : (takeMsn s n).2.cool = s.cool := rfl
@[simp] theorem takeMsn_pins (s : State) (n : Nat) : (takeMsn s n).2.pins = s.pins := rfl
@[simp] theorem takeMsn_pending (s : State) (n : Nat) : (takeMsn s n).2.pending = s.pending := rfl
@[simp] theorem takeMsn_freeCtr (s : State) (n : Nat) : (takeMsn s n).2.freeCtr = s.freeCtr := rfl
@[simp] theorem modCarrier_time (s : State) (c : Nat) (f : CarrierState → CarrierState) : (modCarrier s c f).time = s.time := rfl
@[simp] theorem modCarrier_alm (s : State) (c : Nat) (f : CarrierState → CarrierState) : (modCarrier s c f).alm = s.alm := rfl
@[simp] theorem modCarrier_settings (s : State) (c : Nat) (f : CarrierState → CarrierState) : (modCarrier s c f).settings = s.settings := rfl
@[simp] theorem modCarrier_fw (s : State) (c : Nat) (f : CarrierState → CarrierState) : (modCarrier s c f).fw = s.fw := rfl
@[simp] theorem modCarrier_map (s : State) (c : Nat) (f : CarrierState → CarrierState) : (modCarrier s c f).map = s.map := rfl
@[simp] theorem modCarrier_red (s : State) (c : Nat) (f : CarrierState → CarrierState) : (modCarrier s c f).red = s.red := rfl
@[simp] theorem modCarrier_ret (s : State) (c : Nat) (f : CarrierState → CarrierState) : (modCarrier s c f).ret = s.ret := rfl
@[simp] theorem modCarrier_sealing (s : State) (c : Nat) (f : CarrierState → CarrierState) : (modCarrier s c f).sealing = s.sealing := rfl
@[simp] theorem modCarrier_halo (s : State) (c : Nat) (f : CarrierState → CarrierState) : (modCarrier s c f).halo = s.halo := rfl
@[simp] theorem modCarrier_host (s : State) (c : Nat) (f : CarrierState → CarrierState) : (modCarrier s c f).host = s.host := rfl
@[simp] theorem modCarrier_nvme (s : State) (c : Nat) (f : CarrierState → CarrierState) : (modCarrier s c f).nvme = s.nvme := rfl
@[simp] theorem modCarrier_vf (s : State) (c : Nat) (f : CarrierState → CarrierState) : (modCarrier s c f).vf = s.vf := rfl
@[simp] theorem modCarrier_mbx (s : State) (c : Nat) (f : CarrierState → CarrierState) : (modCarrier s c f).mbx = s.mbx := rfl
@[simp] theorem modCarrier_boot (s : State) (c : Nat) (f : CarrierState → CarrierState) : (modCarrier s c f).boot = s.boot := rfl
@[simp] theorem modCarrier_dram (s : State) (c : Nat) (f : CarrierState → CarrierState) : (modCarrier s c f).dram = s.dram := rfl
@[simp] theorem modCarrier_pwr (s : State) (c : Nat) (f : CarrierState → CarrierState) : (modCarrier s c f).pwr = s.pwr := rfl
@[simp] theorem modCarrier_cool (s : State) (c : Nat) (f : CarrierState → CarrierState) : (modCarrier s c f).cool = s.cool := rfl
@[simp] theorem modCarrier_pins (s : State) (c : Nat) (f : CarrierState → CarrierState) : (modCarrier s c f).pins = s.pins := rfl
@[simp] theorem modCarrier_pending (s : State) (c : Nat) (f : CarrierState → CarrierState) : (modCarrier s c f).pending = s.pending := rfl
@[simp] theorem modCarrier_freeCtr (s : State) (c : Nat) (f : CarrierState → CarrierState) : (modCarrier s c f).freeCtr = s.freeCtr := rfl
@[simp] theorem modBlock_time (s : State) (key : Nat) (f : BlockStatus → BlockStatus) : (modBlock s key f).time = s.time := rfl
@[simp] theorem modBlock_alm (s : State) (key : Nat) (f : BlockStatus → BlockStatus) : (modBlock s key f).alm = s.alm := rfl
@[simp] theorem modBlock_settings (s : State) (key : Nat) (f : BlockStatus → BlockStatus) : (modBlock s key f).settings = s.settings := rfl
@[simp] theorem modBlock_fw (s : State) (key : Nat) (f : BlockStatus → BlockStatus) : (modBlock s key f).fw = s.fw := rfl
@[simp] theorem modBlock_map (s : State) (key : Nat) (f : BlockStatus → BlockStatus) : (modBlock s key f).map = s.map := rfl
@[simp] theorem modBlock_red (s : State) (key : Nat) (f : BlockStatus → BlockStatus) : (modBlock s key f).red = s.red := rfl
@[simp] theorem modBlock_ret (s : State) (key : Nat) (f : BlockStatus → BlockStatus) : (modBlock s key f).ret = s.ret := rfl
@[simp] theorem modBlock_sealing (s : State) (key : Nat) (f : BlockStatus → BlockStatus) : (modBlock s key f).sealing = s.sealing := rfl
@[simp] theorem modBlock_halo (s : State) (key : Nat) (f : BlockStatus → BlockStatus) : (modBlock s key f).halo = s.halo := rfl
@[simp] theorem modBlock_host (s : State) (key : Nat) (f : BlockStatus → BlockStatus) : (modBlock s key f).host = s.host := rfl
@[simp] theorem modBlock_nvme (s : State) (key : Nat) (f : BlockStatus → BlockStatus) : (modBlock s key f).nvme = s.nvme := rfl
@[simp] theorem modBlock_vf (s : State) (key : Nat) (f : BlockStatus → BlockStatus) : (modBlock s key f).vf = s.vf := rfl
@[simp] theorem modBlock_mbx (s : State) (key : Nat) (f : BlockStatus → BlockStatus) : (modBlock s key f).mbx = s.mbx := rfl
@[simp] theorem modBlock_boot (s : State) (key : Nat) (f : BlockStatus → BlockStatus) : (modBlock s key f).boot = s.boot := rfl
@[simp] theorem modBlock_dram (s : State) (key : Nat) (f : BlockStatus → BlockStatus) : (modBlock s key f).dram = s.dram := rfl
@[simp] theorem modBlock_pwr (s : State) (key : Nat) (f : BlockStatus → BlockStatus) : (modBlock s key f).pwr = s.pwr := rfl
@[simp] theorem modBlock_cool (s : State) (key : Nat) (f : BlockStatus → BlockStatus) : (modBlock s key f).cool = s.cool := rfl
@[simp] theorem modBlock_pins (s : State) (key : Nat) (f : BlockStatus → BlockStatus) : (modBlock s key f).pins = s.pins := rfl
@[simp] theorem modBlock_pending (s : State) (key : Nat) (f : BlockStatus → BlockStatus) : (modBlock s key f).pending = s.pending := rfl
@[simp] theorem modBlock_freeCtr (s : State) (key : Nat) (f : BlockStatus → BlockStatus) : (modBlock s key f).freeCtr = s.freeCtr := rfl
@[simp] theorem modLun_time (s : State) (lun : Nat) (f : LunState → LunState) : (modLun s lun f).time = s.time := rfl
@[simp] theorem modLun_alm (s : State) (lun : Nat) (f : LunState → LunState) : (modLun s lun f).alm = s.alm := rfl
@[simp] theorem modLun_settings (s : State) (lun : Nat) (f : LunState → LunState) : (modLun s lun f).settings = s.settings := rfl
@[simp] theorem modLun_fw (s : State) (lun : Nat) (f : LunState → LunState) : (modLun s lun f).fw = s.fw := rfl
@[simp] theorem modLun_map (s : State) (lun : Nat) (f : LunState → LunState) : (modLun s lun f).map = s.map := rfl
@[simp] theorem modLun_red (s : State) (lun : Nat) (f : LunState → LunState) : (modLun s lun f).red = s.red := rfl
@[simp] theorem modLun_ret (s : State) (lun : Nat) (f : LunState → LunState) : (modLun s lun f).ret = s.ret := rfl
@[simp] theorem modLun_sealing (s : State) (lun : Nat) (f : LunState → LunState) : (modLun s lun f).sealing = s.sealing := rfl
@[simp] theorem modLun_halo (s : State) (lun : Nat) (f : LunState → LunState) : (modLun s lun f).halo = s.halo := rfl
@[simp] theorem modLun_host (s : State) (lun : Nat) (f : LunState → LunState) : (modLun s lun f).host = s.host := rfl
@[simp] theorem modLun_nvme (s : State) (lun : Nat) (f : LunState → LunState) : (modLun s lun f).nvme = s.nvme := rfl
@[simp] theorem modLun_vf (s : State) (lun : Nat) (f : LunState → LunState) : (modLun s lun f).vf = s.vf := rfl
@[simp] theorem modLun_mbx (s : State) (lun : Nat) (f : LunState → LunState) : (modLun s lun f).mbx = s.mbx := rfl
@[simp] theorem modLun_boot (s : State) (lun : Nat) (f : LunState → LunState) : (modLun s lun f).boot = s.boot := rfl
@[simp] theorem modLun_dram (s : State) (lun : Nat) (f : LunState → LunState) : (modLun s lun f).dram = s.dram := rfl
@[simp] theorem modLun_pwr (s : State) (lun : Nat) (f : LunState → LunState) : (modLun s lun f).pwr = s.pwr := rfl
@[simp] theorem modLun_cool (s : State) (lun : Nat) (f : LunState → LunState) : (modLun s lun f).cool = s.cool := rfl
@[simp] theorem modLun_pins (s : State) (lun : Nat) (f : LunState → LunState) : (modLun s lun f).pins = s.pins := rfl
@[simp] theorem modLun_pending (s : State) (lun : Nat) (f : LunState → LunState) : (modLun s lun f).pending = s.pending := rfl
@[simp] theorem modLun_freeCtr (s : State) (lun : Nat) (f : LunState → LunState) : (modLun s lun f).freeCtr = s.freeCtr := rfl
@[simp] theorem modChannel_time (s : State) (ch : Nat) (f : ChannelState → ChannelState) : (modChannel s ch f).time = s.time := rfl
@[simp] theorem modChannel_alm (s : State) (ch : Nat) (f : ChannelState → ChannelState) : (modChannel s ch f).alm = s.alm := rfl
@[simp] theorem modChannel_settings (s : State) (ch : Nat) (f : ChannelState → ChannelState) : (modChannel s ch f).settings = s.settings := rfl
@[simp] theorem modChannel_fw (s : State) (ch : Nat) (f : ChannelState → ChannelState) : (modChannel s ch f).fw = s.fw := rfl
@[simp] theorem modChannel_map (s : State) (ch : Nat) (f : ChannelState → ChannelState) : (modChannel s ch f).map = s.map := rfl
@[simp] theorem modChannel_red (s : State) (ch : Nat) (f : ChannelState → ChannelState) : (modChannel s ch f).red = s.red := rfl
@[simp] theorem modChannel_ret (s : State) (ch : Nat) (f : ChannelState → ChannelState) : (modChannel s ch f).ret = s.ret := rfl
@[simp] theorem modChannel_sealing (s : State) (ch : Nat) (f : ChannelState → ChannelState) : (modChannel s ch f).sealing = s.sealing := rfl
@[simp] theorem modChannel_halo (s : State) (ch : Nat) (f : ChannelState → ChannelState) : (modChannel s ch f).halo = s.halo := rfl
@[simp] theorem modChannel_host (s : State) (ch : Nat) (f : ChannelState → ChannelState) : (modChannel s ch f).host = s.host := rfl
@[simp] theorem modChannel_nvme (s : State) (ch : Nat) (f : ChannelState → ChannelState) : (modChannel s ch f).nvme = s.nvme := rfl
@[simp] theorem modChannel_vf (s : State) (ch : Nat) (f : ChannelState → ChannelState) : (modChannel s ch f).vf = s.vf := rfl
@[simp] theorem modChannel_mbx (s : State) (ch : Nat) (f : ChannelState → ChannelState) : (modChannel s ch f).mbx = s.mbx := rfl
@[simp] theorem modChannel_boot (s : State) (ch : Nat) (f : ChannelState → ChannelState) : (modChannel s ch f).boot = s.boot := rfl
@[simp] theorem modChannel_dram (s : State) (ch : Nat) (f : ChannelState → ChannelState) : (modChannel s ch f).dram = s.dram := rfl
@[simp] theorem modChannel_pwr (s : State) (ch : Nat) (f : ChannelState → ChannelState) : (modChannel s ch f).pwr = s.pwr := rfl
@[simp] theorem modChannel_cool (s : State) (ch : Nat) (f : ChannelState → ChannelState) : (modChannel s ch f).cool = s.cool := rfl
@[simp] theorem modChannel_pins (s : State) (ch : Nat) (f : ChannelState → ChannelState) : (modChannel s ch f).pins = s.pins := rfl
@[simp] theorem modChannel_pending (s : State) (ch : Nat) (f : ChannelState → ChannelState) : (modChannel s ch f).pending = s.pending := rfl
@[simp] theorem modChannel_freeCtr (s : State) (ch : Nat) (f : ChannelState → ChannelState) : (modChannel s ch f).freeCtr = s.freeCtr := rfl
@[simp] theorem modRing_time (s : State) (n : Fin 4) (f : MdRing → MdRing) : (modRing s n f).time = s.time := rfl
@[simp] theorem modRing_alm (s : State) (n : Fin 4) (f : MdRing → MdRing) : (modRing s n f).alm = s.alm := rfl
@[simp] theorem modRing_settings (s : State) (n : Fin 4) (f : MdRing → MdRing) : (modRing s n f).settings = s.settings := rfl
@[simp] theorem modRing_fw (s : State) (n : Fin 4) (f : MdRing → MdRing) : (modRing s n f).fw = s.fw := rfl
@[simp] theorem modRing_map (s : State) (n : Fin 4) (f : MdRing → MdRing) : (modRing s n f).map = s.map := rfl
@[simp] theorem modRing_red (s : State) (n : Fin 4) (f : MdRing → MdRing) : (modRing s n f).red = s.red := rfl
@[simp] theorem modRing_ret (s : State) (n : Fin 4) (f : MdRing → MdRing) : (modRing s n f).ret = s.ret := rfl
@[simp] theorem modRing_sealing (s : State) (n : Fin 4) (f : MdRing → MdRing) : (modRing s n f).sealing = s.sealing := rfl
@[simp] theorem modRing_halo (s : State) (n : Fin 4) (f : MdRing → MdRing) : (modRing s n f).halo = s.halo := rfl
@[simp] theorem modRing_host (s : State) (n : Fin 4) (f : MdRing → MdRing) : (modRing s n f).host = s.host := rfl
@[simp] theorem modRing_nvme (s : State) (n : Fin 4) (f : MdRing → MdRing) : (modRing s n f).nvme = s.nvme := rfl
@[simp] theorem modRing_vf (s : State) (n : Fin 4) (f : MdRing → MdRing) : (modRing s n f).vf = s.vf := rfl
@[simp] theorem modRing_mbx (s : State) (n : Fin 4) (f : MdRing → MdRing) : (modRing s n f).mbx = s.mbx := rfl
@[simp] theorem modRing_boot (s : State) (n : Fin 4) (f : MdRing → MdRing) : (modRing s n f).boot = s.boot := rfl
@[simp] theorem modRing_dram (s : State) (n : Fin 4) (f : MdRing → MdRing) : (modRing s n f).dram = s.dram := rfl
@[simp] theorem modRing_pwr (s : State) (n : Fin 4) (f : MdRing → MdRing) : (modRing s n f).pwr = s.pwr := rfl
@[simp] theorem modRing_cool (s : State) (n : Fin 4) (f : MdRing → MdRing) : (modRing s n f).cool = s.cool := rfl
@[simp] theorem modRing_pins (s : State) (n : Fin 4) (f : MdRing → MdRing) : (modRing s n f).pins = s.pins := rfl
@[simp] theorem modRing_pending (s : State) (n : Fin 4) (f : MdRing → MdRing) : (modRing s n f).pending = s.pending := rfl
@[simp] theorem modRing_freeCtr (s : State) (n : Fin 4) (f : MdRing → MdRing) : (modRing s n f).freeCtr = s.freeCtr := rfl
@[simp] theorem takeEntry_time (s : State) (ch : Nat) (q : Fin 4) (e : QEntry) : (takeEntry s ch q e).time = s.time := rfl
@[simp] theorem takeEntry_alm (s : State) (ch : Nat) (q : Fin 4) (e : QEntry) : (takeEntry s ch q e).alm = s.alm := rfl
@[simp] theorem takeEntry_settings (s : State) (ch : Nat) (q : Fin 4) (e : QEntry) : (takeEntry s ch q e).settings = s.settings := rfl
@[simp] theorem takeEntry_fw (s : State) (ch : Nat) (q : Fin 4) (e : QEntry) : (takeEntry s ch q e).fw = s.fw := rfl
@[simp] theorem takeEntry_map (s : State) (ch : Nat) (q : Fin 4) (e : QEntry) : (takeEntry s ch q e).map = s.map := rfl
@[simp] theorem takeEntry_red (s : State) (ch : Nat) (q : Fin 4) (e : QEntry) : (takeEntry s ch q e).red = s.red := rfl
@[simp] theorem takeEntry_ret (s : State) (ch : Nat) (q : Fin 4) (e : QEntry) : (takeEntry s ch q e).ret = s.ret := rfl
@[simp] theorem takeEntry_sealing (s : State) (ch : Nat) (q : Fin 4) (e : QEntry) : (takeEntry s ch q e).sealing = s.sealing := rfl
@[simp] theorem takeEntry_halo (s : State) (ch : Nat) (q : Fin 4) (e : QEntry) : (takeEntry s ch q e).halo = s.halo := rfl
@[simp] theorem takeEntry_host (s : State) (ch : Nat) (q : Fin 4) (e : QEntry) : (takeEntry s ch q e).host = s.host := rfl
@[simp] theorem takeEntry_nvme (s : State) (ch : Nat) (q : Fin 4) (e : QEntry) : (takeEntry s ch q e).nvme = s.nvme := rfl
@[simp] theorem takeEntry_vf (s : State) (ch : Nat) (q : Fin 4) (e : QEntry) : (takeEntry s ch q e).vf = s.vf := rfl
@[simp] theorem takeEntry_mbx (s : State) (ch : Nat) (q : Fin 4) (e : QEntry) : (takeEntry s ch q e).mbx = s.mbx := rfl
@[simp] theorem takeEntry_boot (s : State) (ch : Nat) (q : Fin 4) (e : QEntry) : (takeEntry s ch q e).boot = s.boot := rfl
@[simp] theorem takeEntry_dram (s : State) (ch : Nat) (q : Fin 4) (e : QEntry) : (takeEntry s ch q e).dram = s.dram := rfl
@[simp] theorem takeEntry_pwr (s : State) (ch : Nat) (q : Fin 4) (e : QEntry) : (takeEntry s ch q e).pwr = s.pwr := rfl
@[simp] theorem takeEntry_cool (s : State) (ch : Nat) (q : Fin 4) (e : QEntry) : (takeEntry s ch q e).cool = s.cool := rfl
@[simp] theorem takeEntry_pins (s : State) (ch : Nat) (q : Fin 4) (e : QEntry) : (takeEntry s ch q e).pins = s.pins := rfl
@[simp] theorem takeEntry_pending (s : State) (ch : Nat) (q : Fin 4) (e : QEntry) : (takeEntry s ch q e).pending = s.pending := rfl
@[simp] theorem takeEntry_freeCtr (s : State) (ch : Nat) (q : Fin 4) (e : QEntry) : (takeEntry s ch q e).freeCtr = s.freeCtr := rfl
@[simp] theorem modStar_time (s : State) (c : Nat) (f : StarCarrier → StarCarrier) : (modStar s c f).time = s.time := rfl
@[simp] theorem modStar_alm (s : State) (c : Nat) (f : StarCarrier → StarCarrier) : (modStar s c f).alm = s.alm := rfl
@[simp] theorem modStar_settings (s : State) (c : Nat) (f : StarCarrier → StarCarrier) : (modStar s c f).settings = s.settings := rfl
@[simp] theorem modStar_fw (s : State) (c : Nat) (f : StarCarrier → StarCarrier) : (modStar s c f).fw = s.fw := rfl
@[simp] theorem modStar_media (s : State) (c : Nat) (f : StarCarrier → StarCarrier) : (modStar s c f).media = s.media := rfl
@[simp] theorem modStar_map (s : State) (c : Nat) (f : StarCarrier → StarCarrier) : (modStar s c f).map = s.map := rfl
@[simp] theorem modStar_red (s : State) (c : Nat) (f : StarCarrier → StarCarrier) : (modStar s c f).red = s.red := rfl
@[simp] theorem modStar_sealing (s : State) (c : Nat) (f : StarCarrier → StarCarrier) : (modStar s c f).sealing = s.sealing := rfl
@[simp] theorem modStar_halo (s : State) (c : Nat) (f : StarCarrier → StarCarrier) : (modStar s c f).halo = s.halo := rfl
@[simp] theorem modStar_host (s : State) (c : Nat) (f : StarCarrier → StarCarrier) : (modStar s c f).host = s.host := rfl
@[simp] theorem modStar_nvme (s : State) (c : Nat) (f : StarCarrier → StarCarrier) : (modStar s c f).nvme = s.nvme := rfl
@[simp] theorem modStar_vf (s : State) (c : Nat) (f : StarCarrier → StarCarrier) : (modStar s c f).vf = s.vf := rfl
@[simp] theorem modStar_mbx (s : State) (c : Nat) (f : StarCarrier → StarCarrier) : (modStar s c f).mbx = s.mbx := rfl
@[simp] theorem modStar_boot (s : State) (c : Nat) (f : StarCarrier → StarCarrier) : (modStar s c f).boot = s.boot := rfl
@[simp] theorem modStar_dram (s : State) (c : Nat) (f : StarCarrier → StarCarrier) : (modStar s c f).dram = s.dram := rfl
@[simp] theorem modStar_pwr (s : State) (c : Nat) (f : StarCarrier → StarCarrier) : (modStar s c f).pwr = s.pwr := rfl
@[simp] theorem modStar_cool (s : State) (c : Nat) (f : StarCarrier → StarCarrier) : (modStar s c f).cool = s.cool := rfl
@[simp] theorem modStar_pins (s : State) (c : Nat) (f : StarCarrier → StarCarrier) : (modStar s c f).pins = s.pins := rfl
@[simp] theorem modStar_pending (s : State) (c : Nat) (f : StarCarrier → StarCarrier) : (modStar s c f).pending = s.pending := rfl
@[simp] theorem modStar_freeCtr (s : State) (c : Nat) (f : StarCarrier → StarCarrier) : (modStar s c f).freeCtr = s.freeCtr := rfl
@[simp] theorem modSeal_time (s : State) (id : Nat) (f : Seal → Seal) : (modSeal s id f).time = s.time := rfl
@[simp] theorem modSeal_alm (s : State) (id : Nat) (f : Seal → Seal) : (modSeal s id f).alm = s.alm := rfl
@[simp] theorem modSeal_settings (s : State) (id : Nat) (f : Seal → Seal) : (modSeal s id f).settings = s.settings := rfl
@[simp] theorem modSeal_fw (s : State) (id : Nat) (f : Seal → Seal) : (modSeal s id f).fw = s.fw := rfl
@[simp] theorem modSeal_media (s : State) (id : Nat) (f : Seal → Seal) : (modSeal s id f).media = s.media := rfl
@[simp] theorem modSeal_map (s : State) (id : Nat) (f : Seal → Seal) : (modSeal s id f).map = s.map := rfl
@[simp] theorem modSeal_red (s : State) (id : Nat) (f : Seal → Seal) : (modSeal s id f).red = s.red := rfl
@[simp] theorem modSeal_ret (s : State) (id : Nat) (f : Seal → Seal) : (modSeal s id f).ret = s.ret := rfl
@[simp] theorem modSeal_halo (s : State) (id : Nat) (f : Seal → Seal) : (modSeal s id f).halo = s.halo := rfl
@[simp] theorem modSeal_host (s : State) (id : Nat) (f : Seal → Seal) : (modSeal s id f).host = s.host := rfl
@[simp] theorem modSeal_nvme (s : State) (id : Nat) (f : Seal → Seal) : (modSeal s id f).nvme = s.nvme := rfl
@[simp] theorem modSeal_vf (s : State) (id : Nat) (f : Seal → Seal) : (modSeal s id f).vf = s.vf := rfl
@[simp] theorem modSeal_mbx (s : State) (id : Nat) (f : Seal → Seal) : (modSeal s id f).mbx = s.mbx := rfl
@[simp] theorem modSeal_boot (s : State) (id : Nat) (f : Seal → Seal) : (modSeal s id f).boot = s.boot := rfl
@[simp] theorem modSeal_dram (s : State) (id : Nat) (f : Seal → Seal) : (modSeal s id f).dram = s.dram := rfl
@[simp] theorem modSeal_pwr (s : State) (id : Nat) (f : Seal → Seal) : (modSeal s id f).pwr = s.pwr := rfl
@[simp] theorem modSeal_cool (s : State) (id : Nat) (f : Seal → Seal) : (modSeal s id f).cool = s.cool := rfl
@[simp] theorem modSeal_pins (s : State) (id : Nat) (f : Seal → Seal) : (modSeal s id f).pins = s.pins := rfl
@[simp] theorem modSeal_pending (s : State) (id : Nat) (f : Seal → Seal) : (modSeal s id f).pending = s.pending := rfl
@[simp] theorem modSeal_freeCtr (s : State) (id : Nat) (f : Seal → Seal) : (modSeal s id f).freeCtr = s.freeCtr := rfl
@[simp] theorem modFunc_time (s : State) (fn : Nat) (f : PciFunc → PciFunc) : (modFunc s fn f).time = s.time := rfl
@[simp] theorem modFunc_alm (s : State) (fn : Nat) (f : PciFunc → PciFunc) : (modFunc s fn f).alm = s.alm := rfl
@[simp] theorem modFunc_settings (s : State) (fn : Nat) (f : PciFunc → PciFunc) : (modFunc s fn f).settings = s.settings := rfl
@[simp] theorem modFunc_fw (s : State) (fn : Nat) (f : PciFunc → PciFunc) : (modFunc s fn f).fw = s.fw := rfl
@[simp] theorem modFunc_media (s : State) (fn : Nat) (f : PciFunc → PciFunc) : (modFunc s fn f).media = s.media := rfl
@[simp] theorem modFunc_map (s : State) (fn : Nat) (f : PciFunc → PciFunc) : (modFunc s fn f).map = s.map := rfl
@[simp] theorem modFunc_red (s : State) (fn : Nat) (f : PciFunc → PciFunc) : (modFunc s fn f).red = s.red := rfl
@[simp] theorem modFunc_ret (s : State) (fn : Nat) (f : PciFunc → PciFunc) : (modFunc s fn f).ret = s.ret := rfl
@[simp] theorem modFunc_sealing (s : State) (fn : Nat) (f : PciFunc → PciFunc) : (modFunc s fn f).sealing = s.sealing := rfl
@[simp] theorem modFunc_halo (s : State) (fn : Nat) (f : PciFunc → PciFunc) : (modFunc s fn f).halo = s.halo := rfl
@[simp] theorem modFunc_nvme (s : State) (fn : Nat) (f : PciFunc → PciFunc) : (modFunc s fn f).nvme = s.nvme := rfl
@[simp] theorem modFunc_vf (s : State) (fn : Nat) (f : PciFunc → PciFunc) : (modFunc s fn f).vf = s.vf := rfl
@[simp] theorem modFunc_mbx (s : State) (fn : Nat) (f : PciFunc → PciFunc) : (modFunc s fn f).mbx = s.mbx := rfl
@[simp] theorem modFunc_boot (s : State) (fn : Nat) (f : PciFunc → PciFunc) : (modFunc s fn f).boot = s.boot := rfl
@[simp] theorem modFunc_dram (s : State) (fn : Nat) (f : PciFunc → PciFunc) : (modFunc s fn f).dram = s.dram := rfl
@[simp] theorem modFunc_pwr (s : State) (fn : Nat) (f : PciFunc → PciFunc) : (modFunc s fn f).pwr = s.pwr := rfl
@[simp] theorem modFunc_cool (s : State) (fn : Nat) (f : PciFunc → PciFunc) : (modFunc s fn f).cool = s.cool := rfl
@[simp] theorem modFunc_pins (s : State) (fn : Nat) (f : PciFunc → PciFunc) : (modFunc s fn f).pins = s.pins := rfl
@[simp] theorem modFunc_pending (s : State) (fn : Nat) (f : PciFunc → PciFunc) : (modFunc s fn f).pending = s.pending := rfl
@[simp] theorem modFunc_freeCtr (s : State) (fn : Nat) (f : PciFunc → PciFunc) : (modFunc s fn f).freeCtr = s.freeCtr := rfl
@[simp] theorem modCtrl_time (s : State) (fn : Nat) (f : Ctrl → Ctrl) : (modCtrl s fn f).time = s.time := rfl
@[simp] theorem modCtrl_alm (s : State) (fn : Nat) (f : Ctrl → Ctrl) : (modCtrl s fn f).alm = s.alm := rfl
@[simp] theorem modCtrl_settings (s : State) (fn : Nat) (f : Ctrl → Ctrl) : (modCtrl s fn f).settings = s.settings := rfl
@[simp] theorem modCtrl_fw (s : State) (fn : Nat) (f : Ctrl → Ctrl) : (modCtrl s fn f).fw = s.fw := rfl
@[simp] theorem modCtrl_media (s : State) (fn : Nat) (f : Ctrl → Ctrl) : (modCtrl s fn f).media = s.media := rfl
@[simp] theorem modCtrl_map (s : State) (fn : Nat) (f : Ctrl → Ctrl) : (modCtrl s fn f).map = s.map := rfl
@[simp] theorem modCtrl_red (s : State) (fn : Nat) (f : Ctrl → Ctrl) : (modCtrl s fn f).red = s.red := rfl
@[simp] theorem modCtrl_ret (s : State) (fn : Nat) (f : Ctrl → Ctrl) : (modCtrl s fn f).ret = s.ret := rfl
@[simp] theorem modCtrl_sealing (s : State) (fn : Nat) (f : Ctrl → Ctrl) : (modCtrl s fn f).sealing = s.sealing := rfl
@[simp] theorem modCtrl_halo (s : State) (fn : Nat) (f : Ctrl → Ctrl) : (modCtrl s fn f).halo = s.halo := rfl
@[simp] theorem modCtrl_host (s : State) (fn : Nat) (f : Ctrl → Ctrl) : (modCtrl s fn f).host = s.host := rfl
@[simp] theorem modCtrl_vf (s : State) (fn : Nat) (f : Ctrl → Ctrl) : (modCtrl s fn f).vf = s.vf := rfl
@[simp] theorem modCtrl_mbx (s : State) (fn : Nat) (f : Ctrl → Ctrl) : (modCtrl s fn f).mbx = s.mbx := rfl
@[simp] theorem modCtrl_boot (s : State) (fn : Nat) (f : Ctrl → Ctrl) : (modCtrl s fn f).boot = s.boot := rfl
@[simp] theorem modCtrl_dram (s : State) (fn : Nat) (f : Ctrl → Ctrl) : (modCtrl s fn f).dram = s.dram := rfl
@[simp] theorem modCtrl_pwr (s : State) (fn : Nat) (f : Ctrl → Ctrl) : (modCtrl s fn f).pwr = s.pwr := rfl
@[simp] theorem modCtrl_cool (s : State) (fn : Nat) (f : Ctrl → Ctrl) : (modCtrl s fn f).cool = s.cool := rfl
@[simp] theorem modCtrl_pins (s : State) (fn : Nat) (f : Ctrl → Ctrl) : (modCtrl s fn f).pins = s.pins := rfl
@[simp] theorem modCtrl_pending (s : State) (fn : Nat) (f : Ctrl → Ctrl) : (modCtrl s fn f).pending = s.pending := rfl
@[simp] theorem modCtrl_freeCtr (s : State) (fn : Nat) (f : Ctrl → Ctrl) : (modCtrl s fn f).freeCtr = s.freeCtr := rfl
@[simp] theorem modVf_time (s : State) (n : Nat) (f : VfState → VfState) : (modVf s n f).time = s.time := rfl
@[simp] theorem modVf_alm (s : State) (n : Nat) (f : VfState → VfState) : (modVf s n f).alm = s.alm := rfl
@[simp] theorem modVf_settings (s : State) (n : Nat) (f : VfState → VfState) : (modVf s n f).settings = s.settings := rfl
@[simp] theorem modVf_fw (s : State) (n : Nat) (f : VfState → VfState) : (modVf s n f).fw = s.fw := rfl
@[simp] theorem modVf_media (s : State) (n : Nat) (f : VfState → VfState) : (modVf s n f).media = s.media := rfl
@[simp] theorem modVf_map (s : State) (n : Nat) (f : VfState → VfState) : (modVf s n f).map = s.map := rfl
@[simp] theorem modVf_red (s : State) (n : Nat) (f : VfState → VfState) : (modVf s n f).red = s.red := rfl
@[simp] theorem modVf_ret (s : State) (n : Nat) (f : VfState → VfState) : (modVf s n f).ret = s.ret := rfl
@[simp] theorem modVf_sealing (s : State) (n : Nat) (f : VfState → VfState) : (modVf s n f).sealing = s.sealing := rfl
@[simp] theorem modVf_halo (s : State) (n : Nat) (f : VfState → VfState) : (modVf s n f).halo = s.halo := rfl
@[simp] theorem modVf_host (s : State) (n : Nat) (f : VfState → VfState) : (modVf s n f).host = s.host := rfl
@[simp] theorem modVf_nvme (s : State) (n : Nat) (f : VfState → VfState) : (modVf s n f).nvme = s.nvme := rfl
@[simp] theorem modVf_mbx (s : State) (n : Nat) (f : VfState → VfState) : (modVf s n f).mbx = s.mbx := rfl
@[simp] theorem modVf_boot (s : State) (n : Nat) (f : VfState → VfState) : (modVf s n f).boot = s.boot := rfl
@[simp] theorem modVf_dram (s : State) (n : Nat) (f : VfState → VfState) : (modVf s n f).dram = s.dram := rfl
@[simp] theorem modVf_pwr (s : State) (n : Nat) (f : VfState → VfState) : (modVf s n f).pwr = s.pwr := rfl
@[simp] theorem modVf_cool (s : State) (n : Nat) (f : VfState → VfState) : (modVf s n f).cool = s.cool := rfl
@[simp] theorem modVf_pins (s : State) (n : Nat) (f : VfState → VfState) : (modVf s n f).pins = s.pins := rfl
@[simp] theorem modVf_pending (s : State) (n : Nat) (f : VfState → VfState) : (modVf s n f).pending = s.pending := rfl
@[simp] theorem modVf_freeCtr (s : State) (n : Nat) (f : VfState → VfState) : (modVf s n f).freeCtr = s.freeCtr := rfl
@[simp] theorem modBox_time (s : State) (key : Nat) (f : Mailbox → Mailbox) : (modBox s key f).time = s.time := rfl
@[simp] theorem modBox_alm (s : State) (key : Nat) (f : Mailbox → Mailbox) : (modBox s key f).alm = s.alm := rfl
@[simp] theorem modBox_settings (s : State) (key : Nat) (f : Mailbox → Mailbox) : (modBox s key f).settings = s.settings := rfl
@[simp] theorem modBox_fw (s : State) (key : Nat) (f : Mailbox → Mailbox) : (modBox s key f).fw = s.fw := rfl
@[simp] theorem modBox_media (s : State) (key : Nat) (f : Mailbox → Mailbox) : (modBox s key f).media = s.media := rfl
@[simp] theorem modBox_map (s : State) (key : Nat) (f : Mailbox → Mailbox) : (modBox s key f).map = s.map := rfl
@[simp] theorem modBox_red (s : State) (key : Nat) (f : Mailbox → Mailbox) : (modBox s key f).red = s.red := rfl
@[simp] theorem modBox_ret (s : State) (key : Nat) (f : Mailbox → Mailbox) : (modBox s key f).ret = s.ret := rfl
@[simp] theorem modBox_sealing (s : State) (key : Nat) (f : Mailbox → Mailbox) : (modBox s key f).sealing = s.sealing := rfl
@[simp] theorem modBox_halo (s : State) (key : Nat) (f : Mailbox → Mailbox) : (modBox s key f).halo = s.halo := rfl
@[simp] theorem modBox_host (s : State) (key : Nat) (f : Mailbox → Mailbox) : (modBox s key f).host = s.host := rfl
@[simp] theorem modBox_nvme (s : State) (key : Nat) (f : Mailbox → Mailbox) : (modBox s key f).nvme = s.nvme := rfl
@[simp] theorem modBox_vf (s : State) (key : Nat) (f : Mailbox → Mailbox) : (modBox s key f).vf = s.vf := rfl
@[simp] theorem modBox_boot (s : State) (key : Nat) (f : Mailbox → Mailbox) : (modBox s key f).boot = s.boot := rfl
@[simp] theorem modBox_dram (s : State) (key : Nat) (f : Mailbox → Mailbox) : (modBox s key f).dram = s.dram := rfl
@[simp] theorem modBox_pwr (s : State) (key : Nat) (f : Mailbox → Mailbox) : (modBox s key f).pwr = s.pwr := rfl
@[simp] theorem modBox_cool (s : State) (key : Nat) (f : Mailbox → Mailbox) : (modBox s key f).cool = s.cool := rfl
@[simp] theorem modBox_pins (s : State) (key : Nat) (f : Mailbox → Mailbox) : (modBox s key f).pins = s.pins := rfl
@[simp] theorem modBox_pending (s : State) (key : Nat) (f : Mailbox → Mailbox) : (modBox s key f).pending = s.pending := rfl
@[simp] theorem modBox_freeCtr (s : State) (key : Nat) (f : Mailbox → Mailbox) : (modBox s key f).freeCtr = s.freeCtr := rfl
@[simp] theorem modMotor_time (s : State) (m : Nat) (f : MotorState → MotorState) : (modMotor s m f).time = s.time := rfl
@[simp] theorem modMotor_alm (s : State) (m : Nat) (f : MotorState → MotorState) : (modMotor s m f).alm = s.alm := rfl
@[simp] theorem modMotor_settings (s : State) (m : Nat) (f : MotorState → MotorState) : (modMotor s m f).settings = s.settings := rfl
@[simp] theorem modMotor_fw (s : State) (m : Nat) (f : MotorState → MotorState) : (modMotor s m f).fw = s.fw := rfl
@[simp] theorem modMotor_media (s : State) (m : Nat) (f : MotorState → MotorState) : (modMotor s m f).media = s.media := rfl
@[simp] theorem modMotor_map (s : State) (m : Nat) (f : MotorState → MotorState) : (modMotor s m f).map = s.map := rfl
@[simp] theorem modMotor_red (s : State) (m : Nat) (f : MotorState → MotorState) : (modMotor s m f).red = s.red := rfl
@[simp] theorem modMotor_ret (s : State) (m : Nat) (f : MotorState → MotorState) : (modMotor s m f).ret = s.ret := rfl
@[simp] theorem modMotor_sealing (s : State) (m : Nat) (f : MotorState → MotorState) : (modMotor s m f).sealing = s.sealing := rfl
@[simp] theorem modMotor_halo (s : State) (m : Nat) (f : MotorState → MotorState) : (modMotor s m f).halo = s.halo := rfl
@[simp] theorem modMotor_host (s : State) (m : Nat) (f : MotorState → MotorState) : (modMotor s m f).host = s.host := rfl
@[simp] theorem modMotor_nvme (s : State) (m : Nat) (f : MotorState → MotorState) : (modMotor s m f).nvme = s.nvme := rfl
@[simp] theorem modMotor_vf (s : State) (m : Nat) (f : MotorState → MotorState) : (modMotor s m f).vf = s.vf := rfl
@[simp] theorem modMotor_mbx (s : State) (m : Nat) (f : MotorState → MotorState) : (modMotor s m f).mbx = s.mbx := rfl
@[simp] theorem modMotor_boot (s : State) (m : Nat) (f : MotorState → MotorState) : (modMotor s m f).boot = s.boot := rfl
@[simp] theorem modMotor_dram (s : State) (m : Nat) (f : MotorState → MotorState) : (modMotor s m f).dram = s.dram := rfl
@[simp] theorem modMotor_pwr (s : State) (m : Nat) (f : MotorState → MotorState) : (modMotor s m f).pwr = s.pwr := rfl
@[simp] theorem modMotor_pins (s : State) (m : Nat) (f : MotorState → MotorState) : (modMotor s m f).pins = s.pins := rfl
@[simp] theorem modMotor_pending (s : State) (m : Nat) (f : MotorState → MotorState) : (modMotor s m f).pending = s.pending := rfl
@[simp] theorem modMotor_freeCtr (s : State) (m : Nat) (f : MotorState → MotorState) : (modMotor s m f).freeCtr = s.freeCtr := rfl
@[simp] theorem modLoop_time (s : State) (n : Nat) (f : LoopState → LoopState) : (modLoop s n f).time = s.time := rfl
@[simp] theorem modLoop_alm (s : State) (n : Nat) (f : LoopState → LoopState) : (modLoop s n f).alm = s.alm := rfl
@[simp] theorem modLoop_settings (s : State) (n : Nat) (f : LoopState → LoopState) : (modLoop s n f).settings = s.settings := rfl
@[simp] theorem modLoop_fw (s : State) (n : Nat) (f : LoopState → LoopState) : (modLoop s n f).fw = s.fw := rfl
@[simp] theorem modLoop_media (s : State) (n : Nat) (f : LoopState → LoopState) : (modLoop s n f).media = s.media := rfl
@[simp] theorem modLoop_map (s : State) (n : Nat) (f : LoopState → LoopState) : (modLoop s n f).map = s.map := rfl
@[simp] theorem modLoop_red (s : State) (n : Nat) (f : LoopState → LoopState) : (modLoop s n f).red = s.red := rfl
@[simp] theorem modLoop_ret (s : State) (n : Nat) (f : LoopState → LoopState) : (modLoop s n f).ret = s.ret := rfl
@[simp] theorem modLoop_sealing (s : State) (n : Nat) (f : LoopState → LoopState) : (modLoop s n f).sealing = s.sealing := rfl
@[simp] theorem modLoop_halo (s : State) (n : Nat) (f : LoopState → LoopState) : (modLoop s n f).halo = s.halo := rfl
@[simp] theorem modLoop_host (s : State) (n : Nat) (f : LoopState → LoopState) : (modLoop s n f).host = s.host := rfl
@[simp] theorem modLoop_nvme (s : State) (n : Nat) (f : LoopState → LoopState) : (modLoop s n f).nvme = s.nvme := rfl
@[simp] theorem modLoop_vf (s : State) (n : Nat) (f : LoopState → LoopState) : (modLoop s n f).vf = s.vf := rfl
@[simp] theorem modLoop_mbx (s : State) (n : Nat) (f : LoopState → LoopState) : (modLoop s n f).mbx = s.mbx := rfl
@[simp] theorem modLoop_boot (s : State) (n : Nat) (f : LoopState → LoopState) : (modLoop s n f).boot = s.boot := rfl
@[simp] theorem modLoop_dram (s : State) (n : Nat) (f : LoopState → LoopState) : (modLoop s n f).dram = s.dram := rfl
@[simp] theorem modLoop_pwr (s : State) (n : Nat) (f : LoopState → LoopState) : (modLoop s n f).pwr = s.pwr := rfl
@[simp] theorem modLoop_pins (s : State) (n : Nat) (f : LoopState → LoopState) : (modLoop s n f).pins = s.pins := rfl
@[simp] theorem modLoop_pending (s : State) (n : Nat) (f : LoopState → LoopState) : (modLoop s n f).pending = s.pending := rfl
@[simp] theorem modLoop_freeCtr (s : State) (n : Nat) (f : LoopState → LoopState) : (modLoop s n f).freeCtr = s.freeCtr := rfl
@[simp] theorem modTrace_time (s : State) (b : Nat) (f : TraceState → TraceState) : (modTrace s b f).time = s.time := rfl
@[simp] theorem modTrace_alm (s : State) (b : Nat) (f : TraceState → TraceState) : (modTrace s b f).alm = s.alm := rfl
@[simp] theorem modTrace_settings (s : State) (b : Nat) (f : TraceState → TraceState) : (modTrace s b f).settings = s.settings := rfl
@[simp] theorem modTrace_fw (s : State) (b : Nat) (f : TraceState → TraceState) : (modTrace s b f).fw = s.fw := rfl
@[simp] theorem modTrace_media (s : State) (b : Nat) (f : TraceState → TraceState) : (modTrace s b f).media = s.media := rfl
@[simp] theorem modTrace_map (s : State) (b : Nat) (f : TraceState → TraceState) : (modTrace s b f).map = s.map := rfl
@[simp] theorem modTrace_red (s : State) (b : Nat) (f : TraceState → TraceState) : (modTrace s b f).red = s.red := rfl
@[simp] theorem modTrace_ret (s : State) (b : Nat) (f : TraceState → TraceState) : (modTrace s b f).ret = s.ret := rfl
@[simp] theorem modTrace_sealing (s : State) (b : Nat) (f : TraceState → TraceState) : (modTrace s b f).sealing = s.sealing := rfl
@[simp] theorem modTrace_halo (s : State) (b : Nat) (f : TraceState → TraceState) : (modTrace s b f).halo = s.halo := rfl
@[simp] theorem modTrace_host (s : State) (b : Nat) (f : TraceState → TraceState) : (modTrace s b f).host = s.host := rfl
@[simp] theorem modTrace_nvme (s : State) (b : Nat) (f : TraceState → TraceState) : (modTrace s b f).nvme = s.nvme := rfl
@[simp] theorem modTrace_vf (s : State) (b : Nat) (f : TraceState → TraceState) : (modTrace s b f).vf = s.vf := rfl
@[simp] theorem modTrace_mbx (s : State) (b : Nat) (f : TraceState → TraceState) : (modTrace s b f).mbx = s.mbx := rfl
@[simp] theorem modTrace_boot (s : State) (b : Nat) (f : TraceState → TraceState) : (modTrace s b f).boot = s.boot := rfl
@[simp] theorem modTrace_dram (s : State) (b : Nat) (f : TraceState → TraceState) : (modTrace s b f).dram = s.dram := rfl
@[simp] theorem modTrace_pwr (s : State) (b : Nat) (f : TraceState → TraceState) : (modTrace s b f).pwr = s.pwr := rfl
@[simp] theorem modTrace_pins (s : State) (b : Nat) (f : TraceState → TraceState) : (modTrace s b f).pins = s.pins := rfl
@[simp] theorem modTrace_pending (s : State) (b : Nat) (f : TraceState → TraceState) : (modTrace s b f).pending = s.pending := rfl
@[simp] theorem modTrace_freeCtr (s : State) (b : Nat) (f : TraceState → TraceState) : (modTrace s b f).freeCtr = s.freeCtr := rfl
@[simp] theorem setCdEn_time (s : State) (m : Nat) (on : Bool) : (setCdEn s m on).time = s.time := rfl
@[simp] theorem setCdEn_alm (s : State) (m : Nat) (on : Bool) : (setCdEn s m on).alm = s.alm := rfl
@[simp] theorem setCdEn_settings (s : State) (m : Nat) (on : Bool) : (setCdEn s m on).settings = s.settings := rfl
@[simp] theorem setCdEn_fw (s : State) (m : Nat) (on : Bool) : (setCdEn s m on).fw = s.fw := rfl
@[simp] theorem setCdEn_media (s : State) (m : Nat) (on : Bool) : (setCdEn s m on).media = s.media := rfl
@[simp] theorem setCdEn_map (s : State) (m : Nat) (on : Bool) : (setCdEn s m on).map = s.map := rfl
@[simp] theorem setCdEn_red (s : State) (m : Nat) (on : Bool) : (setCdEn s m on).red = s.red := rfl
@[simp] theorem setCdEn_ret (s : State) (m : Nat) (on : Bool) : (setCdEn s m on).ret = s.ret := rfl
@[simp] theorem setCdEn_sealing (s : State) (m : Nat) (on : Bool) : (setCdEn s m on).sealing = s.sealing := rfl
@[simp] theorem setCdEn_halo (s : State) (m : Nat) (on : Bool) : (setCdEn s m on).halo = s.halo := rfl
@[simp] theorem setCdEn_host (s : State) (m : Nat) (on : Bool) : (setCdEn s m on).host = s.host := rfl
@[simp] theorem setCdEn_nvme (s : State) (m : Nat) (on : Bool) : (setCdEn s m on).nvme = s.nvme := rfl
@[simp] theorem setCdEn_vf (s : State) (m : Nat) (on : Bool) : (setCdEn s m on).vf = s.vf := rfl
@[simp] theorem setCdEn_mbx (s : State) (m : Nat) (on : Bool) : (setCdEn s m on).mbx = s.mbx := rfl
@[simp] theorem setCdEn_boot (s : State) (m : Nat) (on : Bool) : (setCdEn s m on).boot = s.boot := rfl
@[simp] theorem setCdEn_dram (s : State) (m : Nat) (on : Bool) : (setCdEn s m on).dram = s.dram := rfl
@[simp] theorem setCdEn_pwr (s : State) (m : Nat) (on : Bool) : (setCdEn s m on).pwr = s.pwr := rfl
@[simp] theorem setCdEn_cool (s : State) (m : Nat) (on : Bool) : (setCdEn s m on).cool = s.cool := rfl
@[simp] theorem setCdEn_pending (s : State) (m : Nat) (on : Bool) : (setCdEn s m on).pending = s.pending := rfl
@[simp] theorem setCdEn_freeCtr (s : State) (m : Nat) (on : Bool) : (setCdEn s m on).freeCtr = s.freeCtr := rfl
@[simp] theorem setFaultPin_time (s : State) (m : Nat) (high : Bool) : (setFaultPin s m high).time = s.time := rfl
@[simp] theorem setFaultPin_alm (s : State) (m : Nat) (high : Bool) : (setFaultPin s m high).alm = s.alm := rfl
@[simp] theorem setFaultPin_settings (s : State) (m : Nat) (high : Bool) : (setFaultPin s m high).settings = s.settings := rfl
@[simp] theorem setFaultPin_fw (s : State) (m : Nat) (high : Bool) : (setFaultPin s m high).fw = s.fw := rfl
@[simp] theorem setFaultPin_media (s : State) (m : Nat) (high : Bool) : (setFaultPin s m high).media = s.media := rfl
@[simp] theorem setFaultPin_map (s : State) (m : Nat) (high : Bool) : (setFaultPin s m high).map = s.map := rfl
@[simp] theorem setFaultPin_red (s : State) (m : Nat) (high : Bool) : (setFaultPin s m high).red = s.red := rfl
@[simp] theorem setFaultPin_ret (s : State) (m : Nat) (high : Bool) : (setFaultPin s m high).ret = s.ret := rfl
@[simp] theorem setFaultPin_sealing (s : State) (m : Nat) (high : Bool) : (setFaultPin s m high).sealing = s.sealing := rfl
@[simp] theorem setFaultPin_halo (s : State) (m : Nat) (high : Bool) : (setFaultPin s m high).halo = s.halo := rfl
@[simp] theorem setFaultPin_host (s : State) (m : Nat) (high : Bool) : (setFaultPin s m high).host = s.host := rfl
@[simp] theorem setFaultPin_nvme (s : State) (m : Nat) (high : Bool) : (setFaultPin s m high).nvme = s.nvme := rfl
@[simp] theorem setFaultPin_vf (s : State) (m : Nat) (high : Bool) : (setFaultPin s m high).vf = s.vf := rfl
@[simp] theorem setFaultPin_mbx (s : State) (m : Nat) (high : Bool) : (setFaultPin s m high).mbx = s.mbx := rfl
@[simp] theorem setFaultPin_boot (s : State) (m : Nat) (high : Bool) : (setFaultPin s m high).boot = s.boot := rfl
@[simp] theorem setFaultPin_dram (s : State) (m : Nat) (high : Bool) : (setFaultPin s m high).dram = s.dram := rfl
@[simp] theorem setFaultPin_pwr (s : State) (m : Nat) (high : Bool) : (setFaultPin s m high).pwr = s.pwr := rfl
@[simp] theorem setFaultPin_cool (s : State) (m : Nat) (high : Bool) : (setFaultPin s m high).cool = s.cool := rfl
@[simp] theorem setFaultPin_pending (s : State) (m : Nat) (high : Bool) : (setFaultPin s m high).pending = s.pending := rfl
@[simp] theorem setFaultPin_freeCtr (s : State) (m : Nat) (high : Bool) : (setFaultPin s m high).freeCtr = s.freeCtr := rfl
@[simp] theorem triggerWhere_time (s : State) (p : TraceState → Bool) : (triggerWhere s p).time = s.time := rfl
@[simp] theorem triggerWhere_alm (s : State) (p : TraceState → Bool) : (triggerWhere s p).alm = s.alm := rfl
@[simp] theorem triggerWhere_settings (s : State) (p : TraceState → Bool) : (triggerWhere s p).settings = s.settings := rfl
@[simp] theorem triggerWhere_fw (s : State) (p : TraceState → Bool) : (triggerWhere s p).fw = s.fw := rfl
@[simp] theorem triggerWhere_media (s : State) (p : TraceState → Bool) : (triggerWhere s p).media = s.media := rfl
@[simp] theorem triggerWhere_map (s : State) (p : TraceState → Bool) : (triggerWhere s p).map = s.map := rfl
@[simp] theorem triggerWhere_red (s : State) (p : TraceState → Bool) : (triggerWhere s p).red = s.red := rfl
@[simp] theorem triggerWhere_ret (s : State) (p : TraceState → Bool) : (triggerWhere s p).ret = s.ret := rfl
@[simp] theorem triggerWhere_sealing (s : State) (p : TraceState → Bool) : (triggerWhere s p).sealing = s.sealing := rfl
@[simp] theorem triggerWhere_halo (s : State) (p : TraceState → Bool) : (triggerWhere s p).halo = s.halo := rfl
@[simp] theorem triggerWhere_host (s : State) (p : TraceState → Bool) : (triggerWhere s p).host = s.host := rfl
@[simp] theorem triggerWhere_nvme (s : State) (p : TraceState → Bool) : (triggerWhere s p).nvme = s.nvme := rfl
@[simp] theorem triggerWhere_vf (s : State) (p : TraceState → Bool) : (triggerWhere s p).vf = s.vf := rfl
@[simp] theorem triggerWhere_mbx (s : State) (p : TraceState → Bool) : (triggerWhere s p).mbx = s.mbx := rfl
@[simp] theorem triggerWhere_boot (s : State) (p : TraceState → Bool) : (triggerWhere s p).boot = s.boot := rfl
@[simp] theorem triggerWhere_dram (s : State) (p : TraceState → Bool) : (triggerWhere s p).dram = s.dram := rfl
@[simp] theorem triggerWhere_pwr (s : State) (p : TraceState → Bool) : (triggerWhere s p).pwr = s.pwr := rfl
@[simp] theorem triggerWhere_pins (s : State) (p : TraceState → Bool) : (triggerWhere s p).pins = s.pins := rfl
@[simp] theorem triggerWhere_pending (s : State) (p : TraceState → Bool) : (triggerWhere s p).pending = s.pending := rfl
@[simp] theorem triggerWhere_freeCtr (s : State) (p : TraceState → Bool) : (triggerWhere s p).freeCtr = s.freeCtr := rfl
@[simp] theorem motorTo_time (s : State) (m : Nat) (st : MotorSt) : (motorTo s m st).time = s.time := rfl
@[simp] theorem motorTo_alm (s : State) (m : Nat) (st : MotorSt) : (motorTo s m st).alm = s.alm := rfl
@[simp] theorem motorTo_settings (s : State) (m : Nat) (st : MotorSt) : (motorTo s m st).settings = s.settings := rfl
@[simp] theorem motorTo_fw (s : State) (m : Nat) (st : MotorSt) : (motorTo s m st).fw = s.fw := rfl
@[simp] theorem motorTo_media (s : State) (m : Nat) (st : MotorSt) : (motorTo s m st).media = s.media := rfl
@[simp] theorem motorTo_map (s : State) (m : Nat) (st : MotorSt) : (motorTo s m st).map = s.map := rfl
@[simp] theorem motorTo_red (s : State) (m : Nat) (st : MotorSt) : (motorTo s m st).red = s.red := rfl
@[simp] theorem motorTo_ret (s : State) (m : Nat) (st : MotorSt) : (motorTo s m st).ret = s.ret := rfl
@[simp] theorem motorTo_sealing (s : State) (m : Nat) (st : MotorSt) : (motorTo s m st).sealing = s.sealing := rfl
@[simp] theorem motorTo_halo (s : State) (m : Nat) (st : MotorSt) : (motorTo s m st).halo = s.halo := rfl
@[simp] theorem motorTo_host (s : State) (m : Nat) (st : MotorSt) : (motorTo s m st).host = s.host := rfl
@[simp] theorem motorTo_nvme (s : State) (m : Nat) (st : MotorSt) : (motorTo s m st).nvme = s.nvme := rfl
@[simp] theorem motorTo_vf (s : State) (m : Nat) (st : MotorSt) : (motorTo s m st).vf = s.vf := rfl
@[simp] theorem motorTo_mbx (s : State) (m : Nat) (st : MotorSt) : (motorTo s m st).mbx = s.mbx := rfl
@[simp] theorem motorTo_boot (s : State) (m : Nat) (st : MotorSt) : (motorTo s m st).boot = s.boot := rfl
@[simp] theorem motorTo_dram (s : State) (m : Nat) (st : MotorSt) : (motorTo s m st).dram = s.dram := rfl
@[simp] theorem motorTo_pwr (s : State) (m : Nat) (st : MotorSt) : (motorTo s m st).pwr = s.pwr := rfl
@[simp] theorem motorTo_pins (s : State) (m : Nat) (st : MotorSt) : (motorTo s m st).pins = s.pins := rfl
@[simp] theorem motorTo_pending (s : State) (m : Nat) (st : MotorSt) : (motorTo s m st).pending = s.pending := rfl
@[simp] theorem motorTo_freeCtr (s : State) (m : Nat) (st : MotorSt) : (motorTo s m st).freeCtr = s.freeCtr := rfl
@[simp] theorem modDram_time (s : State) (ch : Nat) (f : DramChan → DramChan) : (modDram s ch f).time = s.time := rfl
@[simp] theorem modDram_alm (s : State) (ch : Nat) (f : DramChan → DramChan) : (modDram s ch f).alm = s.alm := rfl
@[simp] theorem modDram_settings (s : State) (ch : Nat) (f : DramChan → DramChan) : (modDram s ch f).settings = s.settings := rfl
@[simp] theorem modDram_fw (s : State) (ch : Nat) (f : DramChan → DramChan) : (modDram s ch f).fw = s.fw := rfl
@[simp] theorem modDram_media (s : State) (ch : Nat) (f : DramChan → DramChan) : (modDram s ch f).media = s.media := rfl
@[simp] theorem modDram_map (s : State) (ch : Nat) (f : DramChan → DramChan) : (modDram s ch f).map = s.map := rfl
@[simp] theorem modDram_red (s : State) (ch : Nat) (f : DramChan → DramChan) : (modDram s ch f).red = s.red := rfl
@[simp] theorem modDram_ret (s : State) (ch : Nat) (f : DramChan → DramChan) : (modDram s ch f).ret = s.ret := rfl
@[simp] theorem modDram_sealing (s : State) (ch : Nat) (f : DramChan → DramChan) : (modDram s ch f).sealing = s.sealing := rfl
@[simp] theorem modDram_halo (s : State) (ch : Nat) (f : DramChan → DramChan) : (modDram s ch f).halo = s.halo := rfl
@[simp] theorem modDram_host (s : State) (ch : Nat) (f : DramChan → DramChan) : (modDram s ch f).host = s.host := rfl
@[simp] theorem modDram_nvme (s : State) (ch : Nat) (f : DramChan → DramChan) : (modDram s ch f).nvme = s.nvme := rfl
@[simp] theorem modDram_vf (s : State) (ch : Nat) (f : DramChan → DramChan) : (modDram s ch f).vf = s.vf := rfl
@[simp] theorem modDram_mbx (s : State) (ch : Nat) (f : DramChan → DramChan) : (modDram s ch f).mbx = s.mbx := rfl
@[simp] theorem modDram_boot (s : State) (ch : Nat) (f : DramChan → DramChan) : (modDram s ch f).boot = s.boot := rfl
@[simp] theorem modDram_pwr (s : State) (ch : Nat) (f : DramChan → DramChan) : (modDram s ch f).pwr = s.pwr := rfl
@[simp] theorem modDram_cool (s : State) (ch : Nat) (f : DramChan → DramChan) : (modDram s ch f).cool = s.cool := rfl
@[simp] theorem modDram_pins (s : State) (ch : Nat) (f : DramChan → DramChan) : (modDram s ch f).pins = s.pins := rfl
@[simp] theorem modDram_pending (s : State) (ch : Nat) (f : DramChan → DramChan) : (modDram s ch f).pending = s.pending := rfl
@[simp] theorem modDram_freeCtr (s : State) (ch : Nat) (f : DramChan → DramChan) : (modDram s ch f).freeCtr = s.freeCtr := rfl
@[simp] theorem modDramState_time (s : State) (f : DramState → DramState) : (modDramState s f).time = s.time := rfl
@[simp] theorem modDramState_alm (s : State) (f : DramState → DramState) : (modDramState s f).alm = s.alm := rfl
@[simp] theorem modDramState_settings (s : State) (f : DramState → DramState) : (modDramState s f).settings = s.settings := rfl
@[simp] theorem modDramState_fw (s : State) (f : DramState → DramState) : (modDramState s f).fw = s.fw := rfl
@[simp] theorem modDramState_media (s : State) (f : DramState → DramState) : (modDramState s f).media = s.media := rfl
@[simp] theorem modDramState_map (s : State) (f : DramState → DramState) : (modDramState s f).map = s.map := rfl
@[simp] theorem modDramState_red (s : State) (f : DramState → DramState) : (modDramState s f).red = s.red := rfl
@[simp] theorem modDramState_ret (s : State) (f : DramState → DramState) : (modDramState s f).ret = s.ret := rfl
@[simp] theorem modDramState_sealing (s : State) (f : DramState → DramState) : (modDramState s f).sealing = s.sealing := rfl
@[simp] theorem modDramState_halo (s : State) (f : DramState → DramState) : (modDramState s f).halo = s.halo := rfl
@[simp] theorem modDramState_host (s : State) (f : DramState → DramState) : (modDramState s f).host = s.host := rfl
@[simp] theorem modDramState_nvme (s : State) (f : DramState → DramState) : (modDramState s f).nvme = s.nvme := rfl
@[simp] theorem modDramState_vf (s : State) (f : DramState → DramState) : (modDramState s f).vf = s.vf := rfl
@[simp] theorem modDramState_mbx (s : State) (f : DramState → DramState) : (modDramState s f).mbx = s.mbx := rfl
@[simp] theorem modDramState_boot (s : State) (f : DramState → DramState) : (modDramState s f).boot = s.boot := rfl
@[simp] theorem modDramState_pwr (s : State) (f : DramState → DramState) : (modDramState s f).pwr = s.pwr := rfl
@[simp] theorem modDramState_cool (s : State) (f : DramState → DramState) : (modDramState s f).cool = s.cool := rfl
@[simp] theorem modDramState_pins (s : State) (f : DramState → DramState) : (modDramState s f).pins = s.pins := rfl
@[simp] theorem modDramState_pending (s : State) (f : DramState → DramState) : (modDramState s f).pending = s.pending := rfl
@[simp] theorem modDramState_freeCtr (s : State) (f : DramState → DramState) : (modDramState s f).freeCtr = s.freeCtr := rfl
@[simp] theorem modPort_time (s : State) (i : Nat) (f : HaloPort → HaloPort) : (modPort s i f).time = s.time := rfl
@[simp] theorem modPort_alm (s : State) (i : Nat) (f : HaloPort → HaloPort) : (modPort s i f).alm = s.alm := rfl
@[simp] theorem modPort_settings (s : State) (i : Nat) (f : HaloPort → HaloPort) : (modPort s i f).settings = s.settings := rfl
@[simp] theorem modPort_fw (s : State) (i : Nat) (f : HaloPort → HaloPort) : (modPort s i f).fw = s.fw := rfl
@[simp] theorem modPort_media (s : State) (i : Nat) (f : HaloPort → HaloPort) : (modPort s i f).media = s.media := rfl
@[simp] theorem modPort_map (s : State) (i : Nat) (f : HaloPort → HaloPort) : (modPort s i f).map = s.map := rfl
@[simp] theorem modPort_red (s : State) (i : Nat) (f : HaloPort → HaloPort) : (modPort s i f).red = s.red := rfl
@[simp] theorem modPort_ret (s : State) (i : Nat) (f : HaloPort → HaloPort) : (modPort s i f).ret = s.ret := rfl
@[simp] theorem modPort_sealing (s : State) (i : Nat) (f : HaloPort → HaloPort) : (modPort s i f).sealing = s.sealing := rfl
@[simp] theorem modPort_host (s : State) (i : Nat) (f : HaloPort → HaloPort) : (modPort s i f).host = s.host := rfl
@[simp] theorem modPort_nvme (s : State) (i : Nat) (f : HaloPort → HaloPort) : (modPort s i f).nvme = s.nvme := rfl
@[simp] theorem modPort_vf (s : State) (i : Nat) (f : HaloPort → HaloPort) : (modPort s i f).vf = s.vf := rfl
@[simp] theorem modPort_mbx (s : State) (i : Nat) (f : HaloPort → HaloPort) : (modPort s i f).mbx = s.mbx := rfl
@[simp] theorem modPort_boot (s : State) (i : Nat) (f : HaloPort → HaloPort) : (modPort s i f).boot = s.boot := rfl
@[simp] theorem modPort_dram (s : State) (i : Nat) (f : HaloPort → HaloPort) : (modPort s i f).dram = s.dram := rfl
@[simp] theorem modPort_pwr (s : State) (i : Nat) (f : HaloPort → HaloPort) : (modPort s i f).pwr = s.pwr := rfl
@[simp] theorem modPort_cool (s : State) (i : Nat) (f : HaloPort → HaloPort) : (modPort s i f).cool = s.cool := rfl
@[simp] theorem modPort_pins (s : State) (i : Nat) (f : HaloPort → HaloPort) : (modPort s i f).pins = s.pins := rfl
@[simp] theorem modPort_pending (s : State) (i : Nat) (f : HaloPort → HaloPort) : (modPort s i f).pending = s.pending := rfl
@[simp] theorem modPort_freeCtr (s : State) (i : Nat) (f : HaloPort → HaloPort) : (modPort s i f).freeCtr = s.freeCtr := rfl
@[simp] theorem modHalo_time (s : State) (f : HaloState → HaloState) : (modHalo s f).time = s.time := rfl
@[simp] theorem modHalo_alm (s : State) (f : HaloState → HaloState) : (modHalo s f).alm = s.alm := rfl
@[simp] theorem modHalo_settings (s : State) (f : HaloState → HaloState) : (modHalo s f).settings = s.settings := rfl
@[simp] theorem modHalo_fw (s : State) (f : HaloState → HaloState) : (modHalo s f).fw = s.fw := rfl
@[simp] theorem modHalo_media (s : State) (f : HaloState → HaloState) : (modHalo s f).media = s.media := rfl
@[simp] theorem modHalo_map (s : State) (f : HaloState → HaloState) : (modHalo s f).map = s.map := rfl
@[simp] theorem modHalo_red (s : State) (f : HaloState → HaloState) : (modHalo s f).red = s.red := rfl
@[simp] theorem modHalo_ret (s : State) (f : HaloState → HaloState) : (modHalo s f).ret = s.ret := rfl
@[simp] theorem modHalo_sealing (s : State) (f : HaloState → HaloState) : (modHalo s f).sealing = s.sealing := rfl
@[simp] theorem modHalo_host (s : State) (f : HaloState → HaloState) : (modHalo s f).host = s.host := rfl
@[simp] theorem modHalo_nvme (s : State) (f : HaloState → HaloState) : (modHalo s f).nvme = s.nvme := rfl
@[simp] theorem modHalo_vf (s : State) (f : HaloState → HaloState) : (modHalo s f).vf = s.vf := rfl
@[simp] theorem modHalo_mbx (s : State) (f : HaloState → HaloState) : (modHalo s f).mbx = s.mbx := rfl
@[simp] theorem modHalo_boot (s : State) (f : HaloState → HaloState) : (modHalo s f).boot = s.boot := rfl
@[simp] theorem modHalo_dram (s : State) (f : HaloState → HaloState) : (modHalo s f).dram = s.dram := rfl
@[simp] theorem modHalo_pwr (s : State) (f : HaloState → HaloState) : (modHalo s f).pwr = s.pwr := rfl
@[simp] theorem modHalo_cool (s : State) (f : HaloState → HaloState) : (modHalo s f).cool = s.cool := rfl
@[simp] theorem modHalo_pins (s : State) (f : HaloState → HaloState) : (modHalo s f).pins = s.pins := rfl
@[simp] theorem modHalo_pending (s : State) (f : HaloState → HaloState) : (modHalo s f).pending = s.pending := rfl
@[simp] theorem modHalo_freeCtr (s : State) (f : HaloState → HaloState) : (modHalo s f).freeCtr = s.freeCtr := rfl
@[simp] theorem modMirror_time (s : State) (session : Nat) (f : Mirror → Mirror) : (modMirror s session f).time = s.time := rfl
@[simp] theorem modMirror_alm (s : State) (session : Nat) (f : Mirror → Mirror) : (modMirror s session f).alm = s.alm := rfl
@[simp] theorem modMirror_settings (s : State) (session : Nat) (f : Mirror → Mirror) : (modMirror s session f).settings = s.settings := rfl
@[simp] theorem modMirror_fw (s : State) (session : Nat) (f : Mirror → Mirror) : (modMirror s session f).fw = s.fw := rfl
@[simp] theorem modMirror_media (s : State) (session : Nat) (f : Mirror → Mirror) : (modMirror s session f).media = s.media := rfl
@[simp] theorem modMirror_map (s : State) (session : Nat) (f : Mirror → Mirror) : (modMirror s session f).map = s.map := rfl
@[simp] theorem modMirror_red (s : State) (session : Nat) (f : Mirror → Mirror) : (modMirror s session f).red = s.red := rfl
@[simp] theorem modMirror_ret (s : State) (session : Nat) (f : Mirror → Mirror) : (modMirror s session f).ret = s.ret := rfl
@[simp] theorem modMirror_sealing (s : State) (session : Nat) (f : Mirror → Mirror) : (modMirror s session f).sealing = s.sealing := rfl
@[simp] theorem modMirror_host (s : State) (session : Nat) (f : Mirror → Mirror) : (modMirror s session f).host = s.host := rfl
@[simp] theorem modMirror_nvme (s : State) (session : Nat) (f : Mirror → Mirror) : (modMirror s session f).nvme = s.nvme := rfl
@[simp] theorem modMirror_vf (s : State) (session : Nat) (f : Mirror → Mirror) : (modMirror s session f).vf = s.vf := rfl
@[simp] theorem modMirror_mbx (s : State) (session : Nat) (f : Mirror → Mirror) : (modMirror s session f).mbx = s.mbx := rfl
@[simp] theorem modMirror_boot (s : State) (session : Nat) (f : Mirror → Mirror) : (modMirror s session f).boot = s.boot := rfl
@[simp] theorem modMirror_dram (s : State) (session : Nat) (f : Mirror → Mirror) : (modMirror s session f).dram = s.dram := rfl
@[simp] theorem modMirror_pwr (s : State) (session : Nat) (f : Mirror → Mirror) : (modMirror s session f).pwr = s.pwr := rfl
@[simp] theorem modMirror_cool (s : State) (session : Nat) (f : Mirror → Mirror) : (modMirror s session f).cool = s.cool := rfl
@[simp] theorem modMirror_pins (s : State) (session : Nat) (f : Mirror → Mirror) : (modMirror s session f).pins = s.pins := rfl
@[simp] theorem modMirror_pending (s : State) (session : Nat) (f : Mirror → Mirror) : (modMirror s session f).pending = s.pending := rfl
@[simp] theorem modMirror_freeCtr (s : State) (session : Nat) (f : Mirror → Mirror) : (modMirror s session f).freeCtr = s.freeCtr := rfl
@[simp] theorem modMig_time (s : State) (f : Migration → Migration) : (modMig s f).time = s.time := rfl
@[simp] theorem modMig_alm (s : State) (f : Migration → Migration) : (modMig s f).alm = s.alm := rfl
@[simp] theorem modMig_settings (s : State) (f : Migration → Migration) : (modMig s f).settings = s.settings := rfl
@[simp] theorem modMig_fw (s : State) (f : Migration → Migration) : (modMig s f).fw = s.fw := rfl
@[simp] theorem modMig_media (s : State) (f : Migration → Migration) : (modMig s f).media = s.media := rfl
@[simp] theorem modMig_map (s : State) (f : Migration → Migration) : (modMig s f).map = s.map := rfl
@[simp] theorem modMig_red (s : State) (f : Migration → Migration) : (modMig s f).red = s.red := rfl
@[simp] theorem modMig_ret (s : State) (f : Migration → Migration) : (modMig s f).ret = s.ret := rfl
@[simp] theorem modMig_sealing (s : State) (f : Migration → Migration) : (modMig s f).sealing = s.sealing := rfl
@[simp] theorem modMig_host (s : State) (f : Migration → Migration) : (modMig s f).host = s.host := rfl
@[simp] theorem modMig_nvme (s : State) (f : Migration → Migration) : (modMig s f).nvme = s.nvme := rfl
@[simp] theorem modMig_vf (s : State) (f : Migration → Migration) : (modMig s f).vf = s.vf := rfl
@[simp] theorem modMig_mbx (s : State) (f : Migration → Migration) : (modMig s f).mbx = s.mbx := rfl
@[simp] theorem modMig_boot (s : State) (f : Migration → Migration) : (modMig s f).boot = s.boot := rfl
@[simp] theorem modMig_dram (s : State) (f : Migration → Migration) : (modMig s f).dram = s.dram := rfl
@[simp] theorem modMig_pwr (s : State) (f : Migration → Migration) : (modMig s f).pwr = s.pwr := rfl
@[simp] theorem modMig_cool (s : State) (f : Migration → Migration) : (modMig s f).cool = s.cool := rfl
@[simp] theorem modMig_pins (s : State) (f : Migration → Migration) : (modMig s f).pins = s.pins := rfl
@[simp] theorem modMig_pending (s : State) (f : Migration → Migration) : (modMig s f).pending = s.pending := rfl
@[simp] theorem modMig_freeCtr (s : State) (f : Migration → Migration) : (modMig s f).freeCtr = s.freeCtr := rfl
@[simp] theorem reportUncor_time (s : State) (fn bit : Nat) : (reportUncor s fn bit).time = s.time := rfl
@[simp] theorem reportUncor_alm (s : State) (fn bit : Nat) : (reportUncor s fn bit).alm = s.alm := rfl
@[simp] theorem reportUncor_settings (s : State) (fn bit : Nat) : (reportUncor s fn bit).settings = s.settings := rfl
@[simp] theorem reportUncor_fw (s : State) (fn bit : Nat) : (reportUncor s fn bit).fw = s.fw := rfl
@[simp] theorem reportUncor_media (s : State) (fn bit : Nat) : (reportUncor s fn bit).media = s.media := rfl
@[simp] theorem reportUncor_map (s : State) (fn bit : Nat) : (reportUncor s fn bit).map = s.map := rfl
@[simp] theorem reportUncor_red (s : State) (fn bit : Nat) : (reportUncor s fn bit).red = s.red := rfl
@[simp] theorem reportUncor_ret (s : State) (fn bit : Nat) : (reportUncor s fn bit).ret = s.ret := rfl
@[simp] theorem reportUncor_sealing (s : State) (fn bit : Nat) : (reportUncor s fn bit).sealing = s.sealing := rfl
@[simp] theorem reportUncor_halo (s : State) (fn bit : Nat) : (reportUncor s fn bit).halo = s.halo := rfl
@[simp] theorem reportUncor_nvme (s : State) (fn bit : Nat) : (reportUncor s fn bit).nvme = s.nvme := rfl
@[simp] theorem reportUncor_vf (s : State) (fn bit : Nat) : (reportUncor s fn bit).vf = s.vf := rfl
@[simp] theorem reportUncor_mbx (s : State) (fn bit : Nat) : (reportUncor s fn bit).mbx = s.mbx := rfl
@[simp] theorem reportUncor_boot (s : State) (fn bit : Nat) : (reportUncor s fn bit).boot = s.boot := rfl
@[simp] theorem reportUncor_dram (s : State) (fn bit : Nat) : (reportUncor s fn bit).dram = s.dram := rfl
@[simp] theorem reportUncor_pwr (s : State) (fn bit : Nat) : (reportUncor s fn bit).pwr = s.pwr := rfl
@[simp] theorem reportUncor_cool (s : State) (fn bit : Nat) : (reportUncor s fn bit).cool = s.cool := rfl
@[simp] theorem reportUncor_pins (s : State) (fn bit : Nat) : (reportUncor s fn bit).pins = s.pins := rfl
@[simp] theorem reportUncor_pending (s : State) (fn bit : Nat) : (reportUncor s fn bit).pending = s.pending := rfl
@[simp] theorem reportUncor_freeCtr (s : State) (fn bit : Nat) : (reportUncor s fn bit).freeCtr = s.freeCtr := rfl
@[simp] theorem reportCor_time (s : State) (fn bit : Nat) : (reportCor s fn bit).time = s.time := rfl
@[simp] theorem reportCor_alm (s : State) (fn bit : Nat) : (reportCor s fn bit).alm = s.alm := rfl
@[simp] theorem reportCor_settings (s : State) (fn bit : Nat) : (reportCor s fn bit).settings = s.settings := rfl
@[simp] theorem reportCor_fw (s : State) (fn bit : Nat) : (reportCor s fn bit).fw = s.fw := rfl
@[simp] theorem reportCor_media (s : State) (fn bit : Nat) : (reportCor s fn bit).media = s.media := rfl
@[simp] theorem reportCor_map (s : State) (fn bit : Nat) : (reportCor s fn bit).map = s.map := rfl
@[simp] theorem reportCor_red (s : State) (fn bit : Nat) : (reportCor s fn bit).red = s.red := rfl
@[simp] theorem reportCor_ret (s : State) (fn bit : Nat) : (reportCor s fn bit).ret = s.ret := rfl
@[simp] theorem reportCor_sealing (s : State) (fn bit : Nat) : (reportCor s fn bit).sealing = s.sealing := rfl
@[simp] theorem reportCor_halo (s : State) (fn bit : Nat) : (reportCor s fn bit).halo = s.halo := rfl
@[simp] theorem reportCor_nvme (s : State) (fn bit : Nat) : (reportCor s fn bit).nvme = s.nvme := rfl
@[simp] theorem reportCor_vf (s : State) (fn bit : Nat) : (reportCor s fn bit).vf = s.vf := rfl
@[simp] theorem reportCor_mbx (s : State) (fn bit : Nat) : (reportCor s fn bit).mbx = s.mbx := rfl
@[simp] theorem reportCor_boot (s : State) (fn bit : Nat) : (reportCor s fn bit).boot = s.boot := rfl
@[simp] theorem reportCor_dram (s : State) (fn bit : Nat) : (reportCor s fn bit).dram = s.dram := rfl
@[simp] theorem reportCor_pwr (s : State) (fn bit : Nat) : (reportCor s fn bit).pwr = s.pwr := rfl
@[simp] theorem reportCor_cool (s : State) (fn bit : Nat) : (reportCor s fn bit).cool = s.cool := rfl
@[simp] theorem reportCor_pins (s : State) (fn bit : Nat) : (reportCor s fn bit).pins = s.pins := rfl
@[simp] theorem reportCor_pending (s : State) (fn bit : Nat) : (reportCor s fn bit).pending = s.pending := rfl
@[simp] theorem reportCor_freeCtr (s : State) (fn bit : Nat) : (reportCor s fn bit).freeCtr = s.freeCtr := rfl
@[simp] theorem count_time (s : State) (f : PortCounters → PortCounters) : (count s f).time = s.time := rfl
@[simp] theorem count_alm (s : State) (f : PortCounters → PortCounters) : (count s f).alm = s.alm := rfl
@[simp] theorem count_settings (s : State) (f : PortCounters → PortCounters) : (count s f).settings = s.settings := rfl
@[simp] theorem count_fw (s : State) (f : PortCounters → PortCounters) : (count s f).fw = s.fw := rfl
@[simp] theorem count_media (s : State) (f : PortCounters → PortCounters) : (count s f).media = s.media := rfl
@[simp] theorem count_map (s : State) (f : PortCounters → PortCounters) : (count s f).map = s.map := rfl
@[simp] theorem count_red (s : State) (f : PortCounters → PortCounters) : (count s f).red = s.red := rfl
@[simp] theorem count_ret (s : State) (f : PortCounters → PortCounters) : (count s f).ret = s.ret := rfl
@[simp] theorem count_sealing (s : State) (f : PortCounters → PortCounters) : (count s f).sealing = s.sealing := rfl
@[simp] theorem count_halo (s : State) (f : PortCounters → PortCounters) : (count s f).halo = s.halo := rfl
@[simp] theorem count_nvme (s : State) (f : PortCounters → PortCounters) : (count s f).nvme = s.nvme := rfl
@[simp] theorem count_vf (s : State) (f : PortCounters → PortCounters) : (count s f).vf = s.vf := rfl
@[simp] theorem count_mbx (s : State) (f : PortCounters → PortCounters) : (count s f).mbx = s.mbx := rfl
@[simp] theorem count_boot (s : State) (f : PortCounters → PortCounters) : (count s f).boot = s.boot := rfl
@[simp] theorem count_dram (s : State) (f : PortCounters → PortCounters) : (count s f).dram = s.dram := rfl
@[simp] theorem count_pwr (s : State) (f : PortCounters → PortCounters) : (count s f).pwr = s.pwr := rfl
@[simp] theorem count_cool (s : State) (f : PortCounters → PortCounters) : (count s f).cool = s.cool := rfl
@[simp] theorem count_pins (s : State) (f : PortCounters → PortCounters) : (count s f).pins = s.pins := rfl
@[simp] theorem count_pending (s : State) (f : PortCounters → PortCounters) : (count s f).pending = s.pending := rfl
@[simp] theorem count_freeCtr (s : State) (f : PortCounters → PortCounters) : (count s f).freeCtr = s.freeCtr := rfl
@[simp] theorem calWrite_time (s : State) (off : Nat) (b : Bytes) : (calWrite s off b).time = s.time := rfl
@[simp] theorem calWrite_alm (s : State) (off : Nat) (b : Bytes) : (calWrite s off b).alm = s.alm := rfl
@[simp] theorem calWrite_settings (s : State) (off : Nat) (b : Bytes) : (calWrite s off b).settings = s.settings := rfl
@[simp] theorem calWrite_fw (s : State) (off : Nat) (b : Bytes) : (calWrite s off b).fw = s.fw := rfl
@[simp] theorem calWrite_media (s : State) (off : Nat) (b : Bytes) : (calWrite s off b).media = s.media := rfl
@[simp] theorem calWrite_map (s : State) (off : Nat) (b : Bytes) : (calWrite s off b).map = s.map := rfl
@[simp] theorem calWrite_red (s : State) (off : Nat) (b : Bytes) : (calWrite s off b).red = s.red := rfl
@[simp] theorem calWrite_ret (s : State) (off : Nat) (b : Bytes) : (calWrite s off b).ret = s.ret := rfl
@[simp] theorem calWrite_sealing (s : State) (off : Nat) (b : Bytes) : (calWrite s off b).sealing = s.sealing := rfl
@[simp] theorem calWrite_halo (s : State) (off : Nat) (b : Bytes) : (calWrite s off b).halo = s.halo := rfl
@[simp] theorem calWrite_host (s : State) (off : Nat) (b : Bytes) : (calWrite s off b).host = s.host := rfl
@[simp] theorem calWrite_nvme (s : State) (off : Nat) (b : Bytes) : (calWrite s off b).nvme = s.nvme := rfl
@[simp] theorem calWrite_vf (s : State) (off : Nat) (b : Bytes) : (calWrite s off b).vf = s.vf := rfl
@[simp] theorem calWrite_mbx (s : State) (off : Nat) (b : Bytes) : (calWrite s off b).mbx = s.mbx := rfl
@[simp] theorem calWrite_boot (s : State) (off : Nat) (b : Bytes) : (calWrite s off b).boot = s.boot := rfl
@[simp] theorem calWrite_dram (s : State) (off : Nat) (b : Bytes) : (calWrite s off b).dram = s.dram := rfl
@[simp] theorem calWrite_cool (s : State) (off : Nat) (b : Bytes) : (calWrite s off b).cool = s.cool := rfl
@[simp] theorem calWrite_pins (s : State) (off : Nat) (b : Bytes) : (calWrite s off b).pins = s.pins := rfl
@[simp] theorem calWrite_pending (s : State) (off : Nat) (b : Bytes) : (calWrite s off b).pending = s.pending := rfl
@[simp] theorem calWrite_freeCtr (s : State) (off : Nat) (b : Bytes) : (calWrite s off b).freeCtr = s.freeCtr := rfl
@[simp] theorem installKey_time (s : State) (index : Nat) (k : PubKey) : (installKey s index k).time = s.time := rfl
@[simp] theorem installKey_alm (s : State) (index : Nat) (k : PubKey) : (installKey s index k).alm = s.alm := rfl
@[simp] theorem installKey_settings (s : State) (index : Nat) (k : PubKey) : (installKey s index k).settings = s.settings := rfl
@[simp] theorem installKey_fw (s : State) (index : Nat) (k : PubKey) : (installKey s index k).fw = s.fw := rfl
@[simp] theorem installKey_media (s : State) (index : Nat) (k : PubKey) : (installKey s index k).media = s.media := rfl
@[simp] theorem installKey_map (s : State) (index : Nat) (k : PubKey) : (installKey s index k).map = s.map := rfl
@[simp] theorem installKey_red (s : State) (index : Nat) (k : PubKey) : (installKey s index k).red = s.red := rfl
@[simp] theorem installKey_ret (s : State) (index : Nat) (k : PubKey) : (installKey s index k).ret = s.ret := rfl
@[simp] theorem installKey_sealing (s : State) (index : Nat) (k : PubKey) : (installKey s index k).sealing = s.sealing := rfl
@[simp] theorem installKey_halo (s : State) (index : Nat) (k : PubKey) : (installKey s index k).halo = s.halo := rfl
@[simp] theorem installKey_host (s : State) (index : Nat) (k : PubKey) : (installKey s index k).host = s.host := rfl
@[simp] theorem installKey_nvme (s : State) (index : Nat) (k : PubKey) : (installKey s index k).nvme = s.nvme := rfl
@[simp] theorem installKey_vf (s : State) (index : Nat) (k : PubKey) : (installKey s index k).vf = s.vf := rfl
@[simp] theorem installKey_boot (s : State) (index : Nat) (k : PubKey) : (installKey s index k).boot = s.boot := rfl
@[simp] theorem installKey_dram (s : State) (index : Nat) (k : PubKey) : (installKey s index k).dram = s.dram := rfl
@[simp] theorem installKey_pwr (s : State) (index : Nat) (k : PubKey) : (installKey s index k).pwr = s.pwr := rfl
@[simp] theorem installKey_cool (s : State) (index : Nat) (k : PubKey) : (installKey s index k).cool = s.cool := rfl
@[simp] theorem installKey_pins (s : State) (index : Nat) (k : PubKey) : (installKey s index k).pins = s.pins := rfl
@[simp] theorem installKey_pending (s : State) (index : Nat) (k : PubKey) : (installKey s index k).pending = s.pending := rfl
@[simp] theorem installKey_freeCtr (s : State) (index : Nat) (k : PubKey) : (installKey s index k).freeCtr = s.freeCtr := rfl
@[simp] theorem csDone_time (s : State) (tag : Word16) (status offset : Nat) : (csDone s tag status offset).time = s.time := rfl
@[simp] theorem csDone_alm (s : State) (tag : Word16) (status offset : Nat) : (csDone s tag status offset).alm = s.alm := rfl
@[simp] theorem csDone_settings (s : State) (tag : Word16) (status offset : Nat) : (csDone s tag status offset).settings = s.settings := rfl
@[simp] theorem csDone_fw (s : State) (tag : Word16) (status offset : Nat) : (csDone s tag status offset).fw = s.fw := rfl
@[simp] theorem csDone_map (s : State) (tag : Word16) (status offset : Nat) : (csDone s tag status offset).map = s.map := rfl
@[simp] theorem csDone_red (s : State) (tag : Word16) (status offset : Nat) : (csDone s tag status offset).red = s.red := rfl
@[simp] theorem csDone_ret (s : State) (tag : Word16) (status offset : Nat) : (csDone s tag status offset).ret = s.ret := rfl
@[simp] theorem csDone_sealing (s : State) (tag : Word16) (status offset : Nat) : (csDone s tag status offset).sealing = s.sealing := rfl
@[simp] theorem csDone_halo (s : State) (tag : Word16) (status offset : Nat) : (csDone s tag status offset).halo = s.halo := rfl
@[simp] theorem csDone_host (s : State) (tag : Word16) (status offset : Nat) : (csDone s tag status offset).host = s.host := rfl
@[simp] theorem csDone_nvme (s : State) (tag : Word16) (status offset : Nat) : (csDone s tag status offset).nvme = s.nvme := rfl
@[simp] theorem csDone_vf (s : State) (tag : Word16) (status offset : Nat) : (csDone s tag status offset).vf = s.vf := rfl
@[simp] theorem csDone_mbx (s : State) (tag : Word16) (status offset : Nat) : (csDone s tag status offset).mbx = s.mbx := rfl
@[simp] theorem csDone_boot (s : State) (tag : Word16) (status offset : Nat) : (csDone s tag status offset).boot = s.boot := rfl
@[simp] theorem csDone_dram (s : State) (tag : Word16) (status offset : Nat) : (csDone s tag status offset).dram = s.dram := rfl
@[simp] theorem csDone_pwr (s : State) (tag : Word16) (status offset : Nat) : (csDone s tag status offset).pwr = s.pwr := rfl
@[simp] theorem csDone_cool (s : State) (tag : Word16) (status offset : Nat) : (csDone s tag status offset).cool = s.cool := rfl
@[simp] theorem csDone_pins (s : State) (tag : Word16) (status offset : Nat) : (csDone s tag status offset).pins = s.pins := rfl
@[simp] theorem csDone_pending (s : State) (tag : Word16) (status offset : Nat) : (csDone s tag status offset).pending = s.pending := rfl
@[simp] theorem csDone_freeCtr (s : State) (tag : Word16) (status offset : Nat) : (csDone s tag status offset).freeCtr = s.freeCtr := rfl
@[simp] theorem consumeChallenge_time (s : State) (key : Nat) : (consumeChallenge s key).time = s.time := rfl
@[simp] theorem consumeChallenge_alm (s : State) (key : Nat) : (consumeChallenge s key).alm = s.alm := rfl
@[simp] theorem consumeChallenge_settings (s : State) (key : Nat) : (consumeChallenge s key).settings = s.settings := rfl
@[simp] theorem consumeChallenge_fw (s : State) (key : Nat) : (consumeChallenge s key).fw = s.fw := rfl
@[simp] theorem consumeChallenge_media (s : State) (key : Nat) : (consumeChallenge s key).media = s.media := rfl
@[simp] theorem consumeChallenge_map (s : State) (key : Nat) : (consumeChallenge s key).map = s.map := rfl
@[simp] theorem consumeChallenge_red (s : State) (key : Nat) : (consumeChallenge s key).red = s.red := rfl
@[simp] theorem consumeChallenge_ret (s : State) (key : Nat) : (consumeChallenge s key).ret = s.ret := rfl
@[simp] theorem consumeChallenge_sealing (s : State) (key : Nat) : (consumeChallenge s key).sealing = s.sealing := rfl
@[simp] theorem consumeChallenge_halo (s : State) (key : Nat) : (consumeChallenge s key).halo = s.halo := rfl
@[simp] theorem consumeChallenge_host (s : State) (key : Nat) : (consumeChallenge s key).host = s.host := rfl
@[simp] theorem consumeChallenge_nvme (s : State) (key : Nat) : (consumeChallenge s key).nvme = s.nvme := rfl
@[simp] theorem consumeChallenge_vf (s : State) (key : Nat) : (consumeChallenge s key).vf = s.vf := rfl
@[simp] theorem consumeChallenge_boot (s : State) (key : Nat) : (consumeChallenge s key).boot = s.boot := rfl
@[simp] theorem consumeChallenge_dram (s : State) (key : Nat) : (consumeChallenge s key).dram = s.dram := rfl
@[simp] theorem consumeChallenge_pwr (s : State) (key : Nat) : (consumeChallenge s key).pwr = s.pwr := rfl
@[simp] theorem consumeChallenge_cool (s : State) (key : Nat) : (consumeChallenge s key).cool = s.cool := rfl
@[simp] theorem consumeChallenge_pins (s : State) (key : Nat) : (consumeChallenge s key).pins = s.pins := rfl
@[simp] theorem consumeChallenge_pending (s : State) (key : Nat) : (consumeChallenge s key).pending = s.pending := rfl
@[simp] theorem consumeChallenge_freeCtr (s : State) (key : Nat) : (consumeChallenge s key).freeCtr = s.freeCtr := rfl
@[simp] theorem signalPme_time (s : State) : (signalPme s).time = s.time := by
  simp only [signalPme]; (repeat' split) <;> simp
@[simp] theorem signalPme_alm (s : State) : (signalPme s).alm = s.alm := by
  simp only [signalPme]; (repeat' split) <;> simp
@[simp] theorem signalPme_settings (s : State) : (signalPme s).settings = s.settings := by
  simp only [signalPme]; (repeat' split) <;> simp
@[simp] theorem signalPme_fw (s : State) : (signalPme s).fw = s.fw := by
  simp only [signalPme]; (repeat' split) <;> simp
@[simp] theorem signalPme_media (s : State) : (signalPme s).media = s.media := by
  simp only [signalPme]; (repeat' split) <;> simp
@[simp] theorem signalPme_map (s : State) : (signalPme s).map = s.map := by
  simp only [signalPme]; (repeat' split) <;> simp
@[simp] theorem signalPme_red (s : State) : (signalPme s).red = s.red := by
  simp only [signalPme]; (repeat' split) <;> simp
@[simp] theorem signalPme_ret (s : State) : (signalPme s).ret = s.ret := by
  simp only [signalPme]; (repeat' split) <;> simp
@[simp] theorem signalPme_sealing (s : State) : (signalPme s).sealing = s.sealing := by
  simp only [signalPme]; (repeat' split) <;> simp
@[simp] theorem signalPme_halo (s : State) : (signalPme s).halo = s.halo := by
  simp only [signalPme]; (repeat' split) <;> simp
@[simp] theorem signalPme_nvme (s : State) : (signalPme s).nvme = s.nvme := by
  simp only [signalPme]; (repeat' split) <;> simp
@[simp] theorem signalPme_vf (s : State) : (signalPme s).vf = s.vf := by
  simp only [signalPme]; (repeat' split) <;> simp
@[simp] theorem signalPme_mbx (s : State) : (signalPme s).mbx = s.mbx := by
  simp only [signalPme]; (repeat' split) <;> simp
@[simp] theorem signalPme_boot (s : State) : (signalPme s).boot = s.boot := by
  simp only [signalPme]; (repeat' split) <;> simp
@[simp] theorem signalPme_dram (s : State) : (signalPme s).dram = s.dram := by
  simp only [signalPme]; (repeat' split) <;> simp
@[simp] theorem signalPme_pwr (s : State) : (signalPme s).pwr = s.pwr := by
  simp only [signalPme]; (repeat' split) <;> simp
@[simp] theorem signalPme_cool (s : State) : (signalPme s).cool = s.cool := by
  simp only [signalPme]; (repeat' split) <;> simp
@[simp] theorem signalPme_pins (s : State) : (signalPme s).pins = s.pins := by
  simp only [signalPme]; (repeat' split) <;> simp
@[simp] theorem signalPme_pending (s : State) : (signalPme s).pending = s.pending := by
  simp only [signalPme]; (repeat' split) <;> simp
@[simp] theorem signalPme_freeCtr (s : State) : (signalPme s).freeCtr = s.freeCtr := by
  simp only [signalPme]; (repeat' split) <;> simp
@[simp] theorem acceptRecord_time (s : State) (code : Nat) (sev : Severity) (params : Bytes) : (acceptRecord s code sev params).time = s.time := by
  simp only [acceptRecord]; (repeat' split) <;> simp
@[simp] theorem acceptRecord_settings (s : State) (code : Nat) (sev : Severity) (params : Bytes) : (acceptRecord s code sev params).settings = s.settings := by
  simp only [acceptRecord]; (repeat' split) <;> simp
@[simp] theorem acceptRecord_fw (s : State) (code : Nat) (sev : Severity) (params : Bytes) : (acceptRecord s code sev params).fw = s.fw := by
  simp only [acceptRecord]; (repeat' split) <;> simp
@[simp] theorem acceptRecord_media (s : State) (code : Nat) (sev : Severity) (params : Bytes) : (acceptRecord s code sev params).media = s.media := by
  simp only [acceptRecord]; (repeat' split) <;> simp
@[simp] theorem acceptRecord_map (s : State) (code : Nat) (sev : Severity) (params : Bytes) : (acceptRecord s code sev params).map = s.map := by
  simp only [acceptRecord]; (repeat' split) <;> simp
@[simp] theorem acceptRecord_red (s : State) (code : Nat) (sev : Severity) (params : Bytes) : (acceptRecord s code sev params).red = s.red := by
  simp only [acceptRecord]; (repeat' split) <;> simp
@[simp] theorem acceptRecord_ret (s : State) (code : Nat) (sev : Severity) (params : Bytes) : (acceptRecord s code sev params).ret = s.ret := by
  simp only [acceptRecord]; (repeat' split) <;> simp
@[simp] theorem acceptRecord_sealing (s : State) (code : Nat) (sev : Severity) (params : Bytes) : (acceptRecord s code sev params).sealing = s.sealing := by
  simp only [acceptRecord]; (repeat' split) <;> simp
@[simp] theorem acceptRecord_halo (s : State) (code : Nat) (sev : Severity) (params : Bytes) : (acceptRecord s code sev params).halo = s.halo := by
  simp only [acceptRecord]; (repeat' split) <;> simp
@[simp] theorem acceptRecord_host (s : State) (code : Nat) (sev : Severity) (params : Bytes) : (acceptRecord s code sev params).host = s.host := by
  simp only [acceptRecord]; (repeat' split) <;> simp
@[simp] theorem acceptRecord_nvme (s : State) (code : Nat) (sev : Severity) (params : Bytes) : (acceptRecord s code sev params).nvme = s.nvme := by
  simp only [acceptRecord]; (repeat' split) <;> simp
@[simp] theorem acceptRecord_vf (s : State) (code : Nat) (sev : Severity) (params : Bytes) : (acceptRecord s code sev params).vf = s.vf := by
  simp only [acceptRecord]; (repeat' split) <;> simp
@[simp] theorem acceptRecord_mbx (s : State) (code : Nat) (sev : Severity) (params : Bytes) : (acceptRecord s code sev params).mbx = s.mbx := by
  simp only [acceptRecord]; (repeat' split) <;> simp
@[simp] theorem acceptRecord_boot (s : State) (code : Nat) (sev : Severity) (params : Bytes) : (acceptRecord s code sev params).boot = s.boot := by
  simp only [acceptRecord]; (repeat' split) <;> simp
@[simp] theorem acceptRecord_dram (s : State) (code : Nat) (sev : Severity) (params : Bytes) : (acceptRecord s code sev params).dram = s.dram := by
  simp only [acceptRecord]; (repeat' split) <;> simp
@[simp] theorem acceptRecord_pwr (s : State) (code : Nat) (sev : Severity) (params : Bytes) : (acceptRecord s code sev params).pwr = s.pwr := by
  simp only [acceptRecord]; (repeat' split) <;> simp
@[simp] theorem acceptRecord_cool (s : State) (code : Nat) (sev : Severity) (params : Bytes) : (acceptRecord s code sev params).cool = s.cool := by
  simp only [acceptRecord]; (repeat' split) <;> simp
@[simp] theorem acceptRecord_pins (s : State) (code : Nat) (sev : Severity) (params : Bytes) : (acceptRecord s code sev params).pins = s.pins := by
  simp only [acceptRecord]; (repeat' split) <;> simp
@[simp] theorem acceptRecord_pending (s : State) (code : Nat) (sev : Severity) (params : Bytes) : (acceptRecord s code sev params).pending = s.pending := by
  simp only [acceptRecord]; (repeat' split) <;> simp
@[simp] theorem acceptRecord_freeCtr (s : State) (code : Nat) (sev : Severity) (params : Bytes) : (acceptRecord s code sev params).freeCtr = s.freeCtr := by
  simp only [acceptRecord]; (repeat' split) <;> simp
@[simp] theorem record_time (s : State) (code : Nat) (sev : Severity) (params : Bytes) : (record s code sev params).time = s.time := by
  simp only [record]; (repeat' split) <;> simp
@[simp] theorem record_settings (s : State) (code : Nat) (sev : Severity) (params : Bytes) : (record s code sev params).settings = s.settings := by
  simp only [record]; (repeat' split) <;> simp
@[simp] theorem record_fw (s : State) (code : Nat) (sev : Severity) (params : Bytes) : (record s code sev params).fw = s.fw := by
  simp only [record]; (repeat' split) <;> simp
@[simp] theorem record_media (s : State) (code : Nat) (sev : Severity) (params : Bytes) : (record s code sev params).media = s.media := by
  simp only [record]; (repeat' split) <;> simp
@[simp] theorem record_map (s : State) (code : Nat) (sev : Severity) (params : Bytes) : (record s code sev params).map = s.map := by
  simp only [record]; (repeat' split) <;> simp
@[simp] theorem record_red (s : State) (code : Nat) (sev : Severity) (params : Bytes) : (record s code sev params).red = s.red := by
  simp only [record]; (repeat' split) <;> simp
@[simp] theorem record_ret (s : State) (code : Nat) (sev : Severity) (params : Bytes) : (record s code sev params).ret = s.ret := by
  simp only [record]; (repeat' split) <;> simp
@[simp] theorem record_sealing (s : State) (code : Nat) (sev : Severity) (params : Bytes) : (record s code sev params).sealing = s.sealing := by
  simp only [record]; (repeat' split) <;> simp
@[simp] theorem record_halo (s : State) (code : Nat) (sev : Severity) (params : Bytes) : (record s code sev params).halo = s.halo := by
  simp only [record]; (repeat' split) <;> simp
@[simp] theorem record_nvme (s : State) (code : Nat) (sev : Severity) (params : Bytes) : (record s code sev params).nvme = s.nvme := by
  simp only [record]; (repeat' split) <;> simp
@[simp] theorem record_vf (s : State) (code : Nat) (sev : Severity) (params : Bytes) : (record s code sev params).vf = s.vf := by
  simp only [record]; (repeat' split) <;> simp
@[simp] theorem record_mbx (s : State) (code : Nat) (sev : Severity) (params : Bytes) : (record s code sev params).mbx = s.mbx := by
  simp only [record]; (repeat' split) <;> simp
@[simp] theorem record_boot (s : State) (code : Nat) (sev : Severity) (params : Bytes) : (record s code sev params).boot = s.boot := by
  simp only [record]; (repeat' split) <;> simp
@[simp] theorem record_dram (s : State) (code : Nat) (sev : Severity) (params : Bytes) : (record s code sev params).dram = s.dram := by
  simp only [record]; (repeat' split) <;> simp
@[simp] theorem record_pwr (s : State) (code : Nat) (sev : Severity) (params : Bytes) : (record s code sev params).pwr = s.pwr := by
  simp only [record]; (repeat' split) <;> simp
@[simp] theorem record_cool (s : State) (code : Nat) (sev : Severity) (params : Bytes) : (record s code sev params).cool = s.cool := by
  simp only [record]; (repeat' split) <;> simp
@[simp] theorem record_pins (s : State) (code : Nat) (sev : Severity) (params : Bytes) : (record s code sev params).pins = s.pins := by
  simp only [record]; (repeat' split) <;> simp
@[simp] theorem record_pending (s : State) (code : Nat) (sev : Severity) (params : Bytes) : (record s code sev params).pending = s.pending := by
  simp only [record]; (repeat' split) <;> simp
@[simp] theorem record_freeCtr (s : State) (code : Nat) (sev : Severity) (params : Bytes) : (record s code sev params).freeCtr = s.freeCtr := by
  simp only [record]; (repeat' split) <;> simp
@[simp] theorem recordIf_time (c : Bool) (s : State) (code : Nat) (sev : Severity) (params : Bytes) : (recordIf c s code sev params).time = s.time := by
  simp only [recordIf]; (repeat' split) <;> simp
@[simp] theorem recordIf_settings (c : Bool) (s : State) (code : Nat) (sev : Severity) (params : Bytes) : (recordIf c s code sev params).settings = s.settings := by
  simp only [recordIf]; (repeat' split) <;> simp
@[simp] theorem recordIf_fw (c : Bool) (s : State) (code : Nat) (sev : Severity) (params : Bytes) : (recordIf c s code sev params).fw = s.fw := by
  simp only [recordIf]; (repeat' split) <;> simp
@[simp] theorem recordIf_media (c : Bool) (s : State) (code : Nat) (sev : Severity) (params : Bytes) : (recordIf c s code sev params).media = s.media := by
  simp only [recordIf]; (repeat' split) <;> simp
@[simp] theorem recordIf_map (c : Bool) (s : State) (code : Nat) (sev : Severity) (params : Bytes) : (recordIf c s code sev params).map = s.map := by
  simp only [recordIf]; (repeat' split) <;> simp
@[simp] theorem recordIf_red (c : Bool) (s : State) (code : Nat) (sev : Severity) (params : Bytes) : (recordIf c s code sev params).red = s.red := by
  simp only [recordIf]; (repeat' split) <;> simp
@[simp] theorem recordIf_ret (c : Bool) (s : State) (code : Nat) (sev : Severity) (params : Bytes) : (recordIf c s code sev params).ret = s.ret := by
  simp only [recordIf]; (repeat' split) <;> simp
@[simp] theorem recordIf_sealing (c : Bool) (s : State) (code : Nat) (sev : Severity) (params : Bytes) : (recordIf c s code sev params).sealing = s.sealing := by
  simp only [recordIf]; (repeat' split) <;> simp
@[simp] theorem recordIf_halo (c : Bool) (s : State) (code : Nat) (sev : Severity) (params : Bytes) : (recordIf c s code sev params).halo = s.halo := by
  simp only [recordIf]; (repeat' split) <;> simp
@[simp] theorem recordIf_nvme (c : Bool) (s : State) (code : Nat) (sev : Severity) (params : Bytes) : (recordIf c s code sev params).nvme = s.nvme := by
  simp only [recordIf]; (repeat' split) <;> simp
@[simp] theorem recordIf_vf (c : Bool) (s : State) (code : Nat) (sev : Severity) (params : Bytes) : (recordIf c s code sev params).vf = s.vf := by
  simp only [recordIf]; (repeat' split) <;> simp
@[simp] theorem recordIf_mbx (c : Bool) (s : State) (code : Nat) (sev : Severity) (params : Bytes) : (recordIf c s code sev params).mbx = s.mbx := by
  simp only [recordIf]; (repeat' split) <;> simp
@[simp] theorem recordIf_boot (c : Bool) (s : State) (code : Nat) (sev : Severity) (params : Bytes) : (recordIf c s code sev params).boot = s.boot := by
  simp only [recordIf]; (repeat' split) <;> simp
@[simp] theorem recordIf_dram (c : Bool) (s : State) (code : Nat) (sev : Severity) (params : Bytes) : (recordIf c s code sev params).dram = s.dram := by
  simp only [recordIf]; (repeat' split) <;> simp
@[simp] theorem recordIf_pwr (c : Bool) (s : State) (code : Nat) (sev : Severity) (params : Bytes) : (recordIf c s code sev params).pwr = s.pwr := by
  simp only [recordIf]; (repeat' split) <;> simp
@[simp] theorem recordIf_cool (c : Bool) (s : State) (code : Nat) (sev : Severity) (params : Bytes) : (recordIf c s code sev params).cool = s.cool := by
  simp only [recordIf]; (repeat' split) <;> simp
@[simp] theorem recordIf_pins (c : Bool) (s : State) (code : Nat) (sev : Severity) (params : Bytes) : (recordIf c s code sev params).pins = s.pins := by
  simp only [recordIf]; (repeat' split) <;> simp
@[simp] theorem recordIf_pending (c : Bool) (s : State) (code : Nat) (sev : Severity) (params : Bytes) : (recordIf c s code sev params).pending = s.pending := by
  simp only [recordIf]; (repeat' split) <;> simp
@[simp] theorem recordIf_freeCtr (c : Bool) (s : State) (code : Nat) (sev : Severity) (params : Bytes) : (recordIf c s code sev params).freeCtr = s.freeCtr := by
  simp only [recordIf]; (repeat' split) <;> simp
theorem settleSetpoints_same {β : Type} (p : State → β) (h : ∀ s m f, p (modMotor s m f) = p s) (s : State) : p (settleSetpoints s) = p s := by
  unfold settleSetpoints
  split
  · rfl
  · have key : ∀ (l : List Nat) (s : State), p (l.foldl (fun s m =>
        if (motorAt s m).st = .run then modMotor s m (fun x => { x with setpoint := setpointOf s m }) else s) s) = p s := by
      intro l
      induction l with
      | nil => intro s; rfl
      | cons a l ih => intro s; rw [List.foldl_cons, ih]; split <;> simp only [h]
    exact key _ s
@[simp] theorem settleSetpoints_time (s : State) : (settleSetpoints s).time = s.time := settleSetpoints_same State.time (fun _ _ _ => rfl) s
@[simp] theorem settleSetpoints_alm (s : State) : (settleSetpoints s).alm = s.alm := settleSetpoints_same State.alm (fun _ _ _ => rfl) s
@[simp] theorem settleSetpoints_settings (s : State) : (settleSetpoints s).settings = s.settings := settleSetpoints_same State.settings (fun _ _ _ => rfl) s
@[simp] theorem settleSetpoints_fw (s : State) : (settleSetpoints s).fw = s.fw := settleSetpoints_same State.fw (fun _ _ _ => rfl) s
@[simp] theorem settleSetpoints_media (s : State) : (settleSetpoints s).media = s.media := settleSetpoints_same State.media (fun _ _ _ => rfl) s
@[simp] theorem settleSetpoints_map (s : State) : (settleSetpoints s).map = s.map := settleSetpoints_same State.map (fun _ _ _ => rfl) s
@[simp] theorem settleSetpoints_red (s : State) : (settleSetpoints s).red = s.red := settleSetpoints_same State.red (fun _ _ _ => rfl) s
@[simp] theorem settleSetpoints_ret (s : State) : (settleSetpoints s).ret = s.ret := settleSetpoints_same State.ret (fun _ _ _ => rfl) s
@[simp] theorem settleSetpoints_sealing (s : State) : (settleSetpoints s).sealing = s.sealing := settleSetpoints_same State.sealing (fun _ _ _ => rfl) s
@[simp] theorem settleSetpoints_halo (s : State) : (settleSetpoints s).halo = s.halo := settleSetpoints_same State.halo (fun _ _ _ => rfl) s
@[simp] theorem settleSetpoints_host (s : State) : (settleSetpoints s).host = s.host := settleSetpoints_same State.host (fun _ _ _ => rfl) s
@[simp] theorem settleSetpoints_nvme (s : State) : (settleSetpoints s).nvme = s.nvme := settleSetpoints_same State.nvme (fun _ _ _ => rfl) s
@[simp] theorem settleSetpoints_vf (s : State) : (settleSetpoints s).vf = s.vf := settleSetpoints_same State.vf (fun _ _ _ => rfl) s
@[simp] theorem settleSetpoints_mbx (s : State) : (settleSetpoints s).mbx = s.mbx := settleSetpoints_same State.mbx (fun _ _ _ => rfl) s
@[simp] theorem settleSetpoints_boot (s : State) : (settleSetpoints s).boot = s.boot := settleSetpoints_same State.boot (fun _ _ _ => rfl) s
@[simp] theorem settleSetpoints_dram (s : State) : (settleSetpoints s).dram = s.dram := settleSetpoints_same State.dram (fun _ _ _ => rfl) s
@[simp] theorem settleSetpoints_pwr (s : State) : (settleSetpoints s).pwr = s.pwr := settleSetpoints_same State.pwr (fun _ _ _ => rfl) s
@[simp] theorem settleSetpoints_pins (s : State) : (settleSetpoints s).pins = s.pins := settleSetpoints_same State.pins (fun _ _ _ => rfl) s
@[simp] theorem settleSetpoints_pending (s : State) : (settleSetpoints s).pending = s.pending := settleSetpoints_same State.pending (fun _ _ _ => rfl) s
@[simp] theorem settleSetpoints_freeCtr (s : State) : (settleSetpoints s).freeCtr = s.freeCtr := settleSetpoints_same State.freeCtr (fun _ _ _ => rfl) s
@[simp] theorem stopMotor_time (s : State) (m : Nat) : (stopMotor s m).time = s.time := by
  simp only [stopMotor]; (repeat' split) <;> simp
@[simp] theorem stopMotor_alm (s : State) (m : Nat) : (stopMotor s m).alm = s.alm := by
  simp only [stopMotor]; (repeat' split) <;> simp
@[simp] theorem stopMotor_settings (s : State) (m : Nat) : (stopMotor s m).settings = s.settings := by
  simp only [stopMotor]; (repeat' split) <;> simp
@[simp] theorem stopMotor_fw (s : State) (m : Nat) : (stopMotor s m).fw = s.fw := by
  simp only [stopMotor]; (repeat' split) <;> simp
@[simp] theorem stopMotor_media (s : State) (m : Nat) : (stopMotor s m).media = s.media := by
  simp only [stopMotor]; (repeat' split) <;> simp
@[simp] theorem stopMotor_map (s : State) (m : Nat) : (stopMotor s m).map = s.map := by
  simp only [stopMotor]; (repeat' split) <;> simp
@[simp] theorem stopMotor_red (s : State) (m : Nat) : (stopMotor s m).red = s.red := by
  simp only [stopMotor]; (repeat' split) <;> simp
@[simp] theorem stopMotor_ret (s : State) (m : Nat) : (stopMotor s m).ret = s.ret := by
  simp only [stopMotor]; (repeat' split) <;> simp
@[simp] theorem stopMotor_sealing (s : State) (m : Nat) : (stopMotor s m).sealing = s.sealing := by
  simp only [stopMotor]; (repeat' split) <;> simp
@[simp] theorem stopMotor_halo (s : State) (m : Nat) : (stopMotor s m).halo = s.halo := by
  simp only [stopMotor]; (repeat' split) <;> simp
@[simp] theorem stopMotor_host (s : State) (m : Nat) : (stopMotor s m).host = s.host := by
  simp only [stopMotor]; (repeat' split) <;> simp
@[simp] theorem stopMotor_nvme (s : State) (m : Nat) : (stopMotor s m).nvme = s.nvme := by
  simp only [stopMotor]; (repeat' split) <;> simp
@[simp] theorem stopMotor_vf (s : State) (m : Nat) : (stopMotor s m).vf = s.vf := by
  simp only [stopMotor]; (repeat' split) <;> simp
@[simp] theorem stopMotor_mbx (s : State) (m : Nat) : (stopMotor s m).mbx = s.mbx := by
  simp only [stopMotor]; (repeat' split) <;> simp
@[simp] theorem stopMotor_boot (s : State) (m : Nat) : (stopMotor s m).boot = s.boot := by
  simp only [stopMotor]; (repeat' split) <;> simp
@[simp] theorem stopMotor_dram (s : State) (m : Nat) : (stopMotor s m).dram = s.dram := by
  simp only [stopMotor]; (repeat' split) <;> simp
@[simp] theorem stopMotor_pwr (s : State) (m : Nat) : (stopMotor s m).pwr = s.pwr := by
  simp only [stopMotor]; (repeat' split) <;> simp
@[simp] theorem stopMotor_pending (s : State) (m : Nat) : (stopMotor s m).pending = s.pending := by
  simp only [stopMotor]; (repeat' split) <;> simp
@[simp] theorem stopMotor_freeCtr (s : State) (m : Nat) : (stopMotor s m).freeCtr = s.freeCtr := by
  simp only [stopMotor]; (repeat' split) <;> simp
@[simp] theorem motorFaultRecord_time (s : State) (m cause : Nat) : (motorFaultRecord s m cause).time = s.time := by
  simp only [motorFaultRecord]; (repeat' split) <;> simp
@[simp] theorem motorFaultRecord_settings (s : State) (m cause : Nat) : (motorFaultRecord s m cause).settings = s.settings := by
  simp only [motorFaultRecord]; (repeat' split) <;> simp
@[simp] theorem motorFaultRecord_fw (s : State) (m cause : Nat) : (motorFaultRecord s m cause).fw = s.fw := by
  simp only [motorFaultRecord]; (repeat' split) <;> simp
@[simp] theorem motorFaultRecord_media (s : State) (m cause : Nat) : (motorFaultRecord s m cause).media = s.media := by
  simp only [motorFaultRecord]; (repeat' split) <;> simp
@[simp] theorem motorFaultRecord_map (s : State) (m cause : Nat) : (motorFaultRecord s m cause).map = s.map := by
  simp only [motorFaultRecord]; (repeat' split) <;> simp
@[simp] theorem motorFaultRecord_red (s : State) (m cause : Nat) : (motorFaultRecord s m cause).red = s.red := by
  simp only [motorFaultRecord]; (repeat' split) <;> simp
@[simp] theorem motorFaultRecord_ret (s : State) (m cause : Nat) : (motorFaultRecord s m cause).ret = s.ret := by
  simp only [motorFaultRecord]; (repeat' split) <;> simp
@[simp] theorem motorFaultRecord_sealing (s : State) (m cause : Nat) : (motorFaultRecord s m cause).sealing = s.sealing := by
  simp only [motorFaultRecord]; (repeat' split) <;> simp
@[simp] theorem motorFaultRecord_halo (s : State) (m cause : Nat) : (motorFaultRecord s m cause).halo = s.halo := by
  simp only [motorFaultRecord]; (repeat' split) <;> simp
@[simp] theorem motorFaultRecord_nvme (s : State) (m cause : Nat) : (motorFaultRecord s m cause).nvme = s.nvme := by
  simp only [motorFaultRecord]; (repeat' split) <;> simp
@[simp] theorem motorFaultRecord_vf (s : State) (m cause : Nat) : (motorFaultRecord s m cause).vf = s.vf := by
  simp only [motorFaultRecord]; (repeat' split) <;> simp
@[simp] theorem motorFaultRecord_mbx (s : State) (m cause : Nat) : (motorFaultRecord s m cause).mbx = s.mbx := by
  simp only [motorFaultRecord]; (repeat' split) <;> simp
@[simp] theorem motorFaultRecord_boot (s : State) (m cause : Nat) : (motorFaultRecord s m cause).boot = s.boot := by
  simp only [motorFaultRecord]; (repeat' split) <;> simp
@[simp] theorem motorFaultRecord_dram (s : State) (m cause : Nat) : (motorFaultRecord s m cause).dram = s.dram := by
  simp only [motorFaultRecord]; (repeat' split) <;> simp
@[simp] theorem motorFaultRecord_pwr (s : State) (m cause : Nat) : (motorFaultRecord s m cause).pwr = s.pwr := by
  simp only [motorFaultRecord]; (repeat' split) <;> simp
@[simp] theorem motorFaultRecord_cool (s : State) (m cause : Nat) : (motorFaultRecord s m cause).cool = s.cool := by
  simp only [motorFaultRecord]; (repeat' split) <;> simp
@[simp] theorem motorFaultRecord_pins (s : State) (m cause : Nat) : (motorFaultRecord s m cause).pins = s.pins := by
  simp only [motorFaultRecord]; (repeat' split) <;> simp
@[simp] theorem motorFaultRecord_pending (s : State) (m cause : Nat) : (motorFaultRecord s m cause).pending = s.pending := by
  simp only [motorFaultRecord]; (repeat' split) <;> simp
@[simp] theorem motorFaultRecord_freeCtr (s : State) (m cause : Nat) : (motorFaultRecord s m cause).freeCtr = s.freeCtr := by
  simp only [motorFaultRecord]; (repeat' split) <;> simp
@[simp] theorem faultMotor_time (s : State) (m cause : Nat) : (faultMotor s m cause).time = s.time := by
  simp only [faultMotor]; (repeat' split) <;> simp
@[simp] theorem faultMotor_settings (s : State) (m cause : Nat) : (faultMotor s m cause).settings = s.settings := by
  simp only [faultMotor]; (repeat' split) <;> simp
@[simp] theorem faultMotor_fw (s : State) (m cause : Nat) : (faultMotor s m cause).fw = s.fw := by
  simp only [faultMotor]; (repeat' split) <;> simp
@[simp] theorem faultMotor_media (s : State) (m cause : Nat) : (faultMotor s m cause).media = s.media := by
  simp only [faultMotor]; (repeat' split) <;> simp
@[simp] theorem faultMotor_map (s : State) (m cause : Nat) : (faultMotor s m cause).map = s.map := by
  simp only [faultMotor]; (repeat' split) <;> simp
@[simp] theorem faultMotor_red (s : State) (m cause : Nat) : (faultMotor s m cause).red = s.red := by
  simp only [faultMotor]; (repeat' split) <;> simp
@[simp] theorem faultMotor_ret (s : State) (m cause : Nat) : (faultMotor s m cause).ret = s.ret := by
  simp only [faultMotor]; (repeat' split) <;> simp
@[simp] theorem faultMotor_sealing (s : State) (m cause : Nat) : (faultMotor s m cause).sealing = s.sealing := by
  simp only [faultMotor]; (repeat' split) <;> simp
@[simp] theorem faultMotor_halo (s : State) (m cause : Nat) : (faultMotor s m cause).halo = s.halo := by
  simp only [faultMotor]; (repeat' split) <;> simp
@[simp] theorem faultMotor_nvme (s : State) (m cause : Nat) : (faultMotor s m cause).nvme = s.nvme := by
  simp only [faultMotor]; (repeat' split) <;> simp
@[simp] theorem faultMotor_vf (s : State) (m cause : Nat) : (faultMotor s m cause).vf = s.vf := by
  simp only [faultMotor]; (repeat' split) <;> simp
@[simp] theorem faultMotor_mbx (s : State) (m cause : Nat) : (faultMotor s m cause).mbx = s.mbx := by
  simp only [faultMotor]; (repeat' split) <;> simp
@[simp] theorem faultMotor_boot (s : State) (m cause : Nat) : (faultMotor s m cause).boot = s.boot := by
  simp only [faultMotor]; (repeat' split) <;> simp
@[simp] theorem faultMotor_dram (s : State) (m cause : Nat) : (faultMotor s m cause).dram = s.dram := by
  simp only [faultMotor]; (repeat' split) <;> simp
@[simp] theorem faultMotor_pwr (s : State) (m cause : Nat) : (faultMotor s m cause).pwr = s.pwr := by
  simp only [faultMotor]; (repeat' split) <;> simp
@[simp] theorem faultMotor_pending (s : State) (m cause : Nat) : (faultMotor s m cause).pending = s.pending := by
  simp only [faultMotor]; (repeat' split) <;> simp
@[simp] theorem faultMotor_freeCtr (s : State) (m cause : Nat) : (faultMotor s m cause).freeCtr = s.freeCtr := by
  simp only [faultMotor]; (repeat' split) <;> simp
@[simp] theorem noteDemand_time (before : Nat) (s : State) : (noteDemand before s).time = s.time := by
  simp only [noteDemand]; split <;> simp
@[simp] theorem noteDemand_alm (before : Nat) (s : State) : (noteDemand before s).alm = s.alm := by
  simp only [noteDemand]; split <;> simp
@[simp] theorem noteDemand_settings (before : Nat) (s : State) : (noteDemand before s).settings = s.settings := by
  simp only [noteDemand]; split <;> simp
@[simp] theorem noteDemand_fw (before : Nat) (s : State) : (noteDemand before s).fw = s.fw := by
  simp only [noteDemand]; split <;> simp
@[simp] theorem noteDemand_media (before : Nat) (s : State) : (noteDemand before s).media = s.media := by
  simp only [noteDemand]; split <;> simp
@[simp] theorem noteDemand_map (before : Nat) (s : State) : (noteDemand before s).map = s.map := by
  simp only [noteDemand]; split <;> simp
@[simp] theorem noteDemand_red (before : Nat) (s : State) : (noteDemand before s).red = s.red := by
  simp only [noteDemand]; split <;> simp
@[simp] theorem noteDemand_ret (before : Nat) (s : State) : (noteDemand before s).ret = s.ret := by
  simp only [noteDemand]; split <;> simp
@[simp] theorem noteDemand_sealing (before : Nat) (s : State) : (noteDemand before s).sealing = s.sealing := by
  simp only [noteDemand]; split <;> simp
@[simp] theorem noteDemand_halo (before : Nat) (s : State) : (noteDemand before s).halo = s.halo := by
  simp only [noteDemand]; split <;> simp
@[simp] theorem noteDemand_host (before : Nat) (s : State) : (noteDemand before s).host = s.host := by
  simp only [noteDemand]; split <;> simp
@[simp] theorem noteDemand_nvme (before : Nat) (s : State) : (noteDemand before s).nvme = s.nvme := by
  simp only [noteDemand]; split <;> simp
@[simp] theorem noteDemand_vf (before : Nat) (s : State) : (noteDemand before s).vf = s.vf := by
  simp only [noteDemand]; split <;> simp
@[simp] theorem noteDemand_mbx (before : Nat) (s : State) : (noteDemand before s).mbx = s.mbx := by
  simp only [noteDemand]; split <;> simp
@[simp] theorem noteDemand_boot (before : Nat) (s : State) : (noteDemand before s).boot = s.boot := by
  simp only [noteDemand]; split <;> simp
@[simp] theorem noteDemand_dram (before : Nat) (s : State) : (noteDemand before s).dram = s.dram := by
  simp only [noteDemand]; split <;> simp
@[simp] theorem noteDemand_pwr (before : Nat) (s : State) : (noteDemand before s).pwr = s.pwr := by
  simp only [noteDemand]; split <;> simp
@[simp] theorem noteDemand_pins (before : Nat) (s : State) : (noteDemand before s).pins = s.pins := by
  simp only [noteDemand]; split <;> simp
@[simp] theorem noteDemand_pending (before : Nat) (s : State) : (noteDemand before s).pending = s.pending := by
  simp only [noteDemand]; split <;> simp
@[simp] theorem noteDemand_freeCtr (before : Nat) (s : State) : (noteDemand before s).freeCtr = s.freeCtr := by
  simp only [noteDemand]; split <;> simp
@[simp] theorem countFault_time (s : State) (m : Nat) : (countFault s m).time = s.time := by simp [countFault]
@[simp] theorem countFault_alm (s : State) (m : Nat) : (countFault s m).alm = s.alm := by simp [countFault]
@[simp] theorem countFault_settings (s : State) (m : Nat) : (countFault s m).settings = s.settings := by simp [countFault]
@[simp] theorem countFault_fw (s : State) (m : Nat) : (countFault s m).fw = s.fw := by simp [countFault]
@[simp] theorem countFault_media (s : State) (m : Nat) : (countFault s m).media = s.media := by simp [countFault]
@[simp] theorem countFault_map (s : State) (m : Nat) : (countFault s m).map = s.map := by simp [countFault]
@[simp] theorem countFault_red (s : State) (m : Nat) : (countFault s m).red = s.red := by simp [countFault]
@[simp] theorem countFault_ret (s : State) (m : Nat) : (countFault s m).ret = s.ret := by simp [countFault]
@[simp] theorem countFault_sealing (s : State) (m : Nat) : (countFault s m).sealing = s.sealing := by simp [countFault]
@[simp] theorem countFault_halo (s : State) (m : Nat) : (countFault s m).halo = s.halo := by simp [countFault]
@[simp] theorem countFault_host (s : State) (m : Nat) : (countFault s m).host = s.host := by simp [countFault]
@[simp] theorem countFault_nvme (s : State) (m : Nat) : (countFault s m).nvme = s.nvme := by simp [countFault]
@[simp] theorem countFault_vf (s : State) (m : Nat) : (countFault s m).vf = s.vf := by simp [countFault]
@[simp] theorem countFault_mbx (s : State) (m : Nat) : (countFault s m).mbx = s.mbx := by simp [countFault]
@[simp] theorem countFault_boot (s : State) (m : Nat) : (countFault s m).boot = s.boot := by simp [countFault]
@[simp] theorem countFault_dram (s : State) (m : Nat) : (countFault s m).dram = s.dram := by simp [countFault]
@[simp] theorem countFault_pwr (s : State) (m : Nat) : (countFault s m).pwr = s.pwr := by simp [countFault]
@[simp] theorem countFault_pins (s : State) (m : Nat) : (countFault s m).pins = s.pins := by simp [countFault]
@[simp] theorem countFault_pending (s : State) (m : Nat) : (countFault s m).pending = s.pending := by simp [countFault]
@[simp] theorem countFault_freeCtr (s : State) (m : Nat) : (countFault s m).freeCtr = s.freeCtr := by simp [countFault]
@[simp] theorem loseRotor_time (s : State) (m : Nat) : (loseRotor s m).time = s.time := by
  simp only [loseRotor]; (repeat' split) <;> simp
@[simp] theorem loseRotor_alm (s : State) (m : Nat) : (loseRotor s m).alm = s.alm := by
  simp only [loseRotor]; (repeat' split) <;> simp
@[simp] theorem loseRotor_settings (s : State) (m : Nat) : (loseRotor s m).settings = s.settings := by
  simp only [loseRotor]; (repeat' split) <;> simp
@[simp] theorem loseRotor_fw (s : State) (m : Nat) : (loseRotor s m).fw = s.fw := by
  simp only [loseRotor]; (repeat' split) <;> simp
@[simp] theorem loseRotor_media (s : State) (m : Nat) : (loseRotor s m).media = s.media := by
  simp only [loseRotor]; (repeat' split) <;> simp
@[simp] theorem loseRotor_map (s : State) (m : Nat) : (loseRotor s m).map = s.map := by
  simp only [loseRotor]; (repeat' split) <;> simp
@[simp] theorem loseRotor_red (s : State) (m : Nat) : (loseRotor s m).red = s.red := by
  simp only [loseRotor]; (repeat' split) <;> simp
@[simp] theorem loseRotor_ret (s : State) (m : Nat) : (loseRotor s m).ret = s.ret := by
  simp only [loseRotor]; (repeat' split) <;> simp
@[simp] theorem loseRotor_sealing (s : State) (m : Nat) : (loseRotor s m).sealing = s.sealing := by
  simp only [loseRotor]; (repeat' split) <;> simp
@[simp] theorem loseRotor_halo (s : State) (m : Nat) : (loseRotor s m).halo = s.halo := by
  simp only [loseRotor]; (repeat' split) <;> simp
@[simp] theorem loseRotor_host (s : State) (m : Nat) : (loseRotor s m).host = s.host := by
  simp only [loseRotor]; (repeat' split) <;> simp
@[simp] theorem loseRotor_nvme (s : State) (m : Nat) : (loseRotor s m).nvme = s.nvme := by
  simp only [loseRotor]; (repeat' split) <;> simp
@[simp] theorem loseRotor_vf (s : State) (m : Nat) : (loseRotor s m).vf = s.vf := by
  simp only [loseRotor]; (repeat' split) <;> simp
@[simp] theorem loseRotor_mbx (s : State) (m : Nat) : (loseRotor s m).mbx = s.mbx := by
  simp only [loseRotor]; (repeat' split) <;> simp
@[simp] theorem loseRotor_boot (s : State) (m : Nat) : (loseRotor s m).boot = s.boot := by
  simp only [loseRotor]; (repeat' split) <;> simp
@[simp] theorem loseRotor_dram (s : State) (m : Nat) : (loseRotor s m).dram = s.dram := by
  simp only [loseRotor]; (repeat' split) <;> simp
@[simp] theorem loseRotor_pwr (s : State) (m : Nat) : (loseRotor s m).pwr = s.pwr := by
  simp only [loseRotor]; (repeat' split) <;> simp
@[simp] theorem loseRotor_pins (s : State) (m : Nat) : (loseRotor s m).pins = s.pins := by
  simp only [loseRotor]; (repeat' split) <;> simp
@[simp] theorem loseRotor_pending (s : State) (m : Nat) : (loseRotor s m).pending = s.pending := by
  simp only [loseRotor]; (repeat' split) <;> simp
@[simp] theorem loseRotor_freeCtr (s : State) (m : Nat) : (loseRotor s m).freeCtr = s.freeCtr := by
  simp only [loseRotor]; (repeat' split) <;> simp
@[simp] theorem beginOwnErase_time (s : State) (addr : Nat) : (beginOwnErase s addr).time = s.time := rfl
@[simp] theorem beginOwnErase_alm (s : State) (addr : Nat) : (beginOwnErase s addr).alm = s.alm := rfl
@[simp] theorem beginOwnErase_settings (s : State) (addr : Nat) : (beginOwnErase s addr).settings = s.settings := rfl
@[simp] theorem beginOwnErase_fw (s : State) (addr : Nat) : (beginOwnErase s addr).fw = s.fw := rfl
@[simp] theorem beginOwnErase_map (s : State) (addr : Nat) : (beginOwnErase s addr).map = s.map := rfl
@[simp] theorem beginOwnErase_red (s : State) (addr : Nat) : (beginOwnErase s addr).red = s.red := rfl
@[simp] theorem beginOwnErase_ret (s : State) (addr : Nat) : (beginOwnErase s addr).ret = s.ret := rfl
@[simp] theorem beginOwnErase_sealing (s : State) (addr : Nat) : (beginOwnErase s addr).sealing = s.sealing := rfl
@[simp] theorem beginOwnErase_halo (s : State) (addr : Nat) : (beginOwnErase s addr).halo = s.halo := rfl
@[simp] theorem beginOwnErase_host (s : State) (addr : Nat) : (beginOwnErase s addr).host = s.host := rfl
@[simp] theorem beginOwnErase_nvme (s : State) (addr : Nat) : (beginOwnErase s addr).nvme = s.nvme := rfl
@[simp] theorem beginOwnErase_vf (s : State) (addr : Nat) : (beginOwnErase s addr).vf = s.vf := rfl
@[simp] theorem beginOwnErase_mbx (s : State) (addr : Nat) : (beginOwnErase s addr).mbx = s.mbx := rfl
@[simp] theorem beginOwnErase_boot (s : State) (addr : Nat) : (beginOwnErase s addr).boot = s.boot := rfl
@[simp] theorem beginOwnErase_dram (s : State) (addr : Nat) : (beginOwnErase s addr).dram = s.dram := rfl
@[simp] theorem beginOwnErase_pwr (s : State) (addr : Nat) : (beginOwnErase s addr).pwr = s.pwr := rfl
@[simp] theorem beginOwnErase_cool (s : State) (addr : Nat) : (beginOwnErase s addr).cool = s.cool := rfl
@[simp] theorem beginOwnErase_pins (s : State) (addr : Nat) : (beginOwnErase s addr).pins = s.pins := rfl
@[simp] theorem beginOwnErase_pending (s : State) (addr : Nat) : (beginOwnErase s addr).pending = s.pending := rfl
@[simp] theorem beginOwnErase_freeCtr (s : State) (addr : Nat) : (beginOwnErase s addr).freeCtr = s.freeCtr := rfl
@[simp] theorem csWait_time (s : State) (op : CsOp) : (csWait s op).time = s.time := rfl
@[simp] theorem csWait_alm (s : State) (op : CsOp) : (csWait s op).alm = s.alm := rfl
@[simp] theorem csWait_settings (s : State) (op : CsOp) : (csWait s op).settings = s.settings := rfl
@[simp] theorem csWait_fw (s : State) (op : CsOp) : (csWait s op).fw = s.fw := rfl
@[simp] theorem csWait_map (s : State) (op : CsOp) : (csWait s op).map = s.map := rfl
@[simp] theorem csWait_red (s : State) (op : CsOp) : (csWait s op).red = s.red := rfl
@[simp] theorem csWait_ret (s : State) (op : CsOp) : (csWait s op).ret = s.ret := rfl
@[simp] theorem csWait_sealing (s : State) (op : CsOp) : (csWait s op).sealing = s.sealing := rfl
@[simp] theorem csWait_halo (s : State) (op : CsOp) : (csWait s op).halo = s.halo := rfl
@[simp] theorem csWait_host (s : State) (op : CsOp) : (csWait s op).host = s.host := rfl
@[simp] theorem csWait_nvme (s : State) (op : CsOp) : (csWait s op).nvme = s.nvme := rfl
@[simp] theorem csWait_vf (s : State) (op : CsOp) : (csWait s op).vf = s.vf := rfl
@[simp] theorem csWait_mbx (s : State) (op : CsOp) : (csWait s op).mbx = s.mbx := rfl
@[simp] theorem csWait_boot (s : State) (op : CsOp) : (csWait s op).boot = s.boot := rfl
@[simp] theorem csWait_dram (s : State) (op : CsOp) : (csWait s op).dram = s.dram := rfl
@[simp] theorem csWait_pwr (s : State) (op : CsOp) : (csWait s op).pwr = s.pwr := rfl
@[simp] theorem csWait_cool (s : State) (op : CsOp) : (csWait s op).cool = s.cool := rfl
@[simp] theorem csWait_pins (s : State) (op : CsOp) : (csWait s op).pins = s.pins := rfl
@[simp] theorem csWait_pending (s : State) (op : CsOp) : (csWait s op).pending = s.pending := rfl
@[simp] theorem csWait_freeCtr (s : State) (op : CsOp) : (csWait s op).freeCtr = s.freeCtr := rfl
@[simp] theorem deliverMeta_time (s : State) (q : Fin 4) (d : MediaDesc) (l : List Bytes) : (deliverMeta s q d l).time = s.time := rfl
@[simp] theorem deliverMeta_alm (s : State) (q : Fin 4) (d : MediaDesc) (l : List Bytes) : (deliverMeta s q d l).alm = s.alm := rfl
@[simp] theorem deliverMeta_settings (s : State) (q : Fin 4) (d : MediaDesc) (l : List Bytes) : (deliverMeta s q d l).settings = s.settings := rfl
@[simp] theorem deliverMeta_fw (s : State) (q : Fin 4) (d : MediaDesc) (l : List Bytes) : (deliverMeta s q d l).fw = s.fw := rfl
@[simp] theorem deliverMeta_map (s : State) (q : Fin 4) (d : MediaDesc) (l : List Bytes) : (deliverMeta s q d l).map = s.map := rfl
@[simp] theorem deliverMeta_red (s : State) (q : Fin 4) (d : MediaDesc) (l : List Bytes) : (deliverMeta s q d l).red = s.red := rfl
@[simp] theorem deliverMeta_ret (s : State) (q : Fin 4) (d : MediaDesc) (l : List Bytes) : (deliverMeta s q d l).ret = s.ret := rfl
@[simp] theorem deliverMeta_sealing (s : State) (q : Fin 4) (d : MediaDesc) (l : List Bytes) : (deliverMeta s q d l).sealing = s.sealing := rfl
@[simp] theorem deliverMeta_halo (s : State) (q : Fin 4) (d : MediaDesc) (l : List Bytes) : (deliverMeta s q d l).halo = s.halo := rfl
@[simp] theorem deliverMeta_host (s : State) (q : Fin 4) (d : MediaDesc) (l : List Bytes) : (deliverMeta s q d l).host = s.host := rfl
@[simp] theorem deliverMeta_nvme (s : State) (q : Fin 4) (d : MediaDesc) (l : List Bytes) : (deliverMeta s q d l).nvme = s.nvme := rfl
@[simp] theorem deliverMeta_vf (s : State) (q : Fin 4) (d : MediaDesc) (l : List Bytes) : (deliverMeta s q d l).vf = s.vf := rfl
@[simp] theorem deliverMeta_mbx (s : State) (q : Fin 4) (d : MediaDesc) (l : List Bytes) : (deliverMeta s q d l).mbx = s.mbx := rfl
@[simp] theorem deliverMeta_boot (s : State) (q : Fin 4) (d : MediaDesc) (l : List Bytes) : (deliverMeta s q d l).boot = s.boot := rfl
@[simp] theorem deliverMeta_dram (s : State) (q : Fin 4) (d : MediaDesc) (l : List Bytes) : (deliverMeta s q d l).dram = s.dram := rfl
@[simp] theorem deliverMeta_pwr (s : State) (q : Fin 4) (d : MediaDesc) (l : List Bytes) : (deliverMeta s q d l).pwr = s.pwr := rfl
@[simp] theorem deliverMeta_cool (s : State) (q : Fin 4) (d : MediaDesc) (l : List Bytes) : (deliverMeta s q d l).cool = s.cool := rfl
@[simp] theorem deliverMeta_pins (s : State) (q : Fin 4) (d : MediaDesc) (l : List Bytes) : (deliverMeta s q d l).pins = s.pins := rfl
@[simp] theorem deliverMeta_pending (s : State) (q : Fin 4) (d : MediaDesc) (l : List Bytes) : (deliverMeta s q d l).pending = s.pending := rfl
@[simp] theorem deliverMeta_freeCtr (s : State) (q : Fin 4) (d : MediaDesc) (l : List Bytes) : (deliverMeta s q d l).freeCtr = s.freeCtr := rfl
@[simp] theorem leavePartly_time (s : State) (key page : Nat) (p : PageContent) : (leavePartly s key page p).time = s.time := rfl
@[simp] theorem leavePartly_alm (s : State) (key page : Nat) (p : PageContent) : (leavePartly s key page p).alm = s.alm := rfl
@[simp] theorem leavePartly_settings (s : State) (key page : Nat) (p : PageContent) : (leavePartly s key page p).settings = s.settings := rfl
@[simp] theorem leavePartly_fw (s : State) (key page : Nat) (p : PageContent) : (leavePartly s key page p).fw = s.fw := rfl
@[simp] theorem leavePartly_map (s : State) (key page : Nat) (p : PageContent) : (leavePartly s key page p).map = s.map := rfl
@[simp] theorem leavePartly_red (s : State) (key page : Nat) (p : PageContent) : (leavePartly s key page p).red = s.red := rfl
@[simp] theorem leavePartly_ret (s : State) (key page : Nat) (p : PageContent) : (leavePartly s key page p).ret = s.ret := rfl
@[simp] theorem leavePartly_sealing (s : State) (key page : Nat) (p : PageContent) : (leavePartly s key page p).sealing = s.sealing := rfl
@[simp] theorem leavePartly_halo (s : State) (key page : Nat) (p : PageContent) : (leavePartly s key page p).halo = s.halo := rfl
@[simp] theorem leavePartly_host (s : State) (key page : Nat) (p : PageContent) : (leavePartly s key page p).host = s.host := rfl
@[simp] theorem leavePartly_nvme (s : State) (key page : Nat) (p : PageContent) : (leavePartly s key page p).nvme = s.nvme := rfl
@[simp] theorem leavePartly_vf (s : State) (key page : Nat) (p : PageContent) : (leavePartly s key page p).vf = s.vf := rfl
@[simp] theorem leavePartly_mbx (s : State) (key page : Nat) (p : PageContent) : (leavePartly s key page p).mbx = s.mbx := rfl
@[simp] theorem leavePartly_boot (s : State) (key page : Nat) (p : PageContent) : (leavePartly s key page p).boot = s.boot := rfl
@[simp] theorem leavePartly_dram (s : State) (key page : Nat) (p : PageContent) : (leavePartly s key page p).dram = s.dram := rfl
@[simp] theorem leavePartly_pwr (s : State) (key page : Nat) (p : PageContent) : (leavePartly s key page p).pwr = s.pwr := rfl
@[simp] theorem leavePartly_cool (s : State) (key page : Nat) (p : PageContent) : (leavePartly s key page p).cool = s.cool := rfl
@[simp] theorem leavePartly_pins (s : State) (key page : Nat) (p : PageContent) : (leavePartly s key page p).pins = s.pins := rfl
@[simp] theorem leavePartly_pending (s : State) (key page : Nat) (p : PageContent) : (leavePartly s key page p).pending = s.pending := rfl
@[simp] theorem leavePartly_freeCtr (s : State) (key page : Nat) (p : PageContent) : (leavePartly s key page p).freeCtr = s.freeCtr := rfl
@[simp] theorem noteCompletion_time (s : State) (n : Nat) : (noteCompletion s n).time = s.time := rfl
@[simp] theorem noteCompletion_alm (s : State) (n : Nat) : (noteCompletion s n).alm = s.alm := rfl
@[simp] theorem noteCompletion_settings (s : State) (n : Nat) : (noteCompletion s n).settings = s.settings := rfl
@[simp] theorem noteCompletion_fw (s : State) (n : Nat) : (noteCompletion s n).fw = s.fw := rfl
@[simp] theorem noteCompletion_media (s : State) (n : Nat) : (noteCompletion s n).media = s.media := rfl
@[simp] theorem noteCompletion_map (s : State) (n : Nat) : (noteCompletion s n).map = s.map := rfl
@[simp] theorem noteCompletion_red (s : State) (n : Nat) : (noteCompletion s n).red = s.red := rfl
@[simp] theorem noteCompletion_ret (s : State) (n : Nat) : (noteCompletion s n).ret = s.ret := rfl
@[simp] theorem noteCompletion_sealing (s : State) (n : Nat) : (noteCompletion s n).sealing = s.sealing := rfl
@[simp] theorem noteCompletion_halo (s : State) (n : Nat) : (noteCompletion s n).halo = s.halo := rfl
@[simp] theorem noteCompletion_nvme (s : State) (n : Nat) : (noteCompletion s n).nvme = s.nvme := rfl
@[simp] theorem noteCompletion_vf (s : State) (n : Nat) : (noteCompletion s n).vf = s.vf := rfl
@[simp] theorem noteCompletion_mbx (s : State) (n : Nat) : (noteCompletion s n).mbx = s.mbx := rfl
@[simp] theorem noteCompletion_boot (s : State) (n : Nat) : (noteCompletion s n).boot = s.boot := rfl
@[simp] theorem noteCompletion_dram (s : State) (n : Nat) : (noteCompletion s n).dram = s.dram := rfl
@[simp] theorem noteCompletion_pwr (s : State) (n : Nat) : (noteCompletion s n).pwr = s.pwr := rfl
@[simp] theorem noteCompletion_cool (s : State) (n : Nat) : (noteCompletion s n).cool = s.cool := rfl
@[simp] theorem noteCompletion_pins (s : State) (n : Nat) : (noteCompletion s n).pins = s.pins := rfl
@[simp] theorem noteCompletion_pending (s : State) (n : Nat) : (noteCompletion s n).pending = s.pending := rfl
@[simp] theorem noteCompletion_freeCtr (s : State) (n : Nat) : (noteCompletion s n).freeCtr = s.freeCtr := rfl
@[simp] theorem resetPolicy_time (s : State) (nsid : Nat) : (resetPolicy s nsid).time = s.time := rfl
@[simp] theorem resetPolicy_alm (s : State) (nsid : Nat) : (resetPolicy s nsid).alm = s.alm := rfl
@[simp] theorem resetPolicy_fw (s : State) (nsid : Nat) : (resetPolicy s nsid).fw = s.fw := rfl
@[simp] theorem resetPolicy_media (s : State) (nsid : Nat) : (resetPolicy s nsid).media = s.media := rfl
@[simp] theorem resetPolicy_map (s : State) (nsid : Nat) : (resetPolicy s nsid).map = s.map := rfl
@[simp] theorem resetPolicy_red (s : State) (nsid : Nat) : (resetPolicy s nsid).red = s.red := rfl
@[simp] theorem resetPolicy_ret (s : State) (nsid : Nat) : (resetPolicy s nsid).ret = s.ret := rfl
@[simp] theorem resetPolicy_sealing (s : State) (nsid : Nat) : (resetPolicy s nsid).sealing = s.sealing := rfl
@[simp] theorem resetPolicy_halo (s : State) (nsid : Nat) : (resetPolicy s nsid).halo = s.halo := rfl
@[simp] theorem resetPolicy_host (s : State) (nsid : Nat) : (resetPolicy s nsid).host = s.host := rfl
@[simp] theorem resetPolicy_nvme (s : State) (nsid : Nat) : (resetPolicy s nsid).nvme = s.nvme := rfl
@[simp] theorem resetPolicy_vf (s : State) (nsid : Nat) : (resetPolicy s nsid).vf = s.vf := rfl
@[simp] theorem resetPolicy_mbx (s : State) (nsid : Nat) : (resetPolicy s nsid).mbx = s.mbx := rfl
@[simp] theorem resetPolicy_boot (s : State) (nsid : Nat) : (resetPolicy s nsid).boot = s.boot := rfl
@[simp] theorem resetPolicy_dram (s : State) (nsid : Nat) : (resetPolicy s nsid).dram = s.dram := rfl
@[simp] theorem resetPolicy_pwr (s : State) (nsid : Nat) : (resetPolicy s nsid).pwr = s.pwr := rfl
@[simp] theorem resetPolicy_cool (s : State) (nsid : Nat) : (resetPolicy s nsid).cool = s.cool := rfl
@[simp] theorem resetPolicy_pins (s : State) (nsid : Nat) : (resetPolicy s nsid).pins = s.pins := rfl
@[simp] theorem resetPolicy_pending (s : State) (nsid : Nat) : (resetPolicy s nsid).pending = s.pending := rfl
@[simp] theorem resetPolicy_freeCtr (s : State) (nsid : Nat) : (resetPolicy s nsid).freeCtr = s.freeCtr := rfl
@[simp] theorem requestRow_time (s : State) (row : Nat) : (requestRow s row).time = s.time := rfl
@[simp] theorem requestRow_alm (s : State) (row : Nat) : (requestRow s row).alm = s.alm := rfl
@[simp] theorem requestRow_settings (s : State) (row : Nat) : (requestRow s row).settings = s.settings := rfl
@[simp] theorem requestRow_fw (s : State) (row : Nat) : (requestRow s row).fw = s.fw := rfl
@[simp] theorem requestRow_media (s : State) (row : Nat) : (requestRow s row).media = s.media := rfl
@[simp] theorem requestRow_map (s : State) (row : Nat) : (requestRow s row).map = s.map := rfl
@[simp] theorem requestRow_red (s : State) (row : Nat) : (requestRow s row).red = s.red := rfl
@[simp] theorem requestRow_ret (s : State) (row : Nat) : (requestRow s row).ret = s.ret := rfl
@[simp] theorem requestRow_sealing (s : State) (row : Nat) : (requestRow s row).sealing = s.sealing := rfl
@[simp] theorem requestRow_halo (s : State) (row : Nat) : (requestRow s row).halo = s.halo := rfl
@[simp] theorem requestRow_host (s : State) (row : Nat) : (requestRow s row).host = s.host := rfl
@[simp] theorem requestRow_nvme (s : State) (row : Nat) : (requestRow s row).nvme = s.nvme := rfl
@[simp] theorem requestRow_vf (s : State) (row : Nat) : (requestRow s row).vf = s.vf := rfl
@[simp] theorem requestRow_mbx (s : State) (row : Nat) : (requestRow s row).mbx = s.mbx := rfl
@[simp] theorem requestRow_boot (s : State) (row : Nat) : (requestRow s row).boot = s.boot := rfl
@[simp] theorem requestRow_dram (s : State) (row : Nat) : (requestRow s row).dram = s.dram := rfl
@[simp] theorem requestRow_cool (s : State) (row : Nat) : (requestRow s row).cool = s.cool := rfl
@[simp] theorem requestRow_pins (s : State) (row : Nat) : (requestRow s row).pins = s.pins := rfl
@[simp] theorem requestRow_pending (s : State) (row : Nat) : (requestRow s row).pending = s.pending := rfl
@[simp] theorem requestRow_freeCtr (s : State) (row : Nat) : (requestRow s row).freeCtr = s.freeCtr := rfl

end Sys2Proof.Machine
end

