-- ==== Sys2Proof/Laws/Memory.lean ====
section
/-! SUPPORT. Every operation over an addressed memory keeps its one form, and the state after reset has it. -/
namespace Sys2Proof.Machine

/-- The memories of the state after reset are in their form. -/
theorem memory_wf_reset : Memory.wf State.reset = true := by decide

/-- Writes one after another, each made or left out, keep the canonical form. -/
theorem canonical_writes {α β : Type} [DecidableEq α] (d : α) (key : β → Nat) (val : β → α) (made : β → Bool) (l : List β) (m : List (Nat × α))
    (h : canonical d m = true) :
    canonical d (l.foldl (fun m p => if made p then writeAt d m (key p) (val p) else m) m) = true := by
  induction l generalizing m with
  | nil => exact h
  | cons p t ih =>
    simp only [List.foldl_cons]
    apply ih
    split
    · exact canonical_writeAt d _ _ _ h
    · exact h

/-- What bounds every listed key of a table bounds those of a part of it. -/
theorem canonical_filter {α : Type} [DecidableEq α] (d : α) (f : Nat × α → Bool) (m : List (Nat × α)) (h : canonical d m = true) :
    canonical d (m.filter f) = true := by
  induction m with
  | nil => rfl
  | cons p t ih =>
    obtain ⟨k, v⟩ := p
    obtain ⟨hv, ha, ht⟩ := (canonical_cons d v k t).1 h
    simp only [List.filter_cons]
    split
    · exact (canonical_cons d v k _).2 ⟨hv, fun q hq => ha q (List.mem_filter.1 hq).1, ih ht⟩
    · exact ih ht

/-- The Calibration Set keeps its form. -/
theorem calWrite_canonical (s : State) (off : Nat) (b : Bytes) (h : canonical 0xFF s.pwr.cal = true) :
    canonical 0xFF (calWrite s off b).pwr.cal = true := by
  have := canonical_writes (0xFF : Byte) (fun p : Byte × Nat => off + p.2) (fun p => p.1) (fun _ => true) b.zipIdx s.pwr.cal h
  simpa [calWrite] using this

/-- A payload buffer keeps its form. -/
theorem bufferWrite_canonical (b : Mailbox) (off : Nat) (bytes : Bytes) (h : canonical 0 b.buffer = true) :
    canonical 0 (bufferWrite b off bytes).buffer = true := by
  simp only [bufferWrite]
  exact canonical_writes (0 : Byte) (fun p : Byte × Nat => off + p.2) (fun p => p.1) _ bytes.zipIdx b.buffer h

theorem rising_cons {α : Type} (p : Nat × α) (t : List (Nat × α)) : rising (p :: t) = true ↔ above p.1 t ∧ rising t = true := by
  simp [rising, above]

/-- Setting a key keeps the keys rising. -/
theorem rising_insert {α : Type} (k : Nat) (v : α) (m : List (Nat × α)) (h : rising m = true) : rising (insert m k v) = true := by
  induction m with
  | nil => rfl
  | cons p t ih =>
    obtain ⟨k', v'⟩ := p
    obtain ⟨ha, ht⟩ := (rising_cons _ t).1 h
    unfold insert
    split
    · rename_i hk
      refine (rising_cons _ _).2 ⟨?_, h⟩
      intro q hq
      rcases List.mem_cons.1 hq with rfl | hq
      · exact hk
      · exact Nat.lt_trans hk (ha q hq)
    · split
      · rename_i e; subst e; exact (rising_cons _ _).2 ⟨ha, ht⟩
      · exact (rising_cons _ _).2 ⟨above_insert k' k v t (by omega) ha, ih ht⟩

theorem rising_inserts {α β : Type} (key : β → Nat) (val : β → α) (made : β → Bool) (l : List β) (m : List (Nat × α)) (h : rising m = true) :
    rising (l.foldl (fun m p => if made p then insert m (key p) (val p) else m) m) = true := by
  induction l generalizing m with
  | nil => exact h
  | cons p t ih =>
    simp only [List.foldl_cons]
    apply ih
    split
    · exact rising_insert _ _ _ h
    · exact h

/-- Media Direct's memory keeps its form under a write of the controller. -/
theorem mdWrite_rising (m : MediaState) (off : Nat) (b : Bytes) (h : rising m.mdMem = true) : rising (mdWrite m off b).mdMem = true := by
  have := rising_inserts (fun p : Byte × Nat => off + p.2) (fun p => p.1) (fun _ => true) b.zipIdx m.mdMem h
  simpa [mdWrite] using this

/-- The buffers on the die keep their form under a descriptor's data. -/
theorem deliverOnDie_rising (m : MediaState) (off : Nat) (b : Bytes) (h : rising m.onDie = true) : rising (deliverOnDie m off b).onDie = true := by
  have := rising_inserts (fun p : Byte × Nat => off + p.2) (fun p => p.1) (fun _ => true) (b.take (onDieSize - off)).zipIdx m.onDie h
  simpa [deliverOnDie] using this

/-- Media Direct's memory keeps its form under a host write. -/
theorem mdMerge_rising (m : MediaState) (off : Nat) (b : Bytes) (h : rising m.mdMem = true) : rising (mdMerge m off b).mdMem = true := by
  have := rising_inserts (fun p : Byte × Nat => off + p.2) (fun p => p.1)
    (fun p => decide (off ≤ 8 * ((off + p.2) / 8)) && decide (8 * ((off + p.2) / 8) + 8 ≤ off + b.length) || mdWordOk m (off + p.2)) b.zipIdx m.mdMem h
  simpa [mdMerge] using this

/-! ### The Config Store -/

theorem storeWf_cons (k : Nat) (w : CsWord) (t : List (Nat × CsWord)) :
    Memory.storeWf ((k, w) :: t) = true ↔ w.programs ≠ 0 ∧ above k t ∧ Memory.storeWf t = true := by
  simp only [Memory.storeWf, Bool.and_eq_true, List.all_cons, canonical_cons, decide_eq_true_eq]
  constructor
  · rintro ⟨⟨-, ha, hc⟩, hp, ht⟩; exact ⟨hp, ha, hc, ht⟩
  · rintro ⟨hp, ha, hc, ht⟩; exact ⟨⟨fun e => hp (by rw [e]), ha, hc⟩, hp, ht⟩

/-- A word programmed keeps the form. -/
theorem storeWf_program (l : List (Nat × CsWord)) (k : Nat) (x : CsWord) (hx : x.programs ≠ 0) (h : Memory.storeWf l = true) :
    Memory.storeWf (writeAt {} l k x) = true := by
  have hne : x ≠ {} := fun e => hx (by rw [e])
  rw [writeAt, if_neg hne]
  induction l with
  | nil => simp [insert, Memory.storeWf, canonical, hx]; exact hne
  | cons p t ih =>
    obtain ⟨k', w⟩ := p
    obtain ⟨hp, ha, ht⟩ := (storeWf_cons k' w t).1 h
    unfold insert
    split
    · rename_i hk
      refine (storeWf_cons _ _ _).2 ⟨hx, ?_, h⟩
      intro q hq
      rcases List.mem_cons.1 hq with rfl | hq
      · exact hk
      · exact Nat.lt_trans hk (ha q hq)
    · split
      · rename_i e; subst e; exact (storeWf_cons _ _ _).2 ⟨hx, ha, ht⟩
      · exact (storeWf_cons _ _ _).2 ⟨hp, above_insert k' k _ t (by omega) ha, ih ht⟩

/-- An erase keeps the form. -/
theorem storeWf_filter (f : Nat × CsWord → Bool) (l : List (Nat × CsWord)) (h : Memory.storeWf l = true) : Memory.storeWf (l.filter f) = true := by
  simp only [Memory.storeWf, Bool.and_eq_true] at h ⊢
  exact ⟨canonical_filter _ _ _ h.1, List.all_eq_true.2 fun p hp => List.all_eq_true.1 h.2 p (List.mem_filter.1 hp).1⟩

/-- A run of programs keeps the form, whichever word it ends at. -/
theorem csProgramWords_storeWf (addr : Nat) (tag : Word16) (failAt : Option Nat) (l : List Word64) (i : Nat) (s : State)
    (h : Memory.storeWf s.media.cs = true) : Memory.storeWf (csProgramWords addr tag failAt i s l).media.cs = true := by
  induction l generalizing i s with
  | nil => exact h
  | cons v t ih =>
    unfold csProgramWords
    simp only
    split
    · exact h
    · split
      · exact h
      · split
        · simp only [record_media, csDone]; exact storeWf_program _ _ _ (Nat.succ_ne_zero _) h
        · exact ih _ _ (storeWf_program _ _ _ (Nat.succ_ne_zero _) h)

/-- An erase of the block's own leaves the words as they are until it ends. -/
@[simp] theorem submitAlmErase_cs (s : State) (k : Nat) : (submitAlmErase s k).media.cs = s.media.cs := by
  unfold submitAlmErase; split <;> rfl
/-- So does an open-band summary record that starts a compaction. -/
@[simp] theorem putSummary_cs (s : State) (x : SummaryRecord) : (putSummary s x).media.cs = s.media.cs := by
  unfold putSummary; simp only; split <;> rfl
/-- A turn taken while the die erases leaves the words as they are. -/
theorem csTurn_cs (s t : State) (h : csTurn s = some t) : t.media.cs = s.media.cs := by
  unfold csTurn at h; split at h
  · simp at h; rw [h]
  · split at h <;> simp at h; rw [← h]

/-- Work that the queue takes keeps the form. -/
theorem csSubmit_storeWf (s : State) (op : CsOp) (h : Memory.storeWf s.media.cs = true) : Memory.storeWf (csSubmit s op).media.cs = true := by
  have hp : ∀ (s : State) a d f, Memory.storeWf s.media.cs = true → Memory.storeWf (csProgram s a d f).media.cs = true := by
    intro s a d f h
    unfold csProgram
    repeat' split
    all_goals first | exact h | exact csProgramWords_storeWf _ _ _ _ _ _ h
  unfold csSubmit
  split
  · split
    · unfold csRead; repeat' split
      all_goals exact h
    · exact hp _ _ _ _ h
    · unfold csErase; repeat' split
      all_goals exact h
    · exact h
    · rw [putSummary_cs]; exact h
    · exact h
    · rw [submitAlmErase_cs]; exact h
  · split
    · split
      · split
        · rename_i t ht; exact hp _ _ _ _ (by rw [csTurn_cs s t ht]; exact h)
        · exact h
      · exact h
    · split
      · rename_i t ht; exact (csTurn_cs s t ht) ▸ h
      · exact h
    · exact h

/-- What waited, served in turn, keeps the form. -/
theorem foldl_csSubmit_storeWf (l : List CsOp) (s : State) (h : Memory.storeWf s.media.cs = true) :
    Memory.storeWf (l.foldl csSubmit s).media.cs = true := by
  induction l generalizing s with
  | nil => exact h
  | cons o t ih => exact ih _ (csSubmit_storeWf s o h)

/-- A message sent leaves the carriers and the Config Store as they are. -/
theorem sendMsix_media (s : State) (fn v : Nat) : (sendMsix s fn v).media = s.media := by
  simp only [sendMsix]; repeat' split
  all_goals first | rfl | simp [leaveL1]
/-- So does data written to the host. -/
theorem noteHostWrite_media (s : State) (n : Nat) : (noteHostWrite s n).media = s.media := by
  unfold noteHostWrite; split <;> rfl
/-- The end of a mailbox command leaves the words as they are. -/
@[simp] theorem mbxEnd_media (s : State) (key : Nat) (e : MbxExec) (st : MbxStatus) (detail : Nat) (result : Bytes) :
    (mbxEnd s key e st detail result).media = s.media := by
  simp only [mbxEnd]; repeat' split
  all_goals simp only [sendMsix_media, modBox_media, noteHostWrite_media]
/-- So does the end of a command that waited. -/
@[simp] theorem endWaiter_media (s : State) (w : Option (Nat × Nat)) (st : MbxStatus) (detail : Nat) (result : Bytes) :
    (endWaiter s w st detail result).media = s.media := by
  simp only [endWaiter]; repeat' split
  all_goals simp
/-- So does the end of a clear. -/
@[simp] theorem settleClear_media (s : State) : (settleClear s).media = s.media := by
  simp only [settleClear]; repeat' split
  all_goals simp

/-- The end of a sector erase, and what waited for it, keep the form. -/
theorem csEraseEnd_storeWf (s : State) (ok : Bool) (h : Memory.storeWf s.media.cs = true) : Memory.storeWf (csEraseEnd s ok).media.cs = true := by
  unfold csEraseEnd
  split
  · exact h
  · rename_i addr _ _
    have he : ∀ (c : Bool) (t : State) (o : Option Nat), Memory.storeWf t.media.cs = true →
        Memory.storeWf (if c = true then o.elim t (fun k => { t with alm := sectorErased t.alm k ok }) else t).media.cs = true := by
      intro c t o ht; split
      · cases o <;> exact ht
      · exact ht
    have hd : ∀ (c : Bool) (t : State) (x : Word16) (y : Nat), Memory.storeWf t.media.cs = true →
        Memory.storeWf (if c = true then t else csDone t x y 0).media.cs = true := by
      intro c t x y ht; split <;> exact ht
    simp only
    rw [settleClear_media]
    apply foldl_csSubmit_storeWf
    apply hd
    apply he
    repeat' split
    all_goals first | exact storeWf_filter _ _ h | (simp only [record_media]; exact h)

/-- A cut erase keeps the form. -/
theorem cutErase_storeWf (s : State) (h : Memory.storeWf s.media.cs = true) : Memory.storeWf (cutErase s).media.cs = true := by
  have hm : ∀ f : Nat × CsWord → Nat × CsWord, (∀ p, (f p).1 = p.1 ∧ (f p).2.programs = p.2.programs) → ∀ l, Memory.storeWf l = true →
      Memory.storeWf (l.map f) = true := by
    intro f hf l
    induction l with
    | nil => exact fun h => h
    | cons p t ih =>
      obtain ⟨k, w⟩ := p
      intro h
      obtain ⟨hp, ha, ht⟩ := (storeWf_cons k w t).1 h
      refine (storeWf_cons _ _ _).2 ⟨by rw [(hf (k, w)).2]; exact hp, ?_, ih ht⟩
      intro q hq
      obtain ⟨x, hx, rfl⟩ := List.mem_map.1 hq
      rw [(hf (k, w)).1, (hf x).1]
      exact ha x hx
  unfold cutErase
  split
  · exact h
  · exact hm _ (fun p => by split <;> exact ⟨rfl, rfl⟩) _ h

end Sys2Proof.Machine
end

