-- ==== Sys2Proof/Laws/Records.lean ====
section
/-! SUPPORT. What the acceptance of an Almanac record reads and what it can change. -/
namespace Sys2Proof.Machine

/-- A new record depends on the time, the Almanac's STAMP state, the settings, the active set and the boot phase alone. -/
theorem newRecord_congr {s t : State} (h1 : t.time = s.time) (h2 : t.alm = s.alm) (h3 : t.settings = s.settings) (h4 : t.fw = s.fw)
    (h5 : t.boot = s.boot) (code : Nat) (sev : Severity) (params : Bytes) : newRecord t code sev params = newRecord s code sev params := by
  have hc : calStamped t = calStamped s := by simp only [calStamped, settingRaw, h1, h2, h3]
  simp only [newRecord, hc, stampNow, bootRomRuns, h1, h4, h5]

/-- The Almanac after the acceptance of a record. -/
theorem acceptRecord_alm_congr {s t : State} (h1 : t.time = s.time) (h2 : t.alm = s.alm) (h3 : t.settings = s.settings) (h4 : t.fw = s.fw)
    (h5 : t.boot = s.boot) (code : Nat) (sev : Severity) (params : Bytes) :
    (acceptRecord t code sev params).alm = (acceptRecord s code sev params).alm := by
  simp only [acceptRecord, newRecord_congr h1 h2 h3 h4 h5, h2]
  split
  · split <;> rfl
  · rfl

/-- A record leaves the Almanac as its acceptance does. -/
theorem record_alm (s : State) (code : Nat) (sev : Severity) (params : Bytes) :
    (record s code sev params).alm = (acceptRecord s code sev params).alm := by
  simp only [record]; split <;> simp

/-- The Almanac after a record depends on what newRecord_congr names. -/
theorem record_alm_congr {s t : State} (h1 : t.time = s.time) (h2 : t.alm = s.alm) (h3 : t.settings = s.settings) (h4 : t.fw = s.fw)
    (h5 : t.boot = s.boot) (code : Nat) (sev : Severity) (params : Bytes) :
    (record t code sev params).alm = (record s code sev params).alm := by
  rw [record_alm, record_alm, acceptRecord_alm_congr h1 h2 h3 h4 h5]

/-- A record below Critical touches nothing but the Almanac. -/
theorem record_eq (s : State) (code : Nat) (sev : Severity) (params : Bytes) (h : sev ≠ .critical) :
    record s code sev params = { s with alm := (acceptRecord s code sev params).alm } := by
  simp only [record, h, if_false, acceptRecord]
  split
  · split <;> rfl
  · rfl

/-- The host part after a record depends on the host part alone. -/
theorem record_host_congr {s t : State} (h : t.host = s.host) (code : Nat) (sev : Severity) (params : Bytes) :
    (record t code sev params).host = (record s code sev params).host := by
  have ha : ∀ x : State, (acceptRecord x code sev params).host = x.host := fun x => acceptRecord_host x code sev params
  simp only [record, signalPme, ha, h]
  split
  · split
    · rw [ha, ha, h]
    · split
      · rfl
      · rfl
      · rw [ha, ha, h]
  · rw [ha, ha, h]

end Sys2Proof.Machine
end

