-- ==== Sys2Proof/Tests/Slice0.lean ====
section
/-! SUPPORT. Tests: ill-formed commands that the check of WellFormed refuses, and for the statements' hypotheses concrete states and
operands that meet them, clause by clause, with what the command then does there. What a command stores where a free value or the
cryptography of Config is involved is not a test's to say: such a clause has its decidable hypotheses shown, and no more. -/
namespace Sys2Proof.Tests
set_option Elab.async false
set_option maxRecDepth 100000
open Sys2Proof Sys2Proof.Machine

/-! ### Helpers -/

/-- Whether a command completes in a state of which a test holds. -/
def gives (c : Instr) (s : State) (p : State → Bool) : Bool :=
  match exec c s with
  | .next t => p t
  | _ => false

/-- LOMRIL bytes written from R54's table, with the CRC-32C of their first 1,020 bytes. -/
def lomBytes : Bytes := [76, 77, 82, 76, 1, 0, 0, 4, 7] ++ List.replicate 31 0 ++ [239, 7, 1, 0, 2, 30, 1, 1, 4, 3, 0, 64, 0, 8, 0, 1, 0, 4, 0, 0, 1, 0, 1, 0, 1, 0, 1, 0, 1, 0, 1, 0, 0, 1] ++ List.replicate 197 0 ++ [3] ++ List.replicate 496 0 ++ [76, 4, 1] ++ List.replicate 17 0 ++ [1] ++ List.replicate 231 0 ++ [191, 243, 100, 159]
/-- A state with carrier 0 as given. -/
def carS (c : CarrierState) : State := { boot := { phase := .complete }, media := { carriers := vset (Vector.replicate 16 {}) 0 c } }
/-- Carrier 0 in service with one LUN's parameters of the defaults. -/
def serving : CarrierState := { st := .inService, lomril := some {}, present := true, pin := true, pwrEn := true, padsIsolated := false }
/-- Two channels in use of 64 GiB each, trained, their table of 4,096 entries. -/
def dramUsed : DramState := { ch := vset (vset (Vector.replicate 8 {}) 0 { st := .inUse, dimmGib := 64 }) 1 { st := .inUse, dimmGib := 64 }, dimmGib := 64, trained := true, tableSize := 4096 }
/-- A device that has started with an array formed and background work running, carrier 0 in service. -/
def work (m : MapState) : State :=
  { boot := { phase := .complete, intake := true, bgStarted := true }, red := { st := .normal }, media := (carS serving).media, map := m }
/-- LUN 0 of every channel of carrier 0 inside the window, which its parameters open. -/
def window (s : State) : State :=
  { s with media := { s.media with
      carriers := vset s.media.carriers 0 { serving with lomril := some { progTempMin := -40, progTempMax := 125 } }
      luns := (polestarLuns 0).map (fun l => (l, { inside := true })) } }
/-- A state with the PF's controller as given, namespace 1 of 512 blocks attached to it, Memory Space and Bus Master on. -/
def pfS (k : Ctrl) (s : State) : State :=
  { s with nvme := { s.nvme with ctrl := vset s.nvme.ctrl 0 k, namespaces := [(1, { nsze := 512, attached := [0] })] }
           host := { s.host with configReady := true, perst := false, linkUp := true, func := vset s.host.func 0 { memSpace := true, busMaster := true } } }
/-- Command 7 fetched from a queue of the PF. -/
def cmdS (q : Nat) (f : Fetched) : State :=
  pfS { rdy := true, sqs := [(q, { size := 16, tail := 1, head := 1, cqid := 0, cmds := [f] })], cqs := [(0, { size := 16 })] } (work {})
def ref (q : Nat) : CmdRef := { fn := 0, sq := q, cid := 7 }
/-- An entry of an opcode with its dwords 10 to 13. -/
def sqe (opc a b c d : Nat) : Sqe := { opc := opc, cid := 7, nsid := 1, cdw10 := a, cdw11 := b, cdw12 := c, cdw13 := d }
/-- Whether a command of the PF has ended with an outcome. -/
def ended (q : Nat) (o : Cpl) (t : State) : Bool := (cmdAt t (ref q)).bind (·.done) == some o
/-- Mailbox 3 of the PF with a command begun, and its state. -/
def cmd (op : Nat) (r : Bytes) : MbxExec := { id := 1, opcode := BitVec.ofNat 16 op, len := r.length, begun := true, request := r }
def mb (op : Nat) (r : Bytes) (s : State) : State := { s with mbx := { s.mbx with boxes := [(3, { busy := true, exec := some (cmd op r) })], nextExec := 2 } }
/-- The status the command ended with, once DONE. -/
def stat (t : State) : Option Nat := if (boxAt t 3).done then some (boxAt t 3).status else none
/-- A served command without an enrolled key ends with a status. -/
def ends (c : Instr) (op : Nat) (r : Bytes) (s : State) (st : Nat) : Bool := gives c (mb op r s) (fun t => stat t == some st)
/-- An authorisation block for an opcode (R375), its digest and signature zero, and a state with a key and the zero nonce's challenge. -/
def auth (op : Nat) (r : Bytes) : Bytes := ascii "CAUT" ++ b2 1 ++ b2 op ++ List.replicate 248 0 ++ r
def keyS (op : Nat) (r : Bytes) (s : State) : State :=
  { s with mbx := { boxes := [(3, { busy := true, challenge := some (0, 0), exec := some (cmd op (auth op r)) })], nextExec := 2, custodianKey := some 1 } }
/-- The PF after Memory Space and Bus Master, with its controller. -/
def pcS (k : Ctrl) : State := pfS k {}
/-- A mailbox of the PF as given. -/
def boxS (b : Mailbox) : State := { pcS {} with mbx := { boxes := [(15, b)] } }
/-- A handover at a phase; the incoming image is in slot 1. -/
def hoS (h : HandoverPhase) (n : Nat) (stalled : Bool) (img : Bytes) : State :=
  { fw := { handover := h, microcodeRolled := n, intakeStalled := stalled, slots := #v[{ state := .committed }, { state := .committed, rollback := 9, image := img }] } }
def w : State := work {}
/-- Carrier 0 in a state with a parameter table. -/
def carS1 (c : CarrierSt) : State := { w with media := { carriers := vset (Vector.replicate 16 {}) 0 { serving with st := c } } }

/-! ### Cooling: states that meet the hypotheses of each clause, and what the command leaves there -/

/-- A Calibration Set with motor 0 described: ENABLE and the pole pairs as given, the other fields R468 bounds inside their ranges, the section's CRC-32C. -/
def motorCal (enable poles : Byte) : List (Nat × Byte) :=
  let b : Bytes := [enable, poles] ++ List.replicate 24 0 ++ [244, 1, 224, 46, 16, 0, 20, 0] ++ List.replicate 14 0 ++ [100, 0, 200, 0] ++ List.replicate 8 0
  (b ++ leBytes 4 (crc32c b).toNat).zipIdx.map (fun p => (0x10000 + p.2, p.1))
/-- A motor 0 in a state. -/
def motorS (x : MotorState) : State := { cool := { motor := vset (Vector.replicate 4 {}) 0 x } }
/-- A motor 0 in a state, with its section of the Calibration Set. -/
def motorCalS (x : MotorState) (cal : List (Nat × Byte)) : State := { motorS x with pwr := { cal := cal } }

theorem wit_MotorEnable : let s := motorCalS {} (motorCal 1 1); (motorAt s 0).st = .off ∧ s.pwr.pwrfail = false ∧ s.pwr.sleep ≠ .eclipse ∧
    (motorParam s 0).bad = false ∧ (motorParam s 0).valid = true ∧ (motorParam s 0).enable ≠ 0 ∧
    gives (.motorEnable 0 true) s (fun t => (motorAt t 0).st == .detect && t.pins.cdEn == 1) = true := by decide +kernel
theorem wit_MotorDetect_catch : let s := motorS { st := .detect, param := { ke := 100 } }; (motorAt s 0).st = .detect ∧
    keHolds (motorAt s 0).param 75 = true ∧ keHolds (motorAt s 0).param 125 = true ∧ keHolds (motorAt s 0).param 126 = false ∧
    gives (.motorDetectDone 0 2 301 75) s (fun t => (motorAt t 0).st == .catching) = true := by decide +kernel
theorem wit_MotorDetect_brake : let s := motorS { st := .detect }; (motorAt s 0).st = .detect ∧ ¬ (2 ≤ 2 ∧ (300 : Int) < -101) ∧ 100 < (-101 : Int).natAbs ∧
    gives (.motorDetectDone 0 2 (-101) 0) s (fun t => (motorAt t 0).st == .brake && (motorAt t 0).reversed) = true ∧
    gives (.motorDetectDone 0 1 (-100) 0) s (fun t => (motorAt t 0).st == .align) = true := by decide +kernel
theorem wit_MotorBrake : (motorAt (motorS { st := .brake }) 0).st = .brake ∧
    gives (.brakeEnd 0) (motorS { st := .brake }) (fun t => (motorAt t 0).st == .align) = true ∧
    gives (.brakeTimeout 0) (motorS { st := .brake }) (fun t => (motorAt t 0).st == .fault) = true := by decide +kernel
theorem wit_MotorAlignRamp : (motorAt (motorS { st := .align }) 0).st = .align ∧ (motorAt (motorS { st := .ramp }) 0).st = .ramp ∧
    gives (.alignDone 0) (motorS { st := .align }) (fun t => (motorAt t 0).st == .ramp) = true ∧
    gives (.rampDone 0) (motorS { st := .ramp }) (fun t => (motorAt t 0).st == .keCheck) = true := by decide +kernel
theorem wit_MotorKeCheck : let s := motorS { st := .keCheck, param := { ke := 100 } }; (motorAt s 0).st = .keCheck ∧
    keHolds (motorAt s 0).param (750 / 10) = true ∧ keHolds (motorAt s 0).param (740 / 10) = false ∧
    gives (.keCheckDone 0 750 10) s (fun t => (motorAt t 0).st == .catching) = true ∧
    gives (.keCheckDone 0 740 10) s (fun t => (motorAt t 0).st == .fault && (motorAt t 0).keFault) = true := by decide +kernel
theorem wit_MotorLock : (motorAt (motorS { st := .catching }) 0).st = .catching ∧
    gives (.observerLock 0 7) (motorS { st := .catching }) (fun t => (motorAt t 0).st == .run && (motorAt t 0).angle == 7) = true := by decide +kernel
theorem wit_MotorDetect_fault : let s := motorS { st := .detect, param := { ke := 100 } }; (motorAt s 0).st = .detect ∧ keHolds (motorAt s 0).param 74 = false ∧
    gives (.motorDetectDone 0 2 301 74) s (fun t => (motorAt t 0).st == .fault) = true := by decide +kernel
theorem wit_MotorEnable_bad : let s := motorCalS {} (motorCal 1 17); (motorAt s 0).st = .off ∧ s.pwr.pwrfail = false ∧ s.pwr.sleep ≠ .eclipse ∧
    (motorParam s 0).bad = true ∧ gives (.motorEnable 0 true) s (fun t => (motorAt t 0).st == .fault) = true := by decide +kernel
theorem wit_MotorRestart_off : let s := motorS { st := .fault }; (motorAt s 0).st = .fault ∧ (motorAt s 0).enable = false ∧
    gives (.motorRestart 0) s (fun t => (motorAt t 0).st == .off) = true := by decide +kernel
theorem wit_MotorRestart_on : let s := motorCalS { st := .fault, enable := true } (motorCal 1 16); (motorAt s 0).st = .fault ∧ (motorAt s 0).enable = true ∧
    s.pwr.pwrfail = false ∧ s.pwr.sleep ≠ .eclipse ∧ (motorParam s 0).bad = false ∧ (motorParam s 0).valid = true ∧ (motorParam s 0).enable ≠ 0 ∧
    gives (.motorRestart 0) s (fun t => (motorAt t 0).st == .detect) = true := by decide +kernel
/-- A motor whose shunts and gain R465 converts without an open value, and a conversion beyond its limit of 0 mA. -/
def shuntS (x : MotorState) : State := motorS { x with param := { shuntUohm := 1000, isenseGain := 1000 } }
def beyond : ConverterSample := { isense := Vector.replicate 3 4095 }
theorem wit_RotorLoss : let s : State := { motorS { st := .run, apartSince := some 0 } with time := { opMs := 20 } }; (motorAt s 0).st = .run ∧ implausible s 0 = true ∧
    gives (.rotorLoss 0) s (fun t => (motorAt t 0).st == .coast && (motorAt t 0).losses == [20]) = true := by decide +kernel
theorem wit_Overcurrent_tenth : let s := shuntS { st := .run, gatesOff := false, overPeriods := 9 }; (motorAt s 0).st = .run ∧ (motorAt s 0).gatesOff = false ∧
    exceeds (motorAt s 0).param (Config.freeNat s.freeCtr) (motorAt s 0).param.iLimit beyond = true ∧ 9 ≤ (motorAt s 0).overPeriods ∧
    gives (.overcurrent 0 beyond) s (fun t => (motorAt t 0).st == .coast) = true := by decide +kernel
theorem wit_Overcurrent_brake : let s := shuntS { st := .brake }; (motorAt s 0).st = .brake ∧
    gives (.overcurrent 0 beyond) s (fun t => (motorAt t 0).gatesOff) = true ∧ gives (.overcurrent 0 {}) s (fun t => !(motorAt t 0).gatesOff) = true := by decide +kernel
theorem wit_CdFault_night : let s : State := { motorS { enable := true } with pwr := { phase := .steady, sleep := .night } };
    s.pwr.phase = .steady ∧ s.pwr.sleep = .night ∧ (motorAt s 0).enable = true ∧
    gives (.cdFaultNFall 0) s (fun t => t.pwr.phase == .exiting && t.pwr.wakeStatus.getLsbD 8) = true := by decide +kernel
theorem wit_Overcurrent_first : let s := shuntS { st := .run, gatesOff := false, overPeriods := 8 }; (motorAt s 0).st = .run ∧ (motorAt s 0).gatesOff = false ∧
    s.pwr.phase = .steady ∧ s.pwr.sleep ≠ .night ∧
    (motorAt s 0).overPeriods < 9 ∧ gives (.overcurrent 0 beyond) s (fun t => (motorAt t 0).st == .run && (motorAt t 0).overPeriods == 9) = true ∧
    gives (.cdFaultNFall 0) s (fun t => (motorAt t 0).st == .coast && t.pins.cdFaultN == 0xE) = true := by decide +kernel
theorem wit_Coast : let s := motorS { st := .coast, losses := [0, 0] }; (motorAt s 0).st = .coast ∧ (recentLosses s (motorAt s 0)).length < 3 ∧
    gives (.coastDone 0) s (fun t => (motorAt t 0).st == .detect) = true := by decide +kernel
theorem wit_Coast_fault : let s := motorS { st := .coast, losses := [0, 0, 0] }; (motorAt s 0).st = .coast ∧ 3 ≤ (recentLosses s (motorAt s 0)).length ∧
    gives (.coastDone 0) s (fun t => (motorAt t 0).st == .fault && t.cool.motorFault) = true := by decide +kernel
theorem wit_MotorFaultDemandLift : let s : State := { motorS { st := .run, enable := true, since := 0 } with time := { opMs := 60000 } };
    (∀ k : Fin 4, (motorAt s k).enable = true → (motorAt s k).st = .run ∧ (motorAt s k).since + 60000 ≤ s.time.opMs) ∧
    gives .motorFaultDemandLift s (fun t => t.cool.motorFault == false) = true := by decide +kernel
theorem wit_DiodeReading : gives (.diodeReading 2401) {} (fun t => t.cool.fault && t.cool.tj == 2000) = true ∧
    gives (.diodeReading 2400) {} (fun t => !t.cool.fault && t.cool.tj == 2400) = true ∧
    gives (.diodeReading 321) { cool := { prev := some 0 } } (fun t => t.cool.fault) = true ∧
    gives (.diodeReading 320) { cool := { prev := some 0 } } (fun t => !t.cool.fault) = true ∧
    gives (.diodeReading 0) { cool := { prev := some 0, fault := true, plausibleMs := 999 } } (fun t => !t.cool.fault && t.cool.tj == 0) = true ∧
    gives (.diodeReading 0) { cool := { prev := some 0, fault := true, plausibleMs := 998 } } (fun t => t.cool.fault && t.cool.tj == 2000) = true := by decide +kernel
theorem wit_ThermalDemands : let s : State := { cool := { thr := vset (Vector.replicate 4 {}) 0 { reached := true, belowSince := some 0 }, demand := 1 }, time := { opMs := 10000 } };
    (vget s.cool.thr {} 0).belowSince = some 0 ∧ 0 + 10000 ≤ s.time.opMs ∧
    gives .thermalDemandFallback s (fun t => t.cool.demand == 0 && t.cool.thresholdChange) = true := by decide +kernel
theorem wit_RateDemandLift : let s : State := { cool := { rateDemand := some 2, rateBelow := some 0 }, time := { opMs := 10000 } };
    s.cool.rateDemand.isSome = true ∧ s.cool.rateBelow = some 0 ∧ gives .rateDemandLift s (fun t => t.cool.rateDemand == none) = true := by decide +kernel
theorem wit_HousekeepingRound : State.reset.pwr.sleep ≠ .night ∧ State.reset.pwr.sleep ≠ .eclipse ∧
    gives (.housekeepingRound []) {} (fun t => t.cool.round == 1) = true := by decide +kernel
theorem wit_LoopSlotUpdate : let s : State := { cool := { slot := vset (Vector.replicate 16 {}) 0 { enable := true, active := { b0 := 2 ^ 28 }, outMax := 100 } } };
    slotRuns s 0 = true ∧ -(2 ^ 63) ≤ slotSum (loadShadow (loopAt s 0)) (7 - slotSetpoint s 0) ∧
    slotSum (loadShadow (loopAt s 0)) (7 - slotSetpoint s 0) < 2 ^ 63 ∧
    gives (.loopSlotUpdate 0 7) s (fun t => (loopAt t 0).out == 7) = true ∧
    gives (.loopSlotUpdate 0 101) s (fun t => (loopAt t 0).out == 100 && (loopAt t 0).satHigh) = true := by decide +kernel
theorem wit_LoopSlotUpdate_motor : let s : State := { cool := { motor := vset (Vector.replicate 4 {}) 0 { st := .run }, slot := vset (Vector.replicate 16 {}) 15 { active := { b0 := 2 ^ 28 }, outMin := -5 } } }; slotRuns s 8 = true ∧
    gives (.ctlSlotCommit 8 true) s (fun t => (loopAt t 8).commitPending && (loopAt t 8).commitNext) = true ∧
    gives (.loopSlotUpdate 8 3) s (fun t => (loopAt t 8).e1 == -3) = true := by decide +kernel
theorem wit_Trace_trigger : let s : State := { cool := { trace := vset (Vector.replicate 4 {}) 0 { armed := true } } };
    (traceAt s 0).armed = true ∧ (traceAt s 0).continuous = false ∧ (traceAt s 0).trigSrc = 0 ∧
    gives (.trcTrigger 0) s (fun t => (traceAt t 0).triggered) = true ∧ gives (.trcArm 1) s (fun t => (traceAt t 1).armed) = true := by decide +kernel
theorem wit_Trace_event : let s : State := { cool := { trace := vset (Vector.replicate 4 {}) 0 { armed := true, trigSrc := 1 } } };
    (traceAt s 0).armed = true ∧ (traceAt s 0).continuous = false ∧ (traceAt s 0).trigSrc ≠ 0 ∧
    gives (.traceTriggerEvent 0) s (fun t => (traceAt t 0).triggered) = true := by decide +kernel
theorem wit_Trace_sample : let s : State := { cool := { trace := vset (Vector.replicate 4 {}) 0 { armed := true, inForce := (1, 0, 0), skipped := 1, writeIndex := 8191 } } };
    (traceAt s 0).armed = true ∧ (traceAt s 0).inForce.1 ≤ (traceAt s 0).skipped ∧
    gives (.traceSample 0 (-1) 5) s (fun t => lookup (traceAt t 0).samples 8191 == some (0xFFFFFFFF, 5) && (traceAt t 0).writeIndex == 0) = true := by decide +kernel
theorem wit_Trace_skip : let s : State := { cool := { trace := vset (Vector.replicate 4 {}) 0 { armed := true, inForce := (1, 0, 0) } } };
    (traceAt s 0).skipped < (traceAt s 0).inForce.1 ∧ gives (.traceSample 0 1 5) s (fun t => (traceAt t 0).skipped == 1) = true := by decide +kernel

/-! ### Sleep, levels, power failure -/

/-- A device that has started and stands still. -/
def idleS (p : PwrState) : State := { boot := { phase := .complete, intake := true }, pwr := p }
/-- A hold-up section of the Calibration Set: nominal 1 mF (in nF units of the section), 1 A, the rest as given. -/
def holdCal (cNom iTest : Nat) : List (Nat × Byte) :=
  let b : Bytes := leBytes 4 cNom ++ leBytes 4 iTest ++ leBytes 4 0 ++ leBytes 4 1000 ++ leBytes 4 1000 ++ leBytes 4 1 ++ List.replicate 36 0
  (b ++ leBytes 4 (crc32c b).toNat).zipIdx.map (fun p => (0x11000 + p.2, p.1))

theorem wit_SleepEntry : let s : State := { idleS {} with nvme := { powerSelected := 6 } }; MaySleep s ∧ depth s.pwr.sleep < depth (sleepOf .eclipse) ∧
    commandedTarget s = some .eclipse ∧ gives (.sleepEntry .eclipse true) s (fun t => t.pwr.phase == .entering && t.pwr.target == .eclipse) = true := by decide +kernel
theorem wit_Apst_deep : let s : State := { idleS {} with nvme := { apstEnable := true, apst := [(5, 100)] } }; MaySleep s ∧ autonomousTarget s 100 = some .night ∧
    deepForbidden s = false ∧ depth s.pwr.sleep < depth (sleepOf .night) ∧
    gives (.apstIdleTimer 100) s (fun t => t.pwr.target == .night) = true := by decide +kernel
theorem wit_Apst_forbidden : let s : State := { idleS {} with nvme := { apstEnable := true, apst := [(5, 100)] }, red := { rebuildRunning := true } }; MaySleep s ∧
    autonomousTarget s 100 = some .night ∧ deepForbidden s = true ∧ s.pwr.sleep = .zenith ∧
    gives (.apstIdleTimer 100) s (fun t => t.pwr.target == .dusk) = true := by decide +kernel
theorem wit_EclipseTimeout : let s : State := { pwr := { phase := .entering, target := .eclipse }, map := { tail := [{}] } }; s.pwr.phase = .entering ∧
    s.pwr.target = .eclipse ∧ (dirtyLines s.map.lines ≠ [] ∨ s.map.tail ≠ []) ∧
    gives .eclipseDestageTimeout s (fun t => t.pwr.target == .night) = true := by decide +kernel
theorem wit_Isolation_level : let s : State := { pwr := { phase := .entering, target := .dusk, pwrfail := true } }; s.pwr.phase = .entering ∧
    eclipseReady s s.pwr.target = true ∧ levelPresent s s.pwr.target = true ∧ gives .isolationCommit s (fun t => t.pwr.phase == .steady) = true := by decide +kernel
theorem wit_Isolation : let s : State := { pwr := { phase := .entering, target := .eclipse } }; s.pwr.phase = .entering ∧
    eclipseReady s s.pwr.target = true ∧ levelPresent s s.pwr.target = false ∧ isDeep s.pwr.target = true ∧
    gives .isolationCommit s (fun t => t.pwr.sleep == .eclipse && t.pwr.domainsOff && t.pwr.padHold == 0x3F) = true := by decide +kernel
theorem wit_Isolation_dusk : let s : State := { pwr := { phase := .entering, target := .dusk } }; eclipseReady s s.pwr.target = true ∧
    levelPresent s s.pwr.target = false ∧ s.pwr.target = .dusk ∧ gives .isolationCommit s (fun t => t.pwr.sleep == .dusk && !t.pwr.domainsOff) = true := by decide +kernel
theorem wit_Isolation_alone : let s : State := { pwr := { phase := .entering, target := .night }, settings := [((7, 4, 0), 1)], halo := { eng := true } };
    levelPresent s s.pwr.target = false ∧ isDeep s.pwr.target = true ∧ setting s 0x07 4 = 1 ∧
    gives .isolationCommit s (fun t => !t.halo.eng) = true := by decide +kernel
theorem wit_Wake : let s : State := { pwr := { sleep := .dusk } }; s.pwr.phase = .steady ∧ s.pwr.sleep ≠ .zenith ∧ wakeEffective s .doorbell s.pwr.sleep = true ∧
    wakeEffective s .timer s.pwr.sleep = false ∧ gives (.wakeEvent .doorbell false) s (fun t => t.pwr.phase == .exiting && t.pwr.wakeStatus == 1) = true ∧
    gives (.wakeEvent .timer false) s (fun t => t.pwr == s.pwr) = true := by decide +kernel
theorem wit_Wake_awake : State.reset.pwr.sleep = .zenith ∧ State.reset.pwr.phase = .steady ∧ gives (.wakeEvent .doorbell true) {} (fun t => t.pwr == {}) = true := by
  decide +kernel
theorem wit_Wake_entering : let s : State := { pwr := { phase := .entering, target := .night } }; s.pwr.phase = .entering ∧ s.pwr.sleep = .zenith ∧
    s.pwr.target ≠ .zenith ∧ gives (.wakeEvent .doorbell true) s (fun t => t.pwr.phase == .steady && t.pwr.target == .zenith) = true ∧
    gives (.wakeEvent .haloE true) s (fun t => t.pwr.phase == .entering) = true := by decide +kernel
theorem wit_WakeTimer : let s : State := { pwr := { sleep := .night }, settings := [((9, 3, 0), 3600000)] }; s.pwr.phase = .steady ∧ isDeep s.pwr.sleep = true ∧
    setting s 0x09 3 ≠ 0 ∧ gives .wakeTimerExpiry s (fun t => t.pwr.phase == .exiting && t.pwr.wakeStatus == 64) = true := by decide +kernel
theorem wit_SleepExit : let s : State := { pwr := { sleep := .night, phase := .exiting, wakeStatus := 64 } }; s.pwr.phase = .exiting ∧ carriersResuming s = false ∧
    gives (.sleepExitDone []) s (fun t => t.pwr.sleep == .zenith && t.pwr.wakeLast == 64) = true := by decide +kernel
theorem wit_Level_down : let s : State := { pwr := { level := 0, levelFree := true }, cool := { motorFault := true } }; s.pwr.level < wantedLevel s ∧
    gives .perfLevelChange s (fun t => t.pwr.level == 3) = true := by decide +kernel
theorem wit_Level_up : let s : State := { pwr := { level := 3, levelFree := true } }; wantedLevel s < s.pwr.level ∧ s.pwr.stepTo = none ∧ s.pwr.avsFailed = false ∧
    gives .perfLevelChange s (fun t => t.pwr.stepTo == some 0 && t.pwr.level == 3) = true := by decide +kernel
theorem wit_Level_step : let s : State := { pwr := { level := 3, levelFree := true, stepTo := some 0 } }; wantedLevel s < s.pwr.level ∧
    s.pwr.stepTo = some (wantedLevel s) ∧ gives .perfLevelChange s (fun t => t.pwr.level == 0) = true ∧
    wantedLevel { s with pwr := { s.pwr with stepTo := none, avsFailed := true } } < 3 := by decide +kernel
theorem wit_AvsTimeout : let s : State := { pwr := { stepTo := some 0 } }; s.pwr.stepTo ≠ none ∧ s.pwr.avsRepeated = false ∧
    gives .avsbusTimeout s (fun t => t.pwr.avsRepeated) = true ∧
    gives .avsbusTimeout { pwr := { stepTo := some 0, avsRepeated := true } } (fun t => t.pwr.avsFailed && t.pwr.stepTo == none) = true := by decide +kernel
theorem wit_VoltageMonitor : let s : State := { pwr := { requestedMv := 750 } }; ¬ (21 ≤ (6 : Fin 24).val ∧ railState s 6 100 = .faultLow) ∧ railState s 6 100 = .faultLow ∧ (vget s.pwr.mon {} 6).st ≠ .faultLow ∧
    21 ≤ (21 : Fin 24).val ∧ railState s 21 0 = .faultLow ∧ s.pwr.pwrfail = false ∧
    gives (.voltageMonitorEvent 6 true 100) s (fun t => t.pwr.coreFault && t.pwr.level == 3 && (vget t.pwr.mon {} 6).mv == 100) = true ∧
    gives (.voltageMonitorEvent 7 true 100) s (fun t => !t.pwr.coreFault) = true ∧
    gives (.voltageMonitorEvent 21 true 0) s (fun t => t.pwr.pwrfail) = true := by decide +kernel
theorem wit_CoreFaultLift : let s : State := { pwr := { coreFault := true } }; s.pwr.coreFault = true ∧ (∀ n, n ≤ 6 → (vget s.pwr.mon {} n).st = .inside) ∧
    gives .coreFaultLift s (fun t => !t.pwr.coreFault) = true := by decide +kernel
theorem wit_PwrfailAssert : State.reset.pwr.pwrfail = false ∧ gives .pwrfailAssert {} (fun t => t.pwr.pwrfail && t.pwr.flush == 1) = true ∧
    gives .thermalShutdown {} (fun t => t.pwr.pwrfail && t.alm.event.getLsbD 3) = true := by decide +kernel
theorem wit_FlushComplete : let s : State := { pwr := { pwrfail := true, flush := 1, risenAfterFlush := true } }; s.pwr.flush = 1 ∧
    gives (.flushComplete []) s (fun t => t.pwr.flush == 2 && t.pwr.allOff && (ctrlAt t 0).cfs) = true ∧ funcExists s 0 = true := by decide +kernel
theorem wit_PwrfailDeassert : let s : State := { pwr := { pwrfail := true, flush := 2 } }; s.pwr.pwrfail = true ∧ s.pwr.risenAfterFlush = false ∧
    gives .pwrfailDeassert s (fun t => t.pins.pwrfailN && (ctrlAt t 0).cfs) = true ∧
    gives .pwrfailDeassert { pwr := { pwrfail := true, flush := 1 } } (fun t => t.pwr.risenAfterFlush && !(ctrlAt t 0).cfs) = true := by decide +kernel
theorem wit_Periodic : State.reset.pwr.measuring = false ∧ State.reset.pwr.sleep = .zenith ∧
    gives .periodic720hTimer {} (fun t => t.pwr.measuring && t.pwr.replanDue && t.pins.holdupTest) = true := by decide +kernel
theorem wit_Holdup : let s : State := { pwr := { measuring := true, cal := holdCal 1000 1000 } }; let x : HoldupSample := { v0 := 12000, vEnd := 11800, us := 200000, reached := true };
    s.pwr.measuring = true ∧ s.pwr.measureWaiter = none ∧ (holdupCal s).isSome = true ∧ (holdupCal s).bind (fun k => sampleC s k x) = some 1000000 ∧
    (holdupCal s).bind (fun k => sampleC s k { x with reached := false }) = none ∧
    gives (.holdupMeasurementDone x) s (fun t => t.pwr.lastC == some 1000000 && !t.pwr.measuring) = true ∧
    gives (.holdupMeasurementDone {}) s (fun t => t.pwr.holdupInvalid && t.pwr.halved) = true := by decide +kernel

/-! ### DRAM, on-die memory, starts -/

/-- A state with a cache line. -/
def lineS (l : CacheLine) : State := { map := { lines := [l] }, dram := dramUsed }

theorem wit_Freeze : State.reset.dram.frozen = false ∧ gives (.dramFreeze 1 0 64) {} (fun t => t.dram.frozen && t.dram.freezeAddr == 64) = true ∧
    gives (.dramFreeze 2 1 64) {} (fun t => t.dram.freezeChannel == 1 && t.dram.freezeAddr == 0 && (dramAt t 1).st == .failed) = true ∧
    gives (.dramFreeze 3 1 64) {} (fun t => t.dram.freezeChannel == 0xF && (ctrlAt t 0).cfs) = true := by decide +kernel
theorem wit_Freeze_again : let s : State := { dram := { frozen := true, freezeCause := 1 } }; s.dram.frozen = true ∧
    gives (.dramFreeze 3 0 0) s (fun t => t.dram.freezeCause == 1) = true := by decide +kernel
theorem wit_DramAlert : let s : State := { dram := dramUsed }; (dramAt s 0).st = .inUse ∧ s.dram.frozen = false ∧ ¬ (s.boot.phase = .running ∧ s.boot.step = 7) ∧
    gives (.dramAlert 0 9 true) s (fun t => (dramAt t 0).replaysMax == 8 && (dramAt t 0).parityEvents == 1) = true ∧
    gives (.dramAlert 0 8 false) s (fun t => t.dram.frozen && (dramAt t 0).st == .failed) = true := by decide +kernel
theorem wit_DramAlert_training : let s : State := { dram := dramUsed, boot := { phase := .running, step := 7 } }; (dramAt s 0).st = .inUse ∧
    s.boot.phase = .running ∧ s.boot.step = 7 ∧ gives (.dramAlert 0 8 false) s (fun t => (dramAt t 0).st == .leftTraining && !t.dram.frozen) = true := by decide +kernel
theorem wit_DramPatrol : let s : State := { dram := dramUsed }; s.dram.frozen = false ∧ s.dram.trained = true ∧ (64 : Nat) < s.dram.tableSize ∧
    ({ ch := 0, addr := 64 } : PatrolHit).uncorrectable = false ∧ ({ ch := 0, addr := 64, uncorrectable := true } : PatrolHit).freeBuffer = false ∧
    gives (.dramPatrolScrub [{ ch := 0, addr := 64, uncorrectable := true }]) s (fun t => t.dram.frozen && t.dram.freezeAddr == 64) = true ∧
    gives (.dramPatrolScrub []) s (fun t => t.dram.patrolPasses == 1) = true := by decide +kernel
theorem wit_DramPatrol_frame : let l : CacheLine := { nsid := 1, lba := 5, frame := 1 }
    let s : State := { map := { lines := [l] }, dram := { dramUsed with cacheBase := 4096, cacheSize := 16384 } };
    s.dram.frozen = false ∧ s.dram.trained = true ∧ s.dram.tableSize ≤ 16384 ∧ frameLine s 16384 = some (l, 1) := by decide +kernel
theorem wit_DramInit : let s : State := { dram := dramUsed }; s.dram.trained = true ∧ s.dram.granules * gib < dramBytes s ∧
    gives .dramInitGranule s (fun t => t.dram.granules == 1) = true := by decide +kernel
theorem wit_BufferError : gives (.bufferClassError (.gathering 64)) {} (fun t => t.alm.staged.length == 1) = true := by rfl
theorem wit_BufferError_clean : let l : CacheLine := { nsid := 1, lba := 5, st := .clean }; lineOf (lineS l).map.lines 1 5 = some l ∧ l.st = .clean := by decide +kernel
theorem wit_BufferError_dirty : let l : CacheLine := { nsid := 1, lba := 5 }; lineOf (lineS l).map.lines 1 5 = some l ∧ l.st ≠ .clean ∧ l.provisional = none := by decide +kernel
theorem wit_BufferError_provisional : let l : CacheLine := { nsid := 1, lba := 5, provisional := some { cid := 3 } };
    lineOf (lineS l).map.lines 1 5 = some l ∧ l.st ≠ .clean ∧ l.provisional = some { cid := 3 } := by decide +kernel
theorem wit_MsramScrub : gives (.msramScrub 5 [] [] []) {} (fun t => t.dram.msramCe == 5 && t.dram.msramPasses == 1) = true ∧
    (∃ u ∈ [MsramUse.other], u = .other) ∧ gives (.sramScrub 1 2 []) {} (fun t => t.dram.sramUe == 2) = true := by decide +kernel
theorem wit_SramRepair : ((3, 4) : Nat × Nat) ∉ State.reset.dram.repairs ∧ State.reset.dram.repairs.length < 64 ∧
    gives (.sramScrub 0 0 [(3, 4)]) {} (fun t => t.dram.repairs == [(3, 4)]) = true := by decide +kernel
theorem wit_CodeFetch : State.reset.dram.frozen = false ∧ 0 < State.reset.dram.spareFrames ∧ ({ dram := { spareFrames := 0 } } : State).dram.spareFrames = 0 ∧
    gives (.codeFetchError 64 true false) {} (fun t => t.dram.spareFrames == 15 && t.dram.codeReloads == 1) = true ∧
    gives (.codeFetchError 64 true false) { dram := { spareFrames := 0 } } (fun t => t.dram.frozen) = true ∧
    gives (.codeFetchError 64 false true) {} (fun t => t.dram.frozen) = true := by decide +kernel
theorem wit_StagedLost : gives (.msramDataError (.stagedRecord 0)) { alm := { staged := [(newRecord {} 0x0904 .fault [], none)] } } (fun t => t.alm.staged.length == 1) = true ∧ 1 ≤ stagingSize := ⟨by rfl, by decide⟩
theorem wit_DmaHalt : let s : State := { nvme := { ctrl := vset (Vector.replicate 128 {}) 0 { sqs := [(1, { cmds := [{ sqe := { cid := 7 } }] })] } } };
    (cmdAt s { fn := 0, sq := 1, cid := 7 }).map (·.done) = some none ∧ (channelAt s 3).q[2] = [] ∧
    gives (.internalDmaHalt (.host 0 1 7)) s (fun t => (cmdAt t { fn := 0, sq := 1, cid := 7 }).bind (·.done) == some transferError) = true ∧
    gives (.internalDmaHalt (.media 3 2)) {} (fun t => vget (channelAt t 3).halted false 2) = true := by decide +kernel
theorem wit_DmaHalt_descriptor : let e : QEntry := { desc := { tag := 5 }, owner := .plain }
    let s : State := { media := { channels := vset (Vector.replicate 64 {}) 3 { q := #v[[], [], [e], []] } } };
    (channelAt s 3).q[2] = e :: [] ∧ gives (.internalDmaHalt (.media 3 2)) s (fun t => vget (channelAt t 3).halted false 2 && (channelAt t 3).q[2] == []) = true := by decide +kernel

theorem wit_Restart : let s : State := { boot := { phase := .restarting } }; s.boot.phase = .restarting ∧
    gives .internalRestart s (fun t => t.boot.phase == .waitPower && t.boot.cause == .internalRestart) = true ∧
    gives .sysRstNFall s (fun t => t.boot.phase == .held) = true ∧ gives .powerLoss s (fun t => !t.boot.hadPower) = true := by decide +kernel
theorem wit_ResetRise : State.reset.boot.phase = .held ∧ State.reset.pins.sysRstN = false ∧
    gives .sysRstNRise {} (fun t => t.boot.phase == .waitPower && t.time.powerCycles == 1) = true := by decide +kernel
theorem wit_PowerGood : let s : State := { boot := { phase := .waitPower }, pins := { pwrfailN := true } }; s.boot.phase = .waitPower ∧ s.pins.pwrfailN = true ∧
    (∀ n, n < 24 → (vget s.pwr.mon {} n).st = .inside) ∧ (usedSlots s.boot).length < 32 ∧ s.media.csErase = none ∧ s.boot.carryBad = false ∧
    gives (.powerGood true true true) s (fun t => t.boot.phase == .running && t.boot.step == 1 && t.boot.startCount == 1) = true ∧
    gives (.powerGood false true true) s (fun t => t.boot.phase == .noStore) = true ∧
    gives (.powerGood true false true) s (fun t => t.boot.slot == some 0 && t.boot.carry.firstStart == 1) = true ∧
    gives (.powerGood true false false) s (fun t => t.boot.slot == none) = true := by decide +kernel
theorem wit_Retries : ({ boot := { phase := .noStore } } : State).boot.phase = .noStore ∧ gives (.configStoreRetry true) { boot := { phase := .noStore } } (fun t => t.boot.phase == .restarting) = true ∧
    gives (.safeStartRetry true) { boot := { phase := .stopped, step := 3 } } (fun t => t.boot.phase == .restarting) = true := by decide +kernel
theorem wit_StepEnd : let s : State := { boot := { phase := .running, step := 1, slot := some 0 } }; let r : StepResult := {}; StepRuns 1 s ∧ NextNormal 1 s ∧ r.ok = true ∧
    r.markFails = false ∧ stepReady s 1 = true ∧ (stepWork s 1 r).isSome = true ∧ s.media.csErase = none ∧ r.nextMarkFails = false ∧
    gives (.bootStepEnd r) s (fun t => t.boot.step == 2 && (ledgerWord t.boot 0 1).endMark == 0 && (ledgerWord t.boot 0 2).beginMark == 0) = true := by decide +kernel
theorem wit_StepEnd_4 : let s : State := { boot := { phase := .running, step := 4 } }; StepRuns 4 s ∧ NextNormal 4 s ∧
    gives (.bootStepEnd {}) s (fun t => t.boot.linkArmed && t.boot.step == 5) = true := by decide +kernel
theorem wit_StepEnd_6 : let s : State := { boot := { phase := .running, step := 6 } }; StepRuns 6 s ∧ NextNormal 6 s ∧
    gives (.bootStepEnd {}) s (fun t => t.host.configReady && t.alm.stampLoaded) = true := by decide +kernel
theorem wit_StepEnd_8 : let s : State := { boot := { phase := .running, step := 8 } }; StepRuns 8 s ∧ NextNormal 8 s ∧
    gives (.bootStepEnd {}) s (fun t => t.pwr.levelFree) = true := by decide +kernel
theorem wit_StepEnd_13 : let s : State := { boot := { phase := .running, step := 13 } }; StepRuns 13 s ∧ NextNormal 13 s ∧ s.red.resyncFirst = [] ∧
    gives (.bootStepEnd {}) s (fun t => t.boot.intake) = true := by decide +kernel
theorem wit_StepEnd_16 : let s : State := { boot := { phase := .running, step := 16 } }; StepRuns 16 s ∧
    gives (.bootStepEnd {}) s (fun t => t.boot.phase == .complete && t.boot.bgStarted) = true := by decide +kernel
/-- A ledger of 24 slots in use, each with a begin mark. -/
def fullLedger : BootState := { phase := .running, step := 16, slot := some 23, ledger := (List.range 24).map (fun i => (16 * i, { beginMark := 0 })) }
theorem wit_StepEnd_erase : let s : State := { boot := fullLedger }; StepRuns 16 s ∧ s.media.csErase = none ∧ s.boot.slot.isSome = true ∧
    24 ≤ (usedSlots s.boot).length ∧ gives (.bootStepEnd {}) s (fun t => t.boot.slot == none && t.media.csErase == some (ledgerBase, 0)) = true := by decide +kernel
theorem wit_StepFails : let s : State := { boot := { phase := .running, step := 13 } }; StepRuns 13 s ∧ s.alm.stampLoaded = false ∧
    gives .bootStepWatchdog s (fun t => t.boot.phase == .restarting) = true := by decide +kernel
theorem wit_StepFails_late : let s : State := { boot := { phase := .running, step := 14 } }; StepRuns 14 s ∧ NextNormal 14 s ∧
    gives (.bootStepEnd { ok := false }) s (fun t => t.boot.phase == .running && t.boot.step == 15) = true := by decide +kernel

/-! ### Carriers, Config Store, media -/

theorem wit_PresenceFall : let s := carS {}; (carrierAt s 0).st = .empty ∧ carriersOpen s = true ∧ s.pwr.domainsOff = false ∧
    gives (.carrierPresenceFall 0) s (fun t => (carrierAt t 0).st == .debounce && (carrierAt t 0).present && (carrierAt t 1).st == .empty) = true := by decide +kernel
theorem wit_Debounce : let s := carS { st := .debounce }; (carrierAt s 0).st = .debounce ∧ poweringCount s < 4 ∧
    gives (.carrierDebounceExpiry 0) s (fun t => (carrierAt t 0).st == .powering && (carrierAt t 0).pwrEn) = true := by decide +kernel
theorem wit_Debounce_wait : let s : State := { media := { carriers := (Vector.replicate 16 { st := .powering }).set 0 { st := .debounce } } };
    (carrierAt s 0).st = .debounce ∧ 4 ≤ poweringCount s ∧
    gives (.carrierDebounceExpiry 0) s (fun t => (carrierAt t 0).st == .debounce && (carrierAt t 0).debounced) = true := by decide +kernel
theorem wit_PowerUp : let s := carS { st := .debounce, debounced := true }; (carrierAt s 0).debounced = true ∧ poweringCount s < 4 ∧
    gives (.carrierPowerUp 0) s (fun t => (carrierAt t 0).st == .powering) = true := by decide +kernel
theorem wit_Settle : let s := carS { st := .powering, pwrEn := true }; (carrierAt s 0).st = .powering ∧
    gives (.carrierPowerSettleExpiry 0) s (fun t => (carrierAt t 0).st == .identifying && (carrierAt t 0).settled) = true := by decide +kernel
theorem wit_Identify : let s := carS { st := .identifying, pwrEn := true }; (carrierAt s 0).st = .identifying ∧ lomrilCheck [] ≠ 0 ∧ lomrilCheck lomBytes = 0 ∧
    gives (.carrierDescriptorReadDone 0 lomBytes [] false) s (fun t => (carrierAt t 0).st == .training && (carrierAt t 0).copyUsed == 0 &&
      !(carrierAt t 0).padsIsolated && (carrierAt t 0).lomril.elim false (fun l => l.maxRate == 3 && l.pageSpare == 2048 && l.blocksPerPlane == 1024)) = true := by decide +kernel
theorem wit_Identify_second : let s := carS { st := .identifying, pwrEn := true };
    gives (.carrierDescriptorReadDone 0 [] lomBytes false) s (fun t => (carrierAt t 0).st == .training && (carrierAt t 0).copyUsed == 1) = true ∧
    gives (.carrierDescriptorReadDone 0 [] [] false) s (fun t => (carrierAt t 0).st == .failed && !(carrierAt t 0).pwrEn) = true := by decide +kernel
theorem wit_Training : let s := carS { st := .training, lomril := some { maxRate := 3 } }; (carrierAt s 0).st = .training ∧ (carrierAt s 0).trained = false ∧
    commonRate [some 4, none, some 4, some 4] = none ∧ commonRate [some 4, some 2, some 4, some 3] = some 2 ∧
    gives (.carrierTrainingDone 0 [some 4, none, some 4, some 4]) s (fun t => (carrierAt t 0).st == .failed) = true ∧
    gives (.carrierTrainingDone 0 [some 4, some 2, some 4, some 3]) s (fun t => (carrierAt t 0).trained && (carrierAt t 0).rate == 2) = true ∧
    gives (.carrierTrainingDone 0 [some 4, some 4, some 4, some 4]) s (fun t => (carrierAt t 0).rate == 3) = true := by decide +kernel
theorem wit_BlockStatusLoad : let s := carS { st := .training, trained := true, lomril := some {} }; (carrierAt s 0).st = .training ∧ (carrierAt s 0).trained = true ∧
    s.red.offeringOpen = false ∧ gives (.blockStatusLoadDone 0 [5]) s (fun t => (carrierAt t 0).st == .ready && (blockAt t 5).health == .factoryBad) = true := by decide +kernel
theorem wit_BlockStatusLoad_return : let s := carS { st := .training, trained := true, lomril := some {}, servicedBefore := true };
    (carrierAt s 0).st = .training ∧ (carrierAt s 0).trained = true ∧ s.red.offeringOpen = false ∧ (carrierAt s 0).servicedBefore = true ∧
    gives (.blockStatusLoadDone 0 [5]) s (fun t => (carrierAt t 0).st == .ready && (blockAt t 5).health != .factoryBad) = true := by decide +kernel
theorem wit_Removal : let s := carS { st := .training, pwrEn := true, present := true }; s.pwr.domainsOff = false ∧ s.boot.phase ≠ .held ∧
    (carrierAt s 0).st ∈ [.powering, .identifying, .training] ∧
    gives (.carrierPresenceRise 0) s (fun t => (carrierAt t 0).st == .empty && !(carrierAt t 0).pwrEn && (carrierAt t 0).padsIsolated) = true := by decide +kernel
theorem wit_Removal_serving : let s := carS serving; (carrierAt s 0).st ∈ [.ready, .inService, .outOfService, .poweredDown, .resuming] ∧
    (s.red.offeringOpen && arrayRole s 0) = false ∧ gives (.carrierPresenceRise 0) s (fun t => (carrierAt t 0).st == .empty) = true := by decide +kernel
theorem wit_Removal_unpowered : let s := carS { st := .failed, present := true }; (carrierAt s 0).st ∈ [.debounce, .emptyPending, .failed] ∧
    gives (.carrierPresenceRise 0) s (fun t => (carrierAt t 0).st == .empty) = true := by decide +kernel
theorem wit_Removal_off : let s : State := { (carS serving) with pwr := { domainsOff := true } }; s.pwr.domainsOff = true ∧
    gives (.carrierPresenceRise 0) s (fun t => (carrierAt t 0).st == .inService && !(carrierAt t 0).pin) = true ∧
    gives (.carrierPresenceFall 1) s (fun t => (carrierAt t 1).st == .empty && (carrierAt t 1).pin) = true := by decide +kernel
theorem wit_Resume_settle : let s := carS { st := .resuming, pwrEn := true }; (carrierAt s 0).st = .resuming ∧ (carrierAt s 0).pwrEn = true ∧
    gives (.carrierPowerSettleExpiry 0) s (fun t => (carrierAt t 0).settled) = true := by decide +kernel
theorem wit_Resume : let s := carS { st := .resuming, settled := true, serialLeft := [7] ++ List.replicate 15 0, stateLeft := .inService };
    (carrierAt s 0).settled = true ∧ (lomrilOf lomBytes).serial = (carrierAt s 0).serialLeft ∧
    gives (.carrierResumeDone 0 lomBytes [] [some 4, some 4, some 4, some 4]) s (fun t => (carrierAt t 0).st == .inService && (carrierAt t 0).trained) = true ∧
    gives (.carrierResumeDone 0 [] [] [some 4, some 4, some 4, some 4]) s (fun t => (carrierAt t 0).st == .failed) = true := by decide +kernel

/-- A Config Store descriptor (R87). -/
def csD (addr len : Nat) : CsDesc := { addr := addr, len := len, tag := 9 }
theorem wit_CsRead : State.reset.media.csErase = none ∧ (csD 0 0).zeroFields = true ∧
    gives (.csRead (csD 0x3FFFFFF 1) 64) {} (fun t => t.media.csStatus == 0 && t.media.csData == [0xFF] && t.media.csTag == 9) = true ∧
    gives (.csRead (csD 0 0) 0) {} (fun t => t.media.csStatus == 0x14) = true ∧ gives (.csRead (csD 0x3FFFFFF 2) 0) {} (fun t => t.media.csStatus == 0x0C) = true := by decide +kernel
theorem wit_CsProgram : let z : Bytes := List.replicate 8 0; let o : Bytes := List.replicate 8 255; let d := csD 0x3060000 8
    let one : State := { media := { cs := [(0x3060000 / 8, { value := 0, programs := 1 })] } };
    let two : State := { media := { cs := [(0x3060000 / 8, { value := 0, programs := 2 })] } };
    csProtected {} 0x3060000 8 = false ∧ csProtected {} 0x3050000 8 = true ∧
    gives (.csProgram d z none) {} (fun t => (csWord t 0x3060000).value == 0 && (csWord t 0x3060000).programs == 1) = true ∧
    gives (.csProgram d o none) one (fun t => t.media.csStatus == 0x21) = true ∧ gives (.csProgram d z none) two (fun t => t.media.csStatus == 0x22) = true ∧
    gives (.csProgram (csD 0x3050000 8) z none) {} (fun t => t.media.csStatus == 0x23) = true := by decide +kernel
theorem wit_CsProgram_fails : gives (.csProgram (csD 0x3060000 8) (List.replicate 8 0) (some 0)) {} (fun t => t.media.csStatus == 0x20) = true := by decide +kernel
theorem wit_CsErase : let s : State := { media := { csErase := some (0x3060000, 15) } }; csProtected {} 0x3060000 csSector = false ∧
    gives (.csErase (csD 0x3060000 0)) {} (fun t => t.media.csErase == some (0x3060000, 0)) = true ∧ csUrgent 0x3060000 = false ∧ csUrgent 0x2000000 = true ∧
    gives (.csRead (csD 0 8) 0) s (fun t => t.media.csWaiting.length == 1) = true ∧ gives (.csErase (csD 0 0)) s (fun t => t.media.csWaiting.length == 1) = true ∧
    gives (.csProgram (csD 0x2000000 8) (List.replicate 8 0) none) s (fun t => t.media.csErase == some (0x3060000, 16) && t.media.csWaiting == []) = true ∧
    gives (.csProgram (csD 0x2000000 8) (List.replicate 8 0) none) { media := { csErase := some (0x3060000, 16) } } (fun t => t.media.csWaiting.length == 1) = true := by decide +kernel

/-- Carrier 0 in service, block 0 erased and inside the window. -/
def medS (b : BlockStatus) (lun : LunState) : State := { media := { (carS serving).media with blocks := [(0, b)], luns := [(0, lun)] } }
theorem wit_Descriptor : let s := window (medS { wp := some 0 } {}); let d : MediaDesc := { tag := 9, planeMask := 15, length := 65536 }; let e := mediaEntry s 1 0 0 d (.raw []);
    ChannelFree 0 0 s ∧ refusalOf s 0 0 e = none ∧ windowHeld s 0 0 e = false ∧ heldBack s e = false ∧ d.fence = false ∧ (lunAt s 0).running = none ∧ (lunAt s 0).suspended = none ∧
    gives (mediaCommand 1 0 0 d (.raw []) 0) s (fun t => (lunAt t 0).running == some { entry := e, queue := 0 } && (channelAt t 0).q[(0 : Fin 4)] == []) = true := by decide +kernel
theorem wit_Descriptor_held : let s := medS { wp := some 0 } {}; let d : MediaDesc := { tag := 9, planeMask := 15, length := 65536 }; let e := mediaEntry s 1 0 1 d (.raw []);
    ChannelFree 0 1 s ∧ windowHeld s 0 1 e = true ∧
    gives (mediaCommand 1 0 1 d (.raw []) 0) s (fun t => (channelAt t 0).q[(1 : Fin 4)] == [e] && (lunAt t 0).running == none) = true := by decide +kernel
theorem wit_Descriptor_refused : let s := window (medS { wp := some 1 } {}); let d : MediaDesc := { tag := 9, planeMask := 15, length := 65536 }; let e := mediaEntry s 1 0 0 d (.raw []);
    ChannelFree 0 0 s ∧ refusalOf s 0 0 e = some 4 ∧ windowHeld s 0 0 e = false ∧ heldBack s e = false ∧ (lunAt s 0).running = none ∧ (lunAt s 0).suspended = none ∧
    gives (mediaCommand 1 0 0 d (.raw []) 0) s (fun t => (lastDone t 0).elim false (fun c => c.status == 4 && c.tag == 9)) = true := by decide +kernel
theorem wit_ZqTimer : let s := carS serving; carrierLive s 0 = true ∧ gives (.zqCalibrationTimer 0) s (fun t => (channelAt t 0).zqCount == 1) = true := by decide +kernel
theorem wit_QueueReset : let x : QEntry := { desc := { tag := 5 } };
    let s : State := { media := { channels := vset (Vector.replicate 64 {}) 0 { q := vset (Vector.replicate 4 []) 1 [x], halted := vset (Vector.replicate 4 false) 1 true } } };
    (channelAt s 0).q[(1 : Fin 4)] = [x] ∧ x.owner = .plain ∧ (∀ k : Fin 4, k ≠ 1 → (channelAt s 0).q[k] = []) ∧
    gives (.mediaQueueReset 0 1) s (fun t => !(channelAt t 0).halted[(1 : Fin 4)] && (lastDone t 0).elim false (fun c => c.status == 0x12 && c.tag == 5)) = true := by decide +kernel

/-- LUN 0 runs a descriptor. -/
def runS (op : Nat) (raw : Bool) (b : BlockStatus) : RunningOp × State :=
  let r : RunningOp := { entry := { desc := { opcode := op, raw := raw, tag := 9, planeMask := 15, length := 65536 }, payload := .raw [1, 2] }, queue := 1 }
  (r, { medS b { running := some r } with media := { (medS b { running := some r }).media with pages := [(4095, .raw [3])] } })
theorem wit_DieDone_program : let s := (runS 2 false { wp := some 0 }).2; LunRuns 0 0 (runS 2 false { wp := some 0 }).1 s ∧
    gives (.dieOperationDone (.lun 0 0) {}) s (fun t => (blockAt t 0).wp == some 1 && lookup t.media.pages 0 == some (.raw [1, 2]) && (lunAt t 0).running == none) = true ∧
    gives (.dieOperationDone (.lun 0 0) { ok := false }) s (fun t => (blockAt t 0).health == .grownBad && lookup t.media.pages 0 == none) = true := by decide +kernel
theorem wit_DieDone_erase : let s := (runS 3 false { wp := some 7, rch := 2, failFlag := true }).2; LunRuns 0 0 (runS 3 false { wp := some 7 }).1 s ∧
    gives (.dieOperationDone (.lun 0 0) {}) s (fun t => (blockAt t 0).wp == some 0 && (blockAt t 0).rch == 0 && (blockAt t 0).pe == 1 && t.media.pages == []) = true ∧
    gives (.dieOperationDone (.lun 0 0) { ok := false }) s (fun t => (blockAt t 0).health == .grownBad && t.media.pages.length == 1) = true := by decide +kernel
theorem wit_DieDone_read : let s := (runS 1 true { wp := some 1 }).2; LunRuns 0 0 (runS 1 true { wp := some 1 }).1 s ∧ (lunAt s 0).timeouts + 1 ≠ 3 ∧
    gives (.dieOperationDone (.lun 0 0) {}) s (fun t => (lastDone t 0).elim false (fun c => c.status == 0 && c.tag == 9)) = true ∧
    gives (.dieTimeout 0 0) s (fun t => (lastDone t 0).elim false (fun c => c.status == 0x10) && (lunAt t 0).timeouts == 1) = true := by decide +kernel
theorem wit_DieDone_store : let s : State := { media := { csErase := some (0x3060000, 0), cs := [(0x3060000 / 8, { value := 0, programs := 1 })] } }; s.media.csWaiting = [] ∧ s.media.csOwn = false ∧
    gives (.dieOperationDone .configStore {}) s (fun t => t.media.csErase == none && t.media.cs == []) = true := by decide +kernel
theorem wit_DieDone_ledger : let c : CarryRecord := { erases := 1 }; let s : State := { media := { csErase := some (ledgerBase, 0), csOwn := true }, boot := { carryNext := some c, ledger := [(0, {})] } };
    s.media.csOwn = true ∧ s.media.csWaiting = [] ∧ s.boot.carryNext = some c ∧
    gives (.dieOperationDone .configStore {}) s (fun t => t.media.csErase == none && t.boot.carry == c && t.boot.ledger == []) = true := by decide +kernel
theorem wit_DieDone_store_fails : gives (.dieOperationDone .configStore { ok := false }) { media := { csErase := some (0x3060000, 0) } }
    (fun t => t.media.csStatus == 0x24 && t.media.csFailedSectors == [0x3060000 / csSector]) = true := by rfl

/-- Media Direct enabled, ring 0 with its pending slots. -/
def ringS (r : MdRing) : State := { media := { (carS serving).media with mdEnabled := true, mdPowered := true, rings := vset (Vector.replicate 4 {}) 0 r } }
theorem wit_Ring_doorbell : let s := ringS { tail := 4095, pending := 10 };
    gives (.mdrSqDoorbell 0 8192) s (fun t => t.media.rings[0].err && t.media.rings[0].lastErr == 1) = true ∧
    gives (.mdrSqDoorbell 0 4097) s (fun t => t.media.rings[0].lastErr == 1) = true ∧ gives (.mdrSqDoorbell 0 4096) s (fun t => t.media.rings[0].lastErr == 2) = true ∧
    gives (.mdrSqDoorbell 0 4086) s (fun t => t.media.rings[0].tail == 4085 && t.media.rings[0].pending == 4096 && !t.media.rings[0].err) = true := by decide +kernel
theorem wit_Ring_reset : let s := ringS { tail := 5, head := 3, halted := true }; (channelAt s 0).q[(3 : Fin 4)] = [] ∧
    gives (.mdrRingReset 0) s (fun t => !t.media.rings[0].halted && t.media.rings[0].head == 5) = true ∧
    gives (.mdrRingCtrlWrite 0 63) s (fun t => t.media.rings[0].channel.val == 63) = true ∧
    gives (.mdrRingCtrlWrite 0 63) (ringS { pending := 1 }) (fun t => t.media.rings[0].channel.val == 0) = true ∧
    gives (.mdrCqHeadWrite 0 4097) s (fun t => t.media.rings[0].cqHead == 1) = true := by decide +kernel
theorem wit_Ring_copy : let s := ringS { head := 4095, pending := 1 }; queueRoom s 0 3 false = true := by decide +kernel
theorem wit_Ring_copy_moves : gives (.mdRingCopy 0) (ringS { head := 4095, pending := 1 }) (fun t => t.media.rings[0].head == 0 && t.media.rings[0].pending == 0) = true := by rfl

/-! ### Retention -/

theorem wit_PolestarDaily : gives .polestarDailyTimer (work {}) (fun t => (starAt t 0).sweepDue && (starAt t 0).sweepDaily && !(starAt t 1).sweepDue) = true := by decide +kernel
/-- Carrier 0 with a state of its clock. -/
def starS (c : StarCarrier) : State := window { work {} with ret := { car := vset (Vector.replicate 16 {}) 0 c } }
theorem wit_PolestarSweep : let s := starS { sweepDue := true, tc := 50 }; BgRuns s ∧ sweepMayRun s 0 = true ∧ (carrierAt s 0).lomril.isSome = true ∧
    gives (.polestarSweep 0 []) s (fun t => !(starAt t 0).sweepDue && 50 ≤ (starAt t 0).tc.toNat) = true ∧ sweepMayRun s 1 = false := by decide +kernel
theorem wit_PolestarReprogram : let s := starS { powerUpSweepDone := true, reprogramDue := [7], tc := 50 }; BgRuns s ∧ (7 : Fin 8).val ∈ (starAt s 0).reprogramDue ∧
    (starAt s 0).powerUpSweepDone = true ∧ isHeld s = false ∧ (carrierAt s 0).st = .inService ∧ (∀ l ∈ polestarLuns 0, insideWindow s l = true) ∧
    (∀ i, i < 4 → (vget (starAt s 0).copies {} (4 * 7 + i)).bad = false) := by decide +kernel
theorem wit_PolestarReprogram_runs : gives (.polestarReprogram 0 7 3 25 [] []) (starS { powerUpSweepDone := true, reprogramDue := [7], tc := 50 })
    (fun t => (starAt t 0).youngest == some 7 && (starAt t 0).reprogramDue == [] && (vget (starAt t 0).copies {} 31).stampEqh == 50 && (vget (starAt t 0).copies {} 31).rotation == 1) = true := by decide +kernel
/-- One closed band on one programmed block. -/
def bandS (b : Band) : State :=
  let s := window (work { core := { bands := [(3, b)] } })
  let c := { serving with lomril := some { progTempMin := -40, progTempMax := 125, caps := 1 } }
  { s with media := { s.media with carriers := vset s.media.carriers 0 c, blocks := [(0, { wp := some 1, stamp := 5, dawnPending := true })] } }
def oneBlock : Band := { st := .closed, retQueued := 1, blocks := [0] ++ List.replicate 63 1 }
theorem wit_Recharge : let s := bandS oneBlock; let bl : List PassBlock := [{ key := 0, pages := [{ corrected := 9 }] }]; BgRuns s ∧ isHeld s = false ∧
    bandAt s.map.core 3 = some oneBlock ∧ oneBlock.passRunning = false ∧ oneBlock.secure = false ∧ servedNext s 3 oneBlock = true ∧ bandQualifies s oneBlock = true ∧
    bl.map (·.key) = bandKeys s oneBlock ∧ (bl.map (·.key)).Nodup ∧ (∀ p ∈ bl, insideWindow s (p.key / 65536) = true) ∧
    (∀ p ∈ bl, (blockAt s p.key).wp = some p.pages.length ∧ ∀ x ∈ p.pages, (x.decodeStep = 1 ∨ x.decodeStep = 2) ∧ x.status = 0) ∧
    gives (.rechargePass 3 bl) s (fun t => t.ret.passesDone == 1 && (blockAt t 0).rch == 1 && (blockAt t 0).stamp == 0) = true := by decide +kernel
theorem wit_Recharge_stops : gives (.rechargePass 3 [{ key := 0, pages := [{ decodeStep := 3 }] }]) (bandS oneBlock)
    (fun t => t.ret.passesDone == 0 && (blockAt t 0).rch == 0 && (blockAt t 0).stamp == 5 && (bandAt t.map.core 3).elim false (·.retQueued == 2)) = true := by decide +kernel
theorem wit_MarginPatrol : let s := { bandS oneBlock with ret := { car := vset (Vector.replicate 16 {}) 0 { tc := 2048 } } }; bandOfBlock s.map.core 0 = some 3 ∧
    (bandAt s.map.core 3).elim false (fun b => b.st == .closed) = true ∧ patrolDue s 0 = true ∧
    gives (.marginPatrol 0 [1, 1, 2, 1] [0, 0, 200, 0]) s (fun t => (blockAt t 0).patrol == 8 && (blockAt t 0).stamp == 5) = true := by decide +kernel
theorem wit_DawnScan : let s := { bandS oneBlock with ret := { car := vset (Vector.replicate 16 {}) 0 { scanning := true } } }; (starAt s 0).scanning = true ∧
    (blockAt s 0).dawnPending = true ∧ firstInScan s 0 0 = true ∧
    gives (.dawnScan 0 1 0) s (fun t => !(blockAt t 0).dawnPending && !(starAt t 0).scanning) = true := by decide +kernel

/-! ### Translation -/

/-- Every carrier in service with every LUN 0 inside its window. -/
def allOpen (s : State) : State :=
  { s with media := { s.media with
      carriers := Vector.replicate 16 { serving with lomril := some { progTempMin := -40, progTempMax := 125 } }
      luns := (List.range 64).map (fun c => (128 * c, { inside := true })) } }
/-- A small geometry, of which every group has three free bands. -/
def small : Geometry := { blocksPerPlane := 16, planes := 1 }
/-- Dirty lines of NSID 1, LBA 0 to n - 1. -/
def dirtyS (n : Nat) (bands : List (Nat × Band)) : State :=
  { work { core := { bands := bands }, nextBand := 9, lines := (List.range n).map (fun i => { nsid := 1, lba := i, msn := i + 1 }) } with
    red := { st := .normal, geometry := small } }
theorem wit_StripeWrite_opens : let s := dirtyS 1 []; workRuns s = true ∧ mayWriteMedia s = true ∧ gathered s (streamOf 1) ≠ [] ∧ bandAt s.map.core s.map.nextBand = none ∧
    groupFor s (streamOf 1) = some 0 ∧ openOfStream s.map.core (streamOf 1) < streamCount s (streamOf 1) ∧ journalHolds s 1 = false := by decide +kernel
/-- A band open for the stream, of free blocks, with one gathered line. -/
def openOne : Band := { stream := .stratus, declGroup := 1, declDurable := 1, blocks := List.replicate 64 0 }
theorem wit_GatherTimeout : let s := dirtyS 1 [(3, openOne)]; bandAt s.map.core 3 = some openOne ∧ openOne.st = .opened ∧ openOne.stream = streamOf 1 ∧
    nextDeclared openOne = true ∧ nextInRotation s (streamOf 1) = some 3 ∧ destagingStops s (streamOf 1) = false ∧
    ((dealt s (streamOf 1) 3).take 240).length = 1 := by decide +kernel
theorem wit_GatherTimeout_fits : let s := dirtyS 1 [(3, openOne)];
    allFit s 1 (nextPrograms s 3 openOne ((dealt s .stratus 3).map (·.1) ++ List.replicate 239 padCodeword)) = true := by decide +kernel
theorem wit_StripeCommit : let f : StripeFlight := { band := 3, stripe := 0, units := Vector.replicate 16 1, blocks := [{ nsid := 1, lba := 5, msn := 4 }] };
    let s := { work { core := { bands := [(3, {})] }, stripes := [f], lines := [{ nsid := 1, lba := 5, msn := 4, st := .destaging }] } with dram := dramUsed };
    workRuns s = true ∧ isHeld s = false ∧ poolFull s (flightSpans s 3 0) = false ∧ journalHolds s 240 = false ∧ s.map.stripes.find? (fun f => f.band == 3 && f.stripe == 0) = some f ∧ (∀ i : Fin 16, f.units[i] = 1) ∧
    f.blocks = ({ nsid := 1, lba := 5, msn := 4 } : StripeBlock) :: List.replicate 0 ({} : StripeBlock) ∧ overtaken s { nsid := 1, lba := 5, msn := 4 } = false ∧
    gives (.stripeCommit 3 0) s (fun t => mapAt t.map.core 1 5 == some (.mapped 3 0) && t.map.stripes == [] && t.map.tail.length == 1) = true := by decide +kernel
theorem wit_StripeCommit_waits : let f : StripeFlight := { band := 3, stripe := 0 }; let s := { work { core := { bands := [(3, {})] }, stripes := [f] } with dram := dramUsed };
    (∃ i : Fin 16, f.units[i] = 0) ∧ isHeld s = false ∧ poolFull s (flightSpans s 3 0) = false ∧ journalHolds s 240 = false ∧
    gives (.stripeCommit 3 0) s (fun t => t.map.stripes.length == 1) = true := by decide +kernel
theorem wit_GroupDeclaration : let b : Band := {}; let s := { work { core := { bands := [(3, b)] } } with red := { st := .normal, openSummary := [3] } }; bandAt s.map.core 3 = some b ∧ summaryOpened s 3 = true ∧
    b.declGroup - doneGroupOf s 3 b + groupsAhead s / 2 ≤ groupsAhead s ∧ b.declGroup < bandGroupsXor s.red.geometry ∧
    gives (.groupDeclaration 3) s (fun t => (bandAt t.map.core 3).elim false (fun x => 0 < x.declGroup)) = true := by decide +kernel
theorem wit_JournalPage : let s := allOpen (work { tail := [{}, {}] }); workRuns s = true ∧ journalSlot s = some 0 ∧
    gives (.journalPageWrite true true) s (fun t => t.map.tail == [] && t.map.journal.length == 2 && t.map.pages == 1) = true ∧
    gives (.journalPageWrite true false) s (fun t => t.map.pages == 0 && t.map.tail.length == 2) = true := by decide +kernel
theorem wit_Checkpoint : let s : State := { work { msn := 7, journal := [{}, {}], primary := { msn := 5, journalFrom := 1 } } with time := { opMs := 86400000 } };
    cycleDue s = true ∧ mayWriteMedia s = true ∧
    gives .checkpointCycle s (fun t => t.map.primary.msn == 7 && t.map.secondary.msn == 5 && t.map.journal.length == 1) = true := by decide +kernel
theorem wit_BandClose : let b : Band := { st := .closing, summaryBytes := 0 }; let s := work { core := { bands := [(3, b)] } }; bandAt s.map.core 3 = some b ∧ isHeld s = false ∧
    journalHolds s 1 = false ∧ mayClose s 3 b = true ∧ gives (.bandClose 3) s (fun t => (bandAt t.map.core 3).elim false (·.st == .closed) && t.map.tail.length == 1) = true := by decide +kernel
theorem wit_BandRelease : let b : Band := { st := .closed, releaseDurable := false }; let s := work { core := { bands := [(3, b)] } }; journalHolds s 1 = false ∧
    mayRelease s 3 b = true ∧ gives (.bandRelease 3 []) s (fun t => t.map.tail.length == 1 && t.map.core.bands.length == 1) = true ∧
    gives (.bandRelease 3 []) (work { core := { bands := [(3, { b with st := .eraseList })] } }) (fun t => t.map.core.bands == []) = true := by decide +kernel
theorem wit_Collection : let b : Band := { st := .closed, headOfCollection := true }; let s := { work { core := { bands := [(3, b)] } } with red := { st := .normal, geometry := { blocksPerPlane := 2 } } }; mayWriteMedia s = true ∧
    isVictim s 3 b = true ∧ collectionRuns s b = true ∧
    gives (.garbageCollection 3 true []) s (fun t => (bandAt t.map.core 3).elim false (fun x => x.st == .relocating)) = true := by decide +kernel
theorem wit_Relocation : let b : Band := { st := .closed, scheduled := true }; gives (.relocation 3 true []) (work { core := { bands := [(3, b)] } })
    (fun t => (bandAt t.map.core 3).elim false (fun x => x.st == .relocating)) = true := by decide +kernel
theorem wit_Relocation_queued : let b : Band := { st := .closed, retQueued := 2 }; let s := work { core := { bands := [(3, b)] } }; mayWriteMedia s = true ∧ s.boot.bgStarted = true ∧
    servedNext s 3 b = true ∧ gives (.relocation 3 true []) s (fun t => (bandAt t.map.core 3).elim false (fun x => x.st == .relocating)) = true := by decide +kernel
theorem wit_Consolidation : let s := work { consolidating := true }; BgRuns s ∧ mayWriteMedia s = true ∧ finePoolMille s ≤ 800 ∧ finePoolMille (work {}) < 900 ∧
    gives (.spanConsolidation []) s (fun t => !t.map.consolidating && t.alm.staged.length == 1) = true := by decide +kernel
theorem wit_Consolidation_starts : let s := { work { core := { fine := [(0, 0)] } } with settings := [((1, 1, 0), 2048)] }; BgRuns s ∧ mayWriteMedia s = true ∧
    s.map.consolidating = false ∧ 900 ≤ finePoolMille s ∧ gives (.spanConsolidation []) s (fun t => t.map.consolidating) = true := by decide +kernel
theorem wit_Burst : (5 : Nat) ∉ State.reset.dram.dmaHalted ∧
    gives (.dataPlaneBurst 5 false true) {} (fun t => t.dram.burstsResent == 1 && t.dram.dmaHalted == [] && (funcAt t 0).aerCor.getLsbD 14) = true ∧
    gives (.dataPlaneBurst 5 false false) {} (fun t => t.dram.dmaHalted == [5]) = true := by decide +kernel

/-! ### Redundancy -/

theorem wit_Resync : let b : Band := { nextStripe := 31, st := .closing }; let s := { work { core := { bands := [(3, b)] } } with red := { st := .normal, resyncRunning := true } };
    s.red.resyncFirst = [] ∧ nextResync s = some (3, 0) ∧
    gives (.resynchronisation 3 0 [] []) s (fun t => t.red.resyncPos == (3, 1) && (bandAt t.map.core 3).elim false (·.resyncDone)) = true := by decide +kernel
theorem wit_Resync_lost : let b : Band := { nextStripe := 31, st := .closing };
    let s := { work { core := { bands := [(3, b)], entries := [(entryKey 1 5, .mapped 3 0)] } } with red := { st := .normal, resyncRunning := true } };
    let slot := ((List.range 16).find? (fun k => unitInSlot 3 0 k == 0)).getD 0; unitBlocks s.map.core 3 0 slot ≠ [] ∧
    gives (.resynchronisation 3 0 [{ stripe := 0, bad := [slot], recovered := false }] []) s (fun t => mapAt t.map.core 1 5 == some .lost && t.alm.event.getLsbD 3) = true := by decide +kernel
theorem wit_Resync_recovered : let b : Band := { nextStripe := 31, st := .closing }; let slot := ((List.range 16).find? (fun k => unitInSlot 3 0 k == 0)).getD 0
    let s := { work { core := { bands := [(3, b)], entries := [(entryKey 1 5, .mapped 3 0)] } } with
      red := { st := .normal, resyncRunning := true }, halo := { mirrors := [{ localNsid := 1, st := .active }] } };
    let f : ResyncFinding := { stripe := 0, bad := [slot], recovered := true };
    journalHolds s 7440 = false ∧ unitBlocks s.map.core 3 0 slot = [(1, 5, 0)] ∧ (recoverBlock (resyncReads s 3 f) 1 5 3 0 { step := 4 }).2.isSome = true ∧
    gives (.resynchronisation 3 0 [f] []) s (fun t => (bandAt t.map.core 3).elim false (·.headOfCollection)) = true := by decide +kernel
theorem wit_Rebuild_ends : let s := { work {} with red := { st := .degraded, failedSlot := some 2, rebuildRunning := true } }; nextRebuild s = none ∧
    gives (.rebuild 0 [] [] false) s (fun t => t.red.st == .spared && !t.red.rebuildRunning) = true := by decide +kernel
theorem wit_Rebuild_image : let b : Band := { nextStripe := 1 };
    let s := allOpen { work { core := { bands := [(3, b)] } } with red := { st := .degraded, geometry := small, failedSlot := some 2, rebuildRunning := true, roles := vset (Vector.replicate 16 .member) 2 .failed } };
    nextRebuild s = some 3 ∧ bandAt s.map.core 3 = some b ∧ byImage s 3 b = true ∧ s.red.waiting = [] ∧ isHeld s = false ∧
    (let e := eraseLeftSubsts s 2 b; allInside e ((rebuildSubsts e 3 2 b).map (substKey b)) = true) := by decide +kernel
theorem wit_LunRebuild : let s := { work {} with red := { st := .normal, lunRebuilds := [130] } }; (130 : Nat) ∈ s.red.lunRebuilds ∧ (∀ p ∈ s.map.core.bands, lunPositions s p.2 130 = []) ∧
    gives (.lunRebuild 130 0 []) s (fun t => t.red.lunRebuilds == []) = true := by decide +kernel
theorem wit_Reshape_evacuated : let r : Reshape := { kind := 1, slot := 2 }; let s := { work {} with red := { st := .evacuating, reshape := some r } };
    nextReshape s r = none ∧ sweepLeft s r = 0 ∧
    gives (.reshape 0) s (fun t => t.red.st == .spared && t.red.failedSlot == some 2 && vget t.red.roles .empty 2 == .vacated) = true := by decide +kernel
theorem wit_Reshape_copied : let r : Reshape := { kind := 2, slot := 2 }; let s := { work {} with red := { st := .copyback, failedSlot := some 2, reshape := some r } };
    nextReshape s r = none ∧ sweepLeft s r = 0 ∧ gives (.reshape 0) s (fun t => t.red.st == .normal && t.red.failedSlot == none) = true := by decide +kernel
theorem wit_Reshape_next : let r : Reshape := { kind := 1, slot := 2 }; let b : Band := { st := .closed };
    let s := allOpen { work { core := { bands := [(3, b)] } } with red := { st := .evacuating, geometry := small, reshape := some r } };
    nextReshape s r = some 3 ∧ bandAt s.map.core 3 = some b ∧ reshapeInside s r 3 b = true ∧
    gives (.reshape 3) s (fun t => (bandAt t.map.core 3).elim false (·.reshaped)) = true := by decide +kernel

/-! ### Halo ring -/

/-- Node 1 of ring 5, its East and West ports as given, with more of the Halo state and namespace 1 of 512 blocks. -/
def haloS (p q : HaloPort) (h : HaloState) : State :=
  { work {} with halo := { h with eng := true, ports := #v[p, q] }, settings := [((1, 1, 0), 1048576), ((7, 1, 0), 5), ((7, 2, 0), 1)]
                 nvme := { namespaces := [(1, { nsze := 512 })] } }
def up1 : HaloPort := { st := .up, neighbour := 2 }
def kind (t : State) : List (Nat × Nat × Nat) := t.halo.sent.map (fun m => (m.dst, m.header.opcode, m.header.status))

theorem wit_PortStart : let s := haloS { powered := true } {} {}; (portAt s 0).st = .down ∧ (portAt s 0).powered = true ∧ s.halo.eng = true ∧ ringId s ≠ 0 ∧
    gives (.portTrainingStart .east) s (fun t => (portAt t 0).st == .training && (portAt t 1).st == .down) = true := by decide +kernel
theorem wit_PortTrained : let s := haloS { st := .training, failures := 9 } {} {}; (portAt s 0).retryWait = false ∧ setting s 0x07 3 ≤ 2 ∧ (portAt s 0).maxRate ≤ 2 ∧
    gives (.portTrainingDone .east 2 0x0F) s (fun t => (portAt t 0).st == .init && (portAt t 0).rate == 2 && (portAt t 0).lanes == 15) = true ∧
    gives (.portTrainingTimeout .east) s (fun t => (portAt t 0).failures == 10 && (portAt t 0).retryWait) = true ∧
    gives (.portTrainingRetry .east) (haloS { st := .training, retryWait := true } {} {}) (fun t => !(portAt t 0).retryWait) = true := by decide +kernel
theorem wit_Init : let s := haloS { st := .init } {} {}; (portAt s 0).st = .init ∧
    gives (.initCellTimer .east) s (fun t => (portAt t 0).initSent == 1) = true ∧
    gives (.initCellReceive .east { ringId := 5, nodeId := 2 }) s (fun t => (portAt t 0).st == .up && (portAt t 0).neighbour == 2 && t.halo.ownToken == some 1) = true ∧
    gives (.initCellReceive .east { ringId := 5, nodeId := 1 }) s (fun t => (portAt t 0).st == .init && (portAt t 0).refused) = true ∧
    gives (.initCellReceive .east { ringId := 6, nodeId := 2 }) s (fun t => (portAt t 0).refused) = true := by decide +kernel
theorem wit_Loss : let s := haloS { up1 with replay := [{}] } {} {}; (portAt s 0).st = .up ∧ (portAt s 0).sleepingSeen = false ∧
    gives (.lossOfSignal .east) s (fun t => (portAt t 0).st == .training && (portAt t 0).replay == []) = true ∧
    gives (.lossOfSignal .east) (haloS { up1 with sleepingSeen := true } {} {}) (fun t => (portAt t 0).st == .asleep && t.halo.sleepEast == [2]) = true ∧
    gives (.lossOfDelineation .east) s (fun t => (portAt t 0).st == .training) = true ∧
    gives (.fecErrorLimit .east 1000) s (fun t => (portAt t 0).st == .up && (portAt t 0).fecUncorr == 1000) = true ∧
    gives (.fecErrorLimit .east 1001) s (fun t => (portAt t 0).st == .training && (portAt t 0).maxRate == 1) = true := by decide +kernel
theorem wit_Waking : let s := haloS { st := .waking, neighbour := 3, waking := [(2, 7)] } {} {}; (portAt s 0).waking = [(2, 7)] ∧ 2 ≠ nodeId s ∧ (portAt s 0).st = .waking ∧
    gives (.trainingFramesReceived .east) s (fun t => (portAt t 0).st == .training && kind t == [(2, 3, 0)]) = true ∧
    gives (.wakeGiveupExpiry .east) s (fun t => (portAt t 0).st == .asleep && kind t == [(2, 3, 8)]) = true ∧
    gives (.trainingFramesReceived .east) (haloS { st := .asleep } {} {}) (fun t => (portAt t 0).st == .training) = true ∧
    gives (.wakeGiveupExpiry .east) (haloS { st := .waking } {} {}) (fun t => (portAt t 0).st == .asleep) = true ∧
    gives (.halPortClearCounters .west) (haloS {} { replays := 4, crcErrors := 3 } {}) (fun t => (portAt t 1).replays == 0 && (portAt t 1).crcErrors == 0) = true := by decide +kernel

theorem wit_Cell : let s := haloS { up1 with rxSeq := 65535 } up1 { entries := [{ nodeId := 9 }] }; (portAt s 0).st = .up ∧ nodeId s = 1 ∧
    consumes s 0 { seq := 65535, dst := 9 } = false ∧ (s.halo.entries.any (fun e => e.nodeId == 9)) = true ∧
    gives (.dataCellReceive .east { seq := 65535, dst := 9, hops := 30 }) s (fun t => (vget (portAt t 1).transit [] 0).map (·.hops) == [31]) = true ∧
    gives (.dataCellReceive .east { seq := 65535, dst := 9, hops := 31 }) s (fun t => t.halo.undeliverable == 1 && vget (portAt t 0).released 0 0 == 1) = true := by decide +kernel
theorem wit_Cell_bad : let s := haloS { up1 with crcRun := 6 } {} {}; (portAt s 0).crcRun < 7 ∧
    gives (.dataCellReceive .east { crcOk := false }) s (fun t => (portAt t 0).st == .up && (portAt t 0).nakPending && (portAt t 0).rxSeq == 0) = true ∧
    gives (.dataCellReceive .east { crcOk := false }) (haloS { up1 with crcRun := 7 } {} {}) (fun t => (portAt t 0).st == .training) = true := by decide +kernel
theorem wit_Ctrl : let s := haloS { up1 with replay := [{ seq := 65535 }, { seq := 0 }], replaysInRow := 7 } {} {};
    (portAt s 0).replay = [] ++ ({ seq := 65535 } : DataCell) :: [{ seq := 0 }] ∧
    gives (.ctrlCellReceive .east { ackSeq := 65535, credit := #v[3, 0, 0, 0] }) s (fun t => (portAt t 0).replay == [{ seq := 0 }] && vget (portAt t 0).credits 0 0 == 3) = true ∧
    gives (.replayTimerExpiry .east) s (fun t => (portAt t 0).st == .training && (portAt t 0).replays == 1) = true ∧
    gives (.replayTimerExpiry .east) (haloS { up1 with replay := [{}] } {} {}) (fun t => (portAt t 0).resend == [{}] && (portAt t 0).replaysInRow == 1) = true := by decide +kernel
theorem wit_Slot : let s := haloS { up1 with own := vset (Vector.replicate 4 []) 0 [{ src := 1 }], credits := #v[1, 0, 0, 0], sinceCtrl := 30, controlInWindow := 4 } {} {};
    (portAt s 0).sinceIdle < 4095 ∧ laneReady (portAt s 0) 0 = true ∧ vget (portAt s 0).transit [] 0 = [] ∧
    gives (.cellSlotTransmit .east) s (fun t => (portAt t 0).lastSlot == 3 && (portAt t 0).replay.length == 1 && vget (portAt t 0).credits 0 0 == 0) = true ∧
    gives (.cellSlotTransmit .east) (haloS { up1 with sinceCtrl := 31, nakPending := true } {} {}) (fun t => (portAt t 0).lastSlot == 2 && !(portAt t 0).nakPending) = true ∧
    gives (.cellSlotTransmit .east) (haloS { up1 with resend := [{}], sinceCtrl := 31 } {} {}) (fun t => (portAt t 0).lastSlot == 1 && (portAt t 0).resend == []) = true := by decide +kernel

theorem wit_Token : let s := haloS up1 { up1 with neighbour := 3 } { bestEpoch := 4, ownToken := some 4 }; portUp s 0 = true ∧ portUp s 1 = true ∧
    gives (.tokenReceive .east { epoch := 5, originator := 2 }) s (fun t => t.halo.bestEpoch == 5 && t.halo.ownToken == none && kind t == [(3, 2, 0)]) = true ∧
    gives (.tokenReceive .east { epoch := 3, originator := 2 }) s (fun t => t == s) = true ∧ conflicts s [{ nodeId := 2, ports := 3 }] = false ∧
    gives (.tokenReceive .east { epoch := 5, originator := 2, final := true, entries := [{ nodeId := 2, ports := 3 }] }) s (fun t => t.halo.topology == 1 && t.halo.topoEpoch == 5) = true := by
  decide +kernel
theorem wit_Token_own : let s := haloS up1 up1 { bestEpoch := 4, ownToken := some 4 }; s.halo.ownToken.isSome = true ∧ conflicts s [{ nodeId := 2 }] = false ∧
    gives (.tokenReceive .east { epoch := 4, originator := 1, entries := [{ nodeId := 2 }] }) s (fun t => t.halo.topoEpoch == 4 && t.halo.entries.length == 1) = true ∧
    gives .tokenTimeout s (fun t => t.halo.ownToken == some 5) = true := by decide +kernel
/-- One primary mirror of namespace 1 to node 2. -/
def mirS (m : Mirror) : State := haloS up1 up1 { mirrors := [{ m with session := 6, peer := 2, localNsid := 1, peerNsid := 1 }] }
def mir (m : Mirror) : Mirror := { m with session := 6, peer := 2, localNsid := 1, peerNsid := 1 }
theorem wit_Heartbeat : let s := mirS { st := .suspended, dirty := [1] }; let d : SessionDesc := { session := 6, type := 1, role := 1, nsze := 512, appliedSeqno := 8 };
    accepting s = true ∧ isDeep s.pwr.sleep = false ∧ s.halo.mirrors = [mir { st := .suspended, dirty := [1] }] ∧ s.halo.migration = none ∧ s.sealing.seals = [] ∧
    gives .heartbeatTimer s (fun t => kind t == [(2, 1, 0)]) = true ∧ descMatches s (mir {}) d = true ∧ [d].find? (fun d => d.session == 6 && d.type == 1) = some d ∧
    gives (.heartbeatReceive 2 [7] [d]) s (fun t => (mirrorAt t 6).elim false (fun m => m.st == .active && m.nextSeqno == 9 && m.dirty == [1])) = true := by decide +kernel
theorem wit_Heartbeat_migration : let g : Migration := { session := 6, peer := 2, st := .interrupted, dirty := [(1, 1)] }; let s := haloS up1 up1 { migration := some g };
    let d : SessionDesc := { session := 6, type := 2, role := 1, appliedSeqno := 8 }; s.halo.mirrors = [] ∧
    gives (.heartbeatReceive 2 [7] [d]) s (fun t => t.halo.migration.elim false (fun g => g.st == .passing && g.nextSeqno == 9 && g.dirty == [(1, 1)])) = true := by decide +kernel
theorem wit_PeerTimeout : let s := mirS { st := .active, dirty := [1], inFlight := [0] }; (asleepNodes s).contains 2 = false ∧ (s.halo.mirrors.map (·.session)).Nodup ∧
    gives (.peerTimeoutExpiry 2) s (fun t => (mirrorAt t 6).elim false (fun m => m.st == .suspended && m.inFlight == [] && m.dirty.contains 0 && m.dirty.contains 1)) = true ∧
    (asleepNodes (haloS up1 up1 { sleepEast := [2] })).contains 2 = true := by decide +kernel

/-- A secondary's mirror with the next push and its message. -/
def secS (m : Mirror) : State := mirS { m with secondary := true, st := .active, appliedSeqno := 8 }
def push (kind seqno : Nat) : HaloMessage := { src := 2, dst := 1, header := { opcode := 0x10, xid := 3, session := 6, seqno := seqno, nsid := 1, kind := kind, count := 2, lba := 510, serial := [7] } }
theorem wit_Push : let s := secS {}; Fresh (push 2 9) s ∧ s.pwr.sleep ≠ .dusk ∧ appliedOf s 6 = some 8 ∧ heldOf s 6 = [] ∧ pushCheck s (push 2 9) = none ∧
    gives (.spanPushReceive (push 2 9)) s (fun t => appliedOf t 6 == some 9 && mapAt t.map.core 1 511 == some .zero && kind t == [(2, 0x10, 0)]) = true ∧
    gives (.spanPushReceive (push 3 9)) s (fun t => mapAt t.map.core 1 510 == some .lost) = true := by decide +kernel
theorem wit_Push_orders : let s := secS {}; gives (.spanPushReceive (push 2 8)) s (fun t => kind t == [(2, 0x10, 0)] && mapAt t.map.core 1 511 == none) = true ∧
    gives (.spanPushReceive (push 2 10)) s (fun t => (heldOf t 6).length == 1 && kind t == []) = true ∧
    (heldOf (secS { held := List.replicate 256 (0, {}) }) 6).length = 256 ∧
    gives (.spanPushReceive (push 2 10)) (secS { held := List.replicate 256 (0, {}) }) (fun t => kind t == [(2, 0x10, 1)]) = true ∧
    pushCheck s { push 2 9 with crcOk := false } ≠ none ∧ appliedOf (mirS {}) 6 = none ∧
    gives (.spanPushReceive (push 2 9)) (mirS {}) (fun t => kind t == [(2, 0x10, HaloStatus.noSession.code)]) = true := by decide +kernel
theorem wit_Repeat : let a : HaloAnswer := { serial := [7], xid := 3, response := { dst := 2, header := { opcode := 0x10, response := true, status := 4 } } };
    let s := { haloS up1 up1 { answers := [a] } with time := { opMs := 599999 } }; s.halo.answers.find? (fun a => a.serial == [7] && a.xid == 3 && s.time.opMs < a.atMs + 600000) = some a ∧
    gives (.spanPushReceive (push 2 9)) s (fun t => kind t == [(2, 0x10, 4)]) = true ∧ haloOpcodes.contains 0xEE = false ∧
    gives (.unknownOpcodeReceive { push 2 9 with header := { (push 2 9).header with opcode := 0xEE, xid := 4 } }) s (fun t => kind t == [(2, 0xEE, HaloStatus.badOpcode.code)]) = true := by decide +kernel
/-- A request of a session to this node. -/
def ask (opcode : Nat) (h : HaloHeader) (body : Bytes) : HaloMessage := { src := 2, dst := 1, header := { h with opcode := opcode, xid := 3, session := 6, nsid := 1, serial := [7] }, body := body }
theorem wit_SpanPull : let s := mirS { st := .active }; let m := ask 0x11 { count := 1, lba := 256 } []; Fresh m s ∧ accepting s = true ∧ mirrorAt s 6 = some (mir { st := .active }) ∧
    (nsAt s 1).elim false (fun n => m.header.count != 0 && 256 * (m.header.lba / 256 + m.header.count) ≤ 256 * divCeil n.nsze 256) = true ∧
    gives (.spanPullReceive m) s (fun t => (mirrorAt t 6).elim false (fun m => m.dirty == [1])) = true := by decide +kernel
theorem wit_RepairReq : let s := mirS { st := .active, dirty := [1] }; let m := ask 0x12 { count := 1, lba := 511 } []; Fresh m s ∧
    gives (.repairReqReceive m []) s (fun t => kind t == [(2, 0x12, HaloStatus.notHeld.code)]) = true ∧
    gives (.repairReqReceive { m with header := { m.header with lba := 0 } } []) s (fun t => kind t == [(2, 0x12, 0)]) = true := by decide +kernel
theorem wit_SealXfer : let s := { secS {} with nvme := { namespaces := [(1, { nsze := 512 })] } }; let m := ask 0x13 { seqno := 8, lba := 256 } [];
    let x : SealXfer := { record := List.replicate 33 0 ++ [1] ++ List.replicate 6 0 }; Fresh m s ∧ appliedOf s 6 = some 8 ∧ sessionNs s 6 1 = true ∧ 1 ≤ field x.record 0x20 8 / 256 ∧
    m.header.lba + 256 * (field x.record 0x20 8 / 256) ≤ 512 ∧ isHeld s = false ∧ rangeLocked s 1 256 256 = false ∧ accepting s = true ∧ s.pwr.sleep ≠ .dusk ∧
    gives (.sealXferReceive m x []) s (fun t => t.sealing.seals == []) = true := by decide +kernel
theorem wit_MigrateBegin : let s : State := { haloS up1 up1 {} with nvme := {}, settings := [((7, 1, 0), 5), ((7, 2, 0), 1), ((7, 13, 0), 7)] };
    let m := ask 0x20 { serial := [7] } (leBytes 4 1 ++ leBytes 4 0 ++ leBytes 8 512 ++ List.replicate 16 0);
    migrateEntries m.body ≠ [] ∧ setting s 0x07 13 ≠ 0 ∧ setting s 0x07 13 = ofLE (padTo 20 [7]) ∧ s.red.st = .normal ∧ accepting s = true ∧ sanitizeRuns s = false ∧ s.halo.migration = none ∧
    ((migrateEntries m.body).map (·.nsid)).Nodup ∧
    8 * gib * ((migrateEntries m.body).map (fun e => segmentsOf e.nsze)).sum ≤ exportableNow s := by decide +kernel
theorem wit_Migration : let g : Migration := { session := 6, peer := 2, successor := true, appliedSeqno := 8, sealsReceived := 1, created := [1] };
    let s := { haloS up1 up1 { migration := some g } with nvme := { namespaces := [(1, { nsze := 512, notReady := true })] } }; migAt s 6 = some g ∧ g.st ≠ .committed ∧
    Fresh (ask 0x22 { seqno := 8 } []) s ∧ gives (.migrateCommitReceive (ask 0x22 { seqno := 8 } []) 1) s
      (fun t => t.halo.migration.elim false (fun g => g.st == .committed) && (nsAt t 1).elim false (fun n => !n.notReady)) = true ∧
    gives (.migrateCommitReceive (ask 0x22 { seqno := 9 } []) 1) s (fun t => kind t == [(2, 0x22, HaloStatus.incomplete.code)]) = true ∧
    gives (.migrateCheckpointReceive (ask 0x21 { seqno := 9 } (leBytes 4 3 ++ leBytes 4 1 ++ leBytes 8 1))) s (fun t => t.halo.migration.elim false (fun g => g.pass == 3 && g.posSpan == 1)) = true ∧
    gives (.migrateBeginCancelReceive (ask 0x20 {} [])) s (fun t => t.halo.migration == none) = true := by decide +kernel
theorem wit_WakeReceive : let s := haloS up1 { st := .asleep, neighbour := 3 } {}; let m := { ask 3 {} [] with dst := 3 }; Fresh m s ∧ m.dst ≠ nodeId s ∧
    gives (.wakeReceive m) s (fun t => (portAt t 1).st == .waking && (portAt t 1).waking == [(2, 3)]) = true ∧
    gives (.wakeReceive (ask 3 {} [])) s (fun t => kind t == [(2, 3, 0)]) = true := by decide +kernel

/-- An outstanding push of the mirror's span 1. -/
def txn (op : Nat) (repeated waiting : Bool) (backoff : Nat) : HaloTxn :=
  { xid := 3, repeated := repeated, waiting := waiting, backoff := backoff, msg := { dst := 2, header := { opcode := op, xid := 3, session := 6, nsid := 1, count := 1, lba := 256 } } }
def txnS (u : HaloTxn) : State := { mirS { st := .active, inFlight := [1] } with halo := { (mirS { st := .active, inFlight := [1] }).halo with txns := [u] } }
def answer (op status : Nat) : HaloMessage := { src := 2, dst := 1, header := { opcode := op, response := true, status := status, xid := 3, session := 6 } }
theorem wit_Response : let s := txnS (txn 0x10 false true 64); txnAt s 3 = some (txn 0x10 false true 64) ∧ s.sealing.seals = [] ∧ (∀ n, n < 3 → (vfAt s n).waiter = none) ∧
    gives (.haloResponseReceive (answer 0x10 1)) s (fun t => (txnAt t 3).elim false (fun u => u.backoff == 100 && !u.waiting)) = true ∧
    gives (.haloResponseReceive (answer 0x10 0)) s (fun t => txnAt t 3 == none && (mirrorAt t 6).elim false (fun m => m.inFlight == [])) = true := by decide +kernel
theorem wit_Timeout : let s := txnS (txn 0x11 false true 0); gives (.haloRequestTimeout 3) s (fun t => (txnAt t 3).elim false (·.repeated) && t.halo.sent.map (·.header.retry) == [true]) = true ∧
    gives (.haloRequestTimeout 3) (txnS (txn 0x11 true true 0)) (fun t => txnAt t 3 == none) = true ∧
    gives (.destBusyRetry 3) (txnS (txn 0x10 false false 2)) (fun t => (txnAt t 3).elim false (·.waiting) && t.halo.sent.length == 1) = true := by decide +kernel
theorem wit_MirrorPush : let s := mirS { st := .active, dirty := [1] }; workRuns s = true ∧ ActivePrimary (mir { st := .active, dirty := [1] }) s ∧ (mir {}).resumeDue = false ∧ (mir {}).part = [] ∧ nsAt s 1 = some { nsze := 512 } ∧
    (1 : Nat) ∈ (mir { st := .active, dirty := [1] }).dirty ∧ leastSpan ([1].filter (fun x => !([] : List Nat).contains x)) = some 1 ∧
    gives (.mirrorPush 6 1 []) s (fun t => (mirrorAt t 6).elim false (fun m => m.inFlight == [1] && m.dirty == []) && t.halo.txns.map (·.msg.header.count) == [256]) = true := by decide +kernel
theorem wit_MirrorTimeout : gives (.mirrorTimeoutExpiry 6) (mirS { st := .active, synchronous := true, inFlight := [1] })
    (fun t => (mirrorAt t 6).elim false (fun m => m.st == .suspended && m.dirty == [1] && m.inFlight == [])) = true := by decide +kernel
theorem wit_MigrationFinal : let g : Migration := { session := 6, peer := 2, st := .final, nextSeqno := 9 }; let s := haloS up1 up1 { migration := some g }; workRuns s = true ∧
    (asleepNodes s).contains 2 = false ∧ outstandingOf s 0x10 6 = false ∧ outstandingOf s 0x13 6 = false ∧
    gives (.migrationPass []) s (fun t => t.halo.migration == some { g with st := .committing } && t.halo.txns.map (·.msg.header.seqno) == [8]) = true ∧
    gives .commitStallLimitExpiry s (fun t => t.halo.migration.elim false (fun g => g.st == .passing && g.pass == 1)) = true ∧
    gives .migrateCommitRepeat (haloS up1 up1 { migration := some { g with st := .committing } }) (fun t => t.halo.txns.length == 1) = true := by decide +kernel
theorem wit_WakeDetect : let s : State := { haloS up1 up1 {} with pwr := { sleep := .night } }; s.pwr.phase = .steady ∧ isDeep s.pwr.sleep = true ∧ setting s 0x07 4 = 0 ∧
    gives (.wakeDetect .west) s (fun t => t.pwr.phase == .exiting && t.pwr.wakeStatus == wakeBit .haloW) = true := by decide +kernel

/-! ### NVMe queues and I/O -/

theorem wit_Doorbell : let s := cmdS 1 {}; let r := { s with fw := { s.fw with intakeStalled := true } }; (funcAt s 0).memSpace = true ∧ funcExists s 0 = true ∧ s.host.perst = false ∧
    doorbellsRecorded s 0 = false ∧ doorbellsRecorded r 0 = true ∧ NoWake s ∧ NoWake r ∧
    gives (.sqTailDoorbell 0 1 15) s (fun t => (sqAt t 0 1).elim false (fun x => x.tail == 15)) = true ∧
    gives (.sqTailDoorbell 0 1 16) s (fun t => (sqAt t 0 1).elim false (fun x => x.tail == 1)) = true ∧
    gives (.cqHeadDoorbell 0 0 3) s (fun t => (lookup (ctrlAt t 0).cqs 0).elim false (fun x => x.head == 3)) = true ∧
    gives (.sqTailDoorbell 0 1 15) r (fun t => (ctrlAt t 0).recorded == [(false, 1, 15)]) = true := by decide +kernel
theorem wit_Doorbell_wakes : let s := { cmdS 1 {} with pwr := { sleep := .dusk } }; s.pwr.phase = .steady ∧ s.pwr.sleep ≠ .zenith ∧
    gives (.sqTailDoorbell 0 1 15) s (fun t => t.pwr.phase == .exiting && t.pwr.wakeStatus == 1) = true ∧
    gives (.cqHeadDoorbell 0 0 3) s (fun t => t.pwr.phase == .exiting && t.pwr.wakeStatus == 1) = true := by decide +kernel
theorem wit_Fetch : let s := pfS { rdy := true, sqs := [(1, { size := 16, head := 15, tail := 0 })] } (work {}); intakeRuns s 0 = true ∧
    gives (.commandFetch 0 1 (sqe 2 0 0 0 0)) s (fun t => (sqAt t 0 1).elim false (fun x => x.head == 0 && x.cmds.map (·.done) == [none])) = true ∧
    gives (.commandFetch 0 1 (sqe 0x77 0 0 0 0)) s (fun t => ended 1 invalidOpcode t) = true := by decide +kernel
theorem wit_Post : let s := cmdS 0 { sqe := sqe 0x0A 0 0 0 0, done := some cplOk }; postable s (ref 0) { sqe := sqe 0x0A 0 0 0 0, done := some cplOk } = true ∧ cqRoom { size := 16 } = true ∧
    gives (.completionPost (ref 0)) s (fun t => cmdAt t (ref 0) == none && (lookup (ctrlAt t 0).cqs 0).elim false (fun k => k.tail == 1 && k.posted.map (·.cid) == [7])) = true := by decide +kernel
/-- The PF with its queues granted, one queue pair present. -/
def queueS (f : Fetched) : State := pfS { rdy := true, granted := some (1, 1), cqs := [(0, { size := 16 }), (1, {})]
                                          sqs := [(0, { size := 16, cmds := [f] }), (1, { cqid := 1 })] } (work {})
theorem wit_CreateQueues : let c := sqe 0x05 (2 + 65536) (3 + 65536 * 2047) 0 0; let q := sqe 0x01 (2 + 65536 * 65535) (1 + 65536) 0 0;
    CmdTurn (ref 0) true 0x05 { sqe := c } (queueS { sqe := c }) ∧ lookup (ctrlAt (queueS { sqe := c }) 0).cqs 2 = none ∧
    gives (.createIoCompletionQueue (ref 0)) (queueS { sqe := c }) (fun t => ended 0 cplOk t && (lookup (ctrlAt t 0).cqs 2).elim false (fun k => k.size == 2 && k.iv == 2047 && k.ien)) = true ∧
    gives (.createIoSubmissionQueue (ref 0)) (queueS { sqe := q }) (fun t => ended 0 cplOk t && (sqAt t 0 2).elim false (fun k => k.size == 65536 && k.cqid == 1)) = true := by decide +kernel
theorem wit_DeleteQueues : gives (.deleteIoSubmissionQueue (ref 0)) (queueS { sqe := sqe 0x00 1 0 0 0 }) (fun t => ended 0 cplOk t && sqAt t 0 1 == none) = true ∧
    gives (.deleteIoCompletionQueue (ref 0)) (pfS { cqs := [(0, {}), (1, {})], sqs := [(0, { cmds := [{ sqe := sqe 0x04 1 0 0 0 }] })] } (work {}))
      (fun t => ended 0 cplOk t && lookup (ctrlAt t 0).cqs 1 == none) = true := by decide +kernel

theorem wit_Write : let f : Fetched := { sqe := sqe 0x01 511 0 0 0 }; let s := cmdS 1 f; CmdRuns (ref 1) false 0x01 f s ∧ IoServed 0 1 true { nsze := 512, attached := [0] } s ∧
    transferRefusal s 0 f.sqe { nsze := 512, attached := [0] } = none ∧ rangeLocked s 1 511 1 = false ∧
    firstPiFailure { nsze := 512, attached := [0] } (piAskOf f.sqe) (writeBlocks { nsze := 512, attached := [0] } f.sqe [{}]) = none ∧
    gives (.write (ref 1) [{ data := [5] }]) s (fun t => t.nvme.line == [ref 1] && (cmdAt t (ref 1)).elim false (fun g => g.begun && g.writeData.map (fun b => b.data.take 2) == [[5, 0]])) = true := by decide +kernel
/-- A write in the line, with the cache open. -/
def lineS1 (f : Fetched) : State := let s := cmdS 1 f; { s with nvme := { s.nvme with line := [ref 1] }, dram := { dramUsed with granules := 128 }, settings := [((1, 1, 0), 1048576)], pwr := { effective := 4096 } }
theorem wit_Admission : let f : Fetched := { sqe := sqe 0x01 511 0 0 0, begun := true, writeData := [{ data := [5] }] }; let s := lineS1 f; mayEnter s (ref 1) f = true ∧
    gives .writeAdmission s (fun t => ended 1 cplOk t && t.nvme.line == [] && (lineOf t.map.lines 1 511).elim false (fun l => l.data == [5])) = true := by decide +kernel
theorem wit_Hold : let f : Fetched := { sqe := sqe 0x01 511 0 0 0, begun := true }; let s := lineS1 f; ref 1 ∈ s.nvme.line ∧ destagingHeld s = false ∧
    gives (.thermalHoldLimitExpiry (ref 1)) s (fun t => (cmdAt t (ref 1)).elim false (·.holdTested) && t.nvme.line == [ref 1]) = true := by decide +kernel
theorem wit_Hold_closed : let f : Fetched := { sqe := sqe 0x01 511 0 0 0, begun := true }; let e : QEntry := { desc := { opcode := 2 } };
    let s := { lineS1 f with media := { (lineS1 f).media with channels := vset (Vector.replicate 64 {}) 0 { q := vset (Vector.replicate 4 []) 1 [e] } } }; destagingHeld s = true ∧
    gives (.thermalHoldLimitExpiry (ref 1)) s (fun t => ended 1 thermalHold t && t.nvme.line == [] && t.cool.holds == 1) = true := by decide +kernel
theorem wit_Read : let f : Fetched := { sqe := sqe 0x02 510 0 1 0 }; let s0 := cmdS 1 f; let s := { s0 with map := { s0.map with lines := [{ nsid := 1, lba := 511, data := [5] }] } };
    CmdTurn (ref 1) false 0x02 f s ∧ (∀ i, i < nlbOf f.sqe → Readable s 1 (510 + i) = true) ∧
    gives (.read (ref 1) []) s (fun t => ended 1 cplOk t && (cmdAt t (ref 1)).elim false (fun g => g.out.map (fun b => b.data.take 1) == [[0], [5]])) = true ∧
    gives (.verify (ref 1) []) { (cmdS 1 { f with sqe := { f.sqe with opc := 0x0C } }) with map := s.map } (fun t => ended 1 cplOk t) = true ∧
    gives (.flush (ref 1)) (cmdS 1 { sqe := sqe 0x00 0 0 0 0 }) (fun t => ended 1 cplOk t) = true := by decide +kernel
theorem wit_Flush_held : let f : Fetched := { sqe := { sqe 0x00 0 0 0 0 with nsid := 0xFFFFFFFF } }; let s := { cmdS 1 f with red := { st := .held } };
    CmdRuns (ref 1) false 0x00 f s ∧ sanitizeRuns s = false ∧ s.red.st = .held ∧ gives (.flush (ref 1)) s (fun t => ended 1 arrayHeld t) = true := by decide +kernel
theorem wit_Read_lost : let f : Fetched := { sqe := sqe 0x02 511 0 0 0 }; let s := { cmdS 1 f with map := { core := { entries := [(entryKey 1 511, .lost)] } } };
    lineOf s.map.lines 1 511 = none ∧ mapAt s.map.core 1 511 = some .lost ∧ gives (.read (ref 1) []) s (fun t => ended 1 unrecovered t) = true := by decide +kernel
theorem wit_WriteZeroes : let f : Fetched := { sqe := sqe 0x08 510 0 1 0 }; let s := { cmdS 1 f with settings := [((1, 1, 0), 1048576)] }; CmdTurn (ref 1) false 0x08 f s ∧
    rangeLocked s 1 510 2 = false ∧ changeWaits s 1 510 2 = false ∧
    gives (.writeZeroes (ref 1)) s (fun t => ended 1 cplOk t && mapAt t.map.core 1 511 == some .zero && mapAt t.map.core 1 509 == none) = true := by decide +kernel
theorem wit_Dsm : let f : Fetched := { sqe := sqe 0x09 0 4 0 0 }; let s0 := cmdS 1 f; let s := { s0 with settings := [((1, 1, 0), 1048576)], map := { s0.map with core := { entries := [(entryKey 1 511, .zero)] } } };
    CmdTurn (ref 1) false 0x09 f s ∧ dsmRanges f.sqe [{ slba := 510, len := 2 }] = [{ slba := 510, len := 2 }] ∧ poolHolds s 1 510 2 = false ∧ journalHolds s 1 = false ∧
    gives (.datasetManagement (ref 1) [{ slba := 510, len := 2 }]) s (fun t => ended 1 cplOk t && mapAt t.map.core 1 511 == none) = true ∧
    gives (.datasetManagement (ref 1) []) (cmdS 1 { sqe := sqe 0x09 0 0 0 0 }) (fun t => ended 1 cplOk t) = true := by decide +kernel

theorem wit_SecureDeallocate : let f : Fetched := { sqe := sqe 0x85 256 0 16 0 };
    let s0 := cmdS 1 f; let s := { s0 with settings := [((1, 1, 0), 1048576)], map := { s0.map with core := { entries := [(entryKey 1 256, .zero)] } } };
    CmdRuns (ref 1) false 0x85 f s ∧ inTurn s (ref 1) = true ∧ vendorReserved f.sqe false = false ∧ secureOverlaps s f = false ∧ changeWaits s 1 256 16 = false ∧ bandsHolding s.map.core 1 256 16 = [] ∧
    gives (.secureDeallocate (ref 1) []) s (fun t => (cmdAt t (ref 1)).elim false (fun g => g.begun && g.bands == [] && g.done == none) && mapAt t.map.core 1 256 == none) = true := by decide +kernel
theorem wit_SecureDeallocate_ends : let f : Fetched := { sqe := sqe 0x85 256 0 16 0, begun := true, bands := [3] }; let s := cmdS 1 f; secureDone s f.bands = true ∧ mirroredSync s 1 256 16 = true ∧
    isHeld s = false ∧ gives (.secureDeallocate (ref 1) []) s (fun t => ended 1 cplOk t) = true := by decide +kernel
theorem wit_Seal : let f : Fetched := { sqe := sqe 0x81 256 0 256 0 }; let s := cmdS 1 f; CmdRuns (ref 1) false 0x81 f s ∧ sealRefusal s 0 f.sqe { nsze := 512, attached := [0] } = none ∧
    migrationHolds s = false ∧ gives (.sealCmd (ref 1) []) s (fun t => t.sealing.seals.map (fun x => (x.slba, x.spans, x.busy)) == [(256, 1, true)]) = true := by decide +kernel
/-- A begun Seal of span 1 whose seal is as given. -/
def sealS (x : Seal) : Fetched × State :=
  let f : Fetched := { sqe := sqe 0x81 256 0 256 0, begun := true, effect := true, sealId := 4 }
  (f, { cmdS 1 f with sealing := { seals := [{ x with id := 4, nsid := 1, slba := 256, spans := 1, busy := true }] } })
theorem wit_Seal_work : let s := (sealS {}).2; sealById s 4 = some { id := 4, nsid := 1, slba := 256, spans := 1, busy := true } ∧ journalHolds s 1 = false ∧ secureOverlaps s (sealS {}).1 = false ∧
    isHeld s = false ∧ Readable s 1 511 = true := by decide +kernel
theorem wit_Seal_ends : let s := (sealS { levels := [[0]] }).2; (sealById s 4).elim false (fun x => !sealJournalWaits s x) = true ∧
    gives (.sealCmd (ref 1) []) s (fun t => ended 1 { cplOk with dw0 := 4 } t && (sealById t 4).elim false (fun x => x.st == .issued && !x.busy)) = true := by decide +kernel
theorem wit_Audit_ends : let o : Cpl := { dw0 := 2 }; let f : Fetched := { sqe := sqe 0x8D 256 0 256 1, outcome := some o, bands := [3] }; CmdRuns (ref 1) false 0x8D f (cmdS 1 f) ∧
    (bandAt (cmdS 1 f).map.core 3).elim true (fun b => b.retQueued == 0) = true ∧ gives (.auditRange (ref 1) [] []) (cmdS 1 f) (fun t => ended 1 o t) = true := by decide +kernel
theorem wit_Audit_runs : let f : Fetched := { sqe := sqe 0x8D 256 0 256 0 }; let x : Seal := { id := 4, nsid := 1, st := .issued, slba := 256, spans := 1 };
    let s := { cmdS 1 f with sealing := { seals := [x] } }; CmdRuns (ref 1) false 0x8D f s ∧ f.outcome = none ∧ inTurn s (ref 1) = true ∧
    nsAt s 1 = some { nsze := 512, attached := [0] } ∧ auditRefusal s 0 f.sqe { nsze := 512, attached := [0] } = none ∧ auditSeal s f.sqe = some x ∧ f.sqe.cdw13 = 0 := by decide +kernel

/-! ### NVMe administration -/

/-- An admin command of the PF in its turn. -/
def adm (e : Sqe) : State := cmdS 0 { sqe := e }
theorem wit_LogPage : let e := sqe 0x02 (0x02 + 65536 * 127) 0 0 0; CmdTurn (ref 0) true 0x02 { sqe := { e with nsid := 0 } } (adm { e with nsid := 0 }) := by decide +kernel
theorem wit_LogPage_changed : let e := sqe 0x02 (0x04 + 65536) 0 0 0; (logPage (adm e) 0 4).isSome = true ∧
    gives (.getLogPage (ref 0)) (adm e) (fun t => ended 0 cplOk t && (cmdAt t (ref 0)).elim false (fun g => g.out.map (·.data.length) == [8])) = true := by decide +kernel
theorem wit_Identify_list : let e := sqe 0x06 0x02 0 0 0; let z := { adm { e with nsid := 0 } with time := {} }; CmdTurn (ref 0) true 0x06 { sqe := { e with nsid := 0 } } z ∧
    gives (.identifyCommand (ref 0)) z (fun t => ended 0 cplOk t && (cmdAt t (ref 0)).elim false (fun g => g.out.map (fun b => field b.data 0 8) == [1])) = true ∧
    gives (.identifyCommand (ref 0)) (adm (sqe 0x06 0x77 0 0 0)) (fun t => ended 0 invalidField t) = true := by decide +kernel
theorem wit_Abort : let e := sqe 0x08 (9 * 65536) 0 0 0; let g : Fetched := { sqe := { sqe 0x0C 0 0 0 0 with cid := 9 } };
    let s := pfS { rdy := true, aers := [9], sqs := [(0, { cmds := [g, { sqe := e }] })] } (work {}); CmdRuns (ref 0) true 0x08 { sqe := e } s ∧ abortsBefore s (ref 0) < 8 ∧
    tooLate s { fn := 0, sq := 0, cid := 9 } g = false ∧
    gives (.abort (ref 0)) s (fun t => ended 0 cplOk t && (cmdAt t { fn := 0, sq := 0, cid := 9 }).bind (·.done) == some abortRequested) = true ∧
    gives (.abort (ref 0)) (adm (sqe 0x08 (8 * 65536) 0 0 0)) (fun t => ended 0 { cplOk with dw0 := 1 } t) = true := by decide +kernel
theorem wit_Abort_limit : let e := sqe 0x08 (9 * 65536) 0 0 0; let a (i : Nat) : Fetched := { sqe := { sqe 0x08 (9 * 65536) 0 0 0 with cid := 100 + i } };
    let s := pfS { rdy := true, sqs := [(0, { cmds := (List.range 8).map a ++ [{ sqe := e }] })] } (work {}); CmdRuns (ref 0) true 0x08 { sqe := e } s ∧ 8 ≤ abortsBefore s (ref 0) ∧
    gives (.abort (ref 0)) s (fun t => ended 0 (cplCmd 0x03) t) = true := by decide +kernel
theorem wit_Aer : let e := sqe 0x0C 0 0 0 0; let k : Ctrl := { rdy := true, sqs := [(0, { cmds := [{ sqe := e }] })] }; CmdRuns (ref 0) true 0x0C { sqe := e } (pfS k (work {})) ∧
    gives (.asynchronousEventRequest (ref 0)) (pfS k (work {})) (fun t => (ctrlAt t 0).aers == [7]) = true ∧
    gives (.asynchronousEventRequest (ref 0)) (pfS { k with events := [(1, 2, 2)] } (work {})) (fun t => ended 0 { cplOk with dw0 := 0x20201 } t && (ctrlAt t 0).maskedEvents == [1]) = true := by decide +kernel
theorem wit_Features : FeatureTurn (ref 0) 0x01 { sqe := sqe 0x09 1 5 0 0 } (adm (sqe 0x09 1 5 0 0)) ∧
    gives (.setFeaturesArbitration (ref 0)) (adm (sqe 0x09 1 5 0 0)) (fun t => (ctrlAt t 0).arbitration == 5) = true ∧
    gives (.setFeaturesPowerManagement (ref 0)) (adm (sqe 0x09 2 6 0 0)) (fun t => t.nvme.powerSelected == 6 && t.nvme.powerReturn == 0) = true ∧
    gives (.setFeaturesTemperatureThreshold (ref 0)) { adm (sqe 0x09 4 (350 + 65536 * 15) 0 0) with red := {} } (fun t => thresholdK (ctrlAt t 0) 3 0 == 350) = true ∧
    gives (.setFeaturesNumberOfQueues (ref 0)) (adm (sqe 0x09 7 0 0 0)) (fun t => (ctrlAt t 0).granted == some (queuePairs 0 - 1, queuePairs 0 - 1)) = true ∧
    gives (.setFeaturesInterruptCoalescing (ref 0)) (adm (sqe 0x09 8 65537 0 0)) (fun t => (ctrlAt t 0).intCoal == 1) = true ∧
    gives (.setFeaturesInterruptVectorConfig (ref 0)) (adm (sqe 0x09 9 (2047 + 65536) 0 0)) (fun t => (ctrlAt t 0).coalDisabled == [2047]) = true ∧
    gives (.setFeaturesAsyncEventConfig (ref 0)) (adm (sqe 0x09 0x0B 3 0 0)) (fun t => (ctrlAt t 0).aec == 3) = true := by decide +kernel
theorem wit_Features_device : gives (.setFeaturesApst (ref 0) [(6, 500)]) (adm (sqe 0x09 0x0C 1 0 0)) (fun t => t.nvme.apstEnable && t.nvme.apst == [(6, 500)]) = true ∧
    gives (.setFeaturesTimestamp (ref 0) 1000) (adm (sqe 0x09 0x0E 0 0 0)) (fun t => t.time.calendar == 1000) = true ∧ hctmAllowed 303 388 = true ∧
    gives (.setFeaturesHctm (ref 0)) (adm (sqe 0x09 0x10 (303 * 65536 + 388) 0 0)) (fun t => t.nvme.tmt1 == 303 && t.nvme.tmt2 == 388) = true ∧
    gives (.getFeatures (ref 0)) (adm (sqe 0x0A 0x0B 0 0 0)) (fun t => ended 0 { cplOk with dw0 := 0 } t) = true := by decide +kernel
theorem wit_Features_vf : let f : Fetched := { sqe := sqe 0x09 2 1 0 0 }; let c : CmdRef := { fn := 5, sq := 0, cid := 7 };
    let s : State := { work {} with nvme := { ctrl := vset (Vector.replicate 128 {}) 5 { sqs := [(0, { cmds := [f] })] } } }; FeatureTurn c 0x02 f s ∧
    gives (.setFeaturesPowerManagement c) s (fun t => (cmdAt t c).bind (·.done) == some invalidField) = true := by decide +kernel

/-- As `adm`, with DRAM and room for namespaces. -/
def nsS (f : Fetched) : State := { cmdS 0 f with settings := [((1, 1, 0), 1048576)], dram := { dramUsed with granules := 128 } }
theorem wit_NsCreate : let e := sqe 0x0D 0 0 0 0; let s := nsS { sqe := e }; CmdTurn (ref 0) true 0x0D { sqe := e } s ∧ managementRefusal s = none ∧ formatAllowed 0 0 = true ∧ freeNsid s = some 2 ∧
    capacityHolds s 2097152 = true ∧ journalHolds s 1 = false := by decide +kernel
theorem wit_NsCreate_runs : gives (.namespaceCreate (ref 0) { nsze := 2097152, ncap := 2097152 }) (nsS { sqe := sqe 0x0D 0 0 0 0 }) (fun t => ended 0 { cplOk with dw0 := 2 } t &&
    (nsAt t 2).elim false (fun n => n.nsze == 2097152)) = true := by decide +kernel
theorem wit_NsDelete : let s := nsS { sqe := sqe 0x0D 1 0 0 0 }; namedNs s 1 = [1] ∧ nsSealed s 1 = false ∧ beingSealed s 1 0 512 = false ∧ journalHolds s 2 = false ∧
    gives (.namespaceDelete (ref 0)) s (fun t => (cmdAt t (ref 0)).elim false (·.begun) && (nsAt t 1).elim false (fun n => n.attached == [])) = true ∧
    gives (.namespaceDelete (ref 0)) (nsS { sqe := sqe 0x0D 1 0 0 0, begun := true }) (fun t => ended 0 cplOk t && nsAt t 1 == none) = true := by decide +kernel
theorem wit_NsAttach : let s := nsS { sqe := sqe 0x15 1 0 0 0 }; sanitizeRuns s = false ∧ ctrlsValid s [1] = true ∧
    gives (.namespaceDetach (ref 0) [1]) s (fun t => ended 0 cplOk t && (nsAt t 1).elim false (fun n => n.attached == [])) = true ∧
    (let s := { nsS { sqe := sqe 0x15 0 0 0 0 } with nvme := { (nsS { sqe := sqe 0x15 0 0 0 0 }).nvme with namespaces := [(1, { nsze := 512 })] } };
      gives (.namespaceAttach (ref 0) [1]) s (fun t => ended 0 cplOk t && (nsAt t 1).elim false (fun n => n.attached == [0]))) = true := by decide +kernel
theorem wit_Format : let e := sqe 0x80 1 0 0 0; let s := nsS { sqe := e }; formatAllowed 1 0 = true ∧ nsSealed s 1 = false ∧ nsBusy s 1 = false ∧ journalHolds s 1 = false ∧
    gives (.formatNvm (ref 0)) s (fun t => (cmdAt t (ref 0)).elim false (·.begun) && (nsAt t 1).elim false (fun n => n.lbaf == 1)) = true ∧
    gives (.formatNvm (ref 0)) (cmdS 0 { sqe := e, begun := true }) (fun t => ended 0 cplOk t) = true := by decide +kernel
/-- A grant in force for a Sanitize action. -/
def sanS (f : Fetched) (act run : Nat) : State := let s := cmdS 0 f; { s with nvme := { s.nvme with sanitize := { grants := [(act, 0)], running := run } }, mbx := { mediaEncrypt := true } }
theorem wit_Sanitize : let s := sanS { sqe := sqe 0x84 2 0 0 0 } 1 0; grantValid s 1 = true ∧ sessionsForbidSanitize s = false ∧
    gives (.sanitizeBlockErase (ref 0) []) s (fun t => ended 0 cplOk t && t.nvme.sanitize.running == 1 && t.nvme.sanitize.grants.isEmpty) = true ∧
    gives (.sanitizeCryptoErase (ref 0)) (sanS { sqe := sqe 0x84 4 0 0 0 } 2 0) (fun t => t.nvme.sanitize.running == 2 && t.nvme.sanitize.sstat == 2) = true := by decide +kernel
theorem wit_Sanitize_work : cmdAt (sanS {} 1 1) { fn := 0, sq := 3, cid := 7 } = none ∧
    gives (.sanitizeBlockErase { fn := 0, sq := 3, cid := 7 } []) (sanS {} 1 1) (fun t => t.nvme.sanitize.running == 0 && t.nvme.sanitize.sstat == 1 && t.map.core.entries == []) = true ∧
    gives (.sanitizeCryptoErase { fn := 0, sq := 3, cid := 7 }) (sanS {} 1 2) (fun t => t.nvme.sanitize.running == 0 && t.map.core.entries == []) = true := by decide +kernel

theorem wit_CcEn : let s := pfS { aqa := 0x001F000F, asq := 4096, acq := 8192 } (work {}); barReached s 0 = true ∧ (ctrlAt s 0).cc &&& 1 = 0 ∧ (ctrlAt s 0).rdy = false ∧ s.boot.intake = true ∧
    gives (.ccEnSet 0) s (fun t => (ctrlAt t 0).rdy && (sqAt t 0 0).elim false (fun q => q.size == 16 && q.base == 4096)) = true ∧
    gives (.ccEnClear 0) (pfS { cc := 1, rdy := true, asq := 4096, sqs := [(0, {})] } (work {})) (fun t => !(ctrlAt t 0).rdy && (ctrlAt t 0).sqs == [] && (ctrlAt t 0).asq == 4096) = true := by decide +kernel
theorem wit_Shutdown : let s := pfS { cc := 1, rdy := true } (work { lines := [{ nsid := 1 }] }); (ctrlAt s 0).cc &&& 1 ≠ 0 ∧
    gives (.shutdownNotification 0) s (fun t => (ctrlAt t 0).shst == 1) = true ∧
    gives (.shutdownNotification 0) (pfS { cc := 1, rdy := true } (work {})) (fun t => (ctrlAt t 0).shst == 2) = true ∧
    gives .cleanStopDestageTimeout (pfS { cc := 1, shst := 1 } (work {})) (fun t => (ctrlAt t 0).shst == 2 && t.map.cleanStop && t.map.emergency.map (·.cause) == [3]) = true ∧
    gives (.ccEnClear 0) { s with fw := { s.fw with intakeStalled := true } } (fun t => t.fw.deferred == [(0, 0)]) = true := by decide +kernel
theorem wit_Download : let s := adm (sqe 0x11 16383 16384 0 0); CmdTurn (ref 0) true 0x11 { sqe := sqe 0x11 16383 16384 0 0 } s ∧
    gives (.firmwareImageDownload (ref 0) [9]) s (fun t => ended 0 cplOk t && t.fw.staged.map (fun p => (p.1, p.2.length)) == [(65536, 65536)]) = true := by decide +kernel
theorem wit_Commit : CommitTurn (ref 0) 0 { sqe := sqe 0x10 2 0 0 0 } (adm (sqe 0x10 2 0 0 0)) ∧ CommitTurn (ref 0) 1 { sqe := sqe 0x10 (8 + 2) 0 0 0 } (adm (sqe 0x10 (8 + 2) 0 0 0)) ∧
    CommitTurn (ref 0) 3 { sqe := sqe 0x10 (24 + 2) 0 0 0 } (adm (sqe 0x10 (24 + 2) 0 0 0)) ∧
    gives (.firmwareCommitAction0 (ref 0) true) (adm (sqe 0x10 2 0 0 0)) (fun t => t.fw.staged == [] && (slotAt t.fw 1) == {}) = true ∧
    gives (.firmwareCommitAction1 (ref 0) true) (adm (sqe 0x10 10 0 0 0)) (fun t => t.fw.namedSlot == 0) = true ∧
    gives (.firmwareCommitAction3 (ref 0) true) (adm (sqe 0x10 26 0 0 0)) (fun t => t.fw.handover == .none) = true := by decide +kernel
theorem wit_Commit_name : let s0 := adm (sqe 0x10 (16 + 2) 0 0 0); let s := { s0 with fw := { s0.fw with slots := vset s0.fw.slots 1 { state := .committed } } };
    CommitTurn (ref 0) 2 { sqe := sqe 0x10 (16 + 2) 0 0 0 } s ∧ (slotAt s.fw 1).state = .committed ∧ s.fw.antiRollback ≤ (slotAt s.fw 1).rollback ∧ s.fw.policy = false ∧
    gives (.firmwareCommitAction2 (ref 0)) s (fun t => ended 0 cplOk t && t.fw.namedSlot == 1) = true := by decide +kernel
theorem wit_SelfTest : let s := adm (sqe 0x14 1 0 0 0); CmdTurn (ref 0) true 0x14 { sqe := sqe 0x14 1 0 0 0 } s ∧ s.nvme.selfTest.kind = 0 ∧
    gives (.deviceSelfTestShort (ref 0)) s (fun t => ended 0 cplOk t && t.nvme.selfTest.kind == 1) = true ∧
    gives (.deviceSelfTestExtended (ref 0)) (adm (sqe 0x14 2 0 0 0)) (fun t => t.nvme.selfTest.kind == 2) = true ∧
    gives (.deviceSelfTestAbort (ref 0)) { adm (sqe 0x14 15 0 0 0) with nvme := { (adm (sqe 0x14 15 0 0 0)).nvme with selfTest := { kind := 2 } } }
      (fun t => t.nvme.selfTest.kind == 0 && t.nvme.selfTest.results.map (·.1) == [33]) = true := by decide +kernel
theorem wit_SelfTest_segment : let s := { pfS {} (work {}) with nvme := { selfTest := { kind := 1, segment := 5 } } }; s.nvme.selfTest.segment + 1 < segmentsOfTest 1 ∧ deviceIdle s = true ∧
    gives (.selfTestResume [true]) s (fun t => t.nvme.selfTest.segment == 6 && t.nvme.selfTest.percent == 85) = true ∧
    gives (.selfTestResume [false]) s (fun t => t.nvme.selfTest.kind == 0 && t.nvme.selfTest.results.map (·.1) == [23]) = true := by decide +kernel
theorem wit_Virtualization : let s0 := adm (sqe 0x1C (9 + 127 * 65536 + 65536) 0 0 0); let s := { s0 with vf := vset s0.vf 126 { st := .offline, configured := true } };
    CmdTurn (ref 0) true 0x1C { sqe := sqe 0x1C (9 + 127 * 65536 + 65536) 0 0 0 } s ∧ (vfAt s 127).st = .offline ∧
    gives (.virtualizationManagementOnline (ref 0)) s (fun t => ended 0 cplOk t && (vfAt t 127).st == .online) = true ∧
    gives (.virtualizationManagementOffline (ref 0)) { adm (sqe 0x1C (7 + 2 * 65536) 0 0 0) with vf := vset s0.vf 0 { st := .online } } (fun t => ended 0 cplOk t && (vfAt t 1).st == .offline) = true := by decide +kernel

/-! ### Host Port -/

theorem wit_Flr : let s := pcS { rdy := true, asq := 4096 }; funcExists s 0 = true ∧ s.host.configReady = true ∧ (funcAt s 0).flrWait = false ∧ s.fw.intakeStalled = false ∧
    gives (.functionLevelReset 0) s (fun t => (funcAt t 0).flrWait && t.host.counters.flr == 1) = true ∧
    gives (.functionLevelReset 0) { s with fw := { intakeStalled := true } } (fun t => t.fw.deferred == [(0, 1)] && !(funcAt t 0).flrWait) = true := by decide +kernel
theorem wit_FlrEnd : let s : State := { host := { vfEnable := true, numVfs := 3, func := vset (Vector.replicate 128 {}) 0 { flrWait := true, msixEnable := true, aerUncor := 4 } } }; (funcAt s 0).flrWait = true ∧
    gives (.flrWaitEnd 0 0) s (fun t => !(funcAt t 0).flrWait && !(funcAt t 0).msixEnable && (funcAt t 0).aerUncor == 4 && !t.host.vfEnable) = true := by decide +kernel
theorem wit_Perst : let s := pcS { rdy := true }; s.host.perst = false ∧ (funcAt s 0).d ≠ .d3hot ∧
    gives .perstAssert s (fun t => t.host.perst && !t.host.linkUp && !(ctrlAt t 0).rdy) = true ∧ State.reset.host.perst = true ∧ (funcAt State.reset 0).d ≠ .d3cold ∧
    gives .perstDeassert { boot := { linkArmed := true } } (fun t => !t.host.perst && t.host.training) = true ∧
    gives .perstDeassert { host := { func := vset (Vector.replicate 128 {}) 0 { d := .d3cold } }, pwr := { sleep := .eclipse } } (fun t => t.pwr.phase == .exiting && (funcAt t 0).d == .d0) = true := by
  decide +kernel
theorem wit_Bme : let s := pcS { rdy := true, sqs := [(0, { cmds := [{ sqe := sqe 0x0C 0 0 0 0 }] })] }; cfgReached s 0 = true ∧ (funcAt s 0).busMaster = true ∧ outstanding s 0 = 0 ∧
    gives (.busMasterEnableClear 0) s (fun t => !(funcAt t 0).busMaster && !(ctrlAt t 0).cfs) = true ∧
    gives (.busMasterEnableClear 0) (pcS { rdy := true, sqs := [(1, { cmds := [{ sqe := sqe 2 0 0 0 0 }] })] }) (fun t => (ctrlAt t 0).cfs && outstanding t 0 == 0 && t.host.counters.bmeFatal == 1) = true ∧
    gives (.busMasterEnableClear 0) { s with fw := { intakeStalled := true } } (fun t => t.fw.deferred == [(0, 2)] && !(funcAt t 0).busMaster) = true := by decide +kernel
theorem wit_D3hot : let s : State := { pcS {} with vf := vset (Vector.replicate 127 {}) 126 { st := .online } }; cfgReached s 127 = true ∧ (funcAt s 127).d = .d0 ∧
    gives (.d3hotEntry 127) s (fun t => (funcAt t 127).d == .d3hot && (vfAt t 127).st == .offline) = true ∧
    gives (.d3hotEntry 0) s (fun t => (funcAt t 0).d == .d3hot) = true ∧
    s.pwr.phase ≠ .entering ∧ gives (.d3hotExit 0) { host := { configReady := true, perst := false, func := vset (Vector.replicate 128 {}) 0 { d := .d3hot } } } (fun t => (funcAt t 0).d == .d0) = true := by decide +kernel
theorem wit_Link : let s : State := { host := { training := true, perst := false } }; linkMode 6 16 = true ∧ linkMode 1 1 = true ∧
    gives (.linkTrainingComplete 6 16) s (fun t => t.host.linkUp && t.host.rate == 6 && t.alm.staged == []) = true ∧
    gives (.linkTrainingComplete 5 16) s (fun t => t.host.linkUp && t.alm.staged.length == 1) = true := by decide +kernel
theorem wit_Timeouts : let s := pcS { rdy := true, sqs := [(1, { cmds := [{ sqe := sqe 2 0 0 0 0 }] })] }; (funcAt s 0).ctoDisable = false ∧ mayRequest s 0 = true ∧
    gives (.completionTimeout 0 (.data 1 7)) s (fun t => ended 1 transferError t && (funcAt t 0).timedOut == 1) = true ∧
    gives (.completionTimeout 0 (.entry 1)) s (fun t => (funcAt t 0).fetchRetry == [1] && !(ctrlAt t 0).cfs) = true ∧
    gives (.poisonedTlpReceived 0 (.data 1 7)) s (fun t => ended 1 transferError t && (funcAt t 0).aerUncor.getLsbD 12) = true ∧
    gives (.poisonedTlpReceived 0 .barWrite) s (fun t => t.host.counters.poisonedTlp == 1) = true := by decide +kernel
theorem wit_Timeouts_second : let s : State := { host := { perst := false, linkUp := true, configReady := true, func := vset (Vector.replicate 128 {}) 0 { busMaster := true, fetchRetry := [1], timedOut := 1 } } };
    gives (.completionTimeout 0 (.entry 1)) s (fun t => (ctrlAt t 0).cfs && (funcAt t 0).fetchRetry == []) = true ∧
    gives (.unexpectedCompletion 0) s (fun t => (funcAt t 0).timedOut == 0 && (funcAt t 0).aerUncor.getLsbD 16) = true ∧
    gives (.ecrcError 0) s (fun t => (funcAt t 0).aerUncor == 0x80000) = true ∧
    gives (.unsupportedRequest 0 true) s (fun t => (funcAt t 0).aerUncor == 0x100000 && t.host.counters.unsupportedRequest == 1) = true := by decide +kernel
theorem wit_LinkErrors : let s := pcS {}; s.host.linkUp = true ∧ (∀ fn, fn < 128 → outstanding s fn = 0) ∧
    gives .fatalLinkError s (fun t => !t.host.linkUp && t.host.training && t.host.counters.linkRetrains == 1) = true ∧
    gives .aspmL1Entry { host := { linkUp := true, func := vset (Vector.replicate 128 {}) 0 { aspmL1 := true } } } (fun t => t.host.l1) = true ∧
    gives .ltrUpdate s (fun t => t.host.ltrUs == 3000) = true := by decide +kernel
theorem wit_LinkCorrectable : gives .correctableLinkError (pcS {}) (fun t => t.host.linkCorrectable == 1) = true := by rfl
theorem wit_Vfs : let s := pcS {}; cfgReached s 0 = true ∧ s.host.vfEnable = false ∧ (∀ k, k < 127 → (vfAt s (k + 1)).st = .none) ∧
    gives (.vfEnable 7) s (fun t => (vfAt t 7).st == .offline && (vfAt t 8).st == .none) = true ∧
    gives (.vfDisable 1) { s with host := { s.host with vfEnable := true, numVfs := 2 }, vf := vset (vset s.vf 0 { st := .online }) 1 { st := .online } }
      (fun t => (vfAt t 1).st == .online && (vfAt t 2).st == .none && t.host.vfEnable && t.host.numVfs == 1) = true := by decide +kernel

theorem wit_Registers : let s := pcS {}; cfgReached s 0 = true ∧ barReached s 0 = true ∧ gives (.registerWrite 0 .bar0 0x25 1) s (fun t => (ctrlAt t 0).aqa == 0) = true ∧
    gives (.registerWrite 0 .config 0x104 4) { s with host := { s.host with func := vset s.host.func 0 { (funcAt s 0) with aerUncor := 6 } } } (fun t => (funcAt t 0).aerUncor == 2) = true ∧
    gives (.registerWrite 0 .config 0x110 4) { s with host := { s.host with func := vset s.host.func 0 { (funcAt s 0) with aerCor := 6 } } } (fun t => (funcAt t 0).aerCor == 2) = true ∧
    gives (.registerWrite 0 .bar0 0x24 0xFFFFFFFF) s (fun t => (ctrlAt t 0).aqa == 0x0FFF0FFF) = true ∧
    gives (.registerWrite 0 .bar0 0x0C 3) s (fun t => (ctrlAt t 0).intMask == 3) = true ∧
    gives (.registerWrite 0 .bar0 0x10 1) (pcS { intMask := 3 }) (fun t => (ctrlAt t 0).intMask == 2) = true := by decide +kernel
theorem wit_Registers_box : (15 : Nat) < boxesOf 0 ∧ boxKey 0 15 = 15 ∧
    gives (.registerWrite 0 .bar2 0x1F000 0x12345) (boxS {}) (fun t => (boxAt t 15).opcode == 0x2345) = true ∧
    gives (.registerWrite 0 .bar2 0x1F000 0x12345) (boxS { busy := true }) (fun t => (boxAt t 15).opcode == 0) = true ∧
    gives (.registerWrite 0 .bar2 0x1F014 2) (boxS { done := true, overrun := true }) (fun t => !(boxAt t 15).done && (boxAt t 15).overrun) = true ∧
    gives (.registerWrite 0 .bar2 0x210004 1) { pcS {} with pwr := { wakeStatus := 3 } } (fun t => t.pwr.wakeStatus == 2) = true ∧
    gives (.registerWrite 0 .bar2 0x20F00C 1) { pcS {} with alm := { event := 3 } } (fun t => t.alm.event == 2) = true := by decide +kernel
theorem wit_Buffer : withinPage 0x1FFFFE 2 = true ∧ payloadAt 0 0x1FFFFE 2 = some (15, 65534) ∧ payloadAt 0 0x1FFFFF 2 = none ∧
    gives (.apertureBufferWrite 0 0x1FFFFE [1, 2]) (boxS { buffer := [(65533, 9)] }) (fun t => bufferBytes (boxAt t 15) 65533 3 == [9, 1, 2]) = true ∧
    gives (.apertureBufferWrite 0 0x1FFFFE [1, 2]) (boxS { busy := true }) (fun t => (boxAt t 15).buffer == []) = true ∧
    gives (.apertureBufferRead 0 0x1FFFFE 2) (boxS { buffer := [(65535, 9)] }) (fun t => t.host.readData == [0, 9] && !t.host.readPoisoned) = true ∧
    gives (.apertureBufferRead 0 0x1FFFFE 2) (boxS { busy := true, buffer := [(65535, 9)] }) (fun t => t.host.readData == [0, 0]) = true ∧
    gives (.apertureBufferRead 0 0x1FFFFE 2) (boxS { badWords := [8191] }) (fun t => t.host.readPoisoned && t.dram.sramUe == 1) = true := by decide +kernel

theorem wit_Registers_unsupported : let s := pcS {}; memArrives s 0 = true ∧ apertureAnswers s 0x210004 = true ∧ apertureAnswers { s with boot := { phase := .noStore } } 0x210004 = false ∧
    gives (.registerWrite 0 .bar0 0x25 1) s (fun t => (funcAt t 0).aerUncor == 0x100000) = true ∧
    gives (.registerWrite 0 .bar2 0x210004 1) { s with boot := { phase := .noStore }, pwr := { wakeStatus := 3 } } (fun t => t.pwr.wakeStatus == 3) = true := by decide +kernel
theorem wit_Buffer_size : let s := pcS {}; bufferAccess s 0x100000 128 = true ∧ bufferAccess s 0x100000 129 = false ∧ payloadAt 0 0x100000 129 = some (0, 0) ∧
    gives (.apertureBufferWrite 0 0x100000 (List.replicate 129 1)) s (fun t => (funcAt t 0).aerUncor == 0x100000 && t.mbx.boxes == []) = true ∧
    payloadAt 0 0x10014 4 = none ∧ mdRange 0x10014 4 = false ∧ logWindow 0x10014 4 = false ∧ diagWindow 0x10014 = false ∧
    gives (.apertureBufferRead 0 0x1F000 4) (boxS { opcode := 0x0101 }) (fun t => t.host.readData == [1, 1, 0, 0] && !t.host.readPoisoned) = true := by decide +kernel

/-- The responder's connection over DOE. -/
def spS (c : SpdmSt) : State := { pcS {} with host := { (pcS {}).host with spdm := { conn := #v[c, .start] } } }
theorem wit_Spdm : spdmReached (spS .start) 0 = true ∧ gives (.spdmGetVersion 0) (spS .negotiated) (fun t => spdmConn t 0 == .version) = true ∧
    gives (.spdmGetCapabilities 0) (spS .version) (fun t => spdmConn t 0 == .capabilities) = true ∧
    gives (.spdmNegotiateAlgorithms 0 512 64) (spS .capabilities) (fun t => spdmConn t 0 == .negotiated) = true ∧
    gives (.spdmNegotiateAlgorithms 0 512 32) (spS .capabilities) (fun t => spdmConn t 0 == .capabilities) = true ∧
    gives (.spdmChallenge 0 0 []) (spS .version) (fun t => t.host.spdm.answer[(0 : Fin 2)] == [0x12, 0x7F, 4, 0]) = true ∧
    gives (.doeDiscovery 1) (spS .start) (fun t => t.host.spdm.answer[(0 : Fin 2)] == doeEntry 1) = true ∧ gives .doeAbort (spS .start) (fun t => t.host.spdm.answer[(0 : Fin 2)] == []) = true := by
  decide +kernel
theorem wit_Spdm_negotiated : spdmConn (spS .negotiated) 0 = .negotiated := by decide +kernel
theorem wit_Spdm_digests : gives (.spdmGetDigests 0) (spS .negotiated) (fun t => spdmConn t 0 == .negotiated) = true := by rfl
theorem wit_Spdm_challenge : gives (.spdmChallenge 0 0 []) (spS .negotiated) (fun t => t.freeCtr == 2) = true := by rfl
theorem wit_Spdm_measurements : gives (.spdmGetMeasurements 0 255 []) (spS .negotiated) (fun t => t.freeCtr == 2) = true := by rfl
theorem wit_Security : let e := sqe 0x81 (0xE8 * 2 ^ 24) 0 0 0; CmdTurn (ref 0) true 0x81 { sqe := e } (cmdS 0 { sqe := e }) ∧
    gives (.securitySend (ref 0) [5, 0x12, 0x84]) (cmdS 0 { sqe := e }) (fun t => ended 0 cplOk t) = true ∧
    gives (.securityReceive (ref 0)) (cmdS 0 { sqe := sqe 0x82 (0xE8 * 2 ^ 24) 4 0 0 }) (fun t => ended 0 cplOk t) = true ∧
    gives (.securityReceive (ref 0)) (cmdS 0 { sqe := sqe 0x82 (0xE7 * 2 ^ 24) 4 0 0 }) (fun t => ended 0 invalidField t) = true := by decide +kernel

/-! ### Almanac, handover, JTAG -/

theorem wit_Accept : inCatalogue 0x0501 2 = true ∧ inCatalogue 0x0501 9 = false ∧ inCatalogue 0xFFFF 2 = false ∧
    gives (.almanacRecordAccept 0x0501 2 [1]) {} (fun t => t.alm.staged.length == 1 && t.alm.event == 4 && t.alm.openRec.isSome) = true ∧
    gives (.almanacRecordAccept 0xFFFF 2 [1]) {} (fun t => t.alm.staged == [] && t.alm.event == 0) = true := by decide +kernel
theorem wit_Accept_repeat : let o : AlmOpen := { body := newRecord {} 0x0501 .fault [1] }; let s : State := { alm := { openRec := some o } }; isRepeat (newRecord s 0x0501 .fault [1]) o.body = true ∧
    gives (.almanacRecordAccept 0x0501 2 [1]) s (fun t => t.alm.staged == [] && t.alm.openRec.elim false (fun o => o.repeats == 2)) = true := by decide +kernel
theorem wit_Accept_full : let s : State := { alm := { staged := List.replicate 4096 ({ severity := .critical }, none) } }; s.alm.openRec = none ∧ stagingSize ≤ s.alm.staged.length ∧
    (∀ p ∈ s.alm.staged, 2 < p.1.severity.toNat) :=
  ⟨rfl, Nat.le_of_eq (List.length_replicate ..).symm, fun p h => by rw [List.eq_of_mem_replicate h]; decide⟩
theorem wit_Program : let s : State := { alm := { staged := [(newRecord {} 0x0904 .fault [1], none)], stampLoaded := true, nextSequence := 7, lastChain := 5 } }; s.alm.clearing = false ∧
    s.alm.writeSlot < almSlots ∧ almFull s.alm = false ∧
    gives .almanacRecordProgram s (fun t => t.alm.records.map (fun r => (r.sequence, r.prevChain, r.live, verifiesAlone r)) == [(7, 5, true, true)] && t.alm.staged == []) = true := by decide +kernel
theorem wit_Program_erasing : let s (k : Nat) : State := { alm := { staged := [({}, none)], stampLoaded := true }, media := { csErase := some (0, k) } }; almFull (s 0).alm = false ∧
    gives .almanacRecordProgram (s 15) (fun t => t.alm.records.length == 1 && t.media.csErase == some (0, 16)) = true ∧
    gives .almanacRecordProgram (s 16) (fun t => t.alm.records == [] && t.alm.staged.length == 1) = true ∧
    gives .almanacCompaction { (s 0) with alm := { writeSlot := 1024 } } (fun t => t.alm.writeSlot == 1024) = true := by decide +kernel
theorem wit_Program_full : let s : State := { alm := { records := List.replicate almCapacity { sequence := 3, live := true }, indexed := true, stampLoaded := true, staged := [({ severity := .critical }, none)] } };
    s.media.csErase = none ∧ almFull s.alm = true ∧ ∃ x ∈ liveRecords s.alm, x.body.severity.toNat ≤ 3 := by
  have h : ∀ n, liveRecords { records := List.replicate n { sequence := 3, live := true } } = List.replicate n { sequence := 3, live := true } := fun n => List.filter_replicate_of_pos rfl
  refine ⟨rfl, ?_, { sequence := 3, live := true }, ?_, by decide⟩
  · exact decide_eq_true (Nat.le_of_eq ((congrArg List.length (h almCapacity)).trans List.length_replicate).symm)
  · exact (congrArg (_ ∈ ·) (h almCapacity)).mpr (List.mem_replicate.mpr ⟨by decide, rfl⟩)
theorem wit_Compaction : let s : State := { alm := { writeSlot := 1024, records := [{ sequence := 3, sector := 4 }] } }; almSlots ≤ s.alm.writeSlot ∧
    gives .almanacCompaction s (fun t => t.alm.writeSector == 257 && t.alm.records.map (·.sequence) == [3]) = true ∧ State.reset.alm.writeSlot < almSlots := by decide +kernel
theorem wit_Cursor : let s : State := { alm := { stampLoaded := true, records := [{ sequence := 3 }, { sequence := 9 }, { sequence := 10, live := false }], drops := #v[4, 0, 0, 0] }, boot := { phase := .complete } };
    s.boot.phase ≠ .noStore ∧ gives (.almCursorWrite 4) s (fun t => t.alm.window.length == 1 && t.alm.ready) = true ∧ gives (.almCursorWrite 3) s (fun t => t.alm.window.length == 2) = true ∧
    gives .dropCounterSave s (fun t => t.alm.dropsSaved == #v[4, 0, 0, 0]) = true ∧ gives .almanacIndexRead s (fun t => t.alm.indexed) = true := by decide +kernel
theorem wit_Handover : let s := hoS .loading 0 false []; pageCrcsHold (incomingImage s) = true ∧ compatible s = true ∧
    compatible (hoS .loading 0 false (List.replicate 0x2A 0 ++ [1])) = false ∧ gives (.standbySetLoad true) s (fun t => t.fw.handover == .rolling) = true ∧
    gives (.standbySetLoad false) s (fun t => t.fw.handover == .none && t.fw.lastActivation == 2 && (slotAt t.fw 1).state == .invalid) = true ∧
    gives (.standbySetLoad true) (hoS .loading 0 false (List.replicate 0x2A 0 ++ [1])) (fun t => t.fw.lastActivation == 3 && t.fw.namedSlot == 1) = true := by decide +kernel
theorem wit_Roll : gives (.microcodeRoll 63) (hoS .rolling 63 false []) (fun t => t.fw.microcodeRolled == 64) = true ∧
    gives .intakeStall (hoS .rolling 64 false []) (fun t => t.fw.handover == .stalled && t.fw.intakeStalled) = true ∧
    gives .intakeStall (hoS .rolling 63 false []) (fun t => t.fw.handover == .rolling) = true ∧
    gives .handoverReady (hoS .stalled 64 true []) (fun t => t.fw.activeSlot == 1 && t.fw.antiRollback == 9 && t.fw.setB && !t.fw.intakeStalled) = true ∧
    gives .handoverReadyTimeout (hoS .stalled 64 true []) (fun t => t.fw.activeSlot == 0 && t.fw.antiRollback == 0 && t.fw.lastActivation == 2) = true := by decide +kernel
theorem wit_Jtag : gives (.jtagInstruction 5) {} (fun t => t.pins.jtag == 5 && t.pins.extest) = true ∧ gives (.jtagInstruction 6) {} (fun t => t.pins.jtag == State.reset.pins.jtag) = true := by
  decide +kernel

/-! ### Mailboxes -/

theorem wit_Go : let s := { pcS {} with mbx := { boxes := [(3, { opcode := 0x0101, hostPayload := false })] } }; barReached s 0 = true ∧ (3 : Fin 16).val < boxesOf 0 ∧ s.pwr.pwrfail = false ∧
    answered 0 0x0101 = true ∧ answered 0 0xFFFF = false ∧ answered 5 0x0D11 = true ∧
    gives (.mbxGo 0 3) s (fun t => (boxAt t 3).busy && !(boxAt t 3).done && (boxAt t 3).exec.elim false (·.begun)) = true ∧
    gives (.mbxGo 0 3) (boxS {}) (fun t => (boxAt t 3).status == 1 && (boxAt t 3).done) = true ∧
    gives (.mbxGo 0 15) (boxS { opcode := 0x0101, busy := true }) (fun t => (boxAt t 15).overrun) = true ∧
    gives (.mbxGo 0 15) (boxS { opcode := 0x0101, len := 65537 }) (fun t => (boxAt t 15).status == 2) = true ∧
    gives (.mbxGo 0 15) (boxS { opcode := 0x0101, len := 8, badWords := [0] }) (fun t => (boxAt t 15).status == 6) = true ∧
    gives (.mbxGo 0 15) {} (fun t => t.mbx.boxes == []) = true := by decide +kernel
theorem wit_Go_wakes : let s := boxS { opcode := 0x0101 }; NoWake s ∧ (let z := { s with pwr := { sleep := .eclipse } }; z.pwr.phase = .steady ∧ z.pwr.sleep ≠ .zenith ∧
    gives (.mbxGo 0 15) z (fun t => t.pwr.phase == .exiting && t.pwr.wakeStatus == 2) = true) ∧
    gives (.mbxGo 0 15) { s with pwr := { pwrfail := true } } (fun t => !(boxAt t 15).busy) = true := by decide +kernel
theorem wit_HostPayload : let e : MbxExec := { opcode := 0x0101, len := 2, hostPayload := true }; let s := boxS { busy := true, exec := some e }; e.begun = false ∧ mayRequest s 0 = true ∧
    gives (.mbxHostPayloadArrival 0 15 [9]) s (fun t => (boxAt t 15).exec.elim false (fun x => x.begun && x.request == [9, 0])) = true := by decide +kernel
theorem wit_Completion : let e : MbxExec := { id := 4 }; let s := boxS { busy := true, exec := some e, cplAddr := 64, irqEn := true, vector := 5, buffer := [(9, 7)] };
    let t := mbxEnd { s with host := { s.host with func := vset s.host.func 0 { (funcAt s 0) with msixEnable := true, msixTable := [] } } } 15 e .success 3 [1, 2, 3, 4, 5, 6, 7, 8, 9];
    (boxAt t 15).status = 0 ∧ (boxAt t 15).done = true ∧ (boxAt t 15).busy = false ∧ (boxAt t 15).resultLen = 9 ∧ readAt 0 (boxAt t 15).buffer 8 = 9 ∧
    readAt 0 (boxAt t 15).buffer 9 = 7 ∧ (boxAt t 15).records.length = 1 := by decide +kernel
theorem wit_Completion_orphan : let s : State := { mbx := { orphans := [(15, { id := 4 })] } }; (boxAt s 15).exec = none ∧ (mbxEnd s 15 { id := 4 } .success 0 []).mbx.orphans = [] := by decide +kernel

/-- Requests of GET_SETTING and SET_SETTING. -/
def getR (i : Nat) : Bytes := b2 i ++ zeros 6
def setR (i v : Nat) : Bytes := b2 i ++ zeros 6 ++ leBytes 32 v
theorem wit_Served : Served 0 3 0x0101 0 (cmd 0x0101 []) (mb 0x0101 [] w) ∧ Served 0 3 0x01F1 40 (cmd 0x01F1 (setR 3 4)) (mb 0x01F1 (setR 3 4) w) := by decide +kernel
theorem wit_Settings : ends (.almanacGetSetting 0 3) 0x08F0 (getR 1) w 0 = true ∧ ends (.almanacGetSetting 0 3) 0x08F0 (getR 2) w 3 = true ∧
    gives (.almanacSetSetting 0 3) (mb 0x08F1 (setR 1 1) w) (fun t => stat t == some 0 && setting t 8 1 == 1) = true ∧
    gives (.almanacSetSetting 0 3) (mb 0x08F1 (setR 1 2) w) (fun t => stat t == some 4 && setting t 8 1 == 0) = true := by decide +kernel
theorem wit_Settings_families : ends (.deviceGetSetting 0 3) 0x01F0 (getR 3) w 0 = true ∧ ends (.deviceSetSetting 0 3) 0x01F1 (setR 99 0) w 3 = true ∧
    ends (.redundancyGetSetting 0 3) 0x04F0 (getR 4) w 0 = true ∧ ends (.redundancySetSetting 0 3) 0x04F1 (setR 99 0) w 3 = true ∧
    ends (.retentionGetSetting 0 3) 0x05F0 (getR 1) w 0 = true ∧ ends (.retentionSetSetting 0 3) 0x05F1 (setR 99 0) w 3 = true ∧
    ends (.haloGetSetting 0 3) 0x07F0 (getR 2) w 0 = true ∧ gives (.haloSetSetting 0 3) (mb 0x07F1 (setR 2 31) w) (fun t => stat t == some 0 && nodeId t == 31) = true ∧
    ends (.powerHealthGetSetting 0 3) 0x09F0 (getR 3) w 0 = true ∧ ends (.powerHealthSetSetting 0 3) 0x09F1 (setR 99 0) w 3 = true ∧
    ends (.coolingGetSetting 0 3) 0x0AF0 (getR 1) w 0 = true ∧ ends (.coolingSetSetting 0 3) 0x0AF1 (setR 99 0) w 3 = true := by decide +kernel
theorem wit_Device : ends (.calendarSet 0 3) 0x0102 (leBytes 6 1000 ++ [0, 0]) w 0 = true ∧ ends (.calendarSet 0 3) 0x0102 (leBytes 6 1000 ++ [1, 0]) w 3 = true ∧
    ends (.calendarGet 0 3) 0x0103 [] w 0 = true ∧ ends (.portCounters 0 3) 0x0104 [] w 0 = true ∧ ends (.exportSettings 0 3) 0x0105 [] w 0 = true ∧
    ends (.calExport 0 3) 0x0201 (b4 1) w 3 = true ∧ ends (.calExport 0 3) 0x0201 (b4 262144) w 3 = true ∧ ends (.subsystemSet 0 3) 0x0204 [1, 2, 3, 4] w 0 = true ∧
    ends (.subsystemSet 0 3) 0x0204 [1, 2, 3, 4] { w with mbx := { subsystem := some (1, 2) } } 8 = true := by decide +kernel
theorem wit_Identify_box : gives (.identify 0 3) (mb 0x0101 [] { w with dram := { dramUsed with granules := 128 } }) (fun t => stat t == some 0) = true := by decide +kernel
theorem wit_CalOverwrite : let r : Bytes := b4 0x110 ++ b4 1 ++ zeros 8 ++ [5]; Challenged 0 3 0x0203 (cmd 0x0203 (auth 0x0203 r)) 1 (keyS 0x0203 r w) ∧ (auth 0x0203 r).length = 272 + 1 ∧
    MbxServed 0 3 0x0203 (cmd 0x0203 (auth 0x0203 r)) (keyS 0x0203 r w) ∧ ends (.calOverwrite 0 3 true) 0x0203 (auth 0x0203 r) w 0x10 = true ∧
    ends (.calOverwrite 0 3 true) 0x0203 (auth 0x0204 r) { w with mbx := { custodianKey := some 1 } } 0x11 = true ∧
    ends (.calOverwrite 0 3 true) 0x0203 (zeros 273) { w with mbx := { custodianKey := some 1 } } 0x10 = true := by decide +kernel
theorem wit_CalDigest : gives (.calDigest 0 3) (mb 0x0202 [] w) (fun t => (boxAt t 3).done) = true ∧ gives (.calExport 0 3) (mb 0x0201 (b4 196608) w) (fun t => (boxAt t 3).done) = true := by decide +kernel
theorem wit_Carriers : ends (.carrierDescriptor 0 3) 0x0302 [0] w 0 = true ∧ ends (.carrierDescriptor 0 3) 0x0302 [1] w 0x20 = true ∧ ends (.carrierDescriptor 0 3) 0x0302 [16] w 3 = true ∧
    gives (.carrierRemove 0 3) (mb 0x0303 [0] w) (fun t => stat t == some 0 && (carrierAt t 0).st == .emptyPending) = true ∧ ends (.carrierRemove 0 3) 0x0303 [1] w 0x20 = true ∧
    ends (.carrierRemove 0 3) 0x0303 [0] { w with red := { st := .normal, roles := Vector.replicate 16 .member } } 0x21 = true ∧
    gives (.carrierOut 0 3) (mb 0x0304 [0] w) (fun t => stat t == some 0 && (carrierAt t 0).st == .outOfService) = true ∧
    ends (.carrierOut 0 3) 0x0304 [0] { w with red := { st := .degraded } } 0x21 = true ∧ ends (.carrierReturn 0 3) 0x0305 [0] w 0x20 = true ∧ ends (.carrierReturn 0 3) 0x0305 [16] w 3 = true ∧
    gives (.carrierReturn 0 3) (mb 0x0305 [0] (carS1 .outOfService)) (fun t => stat t == some 0 && (carrierAt t 0).st == .ready) = true := by decide +kernel
theorem wit_Carriers_drain : let s := { w with media := { w.media with luns := [(128 * 0, { running := some { entry := { desc := {} } } })] } }; carrierIdle s 0 = false ∧ carrierIdle w 0 = true ∧
    gives (.carrierRemove 0 3) (mb 0x0303 [0] s) (fun t => (carrierAt t 0).drain == 1 && (boxAt t 3).exec.elim false (·.waiting)) = true ∧
    gives (.carrierOut 0 3) (mb 0x0304 [0] { s with red := { st := .normal } }) (fun t => (carrierAt t 0).drain == 2 && (boxAt t 3).exec.elim false (·.waiting)) = true := by decide +kernel
theorem wit_CarrierStatus : gives (.carrierStatus 0 3) (mb 0x0301 [] w) (fun t => (boxAt t 3).done) = true := by rfl

theorem wit_Array : ends (.lostStripes 0 3) 0x0402 (b4 0) { w with red := { st := .normal, lostStripes := [{ band := 3 }] } } 0 = true ∧
    ends (.retire 0 3) 0x0404 [16] w 3 = true ∧ ends (.retire 0 3) 0x0404 [0] w 0x21 = true ∧
    gives (.retire 0 3) (mb 0x0404 [15] { w with red := { st := .normal, roles := Vector.replicate 16 .member } }) (fun t => stat t == some 0 && t.red.st == .evacuating && roleOf t 15 == .retiring) = true ∧
    ends (.copyback 0 3) 0x0405 [0] w 0x21 = true ∧ ends (.copyback 0 3) 0x0405 [16] w 3 = true := by decide +kernel
theorem wit_Copyback : let s := { w with red := { st := .spared, roles := vset (Vector.replicate 16 .member) 2 .replacement, failedSlot := some 2 }, settings := [((4, 9, 0), 0)] };
    roleOf s 2 = .replacement ∧ setting s 4 9 = 0 ∧ gives (.copyback 0 3) (mb 0x0405 [2] s) (fun t => stat t == some 0 && t.red.st == .copyback) = true := by decide +kernel
theorem wit_ArrayStatus : gives (.arrayStatus 0 3) (mb 0x0401 [] w) (fun t => (boxAt t 3).done) = true ∧ gives (.starlightReport 0 3) (mb 0x0501 [] w) (fun t => (boxAt t 3).done) = true := ⟨rfl, rfl⟩
theorem wit_HeldRecover : Challenged 0 3 0x0403 (cmd 0x0403 (auth 0x0403 [1])) 1 (keyS 0x0403 [1] w) ∧ field (auth 0x0403 [2]) 256 1 = 2 ∧
    ends (.heldRecoverReadOnly 0 3 []) 0x0403 (auth 0x0403 [1]) w 0x10 = true ∧ ends (.heldRecoverResume 0 3) 0x0403 (auth 0x0403 [2]) w 0x10 = true ∧
    (let s := { w with red := { st := .held } }; isHeld s = true ∧ (∀ c : Carrier, slotResumes s c = true)) := by decide +kernel
theorem wit_DarkPrepare : ends (.darkPrepare 0 3) 0x0502 (b4 0) w 0 = true ∧ ends (.darkPrepare 0 3) 0x0502 (b4 9) { w with red := { st := .held } } 0x21 = true ∧
    gives (.darkPrepare 0 3) (mb 0x0502 (b4 9) w) (fun t => stat t == some 0 && t.ret.prepareTarget == 9 && t.ret.prepareState == 1) = true ∧
    (let s := { w with ret := { prepareState := 1, prepareBands := [3] }, map := { core := { bands := [(3, { st := .closed, retQueued := 2 })] } } };
      prepareNow s = 1 ∧ gives (.darkPrepare 0 3) (mb 0x0502 (b4 0) s) (fun t => stat t == some 0 && t.ret.prepareState == 0) = true) := by decide +kernel

/-- A device with a seal. -/
def sealedS (y : Seal) : State := { w with sealing := { seals := [{ y with id := 4, nsid := 1, spans := 1 }] } }
theorem wit_SealOpcodes : gives (.sealList 0 3) (mb 0x0601 (leBytes 8 4) (sealedS {})) (fun t => stat t == some 0 && (boxAt t 3).resultLen == 64) = true ∧
    ends (.sealRecord 0 3) 0x0602 (leBytes 8 5) (sealedS {}) 0x23 = true ∧ ends (.sealRecord 0 3) 0x0602 (leBytes 8 4) (sealedS {}) 0x24 = true ∧
    ends (.sealRecord 0 3) 0x0602 (leBytes 8 4) (sealedS { st := .issued, record := zeros 224 }) 0 = true ∧ ends (.sealTree 0 3) 0x0603 (leBytes 12 4) (sealedS { st := .unsealed }) 8 = true ∧
    ends (.sealTree 0 3) 0x0603 (leBytes 12 4) (sealedS { st := .issued, levels := [[7]] }) 0 = true ∧ ends (.sealTree 0 3) 0x0603 (leBytes 12 4) (sealedS {}) 0x24 = true ∧
    ends (.sealTree 0 3) 0x0603 (leBytes 12 5) (sealedS {}) 0x23 = true := by decide +kernel
theorem wit_SealIdentity : Served 0 3 0x0604 0 (cmd 0x0604 []) (mb 0x0604 [] w) := by decide +kernel
theorem wit_Unseal : let r := leBytes 8 4; Challenged 0 3 0x0605 (cmd 0x0605 (auth 0x0605 r)) 1 (keyS 0x0605 r w) ∧ (auth 0x0605 r).length = 264 ∧
    (sealById (sealedS { st := .issued }) (field (auth 0x0605 r) 256 8)).isSome = true ∧ sealAtWork (sealedS { st := .issued }) { st := .issued } = false ∧
    ends (.unseal 0 3) 0x0605 (auth 0x0605 r) (sealedS { st := .issued }) 0x10 = true := by decide +kernel
/-- Node 1 with namespace 1. -/
def nodeS (h : HaloState) : State := { w with settings := [((7, 2, 0), 1)], nvme := { namespaces := [(1, { nsze := 512 })] }, halo := h }
def sessR : Bytes := b4 0 ++ [0, 0, 2, 0] ++ b4 1 ++ b4 1 ++ zeros 8
theorem wit_Sessions : sessionBad (nodeS {}) sessR = none ∧ sessionBad (nodeS {}) (zeros 24) ≠ none ∧ (newMirror (nodeS {}) sessR).peer = 2 ∧
    gives (.sessionCreate 0 3) (mb 0x0702 sessR (nodeS {})) (fun t => stat t == some 0 && t.halo.mirrors.map (·.peer) == [2]) = true ∧
    ends (.sessionCreate 0 3) 0x0702 sessR (nodeS { mirrors := List.replicate 64 {} }) 0x25 = true ∧
    gives (.sessionRemove 0 3) (mb 0x0703 (b4 6) (nodeS { mirrors := [{ session := 6, localNsid := 1 }] })) (fun t => stat t == some 0 && t.halo.mirrors == []) = true ∧
    ends (.sessionRemove 0 3) 0x0703 (b4 7) (nodeS { mirrors := [{ session := 6 }] }) 0x25 = true ∧ ends (.sessionList 0 3) 0x0704 [] (nodeS { mirrors := [{ session := 6 }] }) 0 = true ∧
    ends (.haloTopology 0 3) 0x0701 [] w 0 = true := by decide +kernel
theorem wit_Migrations : ends (.migrateStart 0 3) 0x0705 [1] (nodeS {}) 3 = true ∧ ends (.migrateStart 0 3) 0x0705 [32] (nodeS {}) 3 = true ∧
    ends (.migrateStart 0 3) 0x0705 [2] (nodeS { migration := some {} }) 0x25 = true ∧ ends (.migrateStart 0 3) 0x0705 [2] { nodeS {} with red := { st := .held } } 0x21 = true ∧
    gives (.migrateStart 0 3) (mb 0x0705 [31] (nodeS {})) (fun t => t.halo.migration.elim false (fun g => g.peer == 31) && (boxAt t 3).exec.elim false (·.waiting)) = true ∧
    ends (.migrateCancel 0 3) 0x0706 [0] (nodeS {}) 0x25 = true ∧ ends (.migrateCancel 0 3) 0x0706 [2] (nodeS {}) 3 = true ∧
    ends (.migrateCancel 0 3) 0x0706 [0] (nodeS { migration := some { st := .committing } }) 0x25 = true ∧ ends (.migrateCancel 0 3) 0x0706 [1] (nodeS { migration := some { st := .committing } }) 0 = true ∧
    ends (.migrateStatus 0 3) 0x0707 [] (nodeS {}) 0 = true ∧ ends (.wakeNode 0 3) 0x0708 [1] (nodeS {}) 3 = true ∧
    gives (.wakeNode 0 3) (mb 0x0708 [2] (nodeS {})) (fun t => t.halo.wakeWaiter.length == 1 && (boxAt t 3).exec.elim false (·.waiting)) = true := by decide +kernel

theorem wit_AlmClear : Challenged 0 3 0x0801 (cmd 0x0801 (auth 0x0801 [])) 1 (keyS 0x0801 [] w) ∧ ends (.almClear 0 3) 0x0801 (auth 0x0801 []) w 0x10 = true := by decide +kernel
theorem wit_AlmClear_ends : let s := mb 0x0801 [] { w with alm := { clearing := true, clearLeft := [7], clearWaiter := some (3, 1), drops := #v[1, 2, 3, 4], records := [{ sector := 7 }, { sector := 8 }] },
                                                              media := { w.media with csErase := some (almSectorBase 7, 0), csOwn := true } };
    almSectorOf (almSectorBase 7) = some 7 ∧ s.media.csWaiting = [] ∧ s.alm.clearFailed = false ∧
    gives (.dieOperationDone .configStore {}) s (fun t => stat t == some 0 && !t.alm.clearing && t.alm.records.map (·.sector) == [8] && t.alm.drops == #v[0, 0, 0, 0]) = true := by decide +kernel
theorem wit_ReplanDue : let s := { w with pwr := { replanDue := true } }; begunCommand s 3 0x0903 = none ∧ replanMayRun s = true ∧
    gives (.ageingReplan 0 3 {}) s (fun t => !t.pwr.replanDue) = true := by decide +kernel
theorem wit_AlmInfo : gives (.almInfo 0 3) (mb 0x0802 [] w) (fun t => (boxAt t 3).done) = true ∧ gives (.coolingStatus 0 3) (mb 0x0A01 [] w) (fun t => (boxAt t 3).done) = true := ⟨rfl, rfl⟩
theorem wit_Health : gives (.holdupMeasure 0 3) (mb 0x0902 [] w) (fun t => t.pwr.measuring && t.pins.holdupTest && (boxAt t 3).exec.elim false (·.waiting)) = true ∧
    gives (.holdupMeasure 0 3) (mb 0x0902 [] { w with pwr := { measuring := true } }) (fun t => !t.pins.holdupTest) = true ∧
    gives (.ageingReplan 0 3 {}) (mb 0x0903 [] w) (fun t => stat t == some 0 && t.pwr.p0Freq == 1600) = true ∧
    gives (.loopSave 0 3) (mb 0x0A02 [] w) (fun t => stat t == some 0 && t.cool.saved.isSome) = true := by decide +kernel
theorem wit_HealthReport : gives (.healthReport 0 3) (mb 0x0901 [] { w with red := {} }) (fun t => (boxAt t 3).done) = true := by decide +kernel
theorem wit_Fw : ends (.fwStatus 0 3) 0x0B01 [] w 0 = true ∧ ends (.fwCountersign 0 3) 0x0B02 (zeros 96) w 0x10 = true ∧
    ends (.fwCountersign 0 3) 0x0B02 (zeros 96) { w with mbx := { custodianKey := some 1 } } 8 = true ∧ ends (.fwPolicy 0 3) 0x0B03 [] w 8 = true ∧
    gives (.fwPolicy 0 3) (mb 0x0B03 [] { w with mbx := { custodianKey := some 1 } }) (fun t => stat t == some 0 && t.fw.policy) = true ∧
    (let s : State := { w with fw := { slots := #v[{}, { state := .committed }] } }; (slotAt s.fw (inactiveSlot s.fw)).state = .committed ∧ slice (zeros 96) 0 32 = digestBytes (slotAt s.fw 1).digest) := by
  decide +kernel

theorem wit_Grant : Challenged 0 3 0x0D01 (cmd 0x0D01 (auth 0x0D01 [2])) 1 (keyS 0x0D01 [2] w) ∧ field (auth 0x0D01 [2]) 256 1 = 2 ∧ ends (.sanitizeGrant 0 3) 0x0D01 (auth 0x0D01 [2]) w 0x10 = true ∧
    gives .sanitizeGrantExpiry { nvme := { sanitize := { grants := [(1, 0)] } } } (fun t => t.nvme.sanitize.grants.isEmpty) = true ∧
    gives .authLockoutExpiry { mbx := { lockout := true } } (fun t => !t.mbx.lockout) = true ∧
    gives (.challengeExpiry 0 3) (keyS 0x0D01 [2] w) (fun t => (boxAt t 3).challenge == none) = true := by decide +kernel
theorem wit_MediaEncrypt : gives (.mediaEncryptSet 0 3) (mb 0x0D02 [1] w) (fun t => stat t == some 0 && t.mbx.mediaEncrypt) = true ∧ ends (.mediaEncryptSet 0 3) 0x0D02 [2] w 3 = true ∧
    ends (.mediaEncryptSet 0 3) 0x0D02 [1] (nodeS {}) 0x22 = true := by decide +kernel
theorem wit_Challenge : gives (.challenge 0 3) (mb 0x0D10 [] w) (fun t => stat t == some 0 && t.freeCtr == 1) = true := by rfl
theorem wit_Challenge_lockout : ends (.challenge 0 3) 0x0D10 [] { w with mbx := { lockout := true } } 0x13 = true := by decide +kernel
theorem wit_Enrol : ends (.custodianEnrol 0 3) 0x0D11 (zeros 160) { w with mbx := { custodianKey := some 1 } } 8 = true ∧ ends (.custodianEnrol 0 3) 0x0D11 (zeros 160) w 0x11 = true ∧
    (let s := { w with mbx := { boxes := [(3, { busy := true, challenge := some (0, 0), exec := some (cmd 0x0D11 (zeros 160)) })] } }; challengeLive s 3 (slice (zeros 160) 0x40 32) = true) ∧
    (let s := { w with mbx := { boxes := [(16, { busy := true, exec := some (cmd 0x0D11 (zeros 160)) })] } }; begunCommand s (boxKey 1 0) 0x0D11 = some (cmd 0x0D11 (zeros 160)) ∧
      gives (.custodianEnrol 1 0) s (fun t => (boxAt t 16).done && (boxAt t 16).status == 8) = true) := by decide +kernel
theorem wit_Rotate : Challenged 0 3 0x0D12 (cmd 0x0D12 (auth 0x0D12 (zeros 128))) 1 (keyS 0x0D12 (zeros 128) w) ∧ (auth 0x0D12 (zeros 128)).length = 384 ∧
    ends (.custodianRotate 0 3) 0x0D12 (auth 0x0D12 (zeros 128)) w 0x10 = true ∧ ends (.custodianKey 0 3) 0x0D13 [] w 0 = true := by decide +kernel
theorem wit_Diagnostics : ends (.dgnWindow 0 3) 0x0F02 (leBytes 8 1) w 3 = true ∧ ends (.dgnWindow 0 3) 0x0F02 (leBytes 8 (2 ^ 24)) w 8 = true ∧
    gives (.dgnWindow 0 3) (mb 0x0F02 (leBytes 8 (2 ^ 24)) { w with dram := { frozen := true } }) (fun t => stat t == some 0 && t.dram.windowBase == 2 ^ 24 && t.dram.windowValid) = true ∧
    gives (.dgnStatus 0 3) (mb 0x0F01 [] w) (fun t => (boxAt t 3).done) = true := by decide +kernel
theorem wit_WindowRead : let s := { pcS {} with dram := { dramUsed with frozen := true, windowValid := true } }; barReached s 0 = true ∧ dramBytes s = 2 * 64 * gib ∧
    gives (.diagnosticWindowRead 16777214 2 [5, 6] 0) s (fun t => t.dram.windowData == [5, 6]) = true ∧
    gives (.diagnosticWindowRead 16777215 2 [5, 6] 0) s (fun t => t.dram.windowData == s.dram.windowData) = true ∧
    gives (.diagnosticWindowRead 0 2 [5, 6] 0) (pcS {}) (fun t => t.dram.windowData == [0, 0]) = true := by decide +kernel

/-- VF 127 in a state, namespace 1 attached to it, its mirror as given. -/
def vfS (v : VfState) (m : Mirror) : State :=
  { w with vf := vset (Vector.replicate 127 {}) 126 v, nvme := { namespaces := [(1, { nsze := 512, attached := [127] })] }, halo := { mirrors := [{ m with session := 6, localNsid := 1 }] } }
theorem wit_Vf : ends (.vfStatus 0 3) 0x0C01 [127, 0] w 0x30 = true ∧ ends (.vfStatus 0 3) 0x0C01 [127, 0] (vfS { st := .online } {}) 0 = true ∧
    gives (.vfConfigure 0 3) (mb 0x0C02 ([127, 0] ++ b2 960 ++ b2 960) (vfS { st := .online } {})) (fun t => stat t == some 0 && (vfAt t 127).readLimit == 960) = true ∧
    ends (.vfConfigure 0 3) 0x0C02 ([127, 0] ++ b2 961 ++ b2 0) (vfS { st := .online } {}) 3 = true ∧
    gives (.vfQuiesce 0 3) (mb 0x0C03 ([127, 0, 0, 0] ++ b4 60000) (vfS { st := .online } {})) (fun t => stat t == some 0 && (vfAt t 127).st == .quiesced) = true ∧
    ends (.vfQuiesce 0 3) 0x0C03 ([127, 0, 0, 0] ++ b4 0) (vfS { st := .saved } {}) 0x30 = true := by decide +kernel
theorem wit_Vf_quiesce_waits : let s0 := vfS { st := .online } {};
    let s := { s0 with nvme := { s0.nvme with ctrl := vset s0.nvme.ctrl 127 { sqs := [(1, { cmds := [{ sqe := sqe 2 0 0 0 0 }] })] } } }; outstanding s 127 ≠ 0 ∧
    gives (.vfQuiesce 0 3) (mb 0x0C03 ([127, 0, 0, 0] ++ b4 9) s) (fun t => (vfAt t 127).st == .quiescing && (boxAt t 3).exec.elim false (·.waiting)) = true ∧
    gives (.quiesceWaitExpiry 126) (mb 0x0C03 [] { s with vf := vset s.vf 126 { st := .quiescing, waiter := some (3, 1) } }) (fun t => stat t == some 0x31 && (boxAt t 3).detail == 1) = true := by decide +kernel
/-- Two mailbox commands: one that waits in mailbox 2 for the VF, one begun in mailbox 3. -/
def twoBoxes (op : Nat) (r : Bytes) (s : State) : State :=
  { s with mbx := { boxes := [(2, { busy := true, exec := some { cmd op r with id := 9, waiting := true } }), (3, { busy := true, exec := some (cmd op r) })], nextExec := 10 } }
theorem wit_Vf_busy : let s := twoBoxes 0x0C03 ([127, 0, 0, 0] ++ b4 9) (vfS { st := .quiescing, waiter := some (2, 9) } {}); objectBusy s 1 (0x0C, 127) = true ∧
    begunCommand s 3 0x0C03 = some (cmd 0x0C03 ([127, 0, 0, 0] ++ b4 9)) ∧ familyServed s 0x0C03 = true ∧
    gives (.vfQuiesce 0 3) s (fun t => stat t == some 5 && (vfAt t 127).waiter == some (2, 9) && !(boxAt t 2).done) = true := by decide +kernel
theorem wit_VfSave : let r : Bytes := [127, 0, 0, 0] ++ b4 0; let s := vfS { st := .quiesced } { st := .active }; attachedNs s 127 = [1] ∧ aloneOn s 127 1 = true ∧ mirrorActive s 1 = true ∧ vfInStep s 127 = true ∧
    ends (.vfSave 0 3) 0x0C04 r (vfS { st := .online } {}) 0x30 = true ∧ ends (.vfSave 0 3) 0x0C04 r (vfS { st := .quiesced } {}) 0x33 = true ∧
    vfInStep (vfS { st := .quiesced } { st := .active, dirty := [1] }) 127 = false ∧ ends (.vfSave 0 3) 0x0C04 r (vfS { st := .quiesced } { st := .active, dirty := [1] }) 0x33 = true ∧
    gives (.vfSave 0 3) (mb 0x0C04 ([127, 0, 0, 0] ++ b4 600000) (vfS { st := .quiesced } { st := .active, dirty := [1] })) (fun t => (vfAt t 127).waiter == some (3, 1)) = true ∧
    gives (.vfSaveStepWaitExpiry 126) (mb 0x0C04 [] (vfS { st := .quiesced, waiter := some (3, 1) } {})) (fun t => stat t == some 0x33) = true := by decide +kernel
theorem wit_VfSave_saves : gives (.vfSave 0 3) (mb 0x0C04 ([127, 0, 0, 0] ++ b4 0) (vfS { st := .quiesced } { st := .active })) (fun t => (vfAt t 127).st == .saved && (nsAt t 1).elim false (·.locked)) = true := by
  decide +kernel
theorem wit_VfRestore : ends (.vfRestore 0 3) 0x0C05 ([127, 0] ++ zeros 9598) (vfS { st := .offline } {}) 0x30 = true ∧
    (let s := { vfS { st := .offline } {} with nvme := {} }; attachedNs s 127 = [] ∧ restoreRefusal s ((([127, 0] ++ zeros 9598 : Bytes)).drop 64) = some .blobInvalid ∧
      ends (.vfRestore 0 3) 0x0C05 ([127, 0] ++ zeros 9598) s 0x34 = true) := by decide +kernel
/-- VF 127 OFFLINE with nothing attached. -/
def offS : State := { vfS { st := .offline } {} with nvme := {} }
/-- A field of four bytes after sixty, and the CRC that leaves it out. -/
theorem field_crc (h t : Bytes) (x : Nat) (hh : h.length = 60) (hx : x < 2 ^ 32) : field (h ++ b4 x ++ t) 0x3C 4 = x ∧ blobCrc (h ++ b4 x ++ t) = (crc32c (h ++ t)).toNat := by
  have hd : (h ++ (b4 x ++ t)).drop 60 = b4 x ++ t := by rw [← hh, List.drop_left]
  have ht : (h ++ (b4 x ++ t)).take 60 = h := by rw [← hh, List.take_left]
  have hd4 : (h ++ (b4 x ++ t)).drop 64 = t := by
    have : (h ++ (b4 x ++ t)).drop 64 = ((h ++ (b4 x ++ t)).drop 60).drop 4 := by rw [List.drop_drop]
    rw [this, hd]; rfl
  refine ⟨?_, ?_⟩
  · rw [List.append_assoc]; unfold field slice; rw [hd]
    simp [b4, leBytes, ofLE]; omega
  · rw [List.append_assoc]; unfold blobCrc; rw [ht, hd4]
def offHead : Bytes := (stateBlob offS 127).take 60
def offBody : Bytes := (stateBlob offS 127).drop 64
theorem off_split : stateBlob offS 127 = offHead ++ b4 (blobCrc (offHead ++ zeros 4 ++ offBody)) ++ offBody := by rfl
theorem wit_VfRestore_fields : let b := stateBlob offS 127; let k := slice b 0x40 128;
    (slice b 0 4 == ascii "VFST" && field b 4 2 == 1 && field b 8 4 == 9536) = true ∧ (decide (field b 6 2 < 4)
    && decide (1 ≤ field b 0xC 2) && decide (field b 0xC 2 ≤ 127) && decide (field b 0x24 1 ≤ 64) && decide (field b 0x25 1 ≤ 4)
    && field b 0x26 2 == 0 && decide (field b 0x28 8 < 2 ^ 48) && field b 0x38 4 == 0
    && decide (field k 0x18 2 < 32) && decide (field k 0x1A 2 < 32) && decide (field k 0x38 8 < 4) && allZero (slice k 0x48 56)
    && allZero (slice k (0x30 + 2 * field b 0x25 1) (8 - 2 * field b 0x25 1))
    && (List.range 33).all (queueHolds b) && allZero (slice b 0xD08 56)) = true ∧
    allZero (slice b (0xD40 + 32 * field b 0x24 1) (2048 - 32 * field b 0x24 1)) = true ∧ blobNsList b = [] := by decide +kernel
theorem wit_VfRestore_valid : restoreRefusal offS (stateBlob offS 127) = none ∧ (vfAt offS 127).st = .offline ∧ attachedNs offS 127 = [] := by
  have hc := field_crc offHead offBody (blobCrc (offHead ++ zeros 4 ++ offBody)) (by decide +kernel) (by unfold blobCrc; exact BitVec.isLt _)
  have hz := (field_crc offHead offBody 0 (by decide +kernel) (by decide)).2
  rw [show b4 0 = zeros 4 from rfl] at hz
  rw [← off_split] at hc
  have h : field (stateBlob offS 127) 0x3C 4 = blobCrc (stateBlob offS 127) := by rw [hc.1, hc.2, hz]
  obtain ⟨h1, h2, h3, h4⟩ := wit_VfRestore_fields
  refine ⟨?_, rfl, rfl⟩
  have hh : blobHolds (stateBlob offS 127) = true := by
    unfold blobHolds
    simp only [Bool.and_eq_true] at h1 h2 ⊢
    simp_all
  unfold restoreRefusal
  simp [hh, h4]
theorem wit_VfResume : let p : VfState := { st := .saved, savedNs := [1] }; ends (.vfResume 0 3) 0x0C06 [127, 0, 0] (vfS { st := .quiesced } {}) 0 = true ∧ ends (.vfResume 0 3) 0x0C06 [127, 0, 2] (vfS p {}) 3 = true ∧
    ends (.vfResume 0 3) 0x0C06 [127, 0, 0] (vfS { st := .offline } {}) 0x30 = true ∧ ends (.vfResume 0 3) 0x0C06 [127, 0, 0] (vfS p { peerReachable := true }) 0x36 = true ∧
    ends (.vfResume 0 3) 0x0C06 [127, 0, 0] (vfS p {}) 0x37 = true ∧ gives (.vfResume 0 3) (mb 0x0C06 [127, 0, 1] (vfS p {})) (fun t => stat t == some 0 && (vfAt t 127).st == .online) = true ∧
    ends (.vfResume 0 3) 0x0C06 [127, 0, 0] (vfS p { peerReachable := true, peerLists := true }) 0 = true := by decide +kernel

/-! ### The whole machine -/

theorem wit_Step : let s : State := { pending := [.ltrUpdate, .perstDeassert] }; step s = exec .ltrUpdate { s with pending := [.perstDeassert] } ∧ step {} = .next {} := ⟨rfl, rfl⟩
theorem wit_AntiRollback : let s := hoS .stalled 64 true []; s.fw.handover = .stalled ∧ (match step { s with pending := [.handoverReady] } with | .next t => t.fw.antiRollback == 9 && t.pending == [] | _ => false) = true := by
  decide +kernel
theorem wit_AntiRollback_step13 : let s : State := { boot := { phase := .running, step := 13 }, fw := { slots := #v[{ state := .committed, rollback := 5 }, {}] } }; StepRuns 13 s ∧ s.red.resyncFirst = [] ∧
    gives (.bootStepEnd {}) s (fun t => t.fw.antiRollback == 5) = true := by decide +kernel
theorem wit_KeysHold : KeysHold { mbx := { custodianKey := some 1, keyIndex := 0, keyRecords := [List.replicate 128 0] }, fw := { policy := true } } :=
  ⟨by decide, fun _ => rfl, by decide, by decide, fun _ => rfl, by decide, by decide⟩
theorem wit_Stamp : let e := cmd 0x08F1 (setR 1 1); Served 0 3 0x08F1 40 e (mb 0x08F1 (setR 1 1) w) ∧ field e.request 0 2 = 1 ∧ field e.request 2 2 = 0 ∧ field e.request 4 4 = 0 ∧
    field e.request 8 32 = 1 ∧ field (setR 1 0) 8 32 = setting w 8 1 ∧
    gives (.almanacSetSetting 0 3) (mb 0x08F1 (setR 1 1) { w with alm := { openRec := some {} } }) (fun t => t.alm.openRec == none) = true := by decide +kernel

/-! ### Well-formedness: each check refuses an ill-formed term -/

theorem test_wf_cmd_ref : ([{ sq := 65536 }, { cid := 65536 }] : List CmdRef).all (fun x => !x.wf) = true := by decide +kernel

theorem test_wf_sqe : ([{ opc := 256 }, { fuse := 4 }, { cid := 65536 }, { nsid := 4294967296 }, { cdw2 := 4294967296 }, { cdw3 := 4294967296 }, { cdw10 := 4294967296 }, { cdw11 := 4294967296 }, { cdw12 := 4294967296 }, { cdw13 := 4294967296 }, { cdw14 := 4294967296 }, { cdw15 := 4294967296 }, { mptr := 18446744073709551616 }, { prp1 := 18446744073709551616 }] : List Sqe).all (fun x => !x.wf) = true := by decide +kernel

theorem test_wf_block_data : ([{ data := List.replicate 4097 0 }, { md := List.replicate 65 0 }] : List BlockData).all (fun x => !x.wf) = true := by decide +kernel

theorem test_wf_block_read : ([{ step := 0 }, { step := 8 }, { peer := { md := List.replicate 65 0 } }, { others := [{ md := List.replicate 65 0 }] }, { altered := [(0, {})] }, { altered := [(7, {})] }, { altered := [(1, { md := List.replicate 65 0 })] }] : List BlockRead).all (fun x => !x.wf) = true := by decide +kernel

theorem test_wf_dsm_range : ([{ slba := 18446744073709551616 }, { len := 4294967296 }] : List DsmRange).all (fun x => !x.wf) = true := by decide +kernel

theorem test_wf_ns_params : ([{ nsze := 18446744073709551616 }, { ncap := 18446744073709551616 }, { flbas := 256 }, { dps := 256 }, { nmic := 256 }] : List NsParams).all (fun x => !x.wf) = true := by decide +kernel

theorem test_wf_media_desc : ([{ opcode := 256 }, { volume := 16 }, { lun := 8 }, { planeMask := 16 }, { retryEntry := 256 }, { block := 4294967296 }, { page := 65536 }, { buffer := 18446744073709551616 }, { length := 4294967296 }, { featureAddr := 256 }, { featureData := [0, 0, 0, 0, 0] }, { sweepStart := 32768 }, { sweepStart := -32769 }, { sweepStep := 256 }, { sweepCount := 256 }, { sweepLevel := 256 }] : List MediaDesc).all (fun x => !x.wf) = true := by decide +kernel

theorem test_wf_cs_desc : ([{ addr := 4294967296 }, { len := 4294967296 }] : List CsDesc).all (fun x => !x.wf) = true := by decide +kernel

theorem test_wf_page_content : ([.codewords (List.replicate 17 {})] : List PageContent).all (fun x => !x.wf) = true := by decide +kernel

theorem test_wf_die_outcome : ([{ dieStatus := 256 }, { temperature := 32768 }, { temperature := -32769 }, { corrected := 65536 }, { pulses := 256 }] : List DieOutcome).all (fun x => !x.wf) = true := by decide +kernel

theorem test_wf_data_cell : ([{ dst := 32 }, { src := 32 }, { hops := 256 }, { payload := List.replicate 513 0 }] : List DataCell).all (fun x => !x.wf) = true := by decide +kernel

theorem test_wf_init_cell : ([{ ringId := 4294967296 }, { nodeId := 32 }, { protocol := 65536 }, { serial := List.replicate 21 0 }] : List InitCell).all (fun x => !x.wf) = true := by decide +kernel

theorem test_wf_token_entry : ([{ nodeId := 256 }, { state := 256 }, { ports := 16 }, { sessions := 66 }, { serial := List.replicate 21 0 }] : List TokenEntry).all (fun x => !x.wf) = true := by decide +kernel

theorem test_wf_token : ([{ epoch := 4294967296 }, { originator := 32 }, { turns := 256 }, { entries := List.replicate 33 {} }, { entries := [{ ports := 16 }] }] : List Token).all (fun x => !x.wf) = true := by decide +kernel

theorem test_wf_halo_header : ([{ opcode := 256 }, { status := 65536 }, { xid := 4294967296 }, { session := 4294967296 }, { bodyLen := 1064961 }, { seqno := 18446744073709551616 }, { nsid := 4294967296 }, { kind := 256 }, { lbaf := 256 }, { count := 65536 }, { lba := 18446744073709551616 }, { serial := List.replicate 21 0 }] : List HaloHeader).all (fun x => !x.wf) = true := by decide +kernel

theorem test_wf_halo_message : ([{ header := { opcode := 256 } }, { src := 32 }, { dst := 32 }, { body := [0] }] : List HaloMessage).all (fun x => !x.wf) = true := by decide +kernel

theorem test_wf_session_desc : ([{ session := 4294967296 }, { type := 256 }, { role := 256 }, { mode := 256 }, { state := 256 }, { localNsid := 4294967296 }, { peerNsid := 4294967296 }, { nsze := 18446744073709551616 }, { appliedSeqno := 18446744073709551616 }, { lbaf := 256 }, { piType := 256 }] : List SessionDesc).all (fun x => !x.wf) = true := by decide +kernel

theorem test_wf_holdup_sample : ([{ us := 200001 }, { v0 := 1800001 }, { vEnd := 1800001 }] : List HoldupSample).all (fun x => !x.wf) = true := by decide +kernel

theorem test_wf_replan_sample : ([{ freq := List.replicate 65 0 }, { ddr := List.replicate 9 0 }, { media := List.replicate 17 0 }, { ddr := [256] }, { media := [256] }, { pcie := 256 }, { haloE := 256 }, { haloW := 256 }] : List ReplanSample).all (fun x => !x.wf) = true := by decide +kernel

theorem test_wf_step_result : ([{ dimms := List.replicate 9 {} }, { lastPageLost := 3 }, { holdup := { us := 200001 } }, { replan := { pcie := 256 } }] : List StepResult).all (fun x => !x.wf) = true := by decide +kernel

theorem test_wf_page_sweep : ([{ page := 20 }, { page := 1 }, { windows := List.replicate 9 (List.replicate 64 0) }, { windows := [List.replicate 63 0] }, { windows := [4294967296 :: List.replicate 63 0] }] : List PageSweep).all (fun x => !x.wf) = true := by decide +kernel

theorem test_wf_pass_block : ([{ pages := [{ decodeStep := 4 }] }, { pages := [{ corrected := 65536 }] }, { pages := [{ status := 256 }] }] : List PassBlock).all (fun x => !x.wf) = true := by decide +kernel

theorem test_wf_resync_finding : ([{ bad := [16] }] : List ResyncFinding).all (fun x => !x.wf) = true := by decide +kernel

theorem test_wf_seal_xfer : ([{}, { record := List.replicate 224 0, keys := [0, 0] }] : List SealXfer).all (fun x => !x.wf) = true := by decide +kernel

theorem test_wf_fetch_what : ([.data 65536 0, .data 0 65536, .entry 65536] : List FetchWhat).all (fun x => !x.wf) = true := by decide +kernel

theorem test_wf_poison_what : ([.data 65536 0, .data 0 65536] : List PoisonWhat).all (fun x => !x.wf) = true := by decide +kernel

theorem test_wf_patrol_hit : ([{ addr := 1099511627776 }] : List PatrolHit).all (fun x => !x.wf) = true := by decide +kernel

theorem test_wf_commands_1 : ([.sqTailDoorbell 0 65536 0,
    .sqTailDoorbell 0 0 4294967296,
    .cqHeadDoorbell 0 65536 0,
    .cqHeadDoorbell 0 0 4294967296,
    .commandFetch 0 65536 {},
    .commandFetch 0 0 { opc := 256 },
    .write { sq := 65536 } [],
    .write { cid := 65536 } [],
    .write {} [{ md := List.replicate 65 0 }],
    .thermalHoldLimitExpiry { sq := 65536 },
    .thermalHoldLimitExpiry { cid := 65536 },
    .read { sq := 65536 } []] : List Instr).all
    (fun c => !c.wf) = true := by decide +kernel

theorem test_wf_commands_2 : ([.read { cid := 65536 } [],
    .read {} [{ step := 0 }],
    .flush { sq := 65536 },
    .flush { cid := 65536 },
    .writeZeroes { sq := 65536 },
    .writeZeroes { cid := 65536 },
    .datasetManagement { sq := 65536 } [],
    .datasetManagement { cid := 65536 } [],
    .datasetManagement {} (List.replicate 257 {}),
    .datasetManagement {} [{ len := 4294967296 }],
    .verify { sq := 65536 } [],
    .verify { cid := 65536 } []] : List Instr).all
    (fun c => !c.wf) = true := by decide +kernel

theorem test_wf_commands_3 : ([.verify {} [{ step := 0 }],
    .sealCmd { sq := 65536 } [],
    .sealCmd { cid := 65536 } [],
    .sealCmd {} [{ step := 0 }],
    .secureDeallocate { sq := 65536 } [],
    .secureDeallocate { cid := 65536 } [],
    .auditRange { sq := 65536 } [] [],
    .auditRange { cid := 65536 } [] [],
    .auditRange {} [{ step := 0 }] [],
    .auditRange {} [] [(0, List.replicate 257 {})],
    .auditRange {} [] [(0, [{ md := List.replicate 65 0 }])],
    .completionPost { sq := 65536 },
    .completionPost { cid := 65536 },
    .createIoSubmissionQueue { sq := 65536 }] : List Instr).all
    (fun c => !c.wf) = true := by decide +kernel

theorem test_wf_commands_4 : ([.createIoSubmissionQueue { cid := 65536 },
    .deleteIoSubmissionQueue { sq := 65536 },
    .deleteIoSubmissionQueue { cid := 65536 },
    .createIoCompletionQueue { sq := 65536 },
    .createIoCompletionQueue { cid := 65536 },
    .deleteIoCompletionQueue { sq := 65536 },
    .deleteIoCompletionQueue { cid := 65536 },
    .getLogPage { sq := 65536 },
    .getLogPage { cid := 65536 },
    .identifyCommand { sq := 65536 },
    .identifyCommand { cid := 65536 },
    .abort { sq := 65536 }] : List Instr).all
    (fun c => !c.wf) = true := by decide +kernel

theorem test_wf_commands_5 : ([.abort { cid := 65536 },
    .setFeaturesArbitration { sq := 65536 },
    .setFeaturesArbitration { cid := 65536 },
    .setFeaturesPowerManagement { sq := 65536 },
    .setFeaturesPowerManagement { cid := 65536 },
    .setFeaturesTemperatureThreshold { sq := 65536 },
    .setFeaturesTemperatureThreshold { cid := 65536 },
    .setFeaturesNumberOfQueues { sq := 65536 },
    .setFeaturesNumberOfQueues { cid := 65536 },
    .setFeaturesInterruptCoalescing { sq := 65536 },
    .setFeaturesInterruptCoalescing { cid := 65536 },
    .setFeaturesInterruptVectorConfig { sq := 65536 }] : List Instr).all
    (fun c => !c.wf) = true := by decide +kernel

theorem test_wf_commands_6 : ([.setFeaturesInterruptVectorConfig { cid := 65536 },
    .setFeaturesAsyncEventConfig { sq := 65536 },
    .setFeaturesAsyncEventConfig { cid := 65536 },
    .setFeaturesApst { sq := 65536 } [],
    .setFeaturesApst { cid := 65536 } [],
    .setFeaturesApst {} [(32, 0)],
    .setFeaturesApst {} [(0, 16777216)],
    .setFeaturesTimestamp { sq := 65536 } 0,
    .setFeaturesTimestamp { cid := 65536 } 0,
    .setFeaturesHctm { sq := 65536 },
    .setFeaturesHctm { cid := 65536 },
    .getFeatures { sq := 65536 }] : List Instr).all
    (fun c => !c.wf) = true := by decide +kernel

theorem test_wf_commands_7 : ([.getFeatures { cid := 65536 },
    .asynchronousEventRequest { sq := 65536 },
    .asynchronousEventRequest { cid := 65536 },
    .namespaceCreate { sq := 65536 } {},
    .namespaceCreate { cid := 65536 } {},
    .namespaceCreate {} { flbas := 256 },
    .namespaceDelete { sq := 65536 },
    .namespaceDelete { cid := 65536 },
    .namespaceAttach { sq := 65536 } [],
    .namespaceAttach { cid := 65536 } [],
    .namespaceAttach {} [128],
    .namespaceDetach { sq := 65536 } []] : List Instr).all
    (fun c => !c.wf) = true := by decide +kernel

theorem test_wf_commands_8 : ([.namespaceDetach { cid := 65536 } [],
    .namespaceDetach {} [128],
    .formatNvm { sq := 65536 },
    .formatNvm { cid := 65536 },
    .firmwareImageDownload { sq := 65536 } [],
    .firmwareImageDownload { cid := 65536 } [],
    .firmwareCommitAction0 { sq := 65536 } true,
    .firmwareCommitAction0 { cid := 65536 } true,
    .firmwareCommitAction1 { sq := 65536 } true,
    .firmwareCommitAction1 { cid := 65536 } true,
    .firmwareCommitAction2 { sq := 65536 },
    .firmwareCommitAction2 { cid := 65536 }] : List Instr).all
    (fun c => !c.wf) = true := by decide +kernel

theorem test_wf_commands_9 : ([.firmwareCommitAction3 { sq := 65536 } true,
    .firmwareCommitAction3 { cid := 65536 } true,
    .deviceSelfTestShort { sq := 65536 },
    .deviceSelfTestShort { cid := 65536 },
    .deviceSelfTestExtended { sq := 65536 },
    .deviceSelfTestExtended { cid := 65536 },
    .deviceSelfTestAbort { sq := 65536 },
    .deviceSelfTestAbort { cid := 65536 },
    .virtualizationManagementOnline { sq := 65536 },
    .virtualizationManagementOnline { cid := 65536 },
    .virtualizationManagementOffline { sq := 65536 },
    .virtualizationManagementOffline { cid := 65536 }] : List Instr).all
    (fun c => !c.wf) = true := by decide +kernel

theorem test_wf_commands_10 : ([.securitySend { sq := 65536 } [],
    .securitySend { cid := 65536 } [],
    .securityReceive { sq := 65536 },
    .securityReceive { cid := 65536 },
    .sanitizeBlockErase { sq := 65536 } [],
    .sanitizeBlockErase { cid := 65536 } [],
    .sanitizeCryptoErase { sq := 65536 },
    .sanitizeCryptoErase { cid := 65536 },
    .registerWrite 0 .config 4294967296 0,
    .completionTimeout 0 (.entry 65536),
    .completionTimeout 0 (.data 0 65536),
    .poisonedTlpReceived 0 (.data 65536 0)] : List Instr).all
    (fun c => !c.wf) = true := by decide +kernel

theorem test_wf_commands_11 : ([.linkTrainingComplete 7 0,
    .linkTrainingComplete 0 17,
    .doeDiscovery 256,
    .spdmGetCertificate 0 8 0 0,
    .spdmGetCertificate 0 0 4294967296 0,
    .spdmGetCertificate 0 0 0 4294967296,
    .spdmChallenge 0 8 [],
    .spdmChallenge 0 0 (List.replicate 31 0),
    .spdmGetMeasurements 0 256 [],
    .spdmGetMeasurements 0 0 (List.replicate 31 0),
    .vfEnable 128,
    .vfDisable 128] : List Instr).all
    (fun c => !c.wf) = true := by decide +kernel

theorem test_wf_commands_12 : ([.ageingReplan 0 0 { pcie := 256 },
    .diagnosticWindowRead 4294967296 0 [] 0,
    .diagnosticWindowRead 0 4294967296 [] 0,
    .carrierDescriptorReadDone 0 (List.replicate 1025 0) [] true,
    .carrierDescriptorReadDone 0 [] (List.replicate 1025 0) true,
    .carrierTrainingDone 0 (List.replicate 5 none),
    .carrierTrainingDone 0 [some 5],
    .carrierResumeDone 0 (List.replicate 1025 0) [] [],
    .carrierResumeDone 0 [] (List.replicate 1025 0) [],
    .carrierResumeDone 0 [] [] (List.replicate 5 none),
    .carrierResumeDone 0 [] [] [some 5],
    .mediaRead 0 0 { block := 4294967296 } 0] : List Instr).all
    (fun c => !c.wf) = true := by decide +kernel

theorem test_wf_commands_13 : ([.mediaRead 0 0 {} 4294967296,
    .program 0 0 { block := 4294967296 } (.raw []),
    .program 0 0 {} (.codewords (List.replicate 17 {})),
    .erase 0 0 { block := 4294967296 },
    .recharge 0 0 { block := 4294967296 } (.raw []),
    .recharge 0 0 {} (.codewords (List.replicate 17 {})),
    .sweep 0 0 { block := 4294967296 },
    .mediaGetFeatures 0 0 { block := 4294967296 },
    .mediaSetFeatures 0 0 { block := 4294967296 },
    .readStatus 0 0 { block := 4294967296 },
    .lunReset 0 0 { block := 4294967296 },
    .zqCal 0 0 { block := 4294967296 }] : List Instr).all
    (fun c => !c.wf) = true := by decide +kernel

theorem test_wf_commands_14 : ([.dieOperationDone .configStore { dieStatus := 256 },
    .csRead { addr := 4294967296 } 0,
    .csRead {} 18446744073709551616,
    .csProgram { len := 4294967296 } [] none,
    .csErase { addr := 4294967296 },
    .housekeepingRound [(8192, none)],
    .polestarSweep 0 [{ page := 16 }],
    .polestarReprogram 0 0 4294967296 0 [] [],
    .polestarReprogram 0 0 0 0 [] [{ page := 16 }],
    .rechargePass 2097152 [],
    .rechargePass 0 [{ pages := [{ status := 256 }] }],
    .marginPatrol 0 [0, 0, 0, 4] [0, 0, 0, 0],
    .marginPatrol 0 [0] [0, 0, 0, 0],
    .marginPatrol 0 [0, 0, 0, 0] [0]] : List Instr).all
    (fun c => !c.wf) = true := by decide +kernel

theorem test_wf_commands_15 : ([.dawnScan 0 4 0,
    .stripeWrite 0 2097152,
    .gatherTimeout 0 2097152,
    .groupDeclaration 2097152,
    .stripeCommit 2097152 0,
    .bandClose 2097152,
    .bandRelease 2097152 [],
    .garbageCollection 2097152 true [],
    .garbageCollection 0 true [{ step := 0 }],
    .relocation 2097152 true [],
    .relocation 0 true [{ step := 0 }],
    .spanConsolidation [{ step := 0 }]] : List Instr).all
    (fun c => !c.wf) = true := by decide +kernel

theorem test_wf_commands_16 : ([.resynchronisation 2097152 0 [] [],
    .resynchronisation 0 0 [{ bad := [16] }] [],
    .rebuild 2097152 [] [] true,
    .rebuild 0 [{ step := 0 }] [] true,
    .lunRebuild 8192 0 [],
    .lunRebuild 0 2097152 [],
    .lunRebuild 0 0 [33554432],
    .reshape 2097152,
    .portTrainingDone .east 3 0,
    .initCellReceive .east { nodeId := 32 },
    .dataCellReceive .east { dst := 32 },
    .fecErrorLimit .east 65536,
    .tokenReceive .east { originator := 32 }] : List Instr).all
    (fun c => !c.wf) = true := by decide +kernel

theorem test_wf_commands_17 : ([.heartbeatReceive 32 [] [],
    .heartbeatReceive 0 (List.replicate 21 0) [],
    .heartbeatReceive 0 [] [{ mode := 256 }],
    .peerTimeoutExpiry 32,
    .spanPushReceive { src := 32 },
    .spanPullReceive { src := 32 },
    .repairReqReceive { src := 32 } [],
    .repairReqReceive {} [{ step := 0 }],
    .sealXferReceive { src := 32 } { record := List.replicate 224 0 } [],
    .sealXferReceive {} {} [],
    .sealXferReceive {} { record := List.replicate 224 0 } [{ step := 0 }],
    .migrateBeginReceive { src := 32 }] : List Instr).all
    (fun c => !c.wf) = true := by decide +kernel

theorem test_wf_commands_18 : ([.migrateBeginCancelReceive { src := 32 },
    .migrateCheckpointReceive { src := 32 },
    .migrateCommitReceive { src := 32 } 0,
    .wakeReceive { src := 32 },
    .unknownOpcodeReceive { src := 32 },
    .haloResponseReceive { src := 32 },
    .haloRequestTimeout 4294967296,
    .destBusyRetry 4294967296,
    .mirrorPush 4294967296 0 [],
    .mirrorPush 0 1099511627776 [],
    .mirrorPush 0 0 [{ step := 0 }],
    .mirrorTimeoutExpiry 4294967296] : List Instr).all
    (fun c => !c.wf) = true := by decide +kernel

theorem test_wf_commands_19 : ([.migrationPass [{ step := 0 }],
    .bootStepEnd { lastPageLost := 3 },
    .dramPatrolScrub [{ addr := 1099511627776 }],
    .dramFreeze 256 0 0,
    .dramFreeze 0 0 1099511627776,
    .codeFetchError 33554432 true true,
    .msramScrub 0 [(33554432, true, true)] [] [],
    .voltageMonitorEvent 0 true 65536,
    .holdupMeasurementDone { us := 200001 },
    .diodeReading 32768,
    .diodeReading (-32769),
    .loopSlotUpdate 0 2147483648] : List Instr).all
    (fun c => !c.wf) = true := by decide +kernel

theorem test_wf_commands_20 : ([.loopSlotUpdate 0 (-2147483649),
    .almanacRecordAccept 0 0 (List.replicate 21 0),
    .apertureBufferWrite 0 4294967296 [],
    .apertureBufferRead 0 4294967296 0,
    .apertureBufferRead 0 0 4294967296,
    .jtagInstruction 256] : List Instr).all
    (fun c => !c.wf) = true := by decide +kernel

theorem test_wf_raw_page : PageContent.wf (.raw (List.replicate 81921 0)) = false := by rw [PageContent.wf, List.length_replicate]; decide

end Sys2Proof.Tests
end

section
/-! PROOFS. What functions, controllers and mailboxes read after one of them is changed: one rule for each operation of the state. -/
namespace Sys2Proof.Machine

/-! ### Functions -/

/-- A function that is changed takes its new value. -/
@[simp] theorem funcAt_modFunc_same (s : State) (fn : Func) (g : PciFunc → PciFunc) : funcAt (modFunc s fn g) fn = g (funcAt s fn) :=
  vget_vset_eq _ _ _ _ fn.isLt

/-- Every other function stands as it stood. -/
theorem funcAt_modFunc_ne (s : State) {fn k : Nat} (h : k ≠ fn) (g : PciFunc → PciFunc) : funcAt (modFunc s fn g) k = funcAt s k :=
  vget_vset_ne _ _ _ _ _ h.symm

/-- An error reported joins the function's Uncorrectable Error Status (R311). -/
theorem reportUncor_aerUncor (s : State) (fn : Func) (bit : Nat) :
    (funcAt (reportUncor s fn bit) fn).aerUncor = (funcAt s fn).aerUncor ||| BitVec.ofNat 32 (2 ^ bit) :=
  congrArg PciFunc.aerUncor (funcAt_modFunc_same s fn (fun f => { f with aerUncor := f.aerUncor ||| BitVec.ofNat 32 (2 ^ bit) }))

/-! ### Controllers -/

/-- A controller that is changed takes its new value. -/
@[simp] theorem ctrlAt_modCtrl_same (s : State) (fn : Func) (g : Ctrl → Ctrl) : ctrlAt (modCtrl s fn g) fn = g (ctrlAt s fn) :=
  vget_vset_eq _ _ _ _ fn.isLt

/-- Every other controller stands as it stood. -/
theorem ctrlAt_modCtrl_ne (s : State) {fn k : Nat} (h : k ≠ fn) (g : Ctrl → Ctrl) : ctrlAt (modCtrl s fn g) k = ctrlAt s k :=
  vget_vset_ne _ _ _ _ _ h.symm

/-! ### Mailboxes and payload buffers -/

/-- A mailbox that is changed takes its new value. -/
@[simp] theorem boxAt_modBox_same (s : State) (key : Nat) (g : Mailbox → Mailbox) : boxAt (modBox s key g) key = g (boxAt s key) :=
  readAt_writeAt_eq _ _ _ _

/-- Every other mailbox stands as it stood. -/
theorem boxAt_modBox_ne (s : State) {key k : Nat} (h : k ≠ key) (g : Mailbox → Mailbox) : boxAt (modBox s key g) k = boxAt s k :=
  readAt_writeAt_ne _ _ _ _ _ h

/-- A run of bytes laid into a sparse memory, where every one of them lands: each is read at its place, and every other place reads as it
read. -/
theorem readAt_layRun (off : Nat) (lands : Byte × Nat → Bool) (bytes : Bytes) :
    ∀ (k : Nat) (l : List (Nat × Byte)), (∀ p : Byte × Nat, k ≤ p.2 → p.2 < k + bytes.length → lands p = true) → ∀ a,
      readAt 0 ((bytes.zipIdx k).foldl (fun l p => if lands p then writeAt 0 l (off + p.2) p.1 else l) l) a =
        if off + k ≤ a then bytes.getD (a - (off + k)) (readAt 0 l a) else readAt 0 l a := by
  induction bytes with
  | nil => intro k l _ a; simp
  | cons b bytes ih =>
    intro k l h a
    have hlands : lands (b, k) = true := h (b, k) (Nat.le_refl k) (by simp)
    rw [List.zipIdx_cons, List.foldl_cons, if_pos hlands,
      ih (k + 1) _ (fun p hi hj => h p (by omega) (by simp only [List.length_cons]; omega)) a]
    rcases Nat.lt_trichotomy a (off + k) with hlt | rfl | hgt
    · rw [if_neg (by omega), if_neg (by omega), readAt_writeAt_ne _ _ _ _ _ (by omega)]
    · rw [if_neg (by omega), if_pos (Nat.le_refl _), readAt_writeAt_eq]; simp
    · rw [if_pos (by omega), if_pos (by omega), readAt_writeAt_ne _ _ _ _ _ (by omega), show a - (off + k) = a - (off + (k + 1)) + 1 by omega,
        List.getD_cons_succ]

/-- A byte of a payload buffer without a bad word, after a write that ends within it. -/
theorem readAt_bufferWrite (b : Mailbox) (o : Nat) (data : Bytes) (hgood : b.badWords = []) (hfit : o + data.length ≤ 65536) (a : Nat) :
    readAt 0 (bufferWrite b o data).buffer a = if o ≤ a then data.getD (a - o) (readAt 0 b.buffer a) else readAt 0 b.buffer a := by
  refine readAt_layRun o _ data 0 b.buffer (fun p _ hp => ?_) a
  have hin : p.2 + o < 65536 := by omega
  simp [hgood, hin]

/-- Such a write is read back. -/
theorem bufferBytes_bufferWrite_same (b : Mailbox) (o : Nat) (data : Bytes) (hgood : b.badWords = []) (hfit : o + data.length ≤ 65536) :
    bufferBytes (bufferWrite b o data) o data.length = data := by
  refine List.ext_getElem (by simp [bufferBytes]) (fun i h₁ h₂ => ?_)
  simp only [bufferBytes, List.getElem_map, List.getElem_range]
  rw [readAt_bufferWrite b o data hgood hfit, if_pos (by omega), Nat.add_sub_cancel_left, List.getD_eq_getElem?_getD,
    List.getElem?_eq_getElem h₂, Option.getD_some]

/-- Such a write leaves every byte outside it. -/
theorem bufferBytes_bufferWrite_outside (b : Mailbox) (o : Nat) (data : Bytes) (hgood : b.badWords = []) (hfit : o + data.length ≤ 65536)
    (a : Nat) (ha : a < o ∨ o + data.length ≤ a) : bufferBytes (bufferWrite b o data) a 1 = bufferBytes b a 1 := by
  have hbyte : readAt 0 (bufferWrite b o data).buffer a = readAt 0 b.buffer a := by
    rw [readAt_bufferWrite b o data hgood hfit]
    split
    · rw [List.getD_eq_getElem?_getD, List.getElem?_eq_none (by omega), Option.getD_none]
    · rfl
  simp only [bufferBytes, List.range_one, List.map_cons, List.map_nil, Nat.add_zero, hbyte]

end Sys2Proof.Machine
end

section
/-! PROOFS. Register writes, and accesses of the aperture's buffers and registers (R11, R290, R358 to R363, R417, R418). -/
namespace Sys2Proof.Machine

/-! ### The link's return from L1 (R298), which every access of a BAR brings about, is seen in no register of the aperture

Each `(rfl)` stands in parentheses so that `simp` rewrites a condition together with its decision, not up to unfolding. -/

theorem readGbl_leaveL1 (s : State) (fn off : Nat) : readGbl (leaveL1 s) fn off = readGbl s fn off := (rfl)
theorem readDgn_leaveL1 (s : State) (off : Nat) : readDgn (leaveL1 s) off = readDgn s off := (rfl)
theorem readHk_leaveL1 (s : State) (off : Nat) : readHk (leaveL1 s) off = readHk s off := (rfl)
theorem readMotor_leaveL1 (s : State) (m reg : Nat) : readMotor (leaveL1 s) m reg = readMotor s m reg := (rfl)
theorem readLoop_leaveL1 (s : State) (n reg : Nat) : readLoop (leaveL1 s) n reg = readLoop s n reg := (rfl)
theorem readHal_leaveL1 (s : State) (off : Nat) : readHal (leaveL1 s) off = readHal s off := (rfl)
theorem readMdr_leaveL1 (s : State) (off : Nat) : readMdr (leaveL1 s) off = readMdr s off := (rfl)
theorem readAlm_leaveL1 (s : State) (off : Nat) : readAlm (leaveL1 s) off = readAlm s off := (rfl)
theorem sineEntry_leaveL1 (s : State) (i : Nat) : sineEntry (leaveL1 s) i = sineEntry s i := (rfl)
theorem traceAt_leaveL1 (s : State) (b : Nat) : traceAt (leaveL1 s) b = traceAt s b := (rfl)
@[simp] theorem apertureAnswers_leaveL1 (s : State) (off : Nat) : apertureAnswers (leaveL1 s) off = apertureAnswers s off := (rfl)
@[simp] theorem bufferAccess_leaveL1 (s : State) (off n : Nat) : bufferAccess (leaveL1 s) off n = bufferAccess s off n := (rfl)
@[simp] theorem boxAt_leaveL1 (s : State) (key : Nat) : boxAt (leaveL1 s) key = boxAt s key := (rfl)
@[simp] theorem funcAt_leaveL1 (s : State) (fn : Nat) : funcAt (leaveL1 s) fn = funcAt s fn := (rfl)
@[simp] theorem ctrlAt_leaveL1 (s : State) (fn : Nat) : ctrlAt (leaveL1 s) fn = ctrlAt s fn := (rfl)

theorem readPfAperture_leaveL1 (s : State) (off : Nat) : readPfAperture (leaveL1 s) off = readPfAperture s off := by
  simp only [readPfAperture, boxAt_leaveL1, readGbl_leaveL1, readDgn_leaveL1, readHk_leaveL1, readMotor_leaveL1, readLoop_leaveL1,
    readHal_leaveL1, readMdr_leaveL1, readAlm_leaveL1, sineEntry_leaveL1, traceAt_leaveL1]

theorem readVfAperture_leaveL1 (s : State) (fn off : Nat) : readVfAperture (leaveL1 s) fn off = readVfAperture s fn off := by
  simp only [readVfAperture, boxAt_leaveL1, readGbl_leaveL1]

theorem readRegister_bar2_leaveL1 (s : State) (fn off : Nat) : readRegister (leaveL1 s) fn .bar2 off = readRegister s fn .bar2 off := by
  by_cases h : apertureAnswers s off = true <;>
    simp only [readRegister, readPfAperture_leaveL1, readVfAperture_leaveL1, apertureAnswers_leaveL1, h]

@[simp] theorem registerBytes_leaveL1 (s : State) (fn off n : Nat) : registerBytes (leaveL1 s) fn off n = registerBytes s fn off n := by
  simp only [registerBytes, readRegister_bar2_leaveL1]

/-! ### Which write a register's address takes (R290, R358, R359) -/

/-- A BAR that is reached is one that a memory request arrives at. -/
theorem memArrives_of_barReached {s : State} {fn : Nat} (h : barReached s fn = true) : memArrives s fn = true := by
  simp only [barReached, Bool.and_eq_true] at h
  obtain ⟨⟨⟨⟨_, hexists⟩, hready⟩, hperst⟩, _⟩ := h
  simp only [memArrives, hexists, hready, hperst, Bool.and_self]

/-- A discarded write that arrived reports an Unsupported Request. -/
theorem unsupportedWrite_of_arrives {s : State} {fn : Nat} (h : memArrives s fn = true) : unsupportedWrite s fn = reportUncor s fn 20 :=
  if_pos h

/-- A write in a BAR that does not answer or is not aligned is discarded. -/
theorem writeRegister_discarded {s : State} {fn off : Nat} {space : RegSpace} (v : Word32) (hspace : space ≠ .config)
    (h : barReached s fn = false ∨ off % 4 ≠ 0) : writeRegister s fn space off v = unsupportedWrite s fn := by
  cases space with
  | config => exact absurd rfl hspace
  | bar0 => rcases h with h | h <;> simp [writeRegister, h]
  | bar2 => rcases h with h | h <;> simp [writeRegister, h]

theorem writeRegister_config {s : State} {fn off : Nat} (v : Word32) (h : cfgReached s fn = true) (ha : off % 4 = 0) :
    writeRegister s fn .config off v = writeConfig s fn off v := by
  simp [writeRegister, h, ha]

theorem writeRegister_bar0 {s : State} {fn off : Nat} (v : Word32) (h : barReached s fn = true) (ha : off % 4 = 0) :
    writeRegister s fn .bar0 off v = writeBar0 (leaveL1 s) fn off v := by
  simp [writeRegister, h, ha]

/-- A write of the PF's aperture acts where the aperture answers, and is lost where it does not (R394, R396). -/
theorem writeRegister_pfAperture {s : State} {off : Nat} (v : Word32) (h : barReached s 0 = true) (ha : off % 4 = 0) :
    writeRegister s 0 .bar2 off v = if apertureAnswers s off then writePfAperture (leaveL1 s) off v else leaveL1 s := by
  simp [writeRegister, h, ha]

theorem writeRegister_vfAperture {s : State} {fn off : Nat} (v : Word32) (hfn : fn ≠ 0) (h : barReached s fn = true) (ha : off % 4 = 0) :
    writeRegister s fn .bar2 off v = writeVfAperture (leaveL1 s) fn off v := by
  simp [writeRegister, h, ha, hfn]

/-- A write in the page of a mailbox is one of that mailbox's register. -/
theorem writeRegister_mailbox {s : State} {fn : Func} {m reg : Nat} (v : Word32) (h : barReached s fn = true) (hm : m < boxesOf fn)
    (hreg : reg < 0x1000) (ha : reg % 4 = 0) :
    writeRegister s fn .bar2 ((if fn = 0 then 0x10000 else 0x1000) + 0x1000 * m + reg) v = writeMailbox (leaveL1 s) fn m reg v := by
  by_cases hfn : fn = 0
  · subst hfn
    have hm : m < 16 := hm
    rw [if_pos rfl]
    refine (writeRegister_pfAperture v h (by omega)).trans ?_
    have hpage : 0x10000 ≤ 0x10000 + 0x1000 * m + reg ∧ 0x10000 + 0x1000 * m + reg < 0x20000 := by omega
    have hbox : (0x10000 + 0x1000 * m + reg - 0x10000) / 0x1000 = m := by omega
    have hoff : (0x10000 + 0x1000 * m + reg) % 0x1000 = reg := by omega
    rw [if_pos (by simp [apertureAnswers, hpage])]
    simp only [writePfAperture, hpage, hbox, hoff, decide_true, Bool.and_self, if_true]
    rfl
  · have hne : (fn : Nat) ≠ 0 := fun e => hfn (Fin.ext e)
    have hm : m < 2 := by simpa [boxesOf, hne] using hm
    rw [if_neg hfn, writeRegister_vfAperture v hne h (by omega)]
    have hpage : 0x1000 ≤ 0x1000 + 0x1000 * m + reg ∧ 0x1000 + 0x1000 * m + reg < 0x3000 := by omega
    have hbox : (0x1000 + 0x1000 * m + reg - 0x1000) / 0x1000 = m := by omega
    have hoff : (0x1000 + 0x1000 * m + reg) % 0x1000 = reg := by omega
    simp only [writeVfAperture, hpage, hbox, hoff, decide_true, Bool.and_self, if_true]

/-! ### Where an access of a payload buffer lies, and what it does (R290, R363, R417, R418) -/

/-- A range that lies whole in a payload buffer ends within it. -/
theorem payloadAt_fits {fn off n m o : Nat} (h : payloadAt fn off n = some (m, o)) : o + n ≤ 65536 := by
  simp only [payloadAt] at h
  generalize (if fn = 0 then 0x100000 else 0x10000) = base at h
  split at h
  · rename_i hin
    simp only [Bool.and_eq_true, decide_eq_true_eq] at hin
    obtain ⟨⟨hlo, _⟩, hsame⟩ := hin
    obtain ⟨_, rfl⟩ : _ ∧ (off - base) % 0x10000 = o := by simpa using h
    omega
  · exact absurd h (by simp)

/-- A write that lies in a payload buffer: discarded beyond what the buffers accept, lost while the mailbox is BUSY, stored otherwise. -/
theorem writeAperture_payload {s : State} {fn off m o : Nat} {data : Bytes} (h : barReached s fn = true)
    (hp : payloadAt fn off data.length = some (m, o)) (hd : data ≠ []) : writeAperture s fn off data =
      if bufferAccess s off data.length then
        (if (boxAt s (boxKey fn m)).busy then leaveL1 s else modBox (leaveL1 s) (boxKey fn m) (fun b => bufferWrite b o data))
      else unsupportedWrite (leaveL1 s) fn := by
  have hlen : data.length ≠ 0 := by simpa using hd
  simp only [writeAperture, if_neg hlen, h, hp, bufferAccess_leaveL1, boxAt_leaveL1, Bool.not_true]
  by_cases ha : bufferAccess s off data.length = true <;> simp [ha]

/-- A read of at least one byte that the buffers accept and that lies in a payload buffer. -/
theorem readAperture_payload {s : State} {fn off n m o : Nat} (h : barReached s fn = true) (ha : bufferAccess s off n = true)
    (hp : payloadAt fn off n = some (m, o)) : readAperture s fn off n =
      if (boxAt s (boxKey fn m)).busy then returned (leaveL1 s) (zeros n)
      else if (boxAt s (boxKey fn m)).badWords.any (fun w => o < 8 * w + 8 && 8 * w < o + n) then returnedPoisoned (leaveL1 s) off
      else returned (leaveL1 s) (bufferBytes (boxAt s (boxKey fn m)) o n) := by
  have hn : n ≠ 0 := by
    rintro rfl
    simp [bufferAccess, withinPage] at ha
  simp [readAperture, hn, h, hp, ha]

/-- An aligned read of 4 or 8 bytes that no buffer and no window takes returns registers. -/
theorem readAperture_registers {s : State} {fn off n : Nat} (h : barReached s fn = true) (hp : payloadAt fn off n = none)
    (hn : n = 4 ∨ n = 8) (ha : off % n = 0) (hreg : fn = 0 → mdRange off n = false ∧ logWindow off n = false ∧ diagWindow off = false) :
    readAperture s fn off n = returned (leaveL1 s) (registerBytes s fn off n) := by
  have hn0 : n ≠ 0 := by omega
  have hdiag : (decide (fn = 0) && diagWindow off) = false := by
    by_cases hfn : fn = 0
    · simp [hreg hfn]
    · simp [hfn]
  have hplain : (decide (fn = 0) && (mdRange off n || logWindow off n)) = false := by
    by_cases hfn : fn = 0
    · simp [hreg hfn]
    · simp [hfn]
  simp [readAperture, hn0, h, hp, hdiag, hplain, hn, ha]

/-- A poisoned read is counted and leaves nothing but its record beside (R418). -/
theorem returnedPoisoned_eq (s : State) (off : Nat) : ∃ alm, returnedPoisoned s off =
    { s with host := { s.host with readData := [], readPoisoned := true }, dram := { s.dram with sramUe := s.dram.sramUe + 1 }, alm := alm } :=
  ⟨_, record_eq _ 0x0A07 .notice (b8 off) (by decide)⟩

/-! ### What the writes do (R11, R290, R292, R302, R311, R317, R360, R361) -/

/-- A discarded write raises the function's Unsupported Request bit and changes nothing beside it. -/
theorem reportUncor_unsupported (s : State) (fn : Func) : (funcAt (reportUncor s fn 20) fn).aerUncor = (funcAt s fn).aerUncor ||| 0x100000 ∧
    reportUncor s fn 20 = { s with host := (reportUncor s fn 20).host } :=
  ⟨reportUncor_aerUncor s fn 20, rfl⟩

/-- The AER status registers hold no written bits of their own. -/
theorem holdCfg_of_unmasked {s : State} {fn off : Nat} (v : Word32) (h : cfgMask fn off = 0) : holdCfg s fn off v = s := if_pos h

theorem cfgMask_aerUncor (fn : Nat) : cfgMask fn 0x104 = 0 := by
  by_cases h : fn = 0 <;> simp [cfgMask, h]

theorem cfgMask_aerCor (fn : Nat) : cfgMask fn 0x110 = 0 := by
  by_cases h : fn = 0 <;> simp [cfgMask, h]

/-- Uncorrectable Error Status clears where a one is written (R11, R311). -/
theorem writeRegister_aerUncor {s : State} {fn : Nat} (v : Word32) (h : cfgReached s fn = true) :
    writeRegister s fn .config 0x104 v = modFunc s fn (fun f => { f with aerUncor := f.aerUncor &&& ~~~v }) := by
  rw [writeRegister_config v h rfl]
  simp only [writeConfig, holdCfg_of_unmasked v (cfgMask_aerUncor fn)]

/-- Correctable Error Status clears where a one is written (R11, R311). -/
theorem writeRegister_aerCor {s : State} {fn : Nat} (v : Word32) (h : cfgReached s fn = true) :
    writeRegister s fn .config 0x110 v = modFunc s fn (fun f => { f with aerCor := f.aerCor &&& ~~~v }) := by
  rw [writeRegister_config v h rfl]
  simp only [writeConfig, holdCfg_of_unmasked v (cfgMask_aerCor fn)]

/-- A write below the doorbells of BAR0 is one of a controller register (R317). -/
theorem writeRegister_nvme {s : State} {fn off : Nat} (v : Word32) (h : barReached s fn = true) (ha : off % 4 = 0) (hoff : off < 0x1000) :
    writeRegister s fn .bar0 off v = writeNvmeReg (leaveL1 s) fn off v :=
  (writeRegister_bar0 v h ha).trans (if_pos hoff)

/-- OPCODE takes what is written unless the mailbox is BUSY (R363). -/
theorem writeMailbox_opcode (s : State) (fn m : Nat) (v : Word32) : writeMailbox s fn m 0x00 v =
    if (boxAt s (boxKey fn m)).busy then s else modBox s (boxKey fn m) (fun b => { b with opcode := v.setWidth 16 }) := rfl

/-- PWR_WAKE_STATUS clears where a one is written, where the aperture answers there (R302, R396). -/
theorem writeRegister_wakeStatus {s : State} (v : Word32) (h : barReached s 0 = true) : writeRegister s 0 .bar2 0x210004 v =
    if apertureAnswers s 0x210004 then
      { leaveL1 s with pwr := { s.pwr with wakeStatus := s.pwr.wakeStatus &&& ~~~(v.setWidth 9) } } else leaveL1 s := by
  rw [writeRegister_pfAperture v h rfl]
  simp [writePfAperture, leaveL1]

/-- ALM_EVENT clears where a one is written (R496). -/
theorem writeRegister_almEvent {s : State} (v : Word32) (h : barReached s 0 = true) : writeRegister s 0 .bar2 0x20F00C v =
    { leaveL1 s with alm := { s.alm with event := s.alm.event &&& ~~~(v.setWidth 4) } } := by
  rw [writeRegister_pfAperture v h rfl]
  simp [writePfAperture, apertureAnswers, leaveL1]

end Sys2Proof.Machine
end

section
/-! PROOFS. The obligation on register and buffer accesses, clause by clause. -/
namespace Sys2Proof.Machine

/-- A write that is not aligned, in configuration space (R11). -/
theorem registerWrite_config_unaligned (s : State) (fn : Func) (off : Nat) (v : Word32) (h : off % 4 ≠ 0) :
    Gives (.registerWrite fn .config off v) s (fun t => t = s) :=
  ⟨_, rfl, by simp [writeRegister, h]⟩

/-- A write in a BAR that is not aligned or not answered is an Unsupported Request (R290). -/
theorem registerWrite_bar_unsupported (s : State) (fn : Func) (space : RegSpace) (off : Nat) (v : Word32) (hspace : space ≠ .config)
    (h : barReached s fn = false ∨ off % 4 ≠ 0) (harrives : memArrives s fn = true) :
    Gives (.registerWrite fn space off v) s (fun t =>
      (funcAt t fn).aerUncor = (funcAt s fn).aerUncor ||| 0x100000 ∧ t = { s with host := t.host }) := by
  refine ⟨_, rfl, ?_⟩
  rw [writeRegister_discarded v hspace h, unsupportedWrite_of_arrives harrives]
  exact reportUncor_unsupported s fn

/-- The AER status registers clear exactly where ones are written (R11, R311). -/
theorem registerWrite_aer (s : State) (fn : Func) (v : Word32) (h : cfgReached s fn = true) :
    Gives (.registerWrite fn .config 0x104 v) s (fun t => (funcAt t fn).aerUncor = (funcAt s fn).aerUncor &&& ~~~v ∧
      (∀ k, k ≠ fn.val → funcAt t k = funcAt s k) ∧ t = { s with host := t.host }) ∧
    Gives (.registerWrite fn .config 0x110 v) s (fun t => (funcAt t fn).aerCor = (funcAt s fn).aerCor &&& ~~~v ∧
      (∀ k, k ≠ fn.val → funcAt t k = funcAt s k) ∧ t = { s with host := t.host }) := by
  refine ⟨⟨_, rfl, ?_⟩, ⟨_, rfl, ?_⟩⟩
  · rw [writeRegister_aerUncor v h]
    exact ⟨by simp, fun k hk => funcAt_modFunc_ne s hk _, rfl⟩
  · rw [writeRegister_aerCor v h]
    exact ⟨by simp, fun k hk => funcAt_modFunc_ne s hk _, rfl⟩

/-- AQA keeps its defined bits and reads back as it was kept (R317). -/
theorem registerWrite_aqa (s : State) (fn : Func) (v : Word32) (h : barReached s fn = true) :
    Gives (.registerWrite fn .bar0 0x24 v) s (fun t => (ctrlAt t fn).aqa = v &&& 0x0FFF0FFF ∧
      readRegister t fn .bar0 0x24 = (v &&& 0x0FFF0FFF).toNat ∧ (∀ k, k ≠ fn.val → ctrlAt t k = ctrlAt s k) ∧
      t = { s with nvme := { s.nvme with ctrl := t.nvme.ctrl }, host := t.host }) := by
  refine ⟨_, rfl, ?_⟩
  rw [writeRegister_nvme v h rfl (by decide)]
  refine ⟨?_, ?_, fun k hk => ?_, rfl⟩
  · simp [writeNvmeReg]
  · simp [readRegister, readBar0, readNvmeReg, writeNvmeReg]
  · exact ctrlAt_modCtrl_ne (leaveL1 s) hk _

/-- INTMS sets and INTMC clears the mask's bits where ones are written; the queues stand (R317). -/
theorem registerWrite_intMask (s : State) (fn : Func) (v : Word32) (h : barReached s fn = true) :
    Gives (.registerWrite fn .bar0 0x0C v) s (fun t => (ctrlAt t fn).intMask = (ctrlAt s fn).intMask ||| v ∧ (ctrlAt t fn).sqs = (ctrlAt s fn).sqs) ∧
    Gives (.registerWrite fn .bar0 0x10 v) s (fun t => (ctrlAt t fn).intMask = (ctrlAt s fn).intMask &&& ~~~v ∧ (ctrlAt t fn).sqs = (ctrlAt s fn).sqs) := by
  refine ⟨⟨_, rfl, ?_⟩, ⟨_, rfl, ?_⟩⟩ <;> rw [writeRegister_nvme v h rfl (by decide)] <;> simp [writeNvmeReg]

/-- OPCODE is held unless the mailbox is BUSY; DONE and OVERRUN of MBX_STATUS clear where ones are written (R361, R363). -/
theorem registerWrite_mailbox (s : State) (fn : Func) (v : Word32) (h : barReached s fn = true) (m : Nat) (hm : m < boxesOf fn) :
    ((boxAt s (boxKey fn m)).busy = false → Gives (.registerWrite fn .bar2 ((if fn = 0 then 0x10000 else 0x1000) + 0x1000 * m) v) s (fun t =>
      boxAt t (boxKey fn m) = { boxAt s (boxKey fn m) with opcode := v.setWidth 16 } ∧ (∀ k, k ≠ boxKey fn m → boxAt t k = boxAt s k))) ∧
    ((boxAt s (boxKey fn m)).busy = true → Gives (.registerWrite fn .bar2 ((if fn = 0 then 0x10000 else 0x1000) + 0x1000 * m) v) s (fun t =>
      boxAt t (boxKey fn m) = boxAt s (boxKey fn m))) ∧
    Gives (.registerWrite fn .bar2 ((if fn = 0 then 0x10000 else 0x1000) + 0x1000 * m + 0x14) v) s (fun t =>
      boxAt t (boxKey fn m) = { boxAt s (boxKey fn m) with
        overrun := (boxAt s (boxKey fn m)).overrun && !v.getLsbD 2, done := (boxAt s (boxKey fn m)).done && !v.getLsbD 1 }) := by
  have hopcode := writeRegister_mailbox (reg := 0) v h hm (by decide) rfl
  rw [Nat.add_zero] at hopcode
  refine ⟨fun hfree => ⟨_, rfl, ?_⟩, fun hbusy => ⟨_, rfl, ?_⟩, ⟨_, rfl, ?_⟩⟩
  · rw [hopcode, writeMailbox_opcode, if_neg (by simp [hfree])]
    exact ⟨boxAt_modBox_same _ _ _, fun k hk => boxAt_modBox_ne (leaveL1 s) hk _⟩
  · rw [hopcode, writeMailbox_opcode, if_pos (by simp [hbusy])]
    rfl
  · rw [writeRegister_mailbox v h hm (by decide) rfl]
    exact boxAt_modBox_same _ _ _

/-- PWR_WAKE_STATUS and ALM_EVENT clear exactly where ones are written (R302, R396, R496). -/
theorem registerWrite_pfStatus (s : State) (v : Word32) (h : barReached s 0 = true) :
    (apertureAnswers s 0x210004 = false → Gives (.registerWrite 0 .bar2 0x210004 v) s (fun t => t = { s with host := t.host })) ∧
    (apertureAnswers s 0x210004 = true → Gives (.registerWrite 0 .bar2 0x210004 v) s (fun t =>
      t.pwr = { s.pwr with wakeStatus := s.pwr.wakeStatus &&& ~~~(v.setWidth 9) } ∧ t = { s with pwr := t.pwr, host := t.host })) ∧
    Gives (.registerWrite 0 .bar2 0x20F00C v) s (fun t =>
      t.alm = { s.alm with event := s.alm.event &&& ~~~(v.setWidth 4) } ∧ t = { s with alm := t.alm, host := t.host }) := by
  refine ⟨fun hmute => ⟨_, rfl, ?_⟩, fun hanswers => ⟨_, rfl, ?_⟩, ⟨_, rfl, ?_⟩⟩
  · rw [show ((0 : Func) : Nat) = 0 from rfl, writeRegister_wakeStatus v h, hmute]
    rfl
  · rw [show ((0 : Func) : Nat) = 0 from rfl, writeRegister_wakeStatus v h, if_pos hanswers]
    exact ⟨rfl, rfl⟩
  · rw [show ((0 : Func) : Nat) = 0 from rfl, writeRegister_almEvent v h]
    exact ⟨rfl, rfl⟩

/-- A write that lies in a payload buffer (R290, R363, R417). -/
theorem apertureBufferWrite_payload (s : State) (fn : Func) (off m o : Nat) (data : Bytes) (h : barReached s fn = true)
    (hp : payloadAt fn off data.length = some (m, o)) (hd : data ≠ []) :
    (bufferAccess s off data.length = false → Gives (.apertureBufferWrite fn off data) s (fun t =>
      (funcAt t fn).aerUncor = (funcAt s fn).aerUncor ||| 0x100000 ∧ t = { s with host := t.host })) ∧
    (bufferAccess s off data.length = true →
     ((boxAt s (boxKey fn m)).busy = false → (boxAt s (boxKey fn m)).badWords = [] → Gives (.apertureBufferWrite fn off data) s (fun t =>
      bufferBytes (boxAt t (boxKey fn m)) o data.length = data ∧
      (∀ a, a < o ∨ o + data.length ≤ a → bufferBytes (boxAt t (boxKey fn m)) a 1 = bufferBytes (boxAt s (boxKey fn m)) a 1) ∧
      (∀ k, k ≠ boxKey fn m → boxAt t k = boxAt s k) ∧ t = { s with mbx := { s.mbx with boxes := t.mbx.boxes }, host := t.host })) ∧
     ((boxAt s (boxKey fn m)).busy = true → Gives (.apertureBufferWrite fn off data) s (fun t => t = { s with host := t.host }))) := by
  have hwrite := writeAperture_payload h hp hd
  have hfit := payloadAt_fits hp
  refine ⟨fun hbad => ⟨_, rfl, ?_⟩, fun hok => ⟨fun hfree hgood => ⟨_, rfl, ?_⟩, fun hbusy => ⟨_, rfl, ?_⟩⟩⟩
  · rw [hwrite, hbad, if_neg Bool.false_ne_true, unsupportedWrite_of_arrives (memArrives_of_barReached (s := leaveL1 s) h)]
    exact reportUncor_unsupported (leaveL1 s) fn
  · rw [hwrite, if_pos hok, hfree, if_neg Bool.false_ne_true]
    refine ⟨?_, fun a ha => ?_, fun k hk => boxAt_modBox_ne (leaveL1 s) hk _, rfl⟩
    · rw [boxAt_modBox_same]
      exact bufferBytes_bufferWrite_same _ o data hgood hfit
    · rw [boxAt_modBox_same]
      exact bufferBytes_bufferWrite_outside _ o data hgood hfit a ha
  · rw [hwrite, if_pos hok, if_pos hbusy]
    rfl

/-- A read of 4 or 8 aligned bytes of the register areas returns the registers' values (R11, R290). -/
theorem apertureBufferRead_registers (s : State) (fn : Func) (off n : Nat) (h : barReached s fn = true) (hp : payloadAt fn off n = none)
    (hn : n = 4 ∨ n = 8) (ha : off % n = 0) (hreg : fn = 0 → mdRange off n = false ∧ logWindow off n = false ∧ diagWindow off = false) :
    Gives (.apertureBufferRead fn off n) s (fun t =>
      t.host.readData = registerBytes s fn off n ∧ t.host.readPoisoned = false ∧ t = { s with host := t.host }) := by
  refine ⟨_, rfl, ?_⟩
  rw [readAperture_registers h hp hn ha (fun e => hreg (Fin.ext e))]
  exact ⟨rfl, rfl, rfl⟩

/-- A read that lies in a payload buffer: zeros while the mailbox is BUSY, its bytes otherwise, poisoned by a bad word (R290, R363, R418). -/
theorem apertureBufferRead_payload (s : State) (fn : Func) (off n m o : Nat) (h : barReached s fn = true) (ha : bufferAccess s off n = true)
    (hp : payloadAt fn off n = some (m, o)) :
    ((boxAt s (boxKey fn m)).busy = true → Gives (.apertureBufferRead fn off n) s (fun t =>
      t.host.readData = List.replicate n 0 ∧ t.host.readPoisoned = false ∧ t = { s with host := t.host })) ∧
    ((boxAt s (boxKey fn m)).busy = false → (boxAt s (boxKey fn m)).badWords = [] → Gives (.apertureBufferRead fn off n) s (fun t =>
      t.host.readData = bufferBytes (boxAt s (boxKey fn m)) o n ∧ t.host.readPoisoned = false ∧ t = { s with host := t.host })) ∧
    (∀ w, (boxAt s (boxKey fn m)).busy = false → w ∈ (boxAt s (boxKey fn m)).badWords → o < 8 * w + 8 → 8 * w < o + n →
      Gives (.apertureBufferRead fn off n) s (fun t => t.host.readPoisoned = true ∧ t.host.readData = [] ∧
        t.dram.sramUe = s.dram.sramUe + 1 ∧ t.mbx = s.mbx ∧ guarded t = guarded s)) := by
  have hread := readAperture_payload h ha hp
  refine ⟨fun hbusy => ⟨_, rfl, ?_⟩, fun hfree hgood => ⟨_, rfl, ?_⟩, fun w hfree hw hlo hhi => ⟨_, rfl, ?_⟩⟩
  · rw [hread, if_pos hbusy]
    exact ⟨rfl, rfl, rfl⟩
  · rw [hread, hfree, hgood]
    exact ⟨rfl, rfl, rfl⟩
  · have hbad : (boxAt s (boxKey fn m)).badWords.any (fun w => o < 8 * w + 8 && 8 * w < o + n) = true :=
      List.any_eq_true.2 ⟨w, hw, by simp [hlo, hhi]⟩
    obtain ⟨alm, hpoisoned⟩ := returnedPoisoned_eq (leaveL1 s) off
    rw [hread, hfree, if_neg Bool.false_ne_true, if_pos hbad, hpoisoned]
    exact ⟨rfl, rfl, rfl, rfl, rfl⟩

/-- Settles O42: each access takes the one branch of its address that its hypotheses leave, and that branch is one update of the state. -/
theorem registerAccess : Obligations.RegisterAccess := by
  intro s fn
  refine ⟨registerWrite_config_unaligned s fn, registerWrite_bar_unsupported s fn, fun h v => registerWrite_aer s fn v h, fun h v => ?_,
    fun h v => registerWrite_pfStatus s v h, fun off m o data => apertureBufferWrite_payload s fn off m o data,
    apertureBufferRead_registers s fn, apertureBufferRead_payload s fn⟩
  obtain ⟨hset, hclear⟩ := registerWrite_intMask s fn v h
  exact ⟨registerWrite_aqa s fn v h, hset, hclear, registerWrite_mailbox s fn v h⟩

end Sys2Proof.Machine
end

section
/-! PROOFS. Commands in their queues (R319): what a command, a controller and the rest of the state read after a command is changed, and what a
row runs when its command's turn has come. -/
namespace Sys2Proof.Machine

/-! ### Only the controllers' queues -/

/-- The frame of the commands: the state with other controllers. -/
theorem onlyCmds_iff {s t : State} : OnlyCmds s t ↔ ∃ v, t = { s with nvme := { s.nvme with ctrl := v } } :=
  ⟨fun h => ⟨_, h⟩, by rintro ⟨v, rfl⟩; rfl⟩

theorem OnlyCmds.refl (s : State) : OnlyCmds s s := rfl

theorem OnlyCmds.trans {s t u : State} (h₁ : OnlyCmds s t) (h₂ : OnlyCmds t u) : OnlyCmds s u := by
  obtain ⟨v, rfl⟩ := onlyCmds_iff.1 h₁
  obtain ⟨w, rfl⟩ := onlyCmds_iff.1 h₂
  rfl

theorem onlyCmds_modCtrl (s : State) (fn : Nat) (g : Ctrl → Ctrl) : OnlyCmds s (modCtrl s fn g) := rfl

theorem onlyCmds_modSq (s : State) (fn q : Nat) (g : SubQueue → SubQueue) : OnlyCmds s (modSq s fn q g) := by
  unfold modSq
  split
  · exact OnlyCmds.refl s
  · exact onlyCmds_modCtrl ..

theorem onlyCmds_modCmd (s : State) (c : CmdRef) (g : Fetched → Fetched) : OnlyCmds s (modCmd s c g) := onlyCmds_modSq ..
theorem onlyCmds_endCmd (s : State) (c : CmdRef) (o : Cpl) : OnlyCmds s (endCmd s c o) := onlyCmds_modCmd ..
theorem onlyCmds_takeEffect (s : State) (c : CmdRef) (o : Cpl) : OnlyCmds s (takeEffect s c o) := onlyCmds_modCmd ..
theorem onlyCmds_putData (s : State) (c : CmdRef) (out : List BlockData) : OnlyCmds s (putData s c out) := onlyCmds_modCmd ..

/-- What does not speak of the controllers is kept. -/
theorem OnlyCmds.keeps {β : Type} {s t : State} (h : OnlyCmds s t) (p : State → β)
    (hp : ∀ v, p { s with nvme := { s.nvme with ctrl := v } } = p s) : p t = p s := by
  obtain ⟨v, rfl⟩ := onlyCmds_iff.1 h
  exact hp v

theorem OnlyCmds.time {s t : State} (h : OnlyCmds s t) : t.time = s.time := h.keeps State.time (fun _ => rfl)
theorem OnlyCmds.alm {s t : State} (h : OnlyCmds s t) : t.alm = s.alm := h.keeps State.alm (fun _ => rfl)
theorem OnlyCmds.map {s t : State} (h : OnlyCmds s t) : t.map = s.map := h.keeps State.map (fun _ => rfl)
theorem OnlyCmds.media {s t : State} (h : OnlyCmds s t) : t.media = s.media := h.keeps State.media (fun _ => rfl)
theorem OnlyCmds.cool {s t : State} (h : OnlyCmds s t) : t.cool = s.cool := h.keeps State.cool (fun _ => rfl)
theorem OnlyCmds.guarded {s t : State} (h : OnlyCmds s t) : guarded t = guarded s := h.keeps Machine.guarded (fun _ => rfl)

/-! ### Fields of a controller that an operation does not touch -/

/-- What a change of one controller keeps of a controller, it keeps of every controller. -/
theorem ctrlField_modCtrl {β : Type} (p : Ctrl → β) (s : State) (fn k : Nat) (g : Ctrl → Ctrl) (hg : ∀ x, p (g x) = p x) :
    p (ctrlAt (modCtrl s fn g) k) = p (ctrlAt s k) := by
  by_cases hk : k = fn
  · subst hk
    by_cases hlt : k < 128
    · exact (congrArg p (ctrlAt_modCtrl_same s ⟨k, hlt⟩ g)).trans (hg _)
    · simp [ctrlAt, modCtrl, vget, vset, Vector.getElem?_eq_none (Nat.le_of_not_lt hlt)]
  · rw [ctrlAt_modCtrl_ne s hk]

/-- A command that is changed changes nothing of a controller but its submission queues. -/
theorem ctrlField_modCmd {β : Type} (p : Ctrl → β) (s : State) (c : CmdRef) (g : Fetched → Fetched) (fn : Nat)
    (hp : ∀ k l, p { k with sqs := l } = p k) : p (ctrlAt (modCmd s c g) fn) = p (ctrlAt s fn) := by
  unfold modCmd modSq
  split
  · rfl
  · exact ctrlField_modCtrl p s _ _ _ (fun k => hp k _)

/-! ### A submission queue, and a command in it -/

theorem sqAt_modCtrl (s : State) (fn : Nat) (g : Ctrl → Ctrl) (hg : ∀ k, (g k).sqs = k.sqs) (k q : Nat) :
    sqAt (modCtrl s fn g) k q = sqAt s k q :=
  congrArg (fun l => lookup l q) (ctrlField_modCtrl Ctrl.sqs s fn k g hg)

theorem cmdAt_modCtrl (s : State) (fn : Nat) (g : Ctrl → Ctrl) (hg : ∀ k, (g k).sqs = k.sqs) (c : CmdRef) :
    cmdAt (modCtrl s fn g) c = cmdAt s c := by
  simp only [cmdAt, sqAt_modCtrl s fn g hg]

theorem cmdAt_modCtrl_of {s : State} {c : CmdRef} {f : Fetched} (h : cmdAt s c = some f) (fn : Nat) (g : Ctrl → Ctrl)
    (hg : ∀ k, (g k).sqs = k.sqs) : cmdAt (modCtrl s fn g) c = some f := (cmdAt_modCtrl s fn g hg c).trans h

theorem sqAt_modSq_same (s : State) (fn : Func) (q : Nat) (g : SubQueue → SubQueue) :
    sqAt (modSq s fn q g) fn q = (sqAt s fn q).map g := by
  unfold modSq
  split
  · rename_i h; rw [h]; rfl
  · rename_i x h
    rw [h, sqAt, ctrlAt_modCtrl_same, lookup_insert_eq]; rfl

theorem sqAt_modSq_ne (s : State) (fn : Func) {q k r : Nat} (h : k = fn → r ≠ q) (g : SubQueue → SubQueue) :
    sqAt (modSq s fn q g) k r = sqAt s k r := by
  unfold modSq
  split
  · rfl
  · by_cases hk : k = fn
    · subst hk
      rw [sqAt, ctrlAt_modCtrl_same, lookup_insert_ne _ _ _ _ (h rfl)]; rfl
    · rw [sqAt, ctrlAt_modCtrl_ne s hk]; rfl

/-- The first command of an identifier, once the commands of that identifier are changed. -/
theorem find_cid_map_same (l : List Fetched) (cid : Nat) (g : Fetched → Fetched) (hg : ∀ x, (g x).sqe.cid = x.sqe.cid) :
    (l.map (fun x => if x.sqe.cid == cid then g x else x)).find? (fun x => x.sqe.cid == cid) =
      (l.find? (fun x => x.sqe.cid == cid)).map g := by
  induction l with
  | nil => rfl
  | cons x l ih =>
    by_cases h : x.sqe.cid = cid
    · simp [h, hg]
    · simpa [h] using ih

/-- The first command of another identifier stands as it stood. -/
theorem find_cid_map_ne (l : List Fetched) {cid k : Nat} (hk : k ≠ cid) (g : Fetched → Fetched) (hg : ∀ x, (g x).sqe.cid = x.sqe.cid) :
    (l.map (fun x => if x.sqe.cid == cid then g x else x)).find? (fun x => x.sqe.cid == k) = l.find? (fun x => x.sqe.cid == k) := by
  induction l with
  | nil => rfl
  | cons x l ih =>
    by_cases h : x.sqe.cid = cid
    · have hx : x.sqe.cid ≠ k := fun e => hk (e.symm.trans h)
      simpa [h, hg, hk.symm] using ih
    · by_cases hx : x.sqe.cid = k
      · simp [hx, hk]
      · simpa [h, hx] using ih

theorem cmdAt_modCmd_same (s : State) (c : CmdRef) (g : Fetched → Fetched) (hg : ∀ x, (g x).sqe.cid = x.sqe.cid) :
    cmdAt (modCmd s c g) c = (cmdAt s c).map g := by
  rw [cmdAt, modCmd, sqAt_modSq_same, cmdAt]
  cases sqAt s c.fn c.sq with
  | none => rfl
  | some x => exact find_cid_map_same x.cmds c.cid g hg

theorem cmdAt_modCmd_ne (s : State) {c k : CmdRef} (h : k ≠ c) (g : Fetched → Fetched) (hg : ∀ x, (g x).sqe.cid = x.sqe.cid) :
    cmdAt (modCmd s c g) k = cmdAt s k := by
  by_cases hq : k.fn = c.fn ∧ k.sq = c.sq
  · obtain ⟨hfn, hsq⟩ := hq
    have hcid : k.cid ≠ c.cid := fun hcid => h (by cases k; cases c; simp_all)
    rw [cmdAt, cmdAt, modCmd, hfn, hsq, sqAt_modSq_same]
    cases sqAt s c.fn c.sq with
    | none => rfl
    | some x => exact find_cid_map_ne x.cmds hcid g hg
  · rw [cmdAt, cmdAt, modCmd, sqAt_modSq_ne s c.fn (fun hfn hsq => hq ⟨Fin.ext hfn, hsq⟩)]

/-- A command stays in its queue whatever command is changed. -/
theorem cmdAt_isSome_modCmd (s : State) (c k : CmdRef) (g : Fetched → Fetched) (hg : ∀ x, (g x).sqe.cid = x.sqe.cid) :
    (cmdAt (modCmd s c g) k).isSome = (cmdAt s k).isSome := by
  by_cases h : k = c
  · rw [h, cmdAt_modCmd_same s c g hg, Option.isSome_map]
  · rw [cmdAt_modCmd_ne s h g hg]

theorem cmdAt_endCmd_same (s : State) (c : CmdRef) (o : Cpl) :
    cmdAt (endCmd s c o) c = (cmdAt s c).map (fun f => { f with done := some o }) := cmdAt_modCmd_same s c _ (fun _ => rfl)

theorem cmdAt_endCmd_ne (s : State) {c k : CmdRef} (h : k ≠ c) (o : Cpl) : cmdAt (endCmd s c o) k = cmdAt s k :=
  cmdAt_modCmd_ne s h (fun f => { f with done := some o }) (fun _ => rfl)

theorem cmdAt_isSome_endCmd (s : State) (c k : CmdRef) (o : Cpl) : (cmdAt (endCmd s c o) k).isSome = (cmdAt s k).isSome :=
  cmdAt_isSome_modCmd s c k (fun f => { f with done := some o }) (fun _ => rfl)

theorem cmdAt_takeEffect_same (s : State) (c : CmdRef) (o : Cpl) :
    cmdAt (takeEffect s c o) c = (cmdAt s c).map (fun f => { f with effect := true, done := some o }) := cmdAt_modCmd_same s c _ (fun _ => rfl)

theorem cmdAt_putData_same (s : State) (c : CmdRef) (out : List BlockData) :
    cmdAt (putData s c out) c = (cmdAt s c).map (fun f => { f with out := out }) := cmdAt_modCmd_same s c _ (fun _ => rfl)

/-- A command that ends has its outcome. -/
theorem cmdEnds_endCmd {s : State} {c : CmdRef} {f : Fetched} (h : cmdAt s c = some f) (o : Cpl) : CmdEnds c o (endCmd s c o) :=
  ⟨_, (cmdAt_endCmd_same s c o).trans (congrArg (Option.map _) h), rfl⟩

/-- A command that takes effect has its outcome. -/
theorem cmdEnds_takeEffect {s : State} {c : CmdRef} {f : Fetched} (h : cmdAt s c = some f) (o : Cpl) : CmdEnds c o (takeEffect s c o) :=
  ⟨_, (cmdAt_takeEffect_same s c o).trans (congrArg (Option.map _) h), rfl⟩

/-- The end of another command leaves a command's outcome. -/
theorem cmdEnds_endCmd_ne {s : State} {c k : CmdRef} {o : Cpl} (hne : k ≠ c) (h : CmdEnds k o s) (p : Cpl) : CmdEnds k o (endCmd s c p) := by
  obtain ⟨f, hf, ho⟩ := h
  exact ⟨f, (cmdAt_endCmd_ne s hne p).trans hf, ho⟩

/-- The command of a data transfer that takes effect. -/
theorem cmdAt_takeEffect_putData {s : State} {c : CmdRef} {f : Fetched} (h : cmdAt s c = some f) (out : List BlockData) (o : Cpl) :
    cmdAt (takeEffect (putData s c out) c o) c = some { f with out := out, effect := true, done := some o } := by
  rw [cmdAt_takeEffect_same, cmdAt_putData_same, h]; rfl

/-- A field of a controller changed beside its submission queues, once a command of the controller is changed. -/
theorem ctrlField_modCmd_modCtrl {β : Type} (p : Ctrl → β) (hp : ∀ k l, p { k with sqs := l } = p k) (s : State) (c : CmdRef)
    (e : Fetched → Fetched) (g : Ctrl → Ctrl) : p (ctrlAt (modCmd (modCtrl s c.fn g) c e) c.fn) = p (g (ctrlAt s c.fn)) := by
  rw [ctrlField_modCmd p _ _ _ _ hp, ctrlAt_modCtrl_same]

/-- The controller changed and a command of it ended: the command's outcome, the frame, and the controller's fields. -/
theorem endCmd_modCtrl {s : State} {c : CmdRef} {f : Fetched} (h : cmdAt s c = some f) (g : Ctrl → Ctrl) (hg : ∀ k, (g k).sqs = k.sqs)
    (o : Cpl) : CmdEnds c o (endCmd (modCtrl s c.fn g) c o) ∧ OnlyCmds s (endCmd (modCtrl s c.fn g) c o) ∧
      ∀ {β : Type} (p : Ctrl → β), (∀ k l, p { k with sqs := l } = p k) → p (ctrlAt (endCmd (modCtrl s c.fn g) c o) c.fn) = p (g (ctrlAt s c.fn)) :=
  ⟨cmdEnds_endCmd (cmdAt_modCtrl_of h c.fn g hg) o, (onlyCmds_modCtrl s c.fn g).trans (onlyCmds_endCmd ..),
    fun p hp => ctrlField_modCmd_modCtrl p hp s c _ g⟩

/-- A feature of the controller stored by a command that takes effect (R317): the command's outcome, the frame, and the controller's fields. -/
theorem takeEffect_modCtrl {s : State} {c : CmdRef} {f : Fetched} (h : cmdAt s c = some f) (g : Ctrl → Ctrl) (hg : ∀ k, (g k).sqs = k.sqs)
    (o : Cpl) : CmdEnds c o (takeEffect (modCtrl s c.fn g) c o) ∧ OnlyCmds s (takeEffect (modCtrl s c.fn g) c o) ∧
      ∀ {β : Type} (p : Ctrl → β), (∀ k l, p { k with sqs := l } = p k) → p (ctrlAt (takeEffect (modCtrl s c.fn g) c o) c.fn) = p (g (ctrlAt s c.fn)) :=
  ⟨cmdEnds_takeEffect (cmdAt_modCtrl_of h c.fn g hg) o, (onlyCmds_modCtrl s c.fn g).trans (onlyCmds_takeEffect ..),
    fun p hp => ctrlField_modCmd_modCtrl p hp s c _ g⟩

/-- A device-wide feature stored by a command that takes effect (R337 to R339): the command's outcome, the frame, and the feature. -/
theorem takeEffect_nvme {s : State} {c : CmdRef} {f : Fetched} (h : cmdAt s c = some f) (n : NvmeState) (hn : n.ctrl = s.nvme.ctrl) (o : Cpl) :
    CmdEnds c o (takeEffect { s with nvme := n } c o) ∧
      takeEffect { s with nvme := n } c o = { s with nvme := (takeEffect { s with nvme := n } c o).nvme } ∧
      ∀ {β : Type} (p : NvmeState → β), (∀ v, p { n with ctrl := v } = p n) → p (takeEffect { s with nvme := n } c o).nvme = p n := by
  have hcmd : cmdAt { s with nvme := n } c = some f := by rw [← h]; simp only [cmdAt, sqAt, ctrlAt, hn]
  have honly := onlyCmds_takeEffect { s with nvme := n } c o
  refine ⟨cmdEnds_takeEffect hcmd o, ?_, fun p hp => honly.keeps (fun t => p t.nvme) hp⟩
  obtain ⟨v, hv⟩ := onlyCmds_iff.1 honly
  rw [hv]

/-! ### A row whose command's turn has come (R319) -/

theorem CmdRuns.fetched {s : State} {c : CmdRef} {admin : Bool} {opc : Nat} {f : Fetched} (h : CmdRuns c admin opc f s) :
    cmdAt s c = some f := h.1

theorem CmdTurn.runs {s : State} {c : CmdRef} {admin : Bool} {opc : Nat} {f : Fetched} (h : CmdTurn c admin opc f s) :
    CmdRuns c admin opc f s := h.1

theorem FeatureTurn.turn {s : State} {c : CmdRef} {fid : Nat} {f : Fetched} (h : FeatureTurn c fid f s) : CmdTurn c true 0x09 f s := h.1

theorem CmdTurn.fetched {s : State} {c : CmdRef} {admin : Bool} {opc : Nat} {f : Fetched} (h : CmdTurn c admin opc f s) :
    cmdAt s c = some f := h.runs.fetched

theorem FeatureTurn.fetched {s : State} {c : CmdRef} {fid : Nat} {f : Fetched} (h : FeatureTurn c fid f s) : cmdAt s c = some f :=
  h.turn.fetched

theorem onCommand_of_runs {s : State} {c : CmdRef} {admin : Bool} {opc : Nat} {f : Fetched} (h : CmdRuns c admin opc f s)
    (k : Fetched → State → State) : onCommand s c admin opc k = k f s := by
  obtain ⟨hcmd, hopc, hqueue, hdone, hfrozen⟩ := h
  simp [onCommand, hcmd, hopc, hqueue, hdone, hfrozen]

theorem onTurn_of_turn {s : State} {c : CmdRef} {admin : Bool} {opc : Nat} {f : Fetched} (h : CmdTurn c admin opc f s)
    (k : Fetched → State → State) : onTurn s c admin opc k = k f s :=
  (onCommand_of_runs h.runs _).trans (if_pos h.2)

theorem onFeature_of_turn {s : State} {c : CmdRef} {fid : Nat} {f : Fetched} (h : FeatureTurn c fid f s) (k : Sqe → State → State) :
    onFeature s c fid k = k f.sqe s :=
  (onTurn_of_turn h.turn _).trans (if_pos h.2)

/-- A row that acts on a command which runs gives what its work gives. -/
theorem gives_of_runs {i : Instr} {s : State} {c : CmdRef} {admin : Bool} {opc : Nat} {f : Fetched} {k : Fetched → State → State}
    {P : State → Prop} (h : CmdRuns c admin opc f s) (hexec : exec i s = .next (onCommand s c admin opc k)) (hP : P (k f s)) : Gives i s P :=
  ⟨_, hexec, (onCommand_of_runs h k).symm ▸ hP⟩

/-- A row that acts in its command's turn gives what its work gives. -/
theorem gives_of_turn {i : Instr} {s : State} {c : CmdRef} {admin : Bool} {opc : Nat} {f : Fetched} {k : Fetched → State → State}
    {P : State → Prop} (h : CmdTurn c admin opc f s) (hexec : exec i s = .next (onTurn s c admin opc k)) (hP : P (k f s)) : Gives i s P :=
  ⟨_, hexec, (onTurn_of_turn h k).symm ▸ hP⟩

/-- A Set Features row gives what its work gives. -/
theorem gives_of_feature {i : Instr} {s : State} {c : CmdRef} {fid : Nat} {f : Fetched} {k : Sqe → State → State}
    {P : State → Prop} (h : FeatureTurn c fid f s) (hexec : exec i s = .next (onFeature s c fid k)) (hP : P (k f.sqe s)) : Gives i s P :=
  ⟨_, hexec, (onFeature_of_turn h k).symm ▸ hP⟩

end Sys2Proof.Machine
end

section
/-! PROOFS. What an asynchronous event and the termination of a command leave alone (R302, R317, R320, R323, R340). -/
namespace Sys2Proof.Machine

/-- What each step of a fold keeps, the fold keeps. -/
theorem foldl_keeps {α β : Type} (p : State → β) (f : State → α → State) (h : ∀ s a, p (f s a) = p s) (l : List α) (s : State) :
    p (l.foldl f s) = p s := by
  induction l generalizing s with
  | nil => rfl
  | cons a l ih => rw [List.foldl_cons, ih, h]

/-! ### Events and Critical Warning -/

/-- What no event shows in: the events and masks of a controller, the end of a waiting request, a wake event, Critical Warning as reported. -/
structure EventBlind {β : Type} (p : State → β) : Prop where
  ctrl : ∀ s fn (g : Ctrl → Ctrl), (∀ k, (g k).sqs = k.sqs) → (∀ k, (g k).tempThresholds = k.tempThresholds) → p (modCtrl s fn g) = p s
  ended : ∀ s c o, p (endCmd s c o) = p s
  pme : ∀ s, p (signalPme s) = p s
  warned : ∀ s w, p { s with nvme := { s.nvme with criticalWarning := w } } = p s

theorem EventBlind.raiseEvent {β : Type} {p : State → β} (hp : EventBlind p) (s : State) (fn type info log : Nat) :
    p (raiseEvent s fn type info log) = p s := by
  simp only [Machine.raiseEvent]
  split
  · rfl
  · split
    · exact hp.ctrl s fn _ (fun _ => rfl) (fun _ => rfl)
    · exact (hp.ended _ _ _).trans (hp.ctrl s fn _ (fun _ => rfl) (fun _ => rfl))

theorem EventBlind.healthEvent {β : Type} {p : State → β} (hp : EventBlind p) (s : State) (changed info : Nat) :
    p (healthEvent s changed info) = p s := by
  simp only [Machine.healthEvent]
  split
  · rfl
  · exact (hp.pme _).trans (foldl_keeps p _ (fun s fn => hp.raiseEvent s fn 1 info 2) _ s)

theorem EventBlind.noteHealth {β : Type} {p : State → β} (hp : EventBlind p) (s : State) : p (noteHealth s) = p s := by
  simp only [Machine.noteHealth]
  split
  · rfl
  · exact (hp.healthEvent _ _ _).trans (hp.warned s _)

/-- An event takes no command out of its queue. -/
theorem eventBlind_cmdAt (c : CmdRef) : EventBlind (fun s => (cmdAt s c).isSome) where
  ctrl s fn g hg _ := congrArg Option.isSome (cmdAt_modCtrl s fn g hg c)
  ended s k o := cmdAt_isSome_endCmd s k c o
  pme s := by simp [cmdAt, sqAt, ctrlAt]
  warned _ _ := rfl

/-- An event sets no temperature threshold. -/
theorem eventBlind_thresholds (fn : Nat) : EventBlind (fun s => (ctrlAt s fn).tempThresholds) where
  ctrl s k g _ hg := ctrlField_modCtrl Ctrl.tempThresholds s k fn g hg
  ended s c _ := ctrlField_modCmd Ctrl.tempThresholds s c _ fn (fun _ _ => rfl)
  pme s := by simp [ctrlAt]
  warned _ _ := rfl

theorem eventBlind_map : EventBlind State.map where
  ctrl _ _ _ _ _ := rfl
  ended s c o := (onlyCmds_endCmd s c o).map
  pme s := signalPme_map s
  warned _ _ := rfl

theorem eventBlind_media : EventBlind State.media where
  ctrl _ _ _ _ _ := rfl
  ended s c o := (onlyCmds_endCmd s c o).media
  pme s := signalPme_media s
  warned _ _ := rfl

theorem eventBlind_cool : EventBlind State.cool where
  ctrl _ _ _ _ _ := rfl
  ended s c o := (onlyCmds_endCmd s c o).cool
  pme s := signalPme_cool s
  warned _ _ := rfl

/-- Critical Warning brought up to date and then a command ended: the command's outcome, the thresholds and the parts that stand. -/
theorem takeEffect_noteHealth {u : State} {c : CmdRef} {f : Fetched} (h : cmdAt u c = some f) (o : Cpl) :
    let t := takeEffect (noteHealth u) c o
    CmdEnds c o t ∧ (ctrlAt t c.fn).tempThresholds = (ctrlAt u c.fn).tempThresholds ∧ t.map = u.map ∧ t.media = u.media ∧ t.cool = u.cool ∧
      guarded t = guarded u := by
  have hcmd : (cmdAt (noteHealth u) c).isSome = true := by rw [(eventBlind_cmdAt c).noteHealth u, h]; rfl
  obtain ⟨g, hg⟩ := Option.isSome_iff_exists.1 hcmd
  have honly := onlyCmds_takeEffect (noteHealth u) c o
  refine ⟨cmdEnds_takeEffect hg o, ?_, honly.map.trans (eventBlind_map.noteHealth u), honly.media.trans (eventBlind_media.noteHealth u),
    honly.cool.trans (eventBlind_cool.noteHealth u), honly.guarded.trans (noteHealth_guarded u)⟩
  rw [takeEffect, ctrlField_modCmd Ctrl.tempThresholds _ _ _ _ (fun _ _ => rfl), (eventBlind_thresholds c.fn).noteHealth u]

/-! ### Termination -/

/-- What the write cache leaves alone, as far as a termination needs it: the controllers, the media and the map's entries. -/
def besideCache (s : State) : Vector Ctrl 128 × MediaState × MapCore := (s.nvme.ctrl, s.media, s.map.core)

theorem dramAccess_besideCache (s : State) (write : Bool) (addr len : Nat) : besideCache (dramAccess s write addr len) = besideCache s := by
  rw [dramAccess_rest]; rfl

theorem writeLine_besideCache (s : State) (l : CacheLine) : besideCache (writeLine s l) = besideCache s :=
  (dramAccess_besideCache ..).trans (dramAccess_besideCache ..)

theorem cacheWrite_besideCache (s : State) (nsid lba : Nat) (blocks : List BlockData) (owner : Option CmdRef) (stratus : Bool) :
    besideCache (cacheWrite s nsid lba blocks owner stratus) = besideCache s :=
  foldl_keeps besideCache writeLine writeLine_besideCache _ _

theorem storeWrite_besideCache (s : State) (off len : Nat) : besideCache (storeWrite s off len) = besideCache s := by
  unfold storeWrite
  split
  · rfl
  · exact foldl_keeps besideCache _ (fun _ _ => cacheWrite_besideCache ..) _ s

theorem abandonSeal_besideCache (s : State) (f : Fetched) : besideCache (abandonSeal s f) = besideCache s := by
  unfold abandonSeal
  split
  · split
    · exact storeWrite_besideCache ..
    · rfl
  · rfl

/-- A command terminated inside the controller stands in its queue, and the map's entries and the media stand (R231, R320, R323). -/
theorem terminate_keeps (s : State) (c : CmdRef) (f : Fetched) : (terminate s c f).nvme.ctrl = s.nvme.ctrl ∧
    (terminate s c f).map.core = s.map.core ∧ (terminate s c f).media = s.media := by
  simp only [terminate]
  split
  · have h := abandonSeal_besideCache
      { leaveLine s c with map := { (leaveLine s c).map with lines := dropLines (leaveLine s c).map.lines c } } f
    simp only [besideCache, Prod.mk.injEq] at h
    obtain ⟨hctrl, hmedia, hcore⟩ := h
    exact ⟨hctrl, hcore, hmedia⟩
  · split <;> exact ⟨rfl, rfl, rfl⟩

theorem cmdAt_terminate (s : State) (c k : CmdRef) (f : Fetched) : cmdAt (terminate s c f) k = cmdAt s k := by
  simp only [cmdAt, sqAt, ctrlAt, (terminate_keeps s c f).1]

end Sys2Proof.Machine
end

section
/-! PROOFS. Reports to the host: the state a log page leaves, and a command that writes one run of bytes (R317, R318, R325). -/
namespace Sys2Proof.Machine

theorem length_padTo (n : Nat) (b : Bytes) : (padTo n b).length = n := by
  simp only [padTo, slice, List.length_append, List.length_take, List.length_replicate]
  omega

theorem smartPage_state (s : State) : (smartPage s).2 = { s with freeCtr := s.freeCtr + 5 } := rfl

/-- A log page is read without a change of state, but that the health page draws its free values. -/
theorem logPage_state {s t : State} {fn lid : Nat} {page : Bytes} (h : logPage s fn lid = some (page, t)) :
    ∃ n, t = { s with freeCtr := n } := by
  have hplain : ∀ b : Bytes, some (b, s) = some (page, t) → ∃ n, t = { s with freeCtr := n } :=
    fun _ e => ⟨s.freeCtr, (congrArg Prod.snd (Option.some.inj e)).symm⟩
  have hpf : ∀ b : Bytes, (if fn = 0 then some (b, s) else none) = some (page, t) → ∃ n, t = { s with freeCtr := n } := by
    intro b e
    split at e
    · exact hplain b e
    · exact absurd e (by simp)
  unfold logPage at h
  split at h
  · exact hplain _ h
  · exact ⟨_, (congrArg Prod.snd (Option.some.inj h)).symm.trans (smartPage_state s)⟩
  · exact hpf _ h
  · exact hplain _ h
  · exact hplain _ h
  · exact hpf _ h
  · exact hpf _ h
  · exact absurd h (by simp)

/-- The check of PRP entries reads nothing but the page size. -/
theorem prpBad_congr {s t : State} {fn : Nat} (h : (ctrlAt t fn).cc = (ctrlAt s fn).cc) (q : Sqe) (bytes : Nat) :
    prpBad t fn q bytes = prpBad s fn q bytes := by
  simp only [prpBad, h]

/-- A command that writes one run of bytes to a data pointer that holds it. -/
theorem answer_of_prp {s : State} {c : CmdRef} {f : Fetched} {bytes : Bytes} (h : cmdAt s c = some f)
    (hprp : prpBad s c.fn f.sqe bytes.length = false) : answer s c bytes = takeEffect (putData s c [{ data := bytes }]) c cplOk := by
  simp [answer, h, hprp]

/-- Such a command's outcome and data, the frame, and the controllers but for their submission queues. -/
theorem answer_report {s : State} {c : CmdRef} {f : Fetched} {bytes : Bytes} (h : cmdAt s c = some f)
    (hprp : prpBad s c.fn f.sqe bytes.length = false) :
    cmdAt (answer s c bytes) c = some { f with out := [{ data := bytes }], effect := true, done := some cplOk } ∧ OnlyCmds s (answer s c bytes) ∧
      ∀ {β : Type} (p : Ctrl → β), (∀ k l, p { k with sqs := l } = p k) → ∀ fn, p (ctrlAt (answer s c bytes) fn) = p (ctrlAt s fn) := by
  rw [answer_of_prp h hprp]
  refine ⟨cmdAt_takeEffect_putData h _ _, (onlyCmds_putData ..).trans (onlyCmds_takeEffect ..), fun p hp fn => ?_⟩
  rw [takeEffect, ctrlField_modCmd p _ _ _ _ hp, putData, ctrlField_modCmd p _ _ _ _ hp]

/-- The reading of a page clears nothing of a controller but masks and the Changed Namespace List. -/
theorem logRead_sqs (k : Ctrl) (lid : Nat) (retain : Bool) : (logRead k lid retain).sqs = k.sqs := by
  unfold logRead
  split
  · rfl
  · split
    · rfl
    · split <;> rfl

theorem logRead_cc (k : Ctrl) (lid : Nat) (retain : Bool) : (logRead k lid retain).cc = k.cc := by
  unfold logRead
  split
  · rfl
  · split
    · rfl
    · split <;> rfl

end Sys2Proof.Machine
end

section
/-! PROOFS. Temperature thresholds as they are read and set (R339). -/
namespace Sys2Proof.Machine

/-- The first entry of a key in a table is what the table holds at the key. -/
theorem find_key_eq_lookup {α : Type} (l : List (Nat × α)) (k : Nat) : (l.find? (fun t => t.1 == k)).map (·.2) = lookup l k := by
  induction l with
  | nil => rfl
  | cons p l ih =>
    obtain ⟨k', v⟩ := p
    by_cases h : k = k'
    · simp [lookup, h]
    · have h' : ¬ k' = k := fun e => h e.symm
      simpa [lookup, h, h'] using ih

/-- A threshold that is listed is what its key holds. -/
theorem thresholdK_of_lookup {c : Ctrl} {sensor type v : Nat} (h : lookup c.tempThresholds (16 * sensor + type) = some v) :
    thresholdK c sensor type = v := by
  rw [← find_key_eq_lookup, Option.map_eq_some_iff] at h
  obtain ⟨e, hfind, rfl⟩ := h
  simp only [thresholdK, hfind]

/-- Several keys set to one value: each of them holds it. -/
theorem lookup_foldl_insert {α : Type} (keys : List Nat) (v : α) (k : Nat) :
    ∀ l : List (Nat × α), (k ∈ keys ∨ lookup l k = some v) → lookup (keys.foldl (fun l k => insert l k v) l) k = some v := by
  induction keys with
  | nil => intro l h; simpa using h
  | cons a keys ih =>
    intro l h
    refine ih _ ?_
    by_cases hka : k = a
    · exact .inr (hka ▸ lookup_insert_eq l k v)
    · rw [lookup_insert_ne _ _ _ _ hka]
      simpa [hka] using h

/-- The keys of the thresholds that Set Features names by a sensor, 15 standing for all, and a type. -/
def thresholdKeys (sensor type : Nat) : List Nat := (if sensor = 15 then [0, 1, 2, 3] else [sensor]).map (fun i => 16 * i + type)

/-- A controller with the thresholds of several keys set to one value. -/
def withThresholds (keys : List Nat) (v : Nat) (c : Ctrl) : Ctrl :=
  { c with tempThresholds := keys.foldl (fun l k => insert l k v) c.tempThresholds }

theorem mem_thresholdKeys {sensor i : Nat} (type : Nat) (hi : i ≤ 3) (h : sensor = i ∨ sensor = 15) :
    16 * i + type ∈ thresholdKeys sensor type := by
  refine List.mem_map_of_mem (f := fun i => 16 * i + type) ?_
  split
  · simp only [List.mem_cons, List.not_mem_nil, or_false]; omega
  · simp only [List.mem_singleton]; omega

/-- Each threshold that is set reads as the value. -/
theorem lookup_withThresholds {keys : List Nat} {k : Nat} (hk : k ∈ keys) (v : Nat) (c : Ctrl) :
    lookup (withThresholds keys v c).tempThresholds k = some v :=
  lookup_foldl_insert keys v k _ (.inl hk)

end Sys2Proof.Machine
end

section
/-! PROOFS. The obligation on admin reports, Abort, events and features, clause by clause. -/
namespace Sys2Proof.Machine

section
variable {s : State} {c : CmdRef} {f : Fetched}

/-! ### Reports -/

/-- Get Log Page answers the page, cut or padded to NUMD dwords, and reading Changed Namespaces clears its list (R317, R324). -/
theorem getLogPage_answers (h : CmdTurn c true 0x02 f s) (hserved : (logPage s c.fn (f.sqe.cdw10 % 256)).isSome = true)
    (hns : f.sqe.cdw10 % 256 = 2 → f.sqe.nsid = 0 ∨ f.sqe.nsid = 0xFFFFFFFF)
    (hprp : prpBad s c.fn f.sqe (4 * (f.sqe.cdw10 / 65536 + f.sqe.cdw11 % 65536 * 65536 + 1)) = false) :
    Gives (.getLogPage c) s (fun t => (∃ g, cmdAt t c = some g ∧ g.done = some cplOk ∧ g.out.map (·.data) =
        [padTo (4 * (f.sqe.cdw10 / 65536 + f.sqe.cdw11 % 65536 * 65536 + 1)) (((logPage s c.fn (f.sqe.cdw10 % 256)).map (·.1)).getD [])]) ∧
      (f.sqe.cdw10 % 256 = 4 → f.sqe.cdw10 / 32768 % 2 = 0 → (ctrlAt t c.fn).changedNs = []) ∧ t.map = s.map ∧ t.media = s.media ∧
      guarded t = guarded s) := by
  obtain ⟨⟨page, s'⟩, hpage⟩ := Option.isSome_iff_exists.1 hserved
  obtain ⟨n, rfl⟩ := logPage_state hpage
  have hnsid : ¬ (decide (f.sqe.cdw10 % 256 = 2) && decide (f.sqe.nsid ≠ 0) && decide (f.sqe.nsid ≠ 0xFFFFFFFF)) = true := by
    simp only [Bool.and_eq_true, decide_eq_true_eq]
    rintro ⟨⟨hlid, hzero⟩, hall⟩
    exact (hns hlid).elim hzero hall
  refine gives_of_turn h rfl ?_
  simp only [hpage, if_neg hnsid, Option.map_some, Option.getD_some]
  let u := modCtrl { s with freeCtr := n } c.fn (fun k => logRead k (f.sqe.cdw10 % 256) (f.sqe.cdw10 / 32768 % 2 == 1))
  have hcmd : cmdAt u c = some f :=
    cmdAt_modCtrl_of (s := { s with freeCtr := n }) h.fetched _ _ (fun k => logRead_sqs k _ _)
  have hdata : prpBad u c.fn f.sqe
      (padTo (4 * (f.sqe.cdw10 / 65536 + f.sqe.cdw11 % 65536 * 65536 + 1)) page).length = false := by
    rw [length_padTo, ← hprp]
    exact prpBad_congr (ctrlField_modCtrl Ctrl.cc { s with freeCtr := n } c.fn c.fn _ (fun k => logRead_cc k _ _)) _ _
  obtain ⟨hdone, honly, hfield⟩ := answer_report hcmd hdata
  refine ⟨⟨_, hdone, rfl, rfl⟩, fun hlid hclear => ?_, honly.map, honly.media, honly.guarded⟩
  rw [hfield Ctrl.changedNs (fun _ _ => rfl), ctrlAt_modCtrl_same]
  simp [logRead, hlid, hclear]

/-- Identify answers the data structure of its CNS, or that CNS's error (R316, R318, R345). -/
theorem identify_answers (h : CmdTurn c true 0x06 f s) :
    (∀ b, identifyData s c.fn f.sqe = some (.ok b) → prpBad s c.fn f.sqe b.length = false → Gives (.identifyCommand c) s (fun t =>
      (∃ g, cmdAt t c = some g ∧ g.done = some cplOk ∧ g.out = [{ data := b }]) ∧ OnlyCmds s t)) ∧
    (∀ e, identifyData s c.fn f.sqe = some (.error e) → Gives (.identifyCommand c) s (fun t => CmdEnds c e t ∧ OnlyCmds s t)) ∧
    (identifyData s c.fn f.sqe = none → Gives (.identifyCommand c) s (fun t => CmdEnds c invalidField t ∧ OnlyCmds s t)) := by
  refine ⟨fun b hb hprp => gives_of_turn h rfl ?_, fun e he => gives_of_turn h rfl ?_, fun hnone => gives_of_turn h rfl ?_⟩
  · simp only [hb]
    obtain ⟨hdone, honly, _⟩ := answer_report h.fetched hprp
    exact ⟨⟨_, hdone, rfl, rfl⟩, honly⟩
  · simp only [he]
    exact ⟨cmdEnds_endCmd h.fetched e, onlyCmds_endCmd ..⟩
  · simp only [hnone]
    exact ⟨cmdEnds_endCmd h.fetched _, onlyCmds_endCmd ..⟩

/-! ### Abort (R322, R323) -/

/-- An Abort above the function's limit. -/
theorem abort_aboveLimit (h : CmdRuns c true 0x08 f s) (hlimit : (if c.fn = 0 then 8 else 4) ≤ abortsBefore s c) :
    Gives (.abort c) s (fun t => CmdEnds c (cplCmd 0x03) t ∧ OnlyCmds s t) := by
  refine gives_of_runs h rfl ?_
  simp only [if_pos hlimit]
  exact ⟨cmdEnds_endCmd h.fetched _, onlyCmds_endCmd ..⟩

/-- Another command terminated inside the controller and ended, then the command that did so ended. -/
theorem terminated_then_ended (h : cmdAt s c = some f) {k : CmdRef} {g : Fetched} (hg : cmdAt s k = some g) (hne : k ≠ c)
    (q : Ctrl → Ctrl) (hq : ∀ x, (q x).sqs = x.sqs) : let t := endCmd (endCmd (modCtrl (terminate s k g) c.fn q) k abortRequested) c cplOk
    CmdEnds k abortRequested t ∧ CmdEnds c cplOk t ∧ t.map.core = s.map.core ∧ t.media = s.media ∧ guarded t = guarded s := by
  have hcmd : ∀ r, cmdAt (modCtrl (terminate s k g) c.fn q) r = cmdAt s r := fun r =>
    (cmdAt_modCtrl _ _ q hq r).trans (cmdAt_terminate s k r g)
  obtain ⟨_, hcore, hmedia⟩ := terminate_keeps s k g
  have honly := (onlyCmds_endCmd (modCtrl (terminate s k g) c.fn q) k abortRequested).trans (onlyCmds_endCmd _ c cplOk)
  refine ⟨cmdEnds_endCmd_ne hne (cmdEnds_endCmd ((hcmd k).trans hg) _) _,
    cmdEnds_endCmd ((cmdAt_endCmd_ne _ (Ne.symm hne) _).trans ((hcmd c).trans h)) _, ?_, ?_, ?_⟩
  · rw [honly.map, modCtrl_map, hcore]
  · rw [honly.media, modCtrl_media, hmedia]
  · rw [honly.guarded, modCtrl_guarded, terminate_guarded]

/-- An Abort of another command of the function that is not too late ends that command. -/
theorem abort_ends (h : CmdRuns c true 0x08 f s) (hlimit : abortsBefore s c < (if c.fn = 0 then 8 else 4)) {k : CmdRef}
    (hk : k = { fn := c.fn, sq := f.sqe.cdw10 % 65536, cid := f.sqe.cdw10 / 65536 }) (g : Fetched) (hg : cmdAt s k = some g)
    (hlate : tooLate s k g = false) (hne : k ≠ c) : Gives (.abort c) s (fun t =>
      CmdEnds k abortRequested t ∧ CmdEnds c cplOk t ∧ t.map.core = s.map.core ∧ t.media = s.media ∧ guarded t = guarded s) := by
  refine gives_of_runs h rfl ?_
  simp only [if_neg (Nat.not_le.2 hlimit), ← hk, hg, hlate, Bool.false_eq_true, if_false]
  exact terminated_then_ended h.fetched hg hne _ (fun x => by split <;> rfl)

/-- An Abort of an unknown command, or of one that it comes too late for, completes and changes nothing. -/
theorem abort_tooLate (h : CmdRuns c true 0x08 f s) (hlimit : abortsBefore s c < (if c.fn = 0 then 8 else 4)) {k : CmdRef}
    (hk : k = { fn := c.fn, sq := f.sqe.cdw10 % 65536, cid := f.sqe.cdw10 / 65536 })
    (hlate : ∀ g, cmdAt s k = some g → tooLate s k g = true) :
    Gives (.abort c) s (fun t => CmdEnds c { cplOk with dw0 := 1 } t ∧ OnlyCmds s t) := by
  refine gives_of_runs h rfl ?_
  simp only [if_neg (Nat.not_le.2 hlimit), ← hk]
  split
  · exact ⟨cmdEnds_endCmd h.fetched _, onlyCmds_endCmd ..⟩
  · rename_i g hg
    rw [if_pos (hlate g hg)]
    exact ⟨cmdEnds_endCmd h.fetched _, onlyCmds_endCmd ..⟩

/-! ### Asynchronous Event Request (R316, R318) -/

/-- A request waits while every pending event is masked. -/
theorem asyncEventRequest_waits (h : CmdRuns c true 0x0C f s) (hnew : c.cid ∉ (ctrlAt s c.fn).aers)
    (hlimit : (ctrlAt s c.fn).aers.length < (if c.fn = 0 then 16 else 4))
    (hmasked : ∀ e ∈ (ctrlAt s c.fn).events, e.1 ∈ (ctrlAt s c.fn).maskedEvents) : Gives (.asynchronousEventRequest c) s (fun t =>
      (ctrlAt t c.fn).aers = (ctrlAt s c.fn).aers ++ [c.cid] ∧ cmdAt t c = some f ∧ OnlyCmds s t) := by
  have hnone : (ctrlAt s c.fn).events.find? (fun e => !(ctrlAt s c.fn).maskedEvents.contains e.1) = none :=
    List.find?_eq_none.2 (fun e he => by simpa using hmasked e he)
  have hunlisted : (ctrlAt s c.fn).aers.contains c.cid = false :=
    Bool.eq_false_iff.2 (fun e => hnew (List.contains_iff_mem.1 e))
  refine gives_of_runs h rfl ?_
  simp only [hunlisted, if_neg (Nat.not_le.2 hlimit), hnone, Bool.false_eq_true, if_false]
  exact ⟨by rw [ctrlAt_modCtrl_same], cmdAt_modCtrl_of h.fetched _ _ (fun _ => rfl), onlyCmds_modCtrl ..⟩

/-- A request takes the first event where that is not masked, and masks its type. -/
theorem asyncEventRequest_takes (h : CmdRuns c true 0x0C f s) (hnew : c.cid ∉ (ctrlAt s c.fn).aers)
    (hlimit : (ctrlAt s c.fn).aers.length < (if c.fn = 0 then 16 else 4)) (ty info log : Nat) (rest : List (Nat × Nat × Nat))
    (hevents : (ctrlAt s c.fn).events = (ty, info, log) :: rest) (hopen : ty ∉ (ctrlAt s c.fn).maskedEvents) :
    Gives (.asynchronousEventRequest c) s (fun t =>
      CmdEnds c { cplOk with dw0 := ty + info * 256 + log * 65536 } t ∧ (ctrlAt t c.fn).events = rest ∧
      ty ∈ (ctrlAt t c.fn).maskedEvents ∧ OnlyCmds s t) := by
  have hfirst : (ctrlAt s c.fn).events.find? (fun e => !(ctrlAt s c.fn).maskedEvents.contains e.1) = some (ty, info, log) := by
    rw [hevents]; simp [hopen]
  have hunlisted : (ctrlAt s c.fn).aers.contains c.cid = false :=
    Bool.eq_false_iff.2 (fun e => hnew (List.contains_iff_mem.1 e))
  refine gives_of_runs h rfl ?_
  simp only [hunlisted, if_neg (Nat.not_le.2 hlimit), hfirst, Bool.false_eq_true, if_false]
  obtain ⟨hends, honly, hfield⟩ := endCmd_modCtrl h.fetched (fun k => { k with
    events := dropFirst (fun e => !k.maskedEvents.contains e.1) k.events, maskedEvents := k.maskedEvents ++ [ty] }) (fun _ => rfl)
    { cplOk with dw0 := ty + info * 256 + log * 65536 }
  refine ⟨hends, (hfield Ctrl.events (fun _ _ => rfl)).trans ?_, ?_, honly⟩
  · simp [hevents, dropFirst, hopen]
  · rw [hfield Ctrl.maskedEvents (fun _ _ => rfl)]
    exact List.mem_append_right _ (List.mem_singleton.2 rfl)

/-! ### Set Features and Get Features (R317, R336 to R339) -/

theorem setFeaturesArbitration_stores (h : FeatureTurn c 0x01 f s) : Gives (.setFeaturesArbitration c) s (fun t =>
    CmdEnds c cplOk t ∧ (ctrlAt t c.fn).arbitration = f.sqe.cdw11 ∧ OnlyCmds s t) := by
  obtain ⟨hends, honly, hfield⟩ := takeEffect_modCtrl h.fetched (fun k => { k with arbitration := f.sqe.cdw11 }) (fun _ => rfl) cplOk
  exact gives_of_feature h rfl ⟨hends, hfield Ctrl.arbitration (fun _ _ => rfl), honly⟩

/-- The PF selects the device's power state; a VF may name state 0 alone (R336, R337). -/
theorem setFeaturesPowerManagement_selects (h : FeatureTurn c 0x02 f s) :
    (c.fn = 0 → f.sqe.cdw11 % 32 ≤ 6 → Gives (.setFeaturesPowerManagement c) s (fun t => CmdEnds c cplOk t ∧
      t.nvme.powerSelected = f.sqe.cdw11 % 32 ∧
      t.nvme.powerReturn = (if f.sqe.cdw11 % 32 ≤ 3 then f.sqe.cdw11 % 32 else s.nvme.powerReturn) ∧ t = { s with nvme := t.nvme })) ∧
    (c.fn ≠ 0 → Gives (.setFeaturesPowerManagement c) s (fun t =>
      CmdEnds c (if f.sqe.cdw11 % 32 = 0 then cplOk else invalidField) t ∧ OnlyCmds s t)) := by
  refine ⟨fun hpf hps => gives_of_feature h rfl ?_, fun hvf => gives_of_feature h rfl ?_⟩
  · rw [if_neg (Decidable.not_not.2 hpf), if_neg (Nat.not_lt.2 hps)]
    obtain ⟨hends, hframe, hfield⟩ := takeEffect_nvme h.fetched { s.nvme with
      powerSelected := f.sqe.cdw11 % 32, powerReturn := if f.sqe.cdw11 % 32 ≤ 3 then f.sqe.cdw11 % 32 else s.nvme.powerReturn } rfl cplOk
    exact ⟨hends, hfield NvmeState.powerSelected (fun _ => rfl), hfield NvmeState.powerReturn (fun _ => rfl), hframe⟩
  · rw [if_pos hvf]
    split
    · exact ⟨cmdEnds_takeEffect h.fetched _, onlyCmds_takeEffect ..⟩
    · exact ⟨cmdEnds_endCmd h.fetched _, onlyCmds_endCmd ..⟩

/-- A threshold of one sensor, or of all, is stored (R339); the health it may change is told without touching anything else. -/
theorem setFeaturesTemperatureThreshold_stores (h : FeatureTurn c 0x04 f s) (htype : f.sqe.cdw11 / 2 ^ 20 % 4 ≤ 1)
    (hsensor : f.sqe.cdw11 / 65536 % 16 ≤ 3 ∨ f.sqe.cdw11 / 65536 % 16 = 15) : Gives (.setFeaturesTemperatureThreshold c) s (fun t =>
      CmdEnds c cplOk t ∧ (∀ i, i ≤ 3 → f.sqe.cdw11 / 65536 % 16 = i ∨ f.sqe.cdw11 / 65536 % 16 = 15 →
        thresholdK (ctrlAt t c.fn) i (f.sqe.cdw11 / 2 ^ 20 % 4) = f.sqe.cdw11 % 65536) ∧ t.map = s.map ∧ t.media = s.media ∧ t.cool = s.cool ∧
      guarded t = guarded s) := by
  have hallowed : ¬ ((decide (3 < f.sqe.cdw11 / 65536 % 16) && decide (f.sqe.cdw11 / 65536 % 16 ≠ 15)) ||
      decide (1 < f.sqe.cdw11 / 2 ^ 20 % 4)) = true := by
    simp only [Bool.or_eq_true, Bool.and_eq_true, decide_eq_true_eq]
    rintro (⟨hlarge, hnotAll⟩ | hlarge)
    · exact hsensor.elim (Nat.not_le.2 hlarge) hnotAll
    · exact Nat.not_le.2 hlarge htype
  refine gives_of_feature h rfl ?_
  rw [if_neg hallowed]
  let keys := thresholdKeys (f.sqe.cdw11 / 65536 % 16) (f.sqe.cdw11 / 2 ^ 20 % 4)
  have hcmd := cmdAt_modCtrl_of h.fetched c.fn (withThresholds keys (f.sqe.cdw11 % 65536)) (fun _ => rfl)
  obtain ⟨hends, hthresholds, hrest⟩ := takeEffect_noteHealth hcmd cplOk
  refine ⟨hends, fun i hi hnamed => thresholdK_of_lookup ?_, hrest⟩
  exact (congrArg (lookup · _) (hthresholds.trans (congrArg Ctrl.tempThresholds (ctrlAt_modCtrl_same ..)))).trans
    (lookup_withThresholds (mem_thresholdKeys _ hi hnamed) _ _)

/-- The function's maximum is granted while no I/O queue exists (R324). -/
theorem setFeaturesNumberOfQueues_grants (h : FeatureTurn c 0x07 f s) (hsqs : (ctrlAt s c.fn).sqs.any (fun p => p.1 != 0) = false)
    (hcqs : (ctrlAt s c.fn).cqs.any (fun p => p.1 != 0) = false) : Gives (.setFeaturesNumberOfQueues c) s (fun t =>
      CmdEnds c { cplOk with dw0 := (queuePairs c.fn - 1) + 65536 * (queuePairs c.fn - 1) } t ∧
      (ctrlAt t c.fn).granted = some (queuePairs c.fn - 1, queuePairs c.fn - 1) ∧ OnlyCmds s t) := by
  refine gives_of_feature h rfl ?_
  rw [if_neg (by simp only [hsqs, hcqs, Bool.or_self, Bool.false_eq_true, not_false_eq_true])]
  obtain ⟨hends, honly, hfield⟩ := takeEffect_modCtrl h.fetched (fun k => { k with granted := some (queuePairs c.fn - 1, queuePairs c.fn - 1) })
    (fun _ => rfl) { cplOk with dw0 := (queuePairs c.fn - 1) + 65536 * (queuePairs c.fn - 1) }
  exact ⟨hends, hfield Ctrl.granted (fun _ _ => rfl), honly⟩

theorem setFeaturesInterruptCoalescing_stores (h : FeatureTurn c 0x08 f s) : Gives (.setFeaturesInterruptCoalescing c) s (fun t =>
    CmdEnds c cplOk t ∧ (ctrlAt t c.fn).intCoal = f.sqe.cdw11 % 65536 ∧ OnlyCmds s t) := by
  obtain ⟨hends, honly, hfield⟩ := takeEffect_modCtrl h.fetched (fun k => { k with intCoal := f.sqe.cdw11 % 65536 }) (fun _ => rfl) cplOk
  exact gives_of_feature h rfl ⟨hends, hfield Ctrl.intCoal (fun _ _ => rfl), honly⟩

/-- Coalescing of a vector of the function is disabled or enabled (R317). -/
theorem setFeaturesInterruptVectorConfig_stores (h : FeatureTurn c 0x09 f s) (hv : f.sqe.cdw11 % 65536 < vectorsOf c.fn) :
    Gives (.setFeaturesInterruptVectorConfig c) s (fun t => CmdEnds c cplOk t ∧
      (f.sqe.cdw11 % 65536 ∈ (ctrlAt t c.fn).coalDisabled ↔ f.sqe.cdw11 / 65536 % 2 = 1) ∧ OnlyCmds s t) := by
  refine gives_of_feature h rfl ?_
  rw [if_neg (Nat.not_le.2 hv)]
  let rest := (ctrlAt s c.fn).coalDisabled.filter (· != f.sqe.cdw11 % 65536)
  obtain ⟨hends, honly, hfield⟩ := takeEffect_modCtrl h.fetched (fun k => { k with
    coalDisabled := if f.sqe.cdw11 / 65536 % 2 == 1 then rest ++ [f.sqe.cdw11 % 65536] else rest }) (fun _ => rfl) cplOk
  refine ⟨hends, ?_, honly⟩
  rw [hfield Ctrl.coalDisabled (fun _ _ => rfl)]
  have hrest : f.sqe.cdw11 % 65536 ∉ rest := by simp [rest]
  by_cases hoff : f.sqe.cdw11 / 65536 % 2 = 1
  · simp [hoff]
  · simpa [hoff] using hrest

theorem setFeaturesAsyncEventConfig_stores (h : FeatureTurn c 0x0B f s) : Gives (.setFeaturesAsyncEventConfig c) s (fun t =>
    CmdEnds c cplOk t ∧ (ctrlAt t c.fn).aec = f.sqe.cdw11 ∧ OnlyCmds s t) := by
  obtain ⟨hends, honly, hfield⟩ := takeEffect_modCtrl h.fetched (fun k => { k with aec := f.sqe.cdw11 }) (fun _ => rfl) cplOk
  exact gives_of_feature h rfl ⟨hends, hfield Ctrl.aec (fun _ _ => rfl), honly⟩

/-- A table whose entries name non-operational states or nothing is stored (R338). -/
theorem setFeaturesApst_stores (table : List (Nat × Nat)) (h : FeatureTurn c 0x0C f s)
    (htable : ∀ e ∈ table, e.2 = 0 ∨ (4 ≤ e.1 ∧ e.1 ≤ 6)) : Gives (.setFeaturesApst c table) s (fun t =>
      CmdEnds c cplOk t ∧ t.nvme.apst = table.take 32 ∧ t.nvme.apstEnable = (f.sqe.cdw11 % 2 == 1) ∧ t = { s with nvme := t.nvme }) := by
  have hgood : table.any (fun e => e.2 != 0 && !(4 ≤ e.1 && e.1 ≤ 6)) = false := by
    refine List.any_eq_false.2 (fun e he => ?_)
    rcases htable e he with hzero | hstate
    · simp [hzero]
    · simp [hstate]
  refine gives_of_feature h rfl ?_
  rw [if_neg (by rw [hgood]; exact Bool.false_ne_true)]
  obtain ⟨hends, hframe, hfield⟩ := takeEffect_nvme h.fetched { s.nvme with apstEnable := f.sqe.cdw11 % 2 == 1, apst := table.take 32 } rfl cplOk
  exact ⟨hends, hfield NvmeState.apst (fun _ => rfl), hfield NvmeState.apstEnable (fun _ => rfl), hframe⟩

/-- The calendar is set; a change of at most one second is not recorded (R43, R317). -/
theorem setFeaturesTimestamp_sets (v : BitVec 48) (h : FeatureTurn c 0x0E f s) : Gives (.setFeaturesTimestamp c v) s (fun t =>
    CmdEnds c cplOk t ∧ t.time = { s.time with calendar := v } ∧
    (max s.time.calendar.toNat v.toNat - min s.time.calendar.toNat v.toNat ≤ 1000 → t.alm = s.alm) ∧ t.map = s.map ∧ guarded t = guarded s) := by
  have hcmd : cmdAt (setCalendar s v) c = some f := by
    rw [← h.fetched]; simp [setCalendar, cmdAt, sqAt, ctrlAt]
  have honly := onlyCmds_takeEffect (setCalendar s v) c cplOk
  refine gives_of_feature h rfl ⟨cmdEnds_takeEffect hcmd _, ?_, fun hnear => ?_, ?_, ?_⟩
  · rw [honly.time]; simp [setCalendar]
  · rw [honly.alm]; simp [setCalendar, recordIf, Nat.not_lt.2 hnear]
  · rw [honly.map]; simp [setCalendar]
  · rw [honly.guarded]; simp [setCalendar]

theorem setFeaturesHctm_stores (h : FeatureTurn c 0x10 f s)
    (hallowed : hctmAllowed (f.sqe.cdw11 / 65536 % 65536) (f.sqe.cdw11 % 65536) = true) : Gives (.setFeaturesHctm c) s (fun t =>
      CmdEnds c cplOk t ∧ t.nvme.tmt1 = f.sqe.cdw11 / 65536 % 65536 ∧ t.nvme.tmt2 = f.sqe.cdw11 % 65536 ∧ t = { s with nvme := t.nvme }) := by
  refine gives_of_feature h rfl ?_
  rw [if_pos hallowed]
  obtain ⟨hends, hframe, hfield⟩ := takeEffect_nvme h.fetched { s.nvme with
    tmt1 := f.sqe.cdw11 / 65536 % 65536, tmt2 := f.sqe.cdw11 % 65536 } rfl cplOk
  exact ⟨hends, hfield NvmeState.tmt1 (fun _ => rfl), hfield NvmeState.tmt2 (fun _ => rfl), hframe⟩

/-- Get Features with SEL 0 answers the feature's value, and its data where it has any (R317). -/
theorem getFeatures_answers (dw0 : Nat) (data : Bytes) (h : CmdTurn c true 0x0A f s) (hsel : f.sqe.cdw10 / 256 % 8 = 0)
    (hvalue : featureValue s c.fn f.sqe = some (dw0, data)) : Gives (.getFeatures c) s (fun t =>
      (∃ g, cmdAt t c = some g ∧ g.done = some { cplOk with dw0 := dw0 } ∧ (data ≠ [] → g.out = [{ data := data }])) ∧ OnlyCmds s t) := by
  refine gives_of_turn h rfl ?_
  rw [if_neg (Decidable.not_not.2 hsel)]
  simp only [hvalue]
  cases data with
  | nil =>
    obtain ⟨g, hg, hdone⟩ := cmdEnds_takeEffect h.fetched { cplOk with dw0 := dw0 }
    exact ⟨⟨g, hg, hdone, fun hne => absurd rfl hne⟩, onlyCmds_takeEffect ..⟩
  | cons b data =>
    exact ⟨⟨_, cmdAt_takeEffect_putData h.fetched _ _, rfl, fun _ => rfl⟩, (onlyCmds_putData ..).trans (onlyCmds_takeEffect ..)⟩

end

/-- Settles O37: each row runs its one branch, which changes one field beside the command's own entry in its queue. -/
theorem adminReportsAndFeatures : Obligations.AdminReportsAndFeatures := by
  intro s c f
  exact ⟨getLogPage_answers, identify_answers, abort_aboveLimit,
    fun h hlimit k hk => ⟨abort_ends h hlimit hk, abort_tooLate h hlimit hk⟩,
    fun h hnew hlimit => ⟨asyncEventRequest_waits h hnew hlimit, asyncEventRequest_takes h hnew hlimit⟩,
    setFeaturesArbitration_stores, setFeaturesPowerManagement_selects, setFeaturesTemperatureThreshold_stores,
    setFeaturesNumberOfQueues_grants, setFeaturesInterruptCoalescing_stores, setFeaturesInterruptVectorConfig_stores,
    setFeaturesAsyncEventConfig_stores, setFeaturesApst_stores, setFeaturesTimestamp_sets, setFeaturesHctm_stores, getFeatures_answers⟩

end Sys2Proof.Machine
end
